-- ==== Sys2Proof/Word.lean ====
section
/-!
DEFINITION. The word types of the Y40: bytes, 16-, 32- and 64-bit words and the 2,048-bit core bitmap (R5, R50).
Everything that computes on them and could turn out misread stands in the files under Machine/.
-/
namespace Sys2Proof

/-- One byte of memory or of an image. -/
abbrev Byte := BitVec 8
/-- A 16-bit lane, token register or arrival counter (R93). -/
abbrev Half := BitVec 16
/-- A register word (R486) or a scalar register of a core's sequencer (R78). -/
abbrev Word := BitVec 32
/-- A 64-bit word: a remote operation's operand (R372), a cluster's semaphore, a signature. -/
abbrev Word64 := BitVec 64
/-- A set of logical cores: bit n is core n (R50, section 1). -/
abbrev CoreSet := BitVec 2048

end Sys2Proof
end

