-- ==== Sys2Proof/Fapi.lean ====
section
/-!
DEFINITION. What FAPI messages and fronthaul sections carry, as far as the rules of 07_radio.md and 08_fronthaul.md act on it. The documents
of R217 and R237 fix how bytes give these; Config holds that reading.
-/
namespace Sys2Proof

/-- A PUSCH PDU (R208, R214–R216). -/
structure PuschPdu where
  rnti : Nat
  process : Nat
  newData : Bool
  prb0 : Nat
  prbs : Nat
  layers : Nat
  qm : Nat            -- bits per modulation symbol
  dmrsSymbol : Nat    -- the first DMRS symbol of the allocation
  dmrsMask : Nat      -- bit k: resource element k of a PRB carries DMRS in that symbol
  blocks : Nat        -- code blocks of the transport block
  ncb : Nat           -- positions of a code block's circular buffer
  coded : Nat         -- coded bits received for a code block
  info : Nat          -- bits of a code block, its CRC included
  baseGraph : Nat
  lifting : Nat
  uciBits : Nat       -- UCI bits multiplexed
  uciCoded : Nat
deriving DecidableEq, Repr

/-- A PUCCH PDU. -/
structure PucchPdu where
  format : Nat
  rnti : Nat
  prb0 : Nat
  prbs : Nat
  bits : Nat
  coded : Nat
deriving DecidableEq, Repr

/-- A PRACH occasion: format code of R211 (0–3, then A1, A2, A3, B1, B2, B3, B4, C0, C2) and its PRBs. -/
structure PrachPdu where
  format : Nat
  prb0 : Nat
  prbs : Nat
deriving DecidableEq, Repr

/-- A PDU of a FAPI request. -/
inductive Pdu where
  | ssb (payload : List Byte)                                       -- an SSB PDU with its PBCH payload
  | pdcch (si : Bool) (body : List Byte)                            -- si: addressed to SI-RNTI
  | pdsch (si : Bool) (tb layers qm : Nat) (body : List Byte)       -- with the index of its transport block
  | pusch (p : PuschPdu)
  | pucch (p : PucchPdu)
  | prach (p : PrachPdu)
  | srs (prb0 prbs : Nat) (body : List Byte)
  | other (body : List Byte)                                        -- another PDU that R192 or R193 supports
  | unsupported (id : Nat)                                          -- a PDU of a kind that R192 or R193 does not list
deriving DecidableEq, Repr

/-- A transport block of a TX_Data.request: its PDU index and bytes (R221). -/
structure TxBlock where
  tb : Nat
  bytes : List Byte
deriving DecidableEq, Repr

/-- What a slot transmits: PDUs and transport blocks. -/
structure SlotTx where
  pdus : List Pdu
  blocks : List TxBlock
deriving DecidableEq, Repr

/-- A symbol of a slot of a cell. -/
structure SymbolAt where
  sfn : Nat
  slot : Nat
  symbol : Nat
deriving DecidableEq, Repr

/-- A PRB of a downlink symbol: 24 Q1.15 values, and, before precoding, its modulation by the width of R244 with 24 constellation points. -/
structure DlPrb where
  values : List Int
  width : Nat
  points : List Nat
deriving DecidableEq, Repr, Inhabited

/-- A C-plane section (R237): its type, the section extensions it carries, its bytes, and the beamforming weights that extensions 1 and 11 send. -/
structure CSection where
  kind : Nat
  exts : List Nat
  body : List Byte
  weights : List Int
deriving DecidableEq, Repr

end Sys2Proof
end

