-- ==== Sys2Proof/Syntax.lean ====
section
/-!
DEFINITION. The commands of the Y40 block: one constructor of `Instr` per row of spec/opcode_table.json, in the
table's order, with the operands the rule of that row names. The table gives no operand fields, so the operands
are the ones an event of that kind carries in the spec's words (log entry 1). Times carried by an event are
device time in ns (the count N of R262).
-/
namespace Sys2Proof

/-- A crossing between clock domains (R29–R35): a mesh edge of R10, or the core-to-mesh crossing of a C-die. -/
inductive Crossing where
  | edge (e : Nat)
  | core (die : Nat)
deriving DecidableEq, Repr

/-- The second operand of a scalar instruction. -/
inductive Src where
  | reg (k : Nat)
  | imm (w : Word)
deriving DecidableEq, Repr

/-- The scalar instruction classes R80 lists with λ = 2. -/
inductive ScalarOp where
  | add | sub | and | or | xor | not | shl | shrl | shra | cmpEq | cmpLt | cmpLtu | mov
deriving DecidableEq, Repr

/-- What NORM, EXPX and BEXP act on (R91). -/
inductive NumKind where
  | int16 | int32 | fp32 | fp16 | bf16
deriving DecidableEq, Repr

/-- The two multiplies of R80 and R90. -/
inductive MacOp where
  | mul32      -- 32 × 32-bit multiply
  | q15mul     -- Q1.15 multiply
  | q15mac     -- Q1.15 multiply-accumulate
deriving DecidableEq, Repr

/-- Address-generator post-modify modes (R87). -/
inductive AgMode where
  | linear | circular
deriving DecidableEq, Repr

/-- The register of a sequencer load or store: a scalar register (4 bytes) or a vector register (256 bytes), R88. -/
inductive LsReg where
  | scalar (k : Nat)
  | vector (v : Nat)
deriving DecidableEq, Repr

/-- Who makes a register access (R486–R491). -/
inductive Issuer where
  | core (k : Nat)       -- control core k of the K-die
  | fn (f : Nat)         -- Staido function number of R390: 0–255 tenant, 256 management, 257 radio
  | testPort             -- the IEEE 1149.1 port, as a control core (R512)
deriving DecidableEq, Repr


/-- What a MEM_RD brought back (R389). -/
inductive HostData where
  | data (bytes : List Byte)
  | error
deriving DecidableEq, Repr

/-- The cell and slot that an indication or a decoding stage is for (R222). -/
structure SlotRef where
  cell : Nat
  sfn : Nat
  slot : Nat
deriving DecidableEq, Repr

/-- What a fronthaul frame carries (R237, R240): C-plane of downlink or uplink, downlink U-plane, or an M-plane frame of the host. -/
inductive Plane where
  | cDown
  | cUp
  | uDown
  | mPlane (bytes : List Byte)
deriving DecidableEq, Repr

/-- A fronthaul frame as received (R232–R241). -/
structure RxFrame where
  length : Nat              -- destination address through FCS
  fcsOk : Bool
  fecOk : Bool
  dst : Nat                 -- destination MAC, 48 bits
  srcMac : Nat
  srcIp : Nat
  tagged : Bool             -- an 802.1Q tag is present
  pause : Bool              -- a PAUSE or priority flow-control frame
  udp : Bool
  ipv6 : Bool
  udpPort : Nat
  fragment : Bool
  udpSumOk : Bool
  ptp : Bool                -- EtherType 0x88F7
  mPlane : Bool             -- a frame of the M-plane, which the host terminates (R237)
  content : List Byte       -- the bytes of an M-plane frame
  msgType : Nat             -- eCPRI message type
  concat : Bool             -- bit C of the common header
  eBit : Bool               -- bit E of SEQ_ID
  seqId : Nat
  eaxc : Nat                -- PC_ID
  frameId : Nat             -- SFN modulo 256, slot in the frame and symbol that the section carries
  slot : Nat
  symbol : Nat
  startPrb : Nat            -- first PRB of the section
  arrival : Nat             -- device time at which the last byte arrived, ns
  prbs : List (List Byte)   -- the compressed PRBs of the section
deriving DecidableEq, Repr

/-- A PTP message's fields the time unit uses (R267–R272). -/
structure PtpMsg where
  domain : Nat              -- domainNumber
  source : Nat              -- sourcePortIdentity
  requesting : Nat          -- requestingPortIdentity of a Delay_Resp
  seqId : Nat
  origin : Int              -- origin or receive timestamp, 2⁻¹⁶ ns
  correction : Int          -- correctionField, 2⁻¹⁶ ns
  twoStep : Bool
deriving DecidableEq, Repr

/-- An Announce message (R267, R268, R277). -/
structure AnnounceMsg where
  domain : Nat              -- domainNumber
  gmId : Nat
  source : Nat              -- parent port identity
  clockClass : Nat
  accuracy : Nat
  variance : Nat
  priority2 : Nat
  localPriority : Nat
  stepsRemoved : Nat
  utcOffset : Nat
deriving DecidableEq, Repr

/-- What an access to a GDDR7 line or a stretch of one does (R331, R332). -/
inductive LineOp where
  | read
  | writeLine (bytes : List Byte)
  | writePart (offset : Nat) (bytes : List Byte)
deriving DecidableEq, Repr

/-- The error a line's read meets in one copy: symbols in error (R330), and failures of the link CRC in a row (R333). -/
structure LineErr where
  symbols : Nat
  crcFails : Nat
  odeccCe : Nat             -- on-die ECC corrections the device reports
  odeccUe : Nat
deriving DecidableEq, Repr

/-- The packet header of R357. -/
structure PktHeader where
  target : Nat              -- 64-bit global address
  src : Nat                 -- source device id
  tag : Nat
  op : Nat
  len : Nat                 -- units of 4 bytes
  stale : Bool
  last : Bool
  err : Bool
  errKind : Nat
deriving DecidableEq, Repr

/-- A flit: tag fields of R357 and body. -/
structure Flit where
  seq : Nat
  ack : Nat
  vc : Nat
  nak : Bool
  pool : Bool               -- false: the VC's reserve, true: the share's quota
  kind : Nat
  share : Nat
  retShare : Nat
  retCount : Nat
  retVc : Byte
  header : PktHeader
  body : List Byte
deriving DecidableEq, Repr

/-- A remote request as it reaches its target (R372, R373). -/
structure RemoteReq where
  src : Nat                 -- source device id
  share : Nat               -- cocoon number at the source
  tag : Nat
  op : Nat                  -- OP of R372
  addr : Nat                -- device-local address
  size : Nat
  data : List Byte          -- store data, or the atomic operand
  compare : List Byte       -- CAS compare value
deriving DecidableEq, Repr

/-- A response at its issuer (R374, R380). -/
structure RemoteResp where
  data : List Byte
  stale : Bool
  err : Option Nat          -- error KIND of R380
deriving DecidableEq, Repr

/-- The tag of a stride signature (R431). -/
structure SigTag where
  inv : Nat
  entry : Nat
  pass : Nat
  rank : Nat
deriving DecidableEq, Repr

/-- A stride signature as exchanged (R432). -/
structure SigRec where
  tag : SigTag
  core : Nat
  sig : Word64
  beat : Nat                -- beat of the stride's start on the sender
deriving DecidableEq, Repr

/-- A signed manager record (R421). -/
structure VoteRec where
  target : Nat
  verdict : Nat
  manager : Nat
  seq : Nat
  notAfter : Nat
  sig : List Byte
deriving DecidableEq, Repr

/-- A defect as the start test or a retest finds it (R450), or as a fuse entry records it (R452): a repair of an array row or column stands for the
faulty cells it covers. -/
inductive Defect where
  | position (die pos : Nat)
  | arrayCell (die pos row col : Nat)
  | arrayRow (die pos line spare : Nat)
  | arrayCol (die pos line spare : Nat)
  | cluster (die cluster : Nat)
  | engine (cls index : Nat)
  | optical (index : Nat)
deriving DecidableEq, Repr

/-- What instar 2 finds beside the start test's defects (R441). -/
inductive BringUp where
  | ok
  | edgeFailed
  | clockUnlocked
  | kdieFailed
deriving DecidableEq, Repr

/-- What the training of instar 3 finds: channels that fail and the devices seen (R441, R345, R350). -/
structure MemTraining where
  failed : List Nat
  clamshell : Bool
  density : Bool
deriving DecidableEq, Repr

/-- A reading of one rail (R465). -/
structure RailReading where
  mv : Nat
  decW : Nat                -- 0.1 W units
  faulted : Bool            -- the regulator reports a fault
deriving DecidableEq, Repr

/-- What a test-port access does (R481, R510). -/
inductive TestAccess where
  | readRing (die : Nat)
  | readFuse (index : Nat)
  | readPage (page off : Nat)
  | writePage (page off : Nat) (w : Word)
  | readLine (addr : Nat)
  | readKeySlot (slot : Nat)
  | requestFatal
deriving DecidableEq, Repr

/-- Frequency sources that can be lost (R278). -/
inductive FreqSource where
  | syncE | ref10
deriving DecidableEq, Repr

/-- The commands of the Y40 block. -/
inductive Instr where
  -- The package and its clocks
  | referenceLoss
  | referenceReturn
  | clockUnlock (die : Nat)
  | meshEdgeDown (edge : Nat)
  /-- The side of crossing `x` on die `die` declares it down. -/
  | cdcTimeout (x : Crossing) (die : Nat)
  | crossingResync (x : Crossing)
  | neighbourTemperatureCheck
  | operatingPointChangeDone (die : Nat)
  -- The wingbeat
  | beatBoundary
  | timeStepApply
  | tableCheckDone
  | cancel
  /-- Window entry `win` of the table in force opens on `core`. -/
  | windowStart (win core : Nat)
  | windowEnd (win core : Nat)
  /-- Work entry `work` of the table in force reaches its START_NS. -/
  | workEntryStart (work : Nat)
  | restoreGroupDone (cocoon slot group : Nat)
  /-- The next stride of run `run` starts at device time `now`. -/
  | strideStart (run now : Nat)
  | strideEnd (run now : Nat)
  | runawayStride (core now : Nat)
  | radioCapacityRecheck
  | tableParityError
  | chrysalisSaveStart (core : Nat)
  | chrysalisSaveDone (core : Nat)
  | drainTimeout (core : Nat)
  -- The sequencer of a compute core
  | branch (core : Nat) (taken : Bool) (target : Nat)
  | call (core target : Nat)
  | ret (core : Nat)
  | repeatBody (core body : Nat) (count : Src)
  | yield (core : Nat)
  | endRoutine (core : Nat)
  | rets (core : Nat)
  | rshr (core rd rs : Nat) (n : Src)
  | narrow (core rd lo : Nat) (hi : Option Nat) (n : Nat) (wide : Bool)
  | norm (core rd rc rs : Nat) (kind : NumKind)
  | expx (core rd rs : Nat) (kind : NumKind)
  | bexp (core vd vs group : Nat)
  | rng (core vd ci layer d : Nat) (hi : Bool)
  | sample (core rd addr k ci j : Nat)
  | scratchpadLoad (core : Nat) (rd : LsReg) (ag : Nat) (mode : AgMode)
  | scratchpadStore (core : Nat) (rs : LsReg) (ag : Nat) (mode : AgMode)
  | scalarOperation (core : Nat) (op : ScalarOp) (rd ra : Nat) (b : Src)
  | multiplyAccumulate (core : Nat) (op : MacOp) (rd ra rb : Nat)
  | signalTake (core : Nat)
  -- Firing
  | arrayProduct (core slot : Nat)
  | vectorOperation (core slot : Nat)
  | copyFire (core slot : Nat)
  | sequencerRoutine (core slot : Nat)
  | remoteLoad (core slot : Nat)
  | remoteStore (core slot : Nat)
  | atomicAdd (core slot : Nat)
  | atomicSwap (core slot : Nat)
  | atomicCas (core slot : Nat)
  | atomicMin (core slot : Nat)
  | atomicMax (core slot : Nat)
  | arrayOccupancyEnd (core : Nat)
  | feederRefill (core row : Nat)
  | epilogueStart (core : Nat)
  /-- The operation running on `unit` (1 array, 2 vector, 4 routine) completes. -/
  | operationComplete (core unit : Nat)
  /-- The oldest post under way from `src` to `core` arrives. -/
  | postArrival (src core : Nat)
  | copySourceRelease (core id : Nat)
  | copyLanding (core id : Nat)
  -- Commands of a function's queues
  | sqEntryRead (fn queue : Nat) (entry : HostData)
  | invoke (fn queue : Nat)
  | loadProgram (fn queue : Nat)
  | unloadProgram (fn queue : Nat)
  | unloadProgramComplete (cocoon handle : Nat)
  | slotSet (fn queue : Nat)
  | contextOpen (fn queue : Nat)
  | contextClose (fn queue : Nat)
  | contextCloseComplete (cocoon ctx : Nat)
  | copy (fn queue : Nat)
  | barrier (fn queue : Nat)
  | coreReset (fn queue : Nat)
  | attest (fn queue : Nat)
  | imageStagingDone (run : Nat)
  | launch (run now : Nat)
  -- The radio
  | dlTtiRequest
  | ulTtiRequest
  | ulDciRequest
  | txDataRequest
  | dlConfigRequest
  | ulConfigRequest
  | hiDci0Request
  | txRequest
  | rxDataIndication (i : SlotRef)
  | crcIndication (i : SlotRef)
  | uciIndication (i : SlotRef)
  | srsIndication (i : SlotRef)
  | rachIndication (i : SlotRef)
  | rxUlschIndication (i : SlotRef)
  | harqIndication (i : SlotRef)
  | rxSrIndication (i : SlotRef)
  | rxCqiIndication (i : SlotRef)
  /-- An LDPC decoder works on code block `block` of the PUSCH that the slot's request gives `rnti`. -/
  | ldpcDecode (decoder : Nat) (i : SlotRef) (rnti block : Nat)
  | prachDetection (i : SlotRef)
  | cellConfigCheckDone
  | radioFallback (cell : Nat)
  | fallbackExpiry
  | engineSelfCheckFail (cls index : Nat)
  -- The fronthaul
  | interfaceLinkDown (i : Nat)
  | interfaceLinkUp (i : Nat)
  /-- The frames of symbol `symbol` of the slot of a cell that starts at `start` (ns) reach their first instant. -/
  | frameEligible (cell stream : Nat) (plane : Plane) (start symbol : Nat)
  | frameStartLimit (i id : Nat)
  /-- `raw`: the raw capture of device time at the timestamp point of the frame, in 2⁻¹⁶ ns (R265). -/
  | frameTransmit (i raw : Nat)
  | frameReceive (i : Nat) (f : RxFrame)
  | ecpriDelayRequest (i : Nat) (id t1 correction : Nat)
  -- Time
  | sync (i raw : Nat) (m : PtpMsg)
  | followUp (i : Nat) (m : PtpMsg)
  | delayReq (i raw : Nat) (m : PtpMsg)
  | delayResp (i : Nat) (m : PtpMsg)
  | announce (i : Nat) (m : AnnounceMsg)
  | announceTimeout
  | syncTransmit (i : Nat)
  | delayReqTransmit
  | announceTransmit (i : Nat)
  | compareArm (u : Nat)
  | compareFire (u : Nat)
  | rearm
  | ppsInEdge
  | ppsInMissing
  | ppsOutPulse
  | frequencySourceLost (src : FreqSource)
  | frequencySourceRestored (src : FreqSource)
  | esmcReceive (ql : Nat)
  | esmcInformationPdu (i : Nat)
  | esmcEventPdu (i : Nat)
  | nowFracRead (who : Issuer)
  | latchRead (who : Issuer) (page off : Nat)
  | latchedHighRead (who : Issuer) (page off : Nat)
  | lfcLoRead (who : Issuer)
  | lfcHiRead (who : Issuer)
  | lfcOffsetWrite (who : Issuer) (w : Word)
  -- Cocoons
  | cocoonDestroyFillDone (cocoon : Nat)
  | keyLoad (cocoon : Nat)
  | keyErase (cocoon : Nat)
  | keySlotChange (cocoon : Nat) (cfg : Word)
  | bind (cocoon fn : Nat)
  | unbind (cocoon fn : Nat)
  | unfence (cocoon : Nat)
  | wayClearDone (cluster way : Nat)
  | tdmSlotBoundary (slot : Nat)
  | dirtyCfgWrite (fn : Nat) (en : Bool)
  | dirtyLogConfigWrite (fn off : Nat) (w : Word)
  | dirtyLogDrained (fn : Nat)
  -- GDDR7
  | gddr7Access (cocoon addr : Nat) (op : LineOp) (errA errB : LineErr)
  | gddr7Refresh (channel bank : Nat)
  | retrainDue (channel : Nat) (temp : Int) (retries : Nat)
  | retrainStep (channel : Nat) (ok : Bool)
  | retrainStarved (channel : Nat)
  | patrolScrub (channel group : Nat) (errs : List LineErr) (written : Bool)
  | retrainNow (channel : Nat)
  | retrainNowDone (channel : Nat) (ok : Bool)
  -- Silk links
  | wavelengthFail (link : Nat) (rx : Bool) (lambda : Nat)
  | spareSwitchDone (link : Nat) (rx : Bool)
  | opticalEngineFail (link : Nat)
  | spareFibreSwitchDone (link : Nat)
  | linkTrainingDone (link : Nat) (ok : Bool) (neighbour farLink rtt : Nat)
  | linkDown (link : Nat)
  | flitReceive (link : Nat) (fecOk crcOk : Bool) (f : Flit)
  | flitTransmit (link : Nat) (service share : Nat)
  | remoteRequestArrival (r : RemoteReq)
  | getRequest (src share tag addr len segment dst : Nat)
  | remoteResponseArrival (core tag : Nat) (r : RemoteResp)
  | deadTargetTimeout (core tag : Nat)
  | segmentSet
  | segmentClear
  -- Staido
  | halfDown (half : Nat)
  | halfRejoin (half : Nat)
  | staidoFlitReceive (lane : Nat) (fecOk crcOk : Bool) (seq ack : Nat) (nak : Bool)
  | sqTailDoorbell (fn off size tail : Nat)
  | cqHeadDoorbell (fn off size head : Nat)
  | regRd (who : Issuer) (page off : Nat)
  | regWr (who : Issuer) (page off : Nat) (w : Word)
  | memRdCompletion (fn tag : Nat) (d : HostData)
  | svMaskWrite (fn i : Nat) (w : Word)
  | coalesceTimeout (fn ring : Nat)
  | inval (fn : Nat)
  | invalDone (fn : Nat)
  | functionClear (who : Issuer) (fn : Nat)
  | sqEnable (fn queue : Nat) (w : Word)
  | sqDisable (fn queue : Nat) (w : Word)
  | cqEnable (fn ring : Nat) (w : Word)
  | cqDisable (fn ring : Nat) (w : Word)
  | detach
  | detachTimeout
  | noLockTimeout
  | presentDeassert
  | removalErrorTimeout
  | attach
  -- The pod
  | heartbeatTransmit (link : Nat)
  | heartbeat (link from_ self seq beat state : Nat)
  | heartbeatMissing (n : Nat)
  | voteSend (x : Nat)
  | voteReceive (voter x : Nat) (yes : Bool)
  | voteRedirect (x : Nat)
  | expel (x : Nat) (voters : List Nat)
  | hold (x : Nat)
  | readmitMessage (x : Nat)
  | budgetRelease
  | vote
  | voteRecordsFlood (records : List VoteRec)
  | readmit
  | quarantine (fn device : Nat)
  | quarantineClear (fn device : Nat)
  | resume (fn : Nat)
  | ckptStart (fn : Nat)
  | ckptDone (fn : Nat)
  | rollback (fn : Nat)
  | signatureReceive (pair : Nat) (sigs : List SigRec)
  | signatureTimeout (pair : Nat) (tag : SigTag)
  -- Start-up and reset
  | coldReset
  | railPowerOn (inOrder : Bool)
  | bootLanesTrained
  | bundleLoad
  | bundleVerification
  | dieBringUpDone (result : BringUp) (found : List Defect)
  | memoryTrainingDone (t : MemTraining)
  | emerge
  | retest
  /-- The retest ends: `pass` tells whether all units but the array passed, `cells` the faulty cells of the array by row and column. -/
  | retestDone (pass : Bool) (cells : List (Nat × Nat))
  | resetActionCore
  | resetActionCluster
  | resetActionCocoon
  | resetActionDevice
  | resetDone
  -- Power
  | railSample (readings : List RailReading)
  | laserSample (dbm : List Int)
  | packageLimitCheck
  | temperatureSample (temps : List Int)
  | thermalLevelCheck
  | blackBoxFlush
  | snapshot
  | snapshotDone
  -- Register pages
  | enable (page : Nat)
  | disable (page : Nat)
  | commit (page : Nat)
  | blockReset (page : Nat)
  | errWrite (page : Nat) (w : Word)
  | testPortAccess (a : TestAccess)
  | handoverEnd (core : Nat)
  | launchDone (run : Nat)
  | cocoonClearDone (cocoon : Nat)
  | railPowerOff
deriving DecidableEq, Repr

end Sys2Proof
end

