-- ==== Sys2Proof/Config.lean ====
section
/-!
DEFINITION. What the spec leaves open and what an implementation fixes: opaque constants, none with a body, so that a
claim about one holds for every value. Each is applied to the counter `State.draws` (a fresh value at each use) or to the
operands it depends on. The assumption log names each of them.
-/
namespace Sys2Proof.Config

/-- The value of a register field whose Reset column reads "—" until its first write (R513): by use and field. -/
opaque unspecified (draw key : Nat) : Nat
/-- A byte of a stretch of memory whose content is undefined (R457, R345): by stretch and address. -/
opaque undefinedByte (stretch addr : Nat) : Byte
/-- A value the spec does not state, fresh at each draw. -/
opaque freeNat (draw : Nat) : Nat
/-- As `freeNat`, signed. -/
opaque freeInt (draw : Nat) : Int
/-- A choice the spec does not state, fresh at each draw. -/
opaque freeBool (draw : Nat) : Bool
/-- The 8-byte entry a walk read of host memory returns, or nothing where the read errs (R400, R401). -/
opaque hostQword (draw addr : Nat) : Option Word64
/-- SHA-384 (R444, R447): 48 bytes. -/
opaque sha384 (m : List Byte) : BitVec 384
/-- Ed25519 verification of RFC 8032 (R444, R420): key, message, signature. -/
opaque ed25519Verify (key m sig : List Byte) : Bool
/-- ML-DSA-65 verification of FIPS 204 with an empty context (R444). -/
opaque mldsaVerify (key m sig : List Byte) : Bool
/-- The device's Ed25519 identity signature (R448, R449): secret, message; 64 bytes. -/
opaque ed25519Sign (secret m : List Byte) : BitVec 512
/-- The device's ML-DSA-65 identity signature (R448, R449): secret, message; 3,309 bytes. -/
opaque mldsaSign (secret m : List Byte) : BitVec 26472
/-- The ciphertext byte that AES-256-XTS puts at an address under a key pair (R337): key, address, plaintext byte. -/
opaque xtsByte (key : List Word) (addr : Nat) (b : Byte) : Byte
/-- The outcome of the check of a cell's P5 TLV block against its entry (R199): 0, 0x0172 or 0x0270, as the FAPI documents fix it. -/
opaque p5Reason (entry block : List Byte) : Nat
/-- A value that the training of a start takes from the bundle's configuration (R443): by field. -/
opaque bundleValue (bundle : List Byte) (key : Nat) : Nat
/-- OVERHEAD of a silk link, −32 to 255 (R246, R371): no register gives it. -/
opaque silkOverhead : Int
/-- Entries that the queue of a crossing holds for one class of sub-lanes beyond the first (R29). -/
opaque crossDepth : Nat
/-- The nominal VDDQ of JESD239 in mV (R464). -/
opaque vddqMv : Nat
/-- The bytes of an aligned 16-byte record beside those that a remote write names (R431): by global address. -/
opaque signPad (addr : Nat) : Byte

/-! ### What the documents of R192, R193, R199, R217 and R237 fix -/

/-- The PDUs of a request body (R217): LTE, message id, body. -/
opaque fapiPdus (lte : Bool) (id : Nat) (body : List Byte) : List Pdu
/-- The transport blocks of a TX request's body. -/
opaque fapiBlocks (lte : Bool) (body : List Byte) : List TxBlock
/-- The length of the body of an indication, which bits 30..0 of its entry hold (R218), and its bytes: message id, cell, the values it reports and the
decoded bytes it carries. -/
opaque fapiLen (id cell : Nat) (values : List Int) (data : List Byte) : Fin (2 ^ 31)
opaque fapiByte (id cell : Nat) (values : List Int) (data : List Byte) (k : Nat) : Byte
def fapiBody (id cell : Nat) (values : List Int) (data : List Byte) : List Byte :=
  (List.range (fapiLen id cell values data).val).map (fapiByte id cell values data)
/-- A PRB of a downlink symbol of a stream, as the channels of R192 and R193 build it from cell entry, P5 block and the slot's content. -/
opaque dlPrb (entry p5 : List Byte) (tx : SlotTx) (at_ : SymbolAt) (stream prb : Nat) : DlPrb
/-- The C-plane sections of a symbol of a stream, downlink or uplink. -/
opaque cSections (entry p5 : List Byte) (up : Bool) (pdus : List Pdu) (at_ : SymbolAt) (stream : Nat) : List CSection
/-- The PRACH occasion that an LTE cell's P5 block places in a subframe. -/
opaque lteOccasion (entry p5 : List Byte) (sfn slot : Nat) : Option PrachPdu

/-! ### What the radio programs and engines compute from received samples -/

/-- The probabilities that the coded bit `n` of code block `block` of a PUSCH is 0 and 1, in proportion, from the received samples equalised
with regularisation 2^`reg` relative to the noise floor (R203, R216). -/
opaque bitProb (samples : List (List Int)) (p : PuschPdu) (reg : Int) (block n : Nat) : Nat × Nat
/-- Those of the coded UCI bit `n` of a PUSCH, and of a PUCCH of format 2, 3 or 4. -/
opaque uciProb (samples : List (List Int)) (p : PuschPdu) (n : Nat) : Nat × Nat
opaque pucchProb (samples : List (List Int)) (p : PucchPdu) (n : Nat) : Nat × Nat
/-- The sequence detection of PUCCH formats 0 and 1 (R203). -/
opaque pucchDetect (samples : List (List Int)) (p : PucchPdu) : List Bool
/-- Post-equalisation signal energy per resource element of an allocation, in Q1.15 units squared (R216). -/
opaque eqEnergy (samples : List (List Int)) (prb0 prbs : Nat) : Nat × Nat
/-- The mean DMRS residual after channel estimation of a PRB group (R215), in the same unit. -/
opaque dmrsResidual (samples : List (List Int)) (group : Nat) : Nat × Nat
/-- Where coded bit `n` of a code block lies in its circular buffer: rate recovery of TS 38.212 and TS 36.212. -/
opaque ratePos (p : PuschPdu) (lte : Bool) (block n : Nat) : Nat
/-- The layers of a base graph at a lifting size: the bit positions of each parity check (TS 38.212). -/
opaque ldpcLayers (baseGraph lifting : Nat) : List (List Nat)
/-- The check node of the layered schedule: new messages from those that enter it (R204 names the schedule only). -/
opaque checkNode (l : List Int) : List Int
/-- The interleaver of the LTE turbo code (TS 36.212): where bit `n` of a block of `k` bits comes from. -/
opaque turboPos (k n : Nat) : Nat
/-- The positions of the information bits and CRC of a polar code of length `n` for `k` bits, and where coded bit `i` of `e` lies (TS 38.212). -/
opaque polarInfo (n k : Nat) : List Nat
opaque polarPos (n e i : Nat) : Nat
/-- Bit `i` of basis sequence `k` of the (32, K) Reed–Muller code (TS 38.212), and of the codes of 1 and 2 bits. -/
opaque basisBit (i k : Nat) : Bool
opaque smallBit (bits i k : Nat) : Bool
/-- Sample `n` of repetition `r` of a PRACH occasion, and sample `n` of preamble `index` of a cell (R211). -/
opaque prachSample (samples : List (List Int)) (p : PrachPdu) (r n : Nat) : Int × Int
opaque prachSeq (entry p5 : List Byte) (p : PrachPdu) (index n : Nat) : Int × Int
/-- A preamble's zero-correlation window: its first delay, its length, both in samples; and T_c per sample, and samples of a sequence. -/
opaque prachWindow (entry p5 : List Byte) (p : PrachPdu) (index : Nat) : Nat × Nat
opaque prachUnit (entry : List Byte) (p : PrachPdu) : Nat
opaque prachLen (p : PrachPdu) : Nat
/-- The SRS report of an allocation (R203). -/
opaque srsReport (samples : List (List Int)) (body : List Byte) : List Int

end Sys2Proof.Config
end

