-- ==== Sys2Proof/Machine/Assoc.lean ====
section
/-!
DEFINITION. Association lists keyed by natural numbers, in rising order of key: the plain data behind the register
file, memory and every sparse table of the state.
-/
namespace Sys2Proof.Machine

/-- A finite map from Nat, as a list in rising order of key. -/
abbrev Assoc (α : Type) := List (Nat × α)

/-- The value listed at `k`. -/
def Assoc.find {α : Type} (k : Nat) : Assoc α → Option α
  | [] => none
  | (k', v) :: r => if k' = k then some v else Assoc.find k r

/-- List `v` at `k`, in place of what was listed there. -/
def Assoc.put {α : Type} (k : Nat) (v : α) : Assoc α → Assoc α
  | [] => [(k, v)]
  | (k', v') :: r =>
    if k' = k then (k, v) :: r
    else if k < k' then (k, v) :: (k', v') :: r
    else (k', v') :: Assoc.put k v r

/-- List nothing at `k`. -/
def Assoc.del {α : Type} (k : Nat) (m : Assoc α) : Assoc α :=
  m.filter fun e => !Nat.beq e.1 k

/-- The value listed at `k`, or `d`. -/
def Assoc.findD {α : Type} (k : Nat) (d : α) (m : Assoc α) : α :=
  match Assoc.find k m with
  | some v => v
  | none => d

/-- Change what is listed at `k` (with `d` where nothing is) by `f`. -/
def Assoc.upd {α : Type} (k : Nat) (d : α) (f : α → α) (m : Assoc α) : Assoc α :=
  Assoc.put k (f (Assoc.findD k d m)) m

/-- The keys listed. -/
def Assoc.keys {α : Type} (m : Assoc α) : List Nat := m.map fun e => e.1

/-- Insert after every element that may stand before. -/
def insertBy {α : Type} (le : α → α → Bool) (x : α) : List α → List α
  | [] => [x]
  | y :: r => if le y x then y :: insertBy le x r else x :: y :: r

/-- Sort, equals staying in order. -/
def sortBy {α : Type} (le : α → α → Bool) (l : List α) : List α := l.foldl (fun acc x => insertBy le x acc) []

end Sys2Proof.Machine
end

