-- ==== Sys2Proof/Machine/State.lean ====
section
/-!
DEFINITION. The state of the Y40 as plain data: the register pages, the one device-local memory, and for every unit of
the part the state its chapter gives it beside its registers. Each structure names the rules that give its fields; a field
marked "model's own" holds nothing the part has and is named in the assumption log.
-/
namespace Sys2Proof.Machine

/-! ### What leaves the part -/

/-- A transaction from the Y40 to the host (R389). -/
inductive HostTxn where
  | memRd (tag addr len : Nat)
  | memWr (addr : Nat) (bytes : List Byte)
  | atomicOr (addr : Nat) (v : Word64)
  | signal (vec : Nat)
deriving DecidableEq, Repr

/-- A PTP message as it leaves an interface (R267–R270): its destination address, domain and source port identity, and what it carries. -/
inductive PtpBody where
  | sync (seq : Nat) (origin correction : Int) (twoStep : Bool)
  | followUp (seq : Nat) (origin correction : Int)
  | announce (m : AnnounceMsg)
  | delayReq (seq : Nat) (correction : Int)
  | delayResp (seq : Nat) (receive correction : Int) (requesting : Nat)
deriving DecidableEq, Repr

structure PtpOut where
  iface : Nat
  dst : Nat
  domain : Nat
  source : Nat
  body : PtpBody
deriving DecidableEq, Repr

/-- What a frame queued on a leaf carries: the bytes of a fronthaul frame without its FCS; a PTP message complete but for its leaving; or one
that is completed as it leaves (R265, R270): an own Sync or Delay_Req, a relayed Sync or Delay_Req with the residence count of its ingress. -/
inductive TxBody where
  | bytes (b : List Byte)
  | ptp (m : PtpOut)
  | ownSync (seq : Nat)
  | ownDelayReq (seq : Nat)
  | relay (isSync : Bool) (ingress : Int) (m : PtpMsg)
deriving DecidableEq, Repr

/-- A frame on an interface's leaves (R240, R245): its number (model's own), subscriber and service (0 S, 1 C, 2 U, 3 M), its length from
destination address through FCS, and the device time by which it must start, if it has a window. -/
structure TxFrame where
  id : Nat
  sub : Nat
  service : Nat
  length : Nat
  limit : Option Nat
  body : TxBody
deriving DecidableEq, Repr

/-- A pod message (R414, R418–R422). -/
inductive PodMsg where
  | heartbeat (link self seq beat state : Nat)
  | vote (suspect : Nat) (yes : Bool)
  | expel (x : Nat) (voters : List Nat)
  | hold (x : Nat)
  | askReadmit (x : Nat)
  | readmit (x : Nat)
  | records (l : List VoteRec)
deriving DecidableEq, Repr

/-- What a command brings out of the part, in the order in which it leaves. -/
inductive Emit where
  /-- what a register read returns to its issuer (R6, R487) -/
  | regData (who : Issuer) (w : Word)
  /-- a transaction on the Staido link, under its function number (R390) -/
  | host (fn : Nat) (t : HostTxn)
  | ptp (m : PtpOut)
  /-- an ESMC PDU of an interface: its QL, and whether it is an event PDU (R279) -/
  | esmc (i ql : Nat) (event : Bool)
  /-- an M-plane frame received, for the host (R237) -/
  | mPlane (i : Nat) (bytes : List Byte)
  /-- the values an indication reports beside its body: message id, cell, and the values (R214, R216) -/
  | radio (id cell : Nat) (values : List Int)
  /-- a pulse of the 1PPS output (R281) -/
  | pps (width : Nat)
  /-- a fronthaul frame of interface `i` starts (R245) -/
  | frame (i : Nat) (f : TxFrame)
  /-- the eCPRI answer to a delay request (R235): interface, id, t2 with its compensation, t3 -/
  | ecpri (i id : Nat) (t1 t2 correction : Nat)
  /-- a flit on a silk link: VC, share, POOL, and the credits it returns: RET_SHARE, RET_COUNT, RET_VC (R357) -/
  | flit (link vc share : Nat) (pool : Bool) (retShare retCount retVc : Nat)
  /-- a request to another device (R372, R376): OP 0 is copy data, OP 3 a get request; `ctl` holds the compare value of an atomic, or, for a
  copy, CTR_CORE, CTR, INC and STALE -/
  | remote (dst tag op addr size : Nat) (data ctl : List Byte)
  | remoteResp (dst tag : Nat) (r : RemoteResp)
  /-- a pod message to a device; to every device where `dst` is nothing (R414–R422) -/
  | pod (dst : Option Nat) (m : PodMsg)
  /-- the signatures of a lock-step pair (R432) -/
  | signatures (pair : Nat) (l : List SigRec)
  /-- what a test-port access returns (R481, R510) -/
  | testPort (bytes : List Byte)
deriving DecidableEq, Repr

/-! ### Register pages (R486–R497) -/

/-- Register fields written since reset, by `Fld.key`: the values in effect, and the shadow values of RWS fields (R6). A field not
listed holds its reset value. The page image of a copy of the shadow has the same form. -/
structure RegFile where
  live : Assoc Nat
  shadow : Assoc Nat
deriving DecidableEq, Repr

/-- A latched word of one issuer on one page (R262, R283, R489). -/
structure Latch where
  who : Issuer
  page : Nat
  off : Nat
  val : Word
  /-- the beat in which it was latched (R283) -/
  beat : Nat
deriving DecidableEq, Repr

/-- The register side of the part beside the fields themselves. -/
structure PagesState where
  file : RegFile
  latches : List Latch
  /-- pages whose CTRL.COMMIT reads 1: a check is pending or runs (R495) -/
  commits : List Nat
  /-- control cores with an ACCESS fault in their fault status (R486) -/
  ctlFaults : List Nat
  /-- by page, its shadow as taken by a check of an image that has passed and waits for its boundary (R495) -/
  taken : Assoc (Assoc Nat)
deriving DecidableEq, Repr

/-! ### Memory -/

/-- A stretch of memory whose unlisted bytes are undefined, not zero (R457, R345): first address, length, the number that names
the stretch's free values, and the origin from which they are numbered (a copy of undefined bytes keeps their values). -/
structure Undef where
  base : Nat
  len : Nat
  stretch : Nat
  origin : Nat
deriving DecidableEq, Repr

/-- The bytes of the device-local address space of R18 (register pages and the host window apart): strictly rising
addresses; a byte not listed reads 0, or, inside an undefined stretch, a free value. -/
structure Memory where
  cells : List Host.Cell
  undef : List Undef
deriving DecidableEq, Repr

/-! ### The package: crossings and clocks (R26–R35) -/

/-- A raise of an event line for a core that is requested and not yet acknowledged, and whether it was raised again since (R30): its signal bit of
R79. -/
structure EventLine where
  core : Nat
  mask : Nat
  again : Bool
deriving DecidableEq, Repr

/-- One crossing between clock domains. -/
structure CrossState where
  /-- declared down under R32 -/
  down : Bool
  /-- waits for the handshake of R34 and accepts no entry -/
  resync : Bool
  /-- a side that sends events was itself reset (R35) -/
  senderReset : Bool
  /-- events requested by a side that stays out of reset and not yet acknowledged (R30, R35) -/
  events : List EventLine
  /-- the receiver's RESYNC events (R35) -/
  resyncEvents : Nat
deriving DecidableEq, Repr

/-- What a sub-lane of an edge direction carries (R13, R50). -/
inductive LaneClass where
  | control
  | reserved (cocoon : Nat)
  | shared
  | idle
deriving DecidableEq, Repr

/-- A crossing on a packet's route, with the direction it is passed in. -/
structure Hop where
  x : Crossing
  dir : Nat
deriving DecidableEq, Repr

/-- What a packet brings: a post, or the data of a core's copy. -/
inductive Cargo where
  | post (id : Nat)
  | copy (core id : Nat)
deriving DecidableEq, Repr

/-- Traffic between two dies of one source of R14, a cocoon: its route, and the crossings still before it. The packets of one copy between the same
two dies stand as one. -/
structure Packet where
  id : Nat
  src : Nat
  dst : Nat
  source : Nat
  route : List Hop
  left : List Hop
  cargo : Cargo
deriving DecidableEq, Repr

/-- The mesh: packets under way in the order they were issued (R12), and on each edge direction the source that its shared sub-lanes served last (R14). -/
structure Mesh where
  packets : List Packet
  turns : List (Hop × Nat)
  nextId : Nat
deriving DecidableEq, Repr

/-! ### Time (R260–R286) -/

/-- A Sync under way to a sample (R272): its t1, summed correction and t2, in 2⁻¹⁶ ns. -/
structure SyncRec where
  source : Nat
  seq : Nat
  t1 : Int
  corr : Int
  t2 : Int
  complete : Bool
deriving DecidableEq, Repr

/-- The selected master, as its last Announce gave it (R267, R268, R277). -/
structure Master where
  msg : AnnounceMsg
deriving DecidableEq, Repr

structure TimeUnit where
  /-- device time since the time epoch, in 2⁻¹⁶ ns (R260) -/
  t : Nat
  /-- the residence counter, in 2⁻¹⁶ ns (R271) -/
  res : Nat
  sync : Option SyncRec
  /-- t3 and sequence number of the Delay_Req awaiting its answer (R272) -/
  delayReq : Option (Int × Nat)
  delaySeq : Nat
  syncSeq : Nat
  /-- the sample window, newest first, in 2⁻¹⁷ ns (R272) -/
  samples : List Int
  master : Option Master
  /-- identity (grandmaster, parent) of the last master under which the servo was LOCKED (R277) -/
  lockedTo : Option (Nat × Nat)
  /-- samples left for which REARM holds STEP_ARM (R274) -/
  rearmLeft : Option Nat
  /-- a step is requested and not yet applied (R274) -/
  stepRequested : Bool
  /-- HOLDOVER was entered by a refused jump (R276, R284) -/
  refused : Bool
  /-- consecutive samples within JUMP_NS in HOLDOVER (R276) -/
  goodRun : Nat
  /-- frequency adjustments with the time (ns, own clock) at which they came into force, newest first (R273, R275) -/
  adjs : List (Nat × Int)
  /-- time (ns, own clock) at which the holdover began -/
  holdoverFrom : Nat
  /-- the targets latched by the compare units (R263) -/
  cmp : Assoc Nat
  /-- the basic-unit count at which the legacy counter is frozen (R284) -/
  lfcFrozen : Option Int
  /-- interfaces that owe an ESMC event PDU since TX_QL changed (R279) -/
  qlPending : List Nat
  /-- seconds last marked by the 1PPS output (R281) -/
  ppsMarked : Option Int
deriving DecidableEq, Repr

/-! ### The beat sequencer (R43–R76) -/

/-- A row (R51). -/
structure Row where
  winFirst : Nat
  winCount : Nat
  workCount : Nat
  workFirst : Nat
  chMap : Nat
  wayMap : Nat
  subMap : Nat
  silkSet : Nat
  retrainCh : Nat
  radioReserved : Bool
  retrainEn : Bool
deriving DecidableEq, Repr

/-- A window entry (R52). -/
structure Window where
  cocoon : Nat
  coreSet : Nat
  start : Nat
  stop : Nat
deriving DecidableEq, Repr

/-- A work entry (R53). -/
structure Work where
  cocoon : Nat
  kind : Nat
  coreSet : Nat
  start : Nat
  handle : Nat
  arg : Nat
deriving DecidableEq, Repr

/-- A table image as the sequencer holds it in a bank (R49, R50). -/
structure SchedTable where
  beatLen : Nat
  preempt : Nat
  guard : Nat
  saveMask : Nat
  rows : List Row
  coreSets : List CoreSet
  windows : List Window
  works : List Work
  chMaps : List (List Nat)
  wayMaps : List (List Nat)
  subMaps : List (List Nat)
deriving DecidableEq, Repr

/-- A window open on a core (R60–R64). Times are device time in ns. -/
structure OpenWin where
  win : Nat
  core : Nat
  cocoon : Nat
  beat : Nat
  start : Nat
  /-- planned length W -/
  len : Nat
  /-- the effective end (R64) -/
  stop : Nat
  /-- end of the handover; equals start under continuous ownership -/
  handover : Nat
  /-- waits under R63 for a stride of another cocoon to end -/
  waiting : Bool
  /-- its effective end has passed -/
  ended : Bool
  /-- the largest overrun so far on any core of the window entry (R64) -/
  overrun : Nat
deriving DecidableEq, Repr

/-- A reclaimed core in the drain (R71). -/
structure Drain where
  core : Nat
  cocoon : Nat
  started : Bool
  saved : Bool
deriving DecidableEq, Repr

structure SeqUnit where
  /-- the beat counter (R45) -/
  beat : Nat
  /-- device time (ns) of the last beat boundary, on the sequencer's own clock (R48) -/
  beatStart : Nat
  active : Option SchedTable
  /-- E, the first beat of the epoch (R54) -/
  epoch : Nat
  /-- the image being checked, as copied to the shadow bank (R55) -/
  loading : Option (List Byte)
  /-- the RWS fields as the check took them (R495) -/
  taken : Assoc Nat
  /-- the load came of ENABLE rising: a first table (R55) -/
  first : Bool
  armed : Option SchedTable
  /-- B while armed or draining (R55) -/
  next : Nat
  /-- boundary at which a closing sequencer becomes DISABLED (R74) -/
  closeAt : Option Nat
  /-- the drain in progress belongs to a discarded table (R74 item 2) -/
  closingDrain : Option SchedTable
  /-- the device time (ns) at which the realignment beat in progress ends (R48) -/
  realign : Option Nat
  openWins : List OpenWin
  drains : List Drain
  /-- debt charges under way, by beat and window entry: their largest overrun (R64) -/
  charges : Assoc Nat
  /-- by window entry, how much its end was moved earlier in this beat (R64) -/
  cuts : Assoc Nat
  /-- work entries of KIND 0x02 whose dispatch is open in the current beat (R53, R178) -/
  openWork : List Nat
  /-- way-clear operations in progress: cluster, way, owner that waits (R302) -/
  clearing : List (Nat × Nat)
  /-- last cocoon whose window held a core (R60); not listed: none since reset -/
  lastOwner : Assoc Nat
deriving DecidableEq, Repr

/-! ### Power (R464–R474) -/

/-- A step taken for the package limit, as it can be undone (R471, R472): a die lowered to a point, or the tenant cores of
one throttle class held on pinned dies. -/
inductive PkgStep where
  | lowered (die point : Nat)
  | held (cls : Nat)
deriving DecidableEq, Repr

/-- A die lowered for a neighbour gap (R41, R470): the pair's other die, the level, and since when the gap is at most 15 °C. -/
structure GapLevel where
  die : Nat
  other : Nat
  level : Nat
  coolSince : Option Nat
deriving DecidableEq, Repr

/-- The thermal level of a die where below 2 (R473): the time (ns, own clock) of its last move, and since when the die is cool. -/
structure ThermLevel where
  level : Nat
  /-- falls go on until the die runs below THROTTLE_C − 5 °C -/
  falling : Bool
  lastMove : Nat
  coolSince : Option Nat
deriving DecidableEq, Repr

structure PowerUnit where
  /-- changes of one operating point under way: die and new point (R38) -/
  changes : List (Nat × Nat)
  /-- settings of core rails in mV that differ from what they are at point 0, by die (R36, R38) -/
  rails : Assoc Nat
  /-- the set of C-dies whose turn it is to raise: row + column modulo 2 (R40) -/
  turn : Nat
  /-- C-dies not yet at their point since emergence (R469) -/
  emerging : List Nat
  gapLevels : List GapLevel
  /-- dies whose tenant cores are held for a neighbour gap, with the pair's other die (R41 item 2) -/
  gapHolds : List (Nat × Nat)
  /-- pairs, by mesh edge, left alone until a time in ns on the own clock (R41) -/
  pairWait : Assoc Nat
  /-- steps in force for the package limit, most recent first (R472) -/
  steps : List PkgStep
  /-- power readings of the last 1 ms, newest first, 0.1 W (R471) -/
  readings : List Nat
  /-- time (ns, own clock) since which the mean is at or below LIMIT_W − HYST_W (R472) -/
  lowSince : Option Nat
  /-- time (ns, own clock) of the last action on the mean, and of the last undo (R471, R472) -/
  lastMean : Option Nat
  lastUndo : Option Nat
  thermal : Assoc ThermLevel
  /-- pinned dies held for temperature (R473) -/
  thermHolds : List Nat
  /-- dies at or above 110 °C that have tripped (R474) -/
  tripped : List Nat
  /-- rails out of tolerance, with the time (ns, own clock) since when (R465) -/
  railOut : Assoc Nat
  /-- laser inputs below the threshold, or above it while LOW, since when (R468) -/
  laserSince : Assoc Nat
deriving DecidableEq, Repr

/-! ### The black box (R476–R480) -/

/-- A record of the black box (R476). -/
structure BbRecord where
  time : Nat
  die : Nat
  cls : Nat
  page : Nat
  code : Nat
  detail : Nat
deriving DecidableEq, Repr

/-- A flush or snapshot in progress (R479, R480): the cause, the slot written, and the rings as they stood. -/
structure Flush where
  cause : Nat
  slot : Nat
  rings : Assoc (List BbRecord)
  written : Assoc Nat
  time : Nat
  beat : Nat
deriving DecidableEq, Repr

structure BlackBox where
  /-- by die, the ring's last 4,096 records, newest first (R476) -/
  rings : Assoc (List BbRecord)
  /-- by die, the events recorded since the rings were armed: the newest stands at index (that − 1) mod 4,096 -/
  written : Assoc Nat
  frozen : Bool
  flush : Option Flush
  snapshot : Option Flush
  /-- FLUSH_SEQ since the region was first armed, and the slot of the newest valid flush (R478) -/
  seq : Nat
  newest : Option Nat
  /-- first address of the region armed last -/
  region : Option Nat
  /-- the host link was lost during a flush's host copy (R482) -/
  hostCut : Bool
deriving DecidableEq, Repr

/-! ### Start-up and reset (R439–R459) -/

/-- The fuses: the entry bank of R452, the 64-bit SVN row, the revoke fuses, the key digests (R444), the device
secret (R448) and the rail trims in mV (R36). -/
structure Fuses where
  bank : List Word
  svn : Nat
  revoked0 : Bool
  revoked1 : Bool
  edHash0 : BitVec 384
  edHash1 : BitVec 384
  mldsaHash0 : BitVec 384
  mldsaHash1 : BitVec 384
  secret : List Byte
  trims : List Int
deriving DecidableEq, Repr

/-- A reset or retest under way (R453, R455). -/
inductive ResetJob where
  | core (n : Nat)
  | cluster (g : Nat)
  | cocoon (c : Nat)
  /-- warm device reset, after the flush of its cause -/
  | device
  | retest (n : Nat)
deriving DecidableEq, Repr

/-- The header fields of a bundle that passed R444 (R443). -/
structure BundleHdr where
  keyIdx : Nat
  advanceSvn : Bool
  revokePrev : Bool
  fuseDefects : Bool
  version : Nat
  svn : Nat
deriving DecidableEq, Repr

structure BootUnit where
  fuses : Fuses
  /-- the bytes read so far of a LOAD (R442) -/
  loading : Option (List Byte)
  /-- the 48 MiB boot memory: the bundle read last (R442) -/
  bundle : List Byte
  hdr : Option BundleHdr
  /-- the measurement log, oldest first: 64-byte entries (R447) -/
  log : List (List Byte)
  /-- the running digest M (R447) -/
  digest : BitVec 384
  /-- rails within limits and reset released (R464, R466) -/
  powered : Bool
  /-- rails on so far, in the order of R464 (0–5) -/
  railsOn : Nat
  job : Option ResetJob
  /-- defects of the start test and of retests in force in this start (R450) -/
  defects : List Defect
  /-- logical cores lost under R458 -/
  lost : List Nat
  lanesTrained : Bool
deriving DecidableEq, Repr

/-! ### The Staido link (R386–R407) -/

/-- The go-back-N state of a lane or link in one direction (R358, R359, R388): the next SEQ to send, what is not yet
acknowledged, the SEQ expected, and replays in a row of the oldest. -/
structure Retry where
  txSeq : Nat
  unacked : Nat
  rxSeq : Nat
  naks : Nat
deriving DecidableEq, Repr

/-- Why a MEM_RD is outstanding (R389). -/
inductive RdWhy where
  | sqEntry (queue : Nat)
  /-- the offset a piece of the bundle has in it -/
  | bundle (off : Nat)
  /-- a piece of a copy's host source, with its offset -/
  | copyData (core copy off : Nat)
  /-- a piece of the source of a waiting COPY or LOAD_PROGRAM, by the wait's id, with its offset -/
  | cmdData (wait off : Nat)
  /-- the word of a core's load or atomic in the host window, by its tag (R20) -/
  | opData (core tag : Nat)
  /-- a piece of the body of a request entry, by its number, with its offset (R218) -/
  | fapi (num off : Nat)
  | other
deriving DecidableEq, Repr

/-- An outstanding MEM_RD (R389, R392). -/
structure MemRd where
  tag : Nat
  addr : Nat
  len : Nat
  why : RdWhy
deriving DecidableEq, Repr

/-- An entry of a translation cache (R402): virtual block, its size, physical block, WRITE. -/
structure TtEntry where
  vbase : Nat
  size : Nat
  pbase : Nat
  write : Bool
deriving DecidableEq, Repr

/-- A submission queue beside its registers (R394). -/
structure SubQueue where
  tail : Nat
  halted : Bool
  /-- a MEM_RD for the entry at HEAD is outstanding (R394) -/
  reading : Bool
  /-- commands read and not yet dispatched, in queue order, as their 64 bytes -/
  cmds : List (List Byte)
  /-- tails that doorbells wrote and the device time of each, oldest first, until HEAD reaches them (R220) -/
  bells : List (Nat × Nat)
deriving DecidableEq, Repr

/-- A completion or indication ring beside its registers (R395, R396, R399). -/
structure CplRing where
  /-- entries written since ENABLE -/
  written : Nat
  /-- entries released since ENABLE -/
  released : Nat
  /-- slots reserved for commands read (R394) -/
  reserved : Nat
  pendingCount : Nat
  /-- time (ns, own clock) of the first entry counted (R399) -/
  countFrom : Option Nat
  /-- next body offset of a radio ring's body area (R396), and the bodies not yet released: entry number, offset, end -/
  bodyPos : Nat
  bodies : List (Nat × Nat × Nat)
deriving DecidableEq, Repr

/-- A Staido function beside its registers. -/
structure FnState where
  queues : Assoc SubQueue
  rings : Assoc CplRing
  tt : List TtEntry
  reads : List MemRd
  nextTag : Nat
  /-- tags of the reads translated with a dropped cache entry and not complete (R402) -/
  inval : List Nat
  /-- bytes of the deficit round robin (R392) -/
  deficit : Nat
deriving DecidableEq, Repr

structure StaidoLink where
  /-- lane retry state, lanes 0–3 (R388) -/
  lanes : Assoc Retry
  /-- transactions not yet sent, oldest first, with their function (R391, R392) -/
  queue : List (Nat × HostTxn)
  /-- tenant function of the round robin, and whether its visit has added its weight (R392) -/
  turn : Nat
  visiting : Bool
  /-- the adapter's presence input (R405) -/
  present : Bool
  /-- removal errors still owed to outstanding requests (R406) -/
  owed : Bool
deriving DecidableEq, Repr

/-! ### The egress scheduler (R245–R254), of a fronthaul interface or a silk link -/

/-- Where a weighted round robin stands: the node of the present visit, and whether the visit has gained its weight. -/
structure Turn where
  at_ : Nat
  gained : Bool
deriving DecidableEq, Repr

/-- Passes 3 and 4 each: deficits in bytes by node, the turn over subscribers, and each subscriber's turn over its leaves (R249). -/
structure SchedPass where
  deficit : Assoc Nat
  turn : Turn
  leafTurn : Assoc Turn
deriving DecidableEq, Repr

/-- A shaper table in force and its nodes: bucket levels in thousandths of a byte where they are not full, as of `ticks` units of 8 ns. -/
structure Scheduler where
  image : List Byte
  /-- an image that passed its check and waits for the beat boundary (R254) -/
  next : Option (List Byte)
  committed : Assoc Int
  peak : Assoc Int
  ticks : Nat
  turn1 : Nat
  turn2 : Nat
  pass3 : SchedPass
  pass4 : SchedPass
deriving DecidableEq, Repr

/-! ### The fronthaul (R231–R257) -/

/-- An interface of a port beside its registers: the frames queued, oldest first, and the frame in transmission. -/
structure FhIface where
  frames : List TxFrame
  sending : Option TxFrame
  sched : Scheduler
deriving DecidableEq, Repr

/-- A PRB of an uplink symbol received in its window (R241): cell, slot start in ns, symbol, stream, PRB, and its 24 samples decompressed. -/
structure RxPrb where
  cell : Nat
  start : Nat
  symbol : Nat
  stream : Nat
  prb : Nat
  samples : List Int
deriving DecidableEq, Repr

structure FhUnit where
  ifaces : Assoc FhIface
  /-- the RU table in force (R238), empty before the first, and one that waits with its beat (R239) -/
  ru : List Byte
  ruNext : Option (Nat × List Byte)
  /-- the SEQ_ID expected next of a received frame and the one of the frame sent next, by 65,536 × RU + eAxC (R235, R241) -/
  seqRx : Assoc Nat
  seqTx : Assoc Nat
  received : List RxPrb
  /-- frames numbered so far (model's own) -/
  nextFrame : Nat
deriving DecidableEq, Repr

/-! ### The radio (R192–R227) -/

/-- A request of a cell's slot that arrived, by message id and slot start in ns of device time (R218–R221), on time or late, with its
PDUs, and the transport blocks that a TX request carried. -/
structure RadioReq where
  id : Nat
  cell : Nat
  start : Nat
  onTime : Bool
  pdus : List Pdu
  blocks : List TxBlock
deriving DecidableEq, Repr

/-- A request entry read from a queue of the radio function (R218): cell, message id, body length, whether its body comes from the host and
what has come of it, and the device time of its doorbell (R220). -/
structure FapiEntry where
  num : Nat
  cell : Nat
  id : Nat
  len : Nat
  body : List Byte
  fromHost : Bool
  failed : Bool
  bell : Nat
deriving DecidableEq, Repr

/-- A HARQ buffer in use (R208): its key, its place in the cell's pool, and the slot whose LLRs last overwrote it. -/
structure HarqBuf where
  cell : Nat
  rnti : Nat
  process : Nat
  place : Nat
  since : Nat
deriving DecidableEq, Repr

/-- A code block decoded (R204, R210): its bits and whether its CRC passed. -/
structure BlockOut where
  cell : Nat
  start : Nat
  rnti : Nat
  block : Nat
  bits : List Bool
  pass : Bool
deriving DecidableEq, Repr

/-- The received power of a PUSCH allocation, latched with its first DMRS symbol, in 0.25 dB dBFS (R214). -/
structure PowerLatch where
  cell : Nat
  start : Nat
  rnti : Nat
  value : Int
deriving DecidableEq, Repr

/-- A noise floor in linear energy, exactly, as a fraction (R215). -/
structure Frac where
  num : Nat
  den : Nat
deriving DecidableEq, Repr

/-- An entry of the broadcast cache (R225): cell, slot start in ns, and the PDUs and transport blocks kept of it. -/
structure CacheEntry where
  cell : Nat
  start : Nat
  pdus : List Pdu
  blocks : List TxBlock
deriving DecidableEq, Repr

/-- A detected preamble that awaits its RACH.indication (R213): timing advance, and summed energy in 0.25 dB dBFS. -/
structure PrachHit where
  cell : Nat
  sfn : Nat
  slot : Nat
  index : Nat
  advance : Nat
  energy : Int
deriving DecidableEq, Repr

structure RadioUnit where
  /-- the cell image in force, empty before the first -/
  image : List Byte
  /-- an image that passed its check and waits for CFG_BEAT (R200) -/
  next : Option (List Byte)
  /-- an image under check, its address, and whether ENABLE started it; with the RWS fields taken (R495) -/
  checking : Option (Nat × List Byte × Bool)
  taken : Assoc Nat
  /-- state of each cell in force: 1 SERVING, 2 FALLBACK, 3 SILENT (R224–R226) -/
  cells : Assoc Nat
  /-- slot start from which a cell that a request reached serves again (R226) -/
  serveAt : Assoc Nat
  /-- device-local address of each cell's HARQ pool, as it was laid when the cell started (R200) -/
  pools : Assoc Nat
  /-- request entries read, in the order of their reading, and entries numbered so far (model's own) -/
  inbox : List FapiEntry
  nextEntry : Nat
  reqs : List RadioReq
  /-- buffers in use, least recently written first -/
  harq : List HarqBuf
  cache : List CacheEntry
  decoded : List BlockOut
  latched : List PowerLatch
  /-- slots of cells whose work a core's fault lost: cell and slot start (R227) -/
  lost : List (Nat × Nat)
  /-- noise floors by 64 × cell + PRB group; none before the first sample (R215) -/
  nf : Assoc Frac
  hits : List PrachHit
  /-- entries written to the error ring (R222) -/
  errCount : Nat
  /-- time (ns, own clock) at which each cell's FALLBACK began; and the cells whose HOLD_S has passed, which stop at the next frame boundary (R226) -/
  fallbackAt : Assoc Nat
  silentDue : List Nat
  /-- spans of device time in ns whose slots are spoiled: from, to, and the start before which slots are spoiled (R223) -/
  spoiled : List (Nat × Nat × Nat)
deriving DecidableEq, Repr

/-! ### The silk links (R351–R382) -/

/-- A silk link beside its registers. -/
structure SilkLink where
  retry : Retry
  /-- the sender's credits in use: reserve by VC, quota by share (R361) -/
  reserveUsed : Assoc Nat
  quotaUsed : Assoc Nat
  /-- credits of flits handed on that the next flits sent return: reserve by VC, quota by share -/
  owedReserve : Assoc Nat
  owedQuota : Assoc Nat
  /-- flit position modulo 64 (R370) -/
  pos : Nat
  sched : Scheduler
  /-- policer buckets by share: committed and peak in thousandths of a byte, and the 8-ns tick they stand at (R371) -/
  police : Assoc (Int × Int × Nat)
  /-- wavelengths that have failed in each direction (R353) -/
  badTx : List Nat
  badRx : List Nat
  /-- its own optical engine has failed (R354) -/
  engineBad : Bool
  /-- a switch to a spare fibre pair is under way: no flit moves -/
  switching : Bool
  /-- number of the next heartbeat sent on it (R414) -/
  beats : Nat
deriving DecidableEq, Repr

structure SilkUnit where
  links : Assoc SilkLink
  /-- the fabric image in force, empty before the first, and one that waits for its beat boundary (R364) -/
  fabric : List Byte
  next : Option (List Byte)
deriving DecidableEq, Repr

/-! ### The pod (R413–R433) -/

/-- A vote held by a keeper: the voter's latest on a suspect, and its time (ns, own clock) (R418). -/
structure Vote where
  voter : Nat
  suspect : Nat
  yes : Bool
  at_ : Nat
deriving DecidableEq, Repr

/-- A lock-step pair beside its registers (R431–R433): signatures of strides that ended since the last boundary, and the unmatched ones of
this device and of its partner. -/
structure LockPair where
  fresh : List SigRec
  own : List SigRec
  theirs : List SigRec
  /-- no comparing until EN is cleared and set (OVERFLOW) -/
  stopped : Bool
deriving DecidableEq, Repr

/-- Where a job stands (R425). -/
inductive Course where
  | none | running | checkpoint | rolledBack
deriving DecidableEq, Repr

/-- A cocoon's progress in ns of device time (R425): the course, since when, the first RESUME, and the closed times. -/
structure Progress where
  course : Course
  since : Nat
  first : Nat
  useful : Nat
  overhead : Nat
  lost : Nat
  pending : Nat
deriving DecidableEq, Repr

structure PodUnit where
  /-- the pod map in force, empty before the first (R413) -/
  map : List Byte
  /-- link scores and reported self-scores by device, 255 where not listed (R415) -/
  link : Assoc Nat
  reported : Assoc Nat
  expelled : List Nat
  held : List Nat
  /-- as keeper: votes, and the device time (ns) of each expulsion in the budget window (R418, R420) -/
  votes : List Vote
  spent : List Nat
  /-- as voter, by suspect: since when (ns, own clock) every vote was YES, and how often the votes moved to the next lowest id -/
  yesSince : Assoc Nat
  moved : Assoc Nat
  /-- valid records that wait for a quorum, and the last SEQ applied by target (R421) -/
  records : List VoteRec
  applied : Assoc Nat
  pairs : Assoc LockPair
deriving DecidableEq, Repr

/-! ### Programs, invocations and cocoons (R170–R191, R292–R311) -/

/-- A stride entry (R172). -/
structure StrideEntry where
  b : Nat
  go : Nat
  done : Nat
  doneCount : Nat
  loopTo : Nat
  loopN : Nat
  loopDiv : Nat
deriving DecidableEq, Repr

/-- A core image's header and its offset in the program image (R171). -/
structure CoreImage where
  off : Nat
  preloadOff : Nat
  preloadLen : Nat
  holdOff : Nat
  holdLen : Nat
  argsOff : Nat
deriving DecidableEq, Repr

/-- A loaded program (R170–R175); its bytes stand in the program area. -/
structure Program where
  gen : Nat
  base : Nat
  len : Nat
  groupCores : Nat
  way0 : Nat
  ways : Nat
  continuous : Bool
  images : List CoreImage
  rankMap : List Nat
  strides : List StrideEntry
  /-- B_P of R173 and b_L of R175, ns -/
  bP : Nat
  bL : Nat
  /-- no new invocation is dispatched (R177) -/
  closing : Bool
deriving DecidableEq, Repr

/-- A model slot that has been set (R174). -/
structure Slot where
  ctxBytes : Nat
  weightBase : Nat
  weightLen : Nat
  progBase : Nat
  progLen : Nat
  loads : Nat
  programs : Assoc Program
deriving DecidableEq, Repr

/-- A command taken from a queue (R187): its function, queue, 64 bytes and the time (ns, own clock) of its dispatch. -/
structure Cmd where
  fn : Nat
  queue : Nat
  bytes : List Byte
  at_ : Nat
deriving DecidableEq, Repr

/-- What a run runs (R53, R178). -/
inductive RunKind where
  | invoke
  | radio
  | management
deriving DecidableEq, Repr

/-- A stride or launch in progress on a group (R61, R180, R181). Times in ns. -/
structure StrideRun where
  launch : Bool
  entry : Nat
  iter : Nat
  start : Nat
  bound : Nat
  beat : Nat
  /-- a stride timer has run out on a core of the group: the stride is counted as a runaway (R62) -/
  runaway : Bool
deriving DecidableEq, Repr

/-- A run of a program on a group of cores. -/
structure Run where
  id : Nat
  cocoon : Nat
  kind : RunKind
  slot : Nat
  prog : Nat
  /-- the command, if the run has one (R178) and its function has not been unbound (R322) -/
  cmd : Option Cmd
  /-- commands dispatched by the cocoon up to this one (R180), and ARG of the work entry of a run without a command (R53) -/
  inv : Nat
  arg : Nat
  /-- the group's cores, rank r first at 0 (R178) -/
  cores : List Nat
  ctxs : List Nat
  append : Nat
  /-- L of R173 -/
  maxLen : Nat
  /-- STEP of the first context before the increment (R188) -/
  step0 : Nat
  /-- the next stride entry, and the passes done of each active loop, by closing entry (R173) -/
  entry : Nat
  passes : Assoc Nat
  stride : Option StrideRun
  needLaunch : Bool
  staged : Bool
  suspended : Bool
  /-- FAULT_CODE, PC, rank, slot of the first fault (R191) -/
  fault : Option (Nat × Nat × Nat × Nat)
  /-- a status that applies once the stride in progress has ended (R191) -/
  ending : Option (Nat × Nat)
  strides : Nat
  beats : Nat
  lastBeat : Option Nat
  /-- records of the stride log written so far (R189) -/
  logged : Nat
  replay : Bool
  /-- how often each stride entry, and the launch as 0xFFFF, has run in the invocation (R431) -/
  ran : Assoc Nat
deriving DecidableEq, Repr

/-- A command in progress that is no invocation (R177, R183, R187). -/
inductive Wait where
  | unload (handle : Nat)
  | ctxClose (ctx : Nat)
  /-- the bytes of the host source read so far -/
  | copy (data : List Byte)
  | load (data : List Byte)
deriving DecidableEq, Repr

structure WaitCmd where
  id : Nat
  cocoon : Nat
  cmd : Cmd
  wait : Wait
deriving DecidableEq, Repr

/-- An entry of a chrysalis image (R308): source core, kept, absorbed, the run of its group, if any, and GROUP and RANK. -/
structure ChryEntry where
  src : Nat
  kept : Bool
  absorbed : Bool
  run : Option Nat
  group : Nat
  rank : Nat
deriving DecidableEq, Repr

/-- A chrysalis image beside its bytes and its register words (R307–R311). -/
structure ChryImage where
  slot : Nat
  handle : Nat
  epochB : Nat
  entries : List ChryEntry
  /-- saved cores whose record is written -/
  done : List Nat
  /-- the restore in progress: target core of each saved core, and groups loaded -/
  targets : List Nat
  loaded : List Nat
deriving DecidableEq, Repr

/-- A segment of a cocoon (R376, R377): index to base, length and generation; the generation outlives the segment. -/
structure Segment where
  valid : Bool
  base : Nat
  len : Nat
  gen : Nat
deriving DecidableEq, Repr

/-- A cocoon beside its registers. -/
structure Cocoon where
  slots : Assoc Slot
  segments : Assoc Segment
  images : List ChryImage
  saveSeq : Nat
  /-- commands dispatched since creation (R180) -/
  dispatched : Nat
  /-- program turn of the dispatcher's round robin (R178) -/
  turn : Nat
  /-- beats counted last in BEATS (R317) -/
  lastBeat : Option Nat
  /-- bytes written by the zero fill on each channel, during DESTROYING (R296) -/
  fill : Assoc Nat
  /-- the key words written and not loaded (R297) -/
  keyWords : Assoc Word
  /-- quarantined devices (R424) -/
  quar : List Nat
  prog : Progress
deriving DecidableEq, Repr

/-! ### GDDR7 controllers (R326–R347) -/

/-- What the controller answered last (model's own). -/
inductive MemAnswer where
  | none
  | data (bytes : List Byte)
  | written
  | error
deriving DecidableEq, Repr

/-- A request of a cocoon at a controller (R339), with the errors its copies meet. -/
structure MemReq where
  cocoon : Nat
  addr : Nat
  op : LineOp
  errA : LineErr
  errB : LineErr
deriving DecidableEq, Repr

/-- A channel's controller beside its registers. -/
structure MemCtl where
  /-- the queue of each cocoon, 64 requests at most, oldest first (R339) -/
  queues : Assoc (List MemReq)
  /-- a row of a device is open (R303) -/
  rowOpen : Bool
  /-- the 64 check lines used most recently, by payload group (R331) -/
  checkBuf : List Nat
  /-- times (ns, own clock) of the LINK_FAILs of the last 1 ms, newest first (R345) -/
  linkFails : List Nat
  /-- device temperature at the last training, 1/16 °C (R342) -/
  trainTemp : Int
  /-- since when (ns, own clock) RETRAIN_DUE waits for a step (R343) -/
  dueSince : Option Nat
  /-- beat and slot of the last retraining step (R342) -/
  stepAt : Option (Nat × Nat)
  /-- a RETRAIN_NOW runs (R346) -/
  training : Bool
  /-- the next payload group of the patrol pass (R344) -/
  scrub : Nat
  answer : MemAnswer
deriving DecidableEq, Repr

structure MemUnit where
  ctls : Assoc MemCtl
  /-- the TDM slot in progress and its beat (R339) -/
  slot : Nat
  slotBeat : Nat
  /-- owner byte of the slot in progress on each channel; idle where not listed -/
  owners : List Nat
  /-- what training found of the devices: clamshell mode, and 32 Gbit density (R350) -/
  clamshell : Bool
  density : Bool
deriving DecidableEq, Repr

/-! ### A compute core beside its stores and its core-state window (R78–R111) -/

/-- A sequencer or vector result that has not landed (R80): the cycle from which it is visible, and the bytes it writes
at an offset of the core-state window. -/
structure Landing where
  due : Nat
  off : Nat
  bytes : List Byte
deriving DecidableEq, Repr

/-- A copy outstanding (R98, R99). -/
structure CopyOp where
  id : Nat
  slot : Nat
  /-- the descriptor's two post words, which apply at source release -/
  posts : List Nat
  src : Nat
  dst : Nat
  len : Nat
  ctrCore : Nat
  ctr : Nat
  inc : Nat
  segment : Nat
  /-- the segment's generation at issue (R377) -/
  gen : Nat
  released : Bool
  /-- the bytes read, at source release; bytes of a host or remote source as they come -/
  data : List Byte
  /-- the source range was stale at release (R378) -/
  stale : Bool
  /-- time (ns, own clock) at which the dead-target bound runs out -/
  at_ : Nat
deriving DecidableEq, Repr

/-- A remote load, store or atomic outstanding (R372, R380). -/
structure RemoteOp where
  tag : Nat
  slot : Nat
  posts : List Nat
  op : Nat
  addr : Nat
  size : Nat
  dst : Nat
  ctr : Nat
  inc : Nat
  /-- scratchpad offsets of the result and of the status word -/
  local_ : Nat
  status : Nat
  /-- time (ns, own clock) at which the dead-target bound runs out -/
  at_ : Nat
  /-- operand and compare value of an atomic -/
  operand : List Byte
  compare : List Byte
deriving DecidableEq, Repr

/-- An array product in progress (R117): its posts, its parameter block as read, whether its prologue still waits for the vector engine, and
whether its epilogue has started. -/
structure ArrayOp where
  slot : Nat
  posts : List Nat
  block : List Byte
  prologue : Bool
  epilogue : Bool
  /-- cycles streamed, bytes of each feed row read by refills, and planes loaded (R104, R133, R514) -/
  cycles : Nat
  fed : Assoc Nat
  planes : Nat
  /-- what the refills, and what the plane loads with the block's scales, read of the scratchpad, by device-local address (R134) -/
  seenA : Memory
  seenB : Memory
  /-- poisoned words met by each, by scratchpad offset (R134) -/
  badA : List Nat
  badB : List Nat
deriving DecidableEq, Repr

/-- What the vector engine runs beside prologues (R92, R156, R157): a vector operation with its posts and parameter block, or the epilogue of
the oldest product whose occupancy has ended. -/
inductive VecJob where
  | op (slot : Nat) (posts : List Nat) (block : List Byte)
  | epilogue
deriving DecidableEq, Repr

/-- The routine that runs (R94): its slot and posts, and whether its END has issued. -/
structure Routine where
  slot : Nat
  posts : List Nat
  ended : Bool
deriving DecidableEq, Repr

/-- The handler that runs on a sequencer, and where it resumes (R85). -/
structure Handler where
  beat : Bool
  resume : Nat
deriving DecidableEq, Repr

/-- A tile held under hold and apply (R163): its valid rows and columns, and the accumulator tile it came from. -/
structure HeldTile where
  mv : Nat
  nv : Nat
  from_ : Option Nat
deriving DecidableEq, Repr

structure Core where
  /-- issue cycles of the sequencer -/
  cycle : Nat
  /-- results that have not landed, in order of landing -/
  landings : List Landing
  /-- a transfer in its delay slots: slots left and the target if taken (R82) -/
  delay : Option (Nat × Option Nat)
  calls : List Nat
  handler : Option Handler
  routine : Option Routine
  /-- the sequencer stands at a signal point (R84) -/
  point : Bool
  /-- the firing unit fires no further slot because of a fault (R111) -/
  faulted : Bool
  /-- the product that occupies the array, and those whose occupancy has ended, oldest first -/
  array : Option ArrayOp
  tail : List ArrayOp
  vector : Option VecJob
  copies : List CopyOp
  remotes : List RemoteOp
  nextId : Nat
  /-- slots without a condition that have fired since their work became eligible (R95) -/
  firedOnce : List Nat
  /-- the work on the core is eligible from this device time (R95) -/
  eligible : Option Nat
  /-- the row feeder queues: at most 16 entries of 8 bytes each, oldest first (R78, R104) -/
  feeders : Assoc (List Word64)
  /-- a vector routine of the sequencer holds the vector engine (R92) -/
  vecHeld : Bool
  /-- the tiles held for a row (R163), by the address each is held at -/
  held : Assoc HeldTile
  /-- firings in the current stride, newest first: slot, unit (R428, R431) -/
  fired : List (Nat × Nat)
  /-- the signature of the current stride (R431) -/
  sig : Word64
deriving DecidableEq, Repr

/-- A post on its way to another core (R97). -/
structure Post where
  id : Nat
  src : Nat
  dst : Nat
  token : Nat
  inc : Nat
  cocoon : Nat
  slot : Nat
  /-- copies of the poster with a lower id to the same core land first -/
  after : Nat
deriving DecidableEq, Repr

/-! ### The whole part -/

/-- The Y40. -/
structure State where
  /-- the queue of commands that wait, first in first out -/
  pending : List Instr
  pages : PagesState
  mem : Memory
  /-- SRAM words in error, by device-local address / 8: 1 single-bit, 2 double-bit and so poisoned (R107) -/
  sram : Assoc Nat
  /-- GDDR7 lines poisoned in their only or first copy, and in their second copy, by address / 64 (R332, R336) -/
  poison : List Nat
  poisonB : List Nat
  gddr : MemUnit
  fh : FhUnit
  radio : RadioUnit
  silk : SilkUnit
  pod : PodUnit
  /-- the demand table of the cell configuration in effect: D_p in core-µs and M_p in ns (R66, R201) -/
  demand : List (Nat × Nat)
  crossings : List (Crossing × CrossState)
  mesh : Mesh
  time : TimeUnit
  seq : SeqUnit
  power : PowerUnit
  bbox : BlackBox
  boot : BootUnit
  staido : StaidoLink
  fns : Assoc FnState
  cocoons : Assoc Cocoon
  keys : Assoc (List Word)
  runs : List Run
  nextRun : Nat
  waits : List WaitCmd
  cores : Assoc Core
  posts : List Post
  /-- cause of the fatal device error in force (R477); FATAL_N is low -/
  fatal : Option Nat
  /-- the THERMTRIP_N output is low (R474) -/
  thermTrip : Bool
  /-- the TRST_N input is low (R510) -/
  trst : Bool
  /-- what has left the part, oldest first (model's own) -/
  out : List Emit
  /-- free values drawn so far (model's own) -/
  draws : Nat
deriving DecidableEq, Repr

/-! ### Stops -/

/-- The reasons a command stops the block with a fault. There is none: every error the spec names is a state the part goes on in
(an error bit, a fault record, a refusal code, a halt of start-up), so no command raises one, and this is safe. -/
inductive Fault
deriving DecidableEq, Repr

/-- The reasons a command is refused by the model. -/
inductive Refusal where
  /-- The model gives the command no meaning. Raised by an arm of `exec` alone; safe: nothing can be concluded about a run that meets it. -/
  | notModelled (mnemonic : String)
deriving DecidableEq, Repr

/-- What a command answers. -/
abbrev Answer := Host.Outcome State Fault Refusal

/-- The part right after a cold device reset, in instar 0 (R439, R455, R457): every register at its reset value, no SRAM word in
error, GDDR7 undefined (R457), fuses blank (log entry 4), no host adapter's transaction pending. -/
def State.reset : State :=
  { pending := []
    pages := ⟨⟨[], []⟩, [], [], [], []⟩
    mem := ⟨[], [⟨0, 0x004000000000, 0, 0⟩]⟩
    sram := []
    poison := []
    poisonB := []
    gddr := ⟨[], 0, 0, [], false, true⟩
    fh := ⟨[], [], none, [], [], [], 0⟩
    radio := { image := [], next := none, checking := none, taken := [], cells := [], serveAt := [], pools := [], inbox := []
               nextEntry := 0, reqs := [], harq := [], cache := [], decoded := [], latched := [], lost := [], nf := [], hits := []
               errCount := 0, fallbackAt := [], silentDue := [], spoiled := [] }
    silk := ⟨[], [], none⟩
    pod := ⟨[], [], [], [], [], [], [], [], [], [], [], []⟩
    demand := []
    crossings := []
    mesh := ⟨[], [], 0⟩
    time := { t := 0, res := 0, sync := none, delayReq := none, delaySeq := 0, syncSeq := 0, samples := [], master := none
              lockedTo := none, rearmLeft := none, stepRequested := false, refused := false, goodRun := 0, adjs := []
              holdoverFrom := 0, cmp := [], lfcFrozen := none, qlPending := [], ppsMarked := none }
    seq := { beat := 0, beatStart := 0, active := none, epoch := 0, loading := none, taken := [], first := false
             armed := none, next := 0, closeAt := none, closingDrain := none, realign := none, openWins := [], drains := []
             charges := [], cuts := [], openWork := [], clearing := [], lastOwner := [] }
    power := { changes := [], rails := [], turn := 1, emerging := [], gapLevels := [], gapHolds := [], pairWait := [], steps := [], readings := [], lowSince := none
               lastMean := none, lastUndo := none, thermal := [], thermHolds := [], tripped := [], railOut := []
               laserSince := [] }
    bbox := { rings := [], written := [], frozen := false, flush := none, snapshot := none, seq := 0, newest := none, region := none, hostCut := false }
    boot := { fuses := { bank := [], svn := 0, revoked0 := false, revoked1 := false, edHash0 := 0, edHash1 := 0
                         mldsaHash0 := 0, mldsaHash1 := 0, secret := [], trims := [] }
              loading := none, bundle := [], hdr := none, log := [], digest := 0, powered := true, railsOn := 5, job := none
              defects := [], lost := [], lanesTrained := false }
    staido := ⟨[], [], 0, false, true, false⟩
    fns := []
    cocoons := []
    keys := []
    runs := []
    nextRun := 0
    waits := []
    cores := []
    posts := []
    fatal := none
    thermTrip := false
    trst := false
    out := []
    draws := 0 }

end Sys2Proof.Machine
end

