-- ==== Sys2Proof/Machine/Memory.lean ====
section
/-!
DEFINITION. The named operations over memory: bytes, little-endian values (R5), stretches cleared (R301, R302), copied or
left undefined (R457), and the address map of R18.
-/
namespace Sys2Proof.Machine

/-! ### The address map (R18, R79) -/

/-- First address of the scratchpad of logical core `n`. -/
def spBase (n : Nat) : Nat := 0x004000000000 + n * 0x200000
/-- First address of the accumulator store of logical core `n`. -/
def accBase (n : Nat) : Nat := 0x004100000000 + n * 0x40000
/-- First address of the cluster store of logical cluster `g`. -/
def csBase (g : Nat) : Nat := 0x004200000000 + g * 0x1000000
/-- First address of the core-state window of logical core `n`. -/
def cwBase (n : Nat) : Nat := 0x004300000000 + n * 0x10000
/-- The logical cluster of logical core `n`: die × 8 + cluster. -/
def clusterOf (n : Nat) : Nat := n / 8
/-- The C-die of logical core `n`. -/
def dieOf (n : Nat) : Nat := n / 64
/-- First address of the host window. -/
def hostBase : Nat := 0x800000000000
/-- The device-local part of a global address, and its device id (R19). -/
def localOf (a : Nat) : Nat := a % 2 ^ 48
def deviceOf (a : Nat) : Nat := a / 2 ^ 48 % 2 ^ 16

/-! ### Little-endian values (R5) -/

/-- The value of little-endian bytes. -/
def leNat : List Byte → Nat
  | [] => 0
  | b :: r => b.toNat + 256 * leNat r

/-- The `n` little-endian bytes of a value. -/
def leBytes : Nat → Nat → List Byte
  | 0, _ => []
  | n + 1, v => BitVec.ofNat 8 v :: leBytes n (v / 256)

/-- `len` bytes of a list from `off` on, zeros where it ends. -/
def slice (l : List Byte) (off len : Nat) : List Byte :=
  let r := (l.drop off).take len
  r ++ List.replicate (len - r.length) 0

/-- The little-endian value of `len` bytes at `off` of an image or entry. -/
def fieldAt (l : List Byte) (off len : Nat) : Nat := leNat (slice l off len)

/-- Bits `lo` to `lo + w − 1` of a value. -/
def bitsOf (v lo w : Nat) : Nat := v / 2 ^ lo % 2 ^ w

/-- The value with bits `lo` to `lo + w − 1` replaced. -/
def putBits (v lo w x : Nat) : Nat :=
  v % 2 ^ lo + 2 ^ lo * (x % 2 ^ w) + 2 ^ (lo + w) * (v / 2 ^ (lo + w))

/-- The two's-complement reading of the low `w` bits. -/
def toSigned (w v : Nat) : Int :=
  let x := v % 2 ^ w
  if x < 2 ^ (w - 1) then (x : Int) else (x : Int) - 2 ^ w

/-- The low `w` bits of an integer. -/
def ofSigned (w : Nat) (v : Int) : Nat := (v % (2 ^ w : Int)).toNat

/-- A signed value saturated to `w` bits, as its `w` bits. -/
def satSigned (w : Nat) (v : Int) : Nat :=
  if v < -(2 ^ (w - 1) : Int) then ofSigned w (-(2 ^ (w - 1) : Int))
  else if v > 2 ^ (w - 1) - 1 then 2 ^ (w - 1) - 1
  else ofSigned w v

/-! ### Bytes of memory -/

/-- Does the undefined stretch hold the address? -/
def Undef.has (u : Undef) (a : Nat) : Bool := Nat.ble u.base a && Nat.blt a (u.base + u.len)

/-- What an address not listed reads as: zero, or a free value inside an undefined stretch. -/
def Memory.unlisted (m : Memory) (a : Nat) : Byte :=
  match m.undef.find? fun u => u.has a with
  | some u => Config.undefinedByte u.stretch (u.origin + (a - u.base))
  | none => 0

/-- Read one byte. -/
def Memory.readByte (m : Memory) (a : Nat) : Byte :=
  match Assoc.find a m.cells with
  | some b => b
  | none => m.unlisted a

/-- The parts of an undefined stretch outside [a, a + len). -/
def Undef.cut (a len : Nat) (u : Undef) : List Undef :=
  let lo := u.base
  let hi := u.base + u.len
  (if lo < a then [⟨lo, min hi a - lo, u.stretch, u.origin⟩] else []) ++
  (if a + len < hi then [⟨max lo (a + len), hi - max lo (a + len), u.stretch, u.origin + (max lo (a + len) - lo)⟩] else [])

/-- Memory in which no byte of [a, a + len) is undefined. -/
def Memory.define (m : Memory) (a len : Nat) : Memory :=
  { m with undef := m.undef.flatMap (Undef.cut a len) }

/-- Write one byte. -/
def Memory.writeByte (m : Memory) (a : Nat) (b : Byte) : Memory :=
  let m := m.define a 1
  if b = 0 then { m with cells := Assoc.del a m.cells }
  else { m with cells := Assoc.put a b m.cells }

/-- Read `n` bytes from `a` on. -/
def Memory.read (m : Memory) (a : Nat) : Nat → List Byte
  | 0 => []
  | n + 1 => m.readByte a :: m.read (a + 1) n

/-- Write bytes from `a` on. -/
def Memory.write (m : Memory) (a : Nat) : List Byte → Memory
  | [] => m
  | b :: r => (m.writeByte a b).write (a + 1) r

/-- Write zero to [a, a + len) (R106, R296, R301, R302). -/
def Memory.clear (m : Memory) (a len : Nat) : Memory :=
  { cells := m.cells.filter fun c => !(Nat.ble a c.1 && Nat.blt c.1 (a + len))
    undef := m.undef.flatMap (Undef.cut a len) }

/-- Leave [a, a + len) undefined (R457, R345). -/
def Memory.undefine (m : Memory) (a len stretch : Nat) : Memory :=
  let m := m.clear a len
  { m with undef := ⟨a, len, stretch, 0⟩ :: m.undef }

/-- The part of an undefined stretch inside [src, src + len), moved to `dst`. -/
def Undef.moved (src dst len : Nat) (u : Undef) : List Undef :=
  let lo := max u.base src
  let hi := min (u.base + u.len) (src + len)
  if lo < hi then [⟨lo - src + dst, hi - lo, u.stretch, u.origin + (lo - u.base)⟩] else []

/-- Copy [src, src + len) to `dst`, as it stood before. -/
def Memory.copy (m : Memory) (src dst len : Nat) : Memory :=
  let cells := m.cells.filter fun c => Nat.ble src c.1 && Nat.blt c.1 (src + len)
  let m' := m.clear dst len
  { cells := cells.foldl (fun l c => Assoc.put (c.1 - src + dst) c.2 l) m'.cells
    undef := m.undef.flatMap (Undef.moved src dst len) ++ m'.undef }

/-- The little-endian value of `n` bytes at `a`. -/
def Memory.readLe (m : Memory) (a n : Nat) : Nat := leNat (m.read a n)

/-- Write a value as `n` little-endian bytes at `a`. -/
def Memory.writeLe (m : Memory) (a n v : Nat) : Memory := m.write a (leBytes n v)

/-- Strictly rising addresses from `lo` on. -/
def cellsRise : Nat → List Host.Cell → Bool
  | _, [] => true
  | lo, c :: r => Nat.ble lo c.1 && cellsRise (c.1 + 1) r

/-- The canonical form: rising addresses, no zero listed, nothing listed inside an undefined stretch. -/
def Memory.wf (m : Memory) : Bool :=
  cellsRise 0 m.cells &&
    m.cells.all fun c => !(c.2 == 0) && !(m.undef.any fun u => u.has c.1)

end Sys2Proof.Machine
end

