-- ==== Sys2Proof/Machine/RegFields.lean ====
section
/-!
DEFINITION. Every field of every register page, under the name the spec gives it (PAGE.REGISTER.FIELD, 00_scope.md),
as the page, byte offset, lowest bit and width its register table states. Instance pages take their instance
(R491); a register or field that the table indexes takes its index after that.
-/
namespace Sys2Proof.Machine

/-- Where a register field lies: page number, byte offset in the page, lowest bit, width. -/
structure Fld where
  page : Nat
  off : Nat
  lo : Nat
  w : Nat
deriving DecidableEq, Repr

/-- The function page of a Staido function number of R390: 0–255 tenant, 256 management, 257 radio (R410). -/
def fnPage (f : Nat) : Nat :=
  if f < 256 then 0x140 + f else if f = 256 then 0x241 else 0x242

/-! ### DIE (R42 of 01_package.md) -/

def Reg.DIE.DIE_INFO.DIE (d : Nat) : Fld := ⟨0x300 + 8 * d, 0x800, 0, 5⟩
def Reg.DIE.DIE_INFO.EXPOSED (d : Nat) : Fld := ⟨0x300 + 8 * d, 0x800, 8, 7⟩
def Reg.DIE.DIE_INFO.SPARES_FREE (d : Nat) : Fld := ⟨0x300 + 8 * d, 0x800, 16, 2⟩
def Reg.DIE.DIE_INFO.MAP_GEN (d : Nat) : Fld := ⟨0x300 + 8 * d, 0x800, 24, 8⟩
def Reg.DIE.CORE_MAP.PHYS (d i k : Nat) : Fld := ⟨0x300 + 8 * d, 0x810 + 4 * i, 0 + 8 * k, 7⟩
def Reg.DIE.CORE_MAP.DIS (d i k : Nat) : Fld := ⟨0x300 + 8 * d, 0x810 + 4 * i, 7 + 8 * k, 1⟩
def Reg.DIE.OPPOINT.CUR (d : Nat) : Fld := ⟨0x300 + 8 * d, 0x860, 0, 2⟩
def Reg.DIE.OPPOINT.LIMIT (d : Nat) : Fld := ⟨0x300 + 8 * d, 0x860, 8, 2⟩
def Reg.DIE.OPPOINT.PINNED (d : Nat) : Fld := ⟨0x300 + 8 * d, 0x860, 16, 1⟩
def Reg.DIE.RAIL.MV (d : Nat) : Fld := ⟨0x300 + 8 * d, 0x864, 0, 12⟩
def Reg.DIE.TEMP.DEGC (d : Nat) : Fld := ⟨0x300 + 8 * d, 0x868, 0, 16⟩
def Reg.DIE.CLK_STATUS.CORE_LOCK (d : Nat) : Fld := ⟨0x300 + 8 * d, 0x870, 0, 1⟩
def Reg.DIE.CLK_STATUS.MESH_LOCK (d : Nat) : Fld := ⟨0x300 + 8 * d, 0x870, 1, 1⟩
def Reg.DIE.CLK_STATUS.REF_HOLD (d : Nat) : Fld := ⟨0x300 + 8 * d, 0x870, 2, 1⟩
def Reg.DIE.EDGE_UP.UP (d : Nat) : Fld := ⟨0x300 + 8 * d, 0x874, 0, 4⟩
def Reg.DIE.ERR.CDC_TIMEOUT (d : Nat) : Fld := ⟨0x300 + 8 * d, 0x20, 24, 1⟩
def Reg.DIE.ERR.CLK_UNLOCK (d : Nat) : Fld := ⟨0x300 + 8 * d, 0x20, 25, 1⟩
def Reg.DIE.ERR.REF_HOLD (d : Nat) : Fld := ⟨0x300 + 8 * d, 0x20, 26, 1⟩
def Reg.DIE.ERR.NEIGHBOUR_LIMIT (d : Nat) : Fld := ⟨0x300 + 8 * d, 0x20, 27, 1⟩

/-! ### SEQ (R73 of 02_wingbeat.md) -/

def Reg.SEQ.STATE.STATE : Fld := ⟨0x010, 0x14, 0, 3⟩
def Reg.SEQ.BEAT_CFG.LEN : Fld := ⟨0x010, 0x100, 0, 2⟩
def Reg.SEQ.BEAT_CFG.FREE_RUN : Fld := ⟨0x010, 0x100, 8, 1⟩
def Reg.SEQ.TABLE_ADDR_LO.ADDR_LO : Fld := ⟨0x010, 0x108, 0, 32⟩
def Reg.SEQ.TABLE_ADDR_HI.ADDR_HI : Fld := ⟨0x010, 0x10c, 0, 16⟩
def Reg.SEQ.BEAT_LO.BEAT_LO : Fld := ⟨0x010, 0x110, 0, 32⟩
def Reg.SEQ.BEAT_HI.BEAT_HI : Fld := ⟨0x010, 0x114, 0, 32⟩
def Reg.SEQ.BEAT_GEN.GEN : Fld := ⟨0x010, 0x118, 0, 16⟩
def Reg.SEQ.ROW.ROW : Fld := ⟨0x010, 0x11c, 0, 10⟩
def Reg.SEQ.ROW.POS : Fld := ⟨0x010, 0x11c, 16, 8⟩
def Reg.SEQ.EPOCH_LO.EPOCH : Fld := ⟨0x010, 0x120, 0, 32⟩
def Reg.SEQ.EPOCH_HI.EPOCH : Fld := ⟨0x010, 0x124, 0, 32⟩
def Reg.SEQ.NEXT_LO.NEXT : Fld := ⟨0x010, 0x128, 0, 32⟩
def Reg.SEQ.NEXT_HI.NEXT : Fld := ⟨0x010, 0x12c, 0, 32⟩
def Reg.SEQ.LIVE.GUARD_NS : Fld := ⟨0x010, 0x130, 0, 20⟩
def Reg.SEQ.LIVE.PREEMPT_BEATS : Fld := ⟨0x010, 0x130, 24, 7⟩
def Reg.SEQ.REFUSAL_ROW.ROW : Fld := ⟨0x010, 0x134, 0, 10⟩
def Reg.SEQ.REFUSAL_ROW.ENTRY : Fld := ⟨0x010, 0x134, 16, 16⟩
def Reg.SEQ.CANCEL.CANCEL : Fld := ⟨0x010, 0x138, 0, 1⟩
def Reg.SEQ.STATUS.STEP_WAIT : Fld := ⟨0x010, 0x13c, 0, 1⟩
def Reg.SEQ.STATUS.RADIO_SHORT : Fld := ⟨0x010, 0x13c, 1, 1⟩
def Reg.SEQ.STATUS.REALIGNING : Fld := ⟨0x010, 0x13c, 2, 1⟩
def Reg.SEQ.RADIO_OVERRUN_COUNT.COUNT : Fld := ⟨0x010, 0x140, 0, 32⟩
def Reg.SEQ.RUNAWAY_COUNT.COUNT : Fld := ⟨0x010, 0x144, 0, 32⟩
def Reg.SEQ.ERR.RADIO_OVERRUN : Fld := ⟨0x010, 0x20, 0, 1⟩
def Reg.SEQ.ERR.RUNAWAY : Fld := ⟨0x010, 0x20, 1, 1⟩
def Reg.SEQ.ERR.FENCE : Fld := ⟨0x010, 0x20, 2, 1⟩
def Reg.SEQ.ERR.CHRYSALIS_INCOMPLETE : Fld := ⟨0x010, 0x20, 3, 1⟩
def Reg.SEQ.ERR.REALIGN : Fld := ⟨0x010, 0x20, 4, 1⟩
def Reg.SEQ.ERR.RADIO_SHORT : Fld := ⟨0x010, 0x20, 5, 1⟩
def Reg.SEQ.ERR.TABLE_PARITY : Fld := ⟨0x010, 0x20, 6, 1⟩

/-! ### SEQ_DEBT (R76 of 02_wingbeat.md) -/

def Reg.SEQ_DEBT.DEBT.DEBT_NS (i : Nat) : Fld := ⟨0x011, 0x100 + 4 * i, 0, 24⟩
def Reg.SEQ_DEBT.DEBT.FENCED (i : Nat) : Fld := ⟨0x011, 0x100 + 4 * i, 31, 1⟩

/-! ### CLUSTER (R114, R137 of 03_core.md and 04_array.md) -/

def Reg.CLUSTER.CORE.STATE (g i : Nat) : Fld := ⟨0x300 + g, 0x100 + 16 * i, 0, 3⟩
def Reg.CLUSTER.CORE.OWNER (g i : Nat) : Fld := ⟨0x300 + g, 0x100 + 16 * i, 8, 6⟩
def Reg.CLUSTER.CORE.SPARE (g i : Nat) : Fld := ⟨0x300 + g, 0x100 + 16 * i, 16, 1⟩
def Reg.CLUSTER.FAULT.CODE (g i : Nat) : Fld := ⟨0x300 + g, 0x104 + 16 * i, 0, 8⟩
def Reg.CLUSTER.FAULT.SLOT (g i : Nat) : Fld := ⟨0x300 + g, 0x104 + 16 * i, 8, 8⟩
def Reg.CLUSTER.FAULT.PC (g i : Nat) : Fld := ⟨0x300 + g, 0x104 + 16 * i, 16, 12⟩
def Reg.CLUSTER.SRAM_CE.COUNT (g i : Nat) : Fld := ⟨0x300 + g, 0x108 + 16 * i, 0, 16⟩
def Reg.CLUSTER.CS_CE.COUNT (g : Nat) : Fld := ⟨0x300 + g, 0x180, 0, 16⟩
def Reg.CLUSTER.WAY_OWNER.OWNER (g i k : Nat) : Fld := ⟨0x300 + g, 0x200 + 4 * i, 0 + 8 * k, 8⟩
def Reg.CLUSTER.ERR.CORE_FAULT (g : Nat) : Fld := ⟨0x300 + g, 0x20, 0, 8⟩
def Reg.CLUSTER.ERR.CORE_UE (g : Nat) : Fld := ⟨0x300 + g, 0x20, 8, 8⟩
def Reg.CLUSTER.ERR.CS_UE (g : Nat) : Fld := ⟨0x300 + g, 0x20, 16, 1⟩
def Reg.CLUSTER.ERR.CE_ANY (g : Nat) : Fld := ⟨0x300 + g, 0x20, 17, 1⟩
def Reg.CLUSTER.ARRAY.SROW0_FOR (g i : Nat) : Fld := ⟨0x300 + g, 0x240 + 4 * i, 0, 5⟩
def Reg.CLUSTER.ARRAY.SROW0_ON (g i : Nat) : Fld := ⟨0x300 + g, 0x240 + 4 * i, 5, 1⟩
def Reg.CLUSTER.ARRAY.SROW1_FOR (g i : Nat) : Fld := ⟨0x300 + g, 0x240 + 4 * i, 8, 5⟩
def Reg.CLUSTER.ARRAY.SROW1_ON (g i : Nat) : Fld := ⟨0x300 + g, 0x240 + 4 * i, 13, 1⟩
def Reg.CLUSTER.ARRAY.SCOL0_FOR (g i : Nat) : Fld := ⟨0x300 + g, 0x240 + 4 * i, 16, 5⟩
def Reg.CLUSTER.ARRAY.SCOL0_ON (g i : Nat) : Fld := ⟨0x300 + g, 0x240 + 4 * i, 21, 1⟩
def Reg.CLUSTER.ARRAY.SCOL1_FOR (g i : Nat) : Fld := ⟨0x300 + g, 0x240 + 4 * i, 24, 5⟩
def Reg.CLUSTER.ARRAY.SCOL1_ON (g i : Nat) : Fld := ⟨0x300 + g, 0x240 + 4 * i, 29, 1⟩
def Reg.CLUSTER.ARRAY.BY_TEST (g i : Nat) : Fld := ⟨0x300 + g, 0x240 + 4 * i, 31, 1⟩

/-! ### RADIO (R228 of 07_radio.md) -/

def Reg.RADIO.CELL_TBL_LO.ADDR_LO : Fld := ⟨0x080, 0x100, 0, 32⟩
def Reg.RADIO.CELL_TBL_HI.ADDR_HI : Fld := ⟨0x080, 0x104, 0, 16⟩
def Reg.RADIO.FALLBACK.HOLD_S : Fld := ⟨0x080, 0x108, 0, 5⟩
def Reg.RADIO.ERR_RING_LO.ADDR : Fld := ⟨0x080, 0x110, 0, 32⟩
def Reg.RADIO.ERR_RING_HI.ADDR : Fld := ⟨0x080, 0x114, 0, 32⟩
def Reg.RADIO.ERR_RING_LEN.ENTRIES : Fld := ⟨0x080, 0x118, 0, 16⟩
def Reg.RADIO.STATUS.RSTATE : Fld := ⟨0x080, 0x11c, 0, 2⟩
def Reg.RADIO.STATUS.CFG_PENDING : Fld := ⟨0x080, 0x11c, 8, 1⟩
def Reg.RADIO.RLU_USED.EIGHTHS : Fld := ⟨0x080, 0x120, 0, 13⟩
def Reg.RADIO.CFG_BEAT_LO.BEAT : Fld := ⟨0x080, 0x124, 0, 32⟩
def Reg.RADIO.CFG_BEAT_HI.BEAT : Fld := ⟨0x080, 0x128, 0, 32⟩
def Reg.RADIO.LATE_COUNT.COUNT : Fld := ⟨0x080, 0x130, 0, 32⟩
def Reg.RADIO.SPOILED_COUNT.COUNT : Fld := ⟨0x080, 0x134, 0, 32⟩
def Reg.RADIO.HARQ_EVICT.COUNT : Fld := ⟨0x080, 0x138, 0, 32⟩
def Reg.RADIO.HARQ_LOST.COUNT : Fld := ⟨0x080, 0x13c, 0, 32⟩
def Reg.RADIO.PRACH_QREJ.COUNT : Fld := ⟨0x080, 0x140, 0, 32⟩
def Reg.RADIO.ERR.LATE : Fld := ⟨0x080, 0x20, 0, 1⟩
def Reg.RADIO.ERR.SPOILED : Fld := ⟨0x080, 0x20, 1, 1⟩
def Reg.RADIO.ERR.HARQ_LOST : Fld := ⟨0x080, 0x20, 2, 1⟩
def Reg.RADIO.ERR.HOST_LOSS : Fld := ⟨0x080, 0x20, 3, 1⟩
def Reg.RADIO.ERR.CORE_FAULT : Fld := ⟨0x080, 0x20, 4, 1⟩
def Reg.RADIO.ERR.ENGINE : Fld := ⟨0x080, 0x20, 5, 1⟩

/-! ### RADIO_ENG (R229 of 07_radio.md) -/

def Reg.RADIO_ENG.DEC_UP_LO.UP : Fld := ⟨0x081, 0x100, 0, 32⟩
def Reg.RADIO_ENG.DEC_UP_HI.UP : Fld := ⟨0x081, 0x104, 0, 16⟩
def Reg.RADIO_ENG.ENC_UP.UP : Fld := ⟨0x081, 0x108, 0, 16⟩
def Reg.RADIO_ENG.POLAR_UP.UP : Fld := ⟨0x081, 0x10c, 0, 24⟩
def Reg.RADIO_ENG.FFT_UP.UP : Fld := ⟨0x081, 0x110, 0, 8⟩
def Reg.RADIO_ENG.ENG_CE.COUNT : Fld := ⟨0x081, 0x114, 0, 32⟩

/-! ### FH (R257 of 08_fronthaul.md) -/

def Reg.FH.RU_TBL_LO.ADDR_LO : Fld := ⟨0x060, 0x100, 0, 32⟩
def Reg.FH.RU_TBL_HI.ADDR_HI : Fld := ⟨0x060, 0x104, 0, 16⟩
def Reg.FH.MAX_FRAME.BYTES : Fld := ⟨0x060, 0x108, 0, 14⟩
def Reg.FH.STATUS.RU_PENDING : Fld := ⟨0x060, 0x10c, 0, 1⟩
def Reg.FH.ERR.NO_RU : Fld := ⟨0x060, 0x20, 0, 1⟩
def Reg.FH.ERR.ANY_PORT : Fld := ⟨0x060, 0x20, 1, 1⟩

/-! ### FH_PORT (R258 of 08_fronthaul.md) -/

def Reg.FH_PORT.PORT_CFG.MODE (p : Nat) : Fld := ⟨0x061 + p, 0x100, 0, 2⟩
def Reg.FH_PORT.PORT_CFG.UDP (p : Nat) : Fld := ⟨0x061 + p, 0x100, 2, 1⟩
def Reg.FH_PORT.PORT_CFG.IPV6 (p : Nat) : Fld := ⟨0x061 + p, 0x100, 3, 1⟩
def Reg.FH_PORT.PORT_CFG.VLAN (p : Nat) : Fld := ⟨0x061 + p, 0x100, 4, 1⟩
def Reg.FH_PORT.PCP.S (p : Nat) : Fld := ⟨0x061 + p, 0x104, 0, 3⟩
def Reg.FH_PORT.PCP.C (p : Nat) : Fld := ⟨0x061 + p, 0x104, 4, 3⟩
def Reg.FH_PORT.PCP.U (p : Nat) : Fld := ⟨0x061 + p, 0x104, 8, 3⟩
def Reg.FH_PORT.PCP.M (p : Nat) : Fld := ⟨0x061 + p, 0x104, 12, 3⟩
def Reg.FH_PORT.VID.VID (p : Nat) : Fld := ⟨0x061 + p, 0x108, 0, 12⟩
def Reg.FH_PORT.MAC_LO.MAC (p : Nat) : Fld := ⟨0x061 + p, 0x10c, 0, 32⟩
def Reg.FH_PORT.MAC_HI.MAC (p : Nat) : Fld := ⟨0x061 + p, 0x110, 0, 16⟩
def Reg.FH_PORT.UDP_PORT.PORT (p : Nat) : Fld := ⟨0x061 + p, 0x114, 0, 16⟩
def Reg.FH_PORT.IP_ADDR.IP (p i : Nat) : Fld := ⟨0x061 + p, 0x118 + 4 * i, 0, 32⟩
def Reg.FH_PORT.OVERHEAD.BYTES (p : Nat) : Fld := ⟨0x061 + p, 0x128, 0, 9⟩
def Reg.FH_PORT.SCHED_LO.ADDR (p : Nat) : Fld := ⟨0x061 + p, 0x12c, 0, 32⟩
def Reg.FH_PORT.SCHED_HI.ADDR (p : Nat) : Fld := ⟨0x061 + p, 0x130, 0, 16⟩
def Reg.FH_PORT.LINK.UP (p : Nat) : Fld := ⟨0x061 + p, 0x134, 0, 4⟩
def Reg.FH_PORT.TX_FRAMES.COUNT (p : Nat) : Fld := ⟨0x061 + p, 0x138, 0, 32⟩
def Reg.FH_PORT.RX_FRAMES.COUNT (p : Nat) : Fld := ⟨0x061 + p, 0x13c, 0, 32⟩
def Reg.FH_PORT.RX_FCS_ERR.COUNT (p : Nat) : Fld := ⟨0x061 + p, 0x140, 0, 32⟩
def Reg.FH_PORT.RX_UNKNOWN.COUNT (p : Nat) : Fld := ⟨0x061 + p, 0x144, 0, 32⟩
def Reg.FH_PORT.DL_LATE.COUNT (p : Nat) : Fld := ⟨0x061 + p, 0x148, 0, 32⟩
def Reg.FH_PORT.UL_LATE.COUNT (p : Nat) : Fld := ⟨0x061 + p, 0x14c, 0, 32⟩
def Reg.FH_PORT.BFP_SAT.COUNT (p : Nat) : Fld := ⟨0x061 + p, 0x150, 0, 32⟩
def Reg.FH_PORT.FEC_UNCORR.COUNT (p : Nat) : Fld := ⟨0x061 + p, 0x154, 0, 32⟩
def Reg.FH_PORT.LINK_DROP.COUNT (p : Nat) : Fld := ⟨0x061 + p, 0x158, 0, 32⟩
def Reg.FH_PORT.ERR.LINK_DOWN (p : Nat) : Fld := ⟨0x061 + p, 0x20, 0, 1⟩
def Reg.FH_PORT.ERR.DL_LATE (p : Nat) : Fld := ⟨0x061 + p, 0x20, 1, 1⟩
def Reg.FH_PORT.ERR.UL_LATE (p : Nat) : Fld := ⟨0x061 + p, 0x20, 2, 1⟩
def Reg.FH_PORT.ERR.FEC_UNCORR (p : Nat) : Fld := ⟨0x061 + p, 0x20, 3, 1⟩
def Reg.FH_PORT.ERR.BFP_SAT (p : Nat) : Fld := ⟨0x061 + p, 0x20, 4, 1⟩

/-! ### TIME (R287 of 09_time.md) -/

def Reg.TIME.STATE.STATE : Fld := ⟨0x040, 0x14, 0, 2⟩
def Reg.TIME.NOW_FRAC.FRAC : Fld := ⟨0x040, 0x100, 0, 16⟩
def Reg.TIME.NOW_NS.NS : Fld := ⟨0x040, 0x104, 0, 30⟩
def Reg.TIME.NOW_SEC_LO.SEC : Fld := ⟨0x040, 0x108, 0, 32⟩
def Reg.TIME.NOW_SEC_HI.SEC : Fld := ⟨0x040, 0x10c, 0, 16⟩
def Reg.TIME.NOW48_LO.N : Fld := ⟨0x040, 0x110, 0, 32⟩
def Reg.TIME.NOW48_HI.N : Fld := ⟨0x040, 0x114, 0, 16⟩
def Reg.TIME.EPOCH_OFS_LO.OFS : Fld := ⟨0x040, 0x118, 0, 32⟩
def Reg.TIME.EPOCH_OFS_HI.OFS : Fld := ⟨0x040, 0x11c, 0, 16⟩
def Reg.TIME.PTP_CFG.DOMAIN : Fld := ⟨0x040, 0x120, 0, 8⟩
def Reg.TIME.PTP_CFG.DA : Fld := ⟨0x040, 0x120, 8, 1⟩
def Reg.TIME.CLOCK_ID_LO.ID : Fld := ⟨0x040, 0x124, 0, 32⟩
def Reg.TIME.CLOCK_ID_HI.ID : Fld := ⟨0x040, 0x128, 0, 32⟩
def Reg.TIME.SERVO_CFG.JUMP_NS : Fld := ⟨0x040, 0x12c, 0, 20⟩
def Reg.TIME.SERVO_CFG.BW : Fld := ⟨0x040, 0x12c, 24, 3⟩
def Reg.TIME.SERVO_CFG.FREQ_SRC : Fld := ⟨0x040, 0x12c, 28, 2⟩
def Reg.TIME.SERVO_CFG.PHASE_SRC : Fld := ⟨0x040, 0x12c, 30, 1⟩
def Reg.TIME.SERVO_CTRL.REARM : Fld := ⟨0x040, 0x130, 0, 1⟩
def Reg.TIME.STATUS.ACQUIRED : Fld := ⟨0x040, 0x134, 0, 1⟩
def Reg.TIME.STATUS.STEP_ARM : Fld := ⟨0x040, 0x134, 1, 1⟩
def Reg.TIME.STATUS.STEP_PENDING : Fld := ⟨0x040, 0x134, 2, 1⟩
def Reg.TIME.STATUS.SYNCE_LOCK : Fld := ⟨0x040, 0x134, 3, 1⟩
def Reg.TIME.STATUS.REF10_LOCK : Fld := ⟨0x040, 0x134, 4, 1⟩
def Reg.TIME.STATUS.MASTER_VALID : Fld := ⟨0x040, 0x134, 5, 1⟩
def Reg.TIME.OFFSET_NS.OFS : Fld := ⟨0x040, 0x138, 0, 32⟩
def Reg.TIME.REFUSED_NS.OFS : Fld := ⟨0x040, 0x13c, 0, 32⟩
def Reg.TIME.FREQ_ADJ.ADJ : Fld := ⟨0x040, 0x140, 0, 32⟩
def Reg.TIME.STEP_COUNT.COUNT : Fld := ⟨0x040, 0x144, 0, 32⟩
def Reg.TIME.HOLDOVER_S.S : Fld := ⟨0x040, 0x148, 0, 32⟩
def Reg.TIME.GM_ID_LO.ID : Fld := ⟨0x040, 0x14c, 0, 32⟩
def Reg.TIME.GM_ID_HI.ID : Fld := ⟨0x040, 0x150, 0, 32⟩
def Reg.TIME.UTC_OFFSET.S : Fld := ⟨0x040, 0x154, 0, 16⟩
def Reg.TIME.ROLE.ROLE (i : Nat) : Fld := ⟨0x040, 0x158 + 4 * i, 0, 32⟩
def Reg.TIME.PPS_OUT.EN : Fld := ⟨0x040, 0x168, 0, 1⟩
def Reg.TIME.PPS_OUT.FORCE : Fld := ⟨0x040, 0x168, 1, 1⟩
def Reg.TIME.PPS_OUT.WIDTH_MS : Fld := ⟨0x040, 0x168, 8, 10⟩
def Reg.TIME.PPS_OUT_COMP.NS : Fld := ⟨0x040, 0x16c, 0, 32⟩
def Reg.TIME.PPS_IN_NS.NS : Fld := ⟨0x040, 0x170, 0, 30⟩
def Reg.TIME.PPS_IN_SEC.SEC : Fld := ⟨0x040, 0x174, 0, 32⟩
def Reg.TIME.TOD_SEC.SEC : Fld := ⟨0x040, 0x178, 0, 32⟩
def Reg.TIME.HOLD_CLASS_S.S : Fld := ⟨0x040, 0x17c, 0, 16⟩
def Reg.TIME.SYNCE.RX_QL : Fld := ⟨0x040, 0x180, 0, 4⟩
def Reg.TIME.SYNCE.TX_QL : Fld := ⟨0x040, 0x180, 8, 4⟩
def Reg.TIME.ERR.JUMP_REFUSED : Fld := ⟨0x040, 0x20, 0, 1⟩
def Reg.TIME.ERR.MASTER_CHANGE : Fld := ⟨0x040, 0x20, 1, 1⟩
def Reg.TIME.ERR.ANNOUNCE_TIMEOUT : Fld := ⟨0x040, 0x20, 2, 1⟩
def Reg.TIME.ERR.STEP_APPLIED : Fld := ⟨0x040, 0x20, 3, 1⟩
def Reg.TIME.ERR.SYNCE_LOST : Fld := ⟨0x040, 0x20, 4, 1⟩
def Reg.TIME.ERR.REF10_LOST : Fld := ⟨0x040, 0x20, 5, 1⟩
def Reg.TIME.ERR.NO_SPLANE : Fld := ⟨0x040, 0x20, 6, 1⟩
def Reg.TIME.ERR.PPS_IN_MISSING : Fld := ⟨0x040, 0x20, 7, 1⟩

/-! ### TIME_CMP (R288 of 09_time.md) -/

def Reg.TIME_CMP.TARGET_LO.T (i : Nat) : Fld := ⟨0x041, 0x100 + 16 * i, 0, 32⟩
def Reg.TIME_CMP.TARGET_HI.T (i : Nat) : Fld := ⟨0x041, 0x104 + 16 * i, 0, 16⟩
def Reg.TIME_CMP.CTRL.ARM (i : Nat) : Fld := ⟨0x041, 0x108 + 16 * i, 0, 1⟩
def Reg.TIME_CMP.CTRL.PERIODIC (i : Nat) : Fld := ⟨0x041, 0x108 + 16 * i, 1, 1⟩
def Reg.TIME_CMP.CTRL.SIG (i : Nat) : Fld := ⟨0x041, 0x108 + 16 * i, 2, 1⟩
def Reg.TIME_CMP.PERIOD_NS.NS (i : Nat) : Fld := ⟨0x041, 0x10c + 16 * i, 0, 32⟩
def Reg.TIME_CMP.ERR.FIRED : Fld := ⟨0x041, 0x20, 0, 16⟩
def Reg.TIME_CMP.ERR.LATE : Fld := ⟨0x041, 0x20, 16, 16⟩

/-! ### LFC (R289 of 09_time.md) -/

def Reg.LFC.LFC_LO.COUNT : Fld := ⟨0x042, 0x100, 0, 15⟩
def Reg.LFC.LFC_LO.SUBFRAME : Fld := ⟨0x042, 0x100, 16, 4⟩
def Reg.LFC.LFC_HI.SFN : Fld := ⟨0x042, 0x104, 0, 10⟩
def Reg.LFC.LFC_HI.HFN : Fld := ⟨0x042, 0x104, 16, 10⟩
def Reg.LFC.LFC_HI.LATCHED : Fld := ⟨0x042, 0x104, 31, 1⟩
def Reg.LFC.LFC_OFFSET.TS : Fld := ⟨0x042, 0x108, 0, 32⟩
def Reg.LFC.LFC_STATUS.FROZEN : Fld := ⟨0x042, 0x10c, 0, 1⟩
def Reg.LFC.LFC_STATUS.JUMP_REFUSED : Fld := ⟨0x042, 0x10c, 1, 1⟩
def Reg.LFC.ERR.OFFSET_IGNORED : Fld := ⟨0x042, 0x20, 0, 1⟩

/-! ### TIME_PORT (R290 of 09_time.md) -/

def Reg.TIME_PORT.ING_ASYM.ASYM (p i : Nat) : Fld := ⟨0x048 + p, 0x100 + 16 * i, 0, 32⟩
def Reg.TIME_PORT.EG_ASYM.ASYM (p i : Nat) : Fld := ⟨0x048 + p, 0x104 + 16 * i, 0, 32⟩
def Reg.TIME_PORT.CFG.TX_SYNCE (p i : Nat) : Fld := ⟨0x048 + p, 0x108 + 16 * i, 0, 1⟩

/-! ### COCOON (R323 of 10_cocoons.md) -/

def Reg.COCOON.STATE.STATE (c : Nat) : Fld := ⟨0x100 + c, 0x14, 0, 3⟩
def Reg.COCOON.CFG.SEALED (c : Nat) : Fld := ⟨0x100 + c, 0x100, 0, 1⟩
def Reg.COCOON.CFG.ENC (c : Nat) : Fld := ⟨0x100 + c, 0x100, 1, 1⟩
def Reg.COCOON.CFG.KEY_SLOT (c : Nat) : Fld := ⟨0x100 + c, 0x100, 8, 6⟩
def Reg.COCOON.CFG.CHRY_SLOTS (c : Nat) : Fld := ⟨0x100 + c, 0x100, 16, 2⟩
def Reg.COCOON.EXT_COUNT.COUNT (c : Nat) : Fld := ⟨0x100 + c, 0x104, 0, 4⟩
def Reg.COCOON.EXT_BASE.BASE (c i : Nat) : Fld := ⟨0x100 + c, 0x110 + 8 * i, 0, 32⟩
def Reg.COCOON.EXT_LEN.LEN (c i : Nat) : Fld := ⟨0x100 + c, 0x114 + 8 * i, 0, 32⟩
def Reg.COCOON.SEM_BASE.BASE (c : Nat) : Fld := ⟨0x100 + c, 0x150, 0, 32⟩
def Reg.COCOON.CTX_BASE.BASE (c : Nat) : Fld := ⟨0x100 + c, 0x154, 0, 32⟩
def Reg.COCOON.CHRY_BASE.BASE (c : Nat) : Fld := ⟨0x100 + c, 0x158, 0, 32⟩
def Reg.COCOON.CHRY_LEN.LEN (c : Nat) : Fld := ⟨0x100 + c, 0x15c, 0, 32⟩
def Reg.COCOON.KEY.KEY (c i : Nat) : Fld := ⟨0x100 + c, 0x170 + 4 * i, 0, 32⟩
def Reg.COCOON.KEY_CTRL.LOAD (c : Nat) : Fld := ⟨0x100 + c, 0x1b0, 0, 1⟩
def Reg.COCOON.KEY_CTRL.ERASE (c : Nat) : Fld := ⟨0x100 + c, 0x1b0, 1, 1⟩
def Reg.COCOON.KEY_STATUS.VALID (c : Nat) : Fld := ⟨0x100 + c, 0x1b4, 0, 1⟩
def Reg.COCOON.STRIDE_NS_LO.NS (c : Nat) : Fld := ⟨0x100 + c, 0x1c0, 0, 32⟩
def Reg.COCOON.STRIDE_NS_HI.NS (c : Nat) : Fld := ⟨0x100 + c, 0x1c4, 0, 32⟩
def Reg.COCOON.STRIDES.COUNT (c : Nat) : Fld := ⟨0x100 + c, 0x1c8, 0, 32⟩
def Reg.COCOON.BEATS.COUNT (c : Nat) : Fld := ⟨0x100 + c, 0x1cc, 0, 32⟩
def Reg.COCOON.OVERRUN_NS_LO.NS (c : Nat) : Fld := ⟨0x100 + c, 0x1d0, 0, 32⟩
def Reg.COCOON.OVERRUN_NS_HI.NS (c : Nat) : Fld := ⟨0x100 + c, 0x1d4, 0, 32⟩
def Reg.COCOON.COMMANDS.COUNT (c : Nat) : Fld := ⟨0x100 + c, 0x1d8, 0, 32⟩
def Reg.COCOON.BIND.FUNCTION (c : Nat) : Fld := ⟨0x100 + c, 0x1e0, 0, 8⟩
def Reg.COCOON.BIND.UNBIND (c : Nat) : Fld := ⟨0x100 + c, 0x1e0, 8, 1⟩
def Reg.COCOON.ACTION.UNFENCE (c : Nat) : Fld := ⟨0x100 + c, 0x1f0, 0, 1⟩
def Reg.COCOON.FUNCS.BOUND (c i : Nat) : Fld := ⟨0x100 + c, 0x200 + 4 * i, 0, 32⟩
def Reg.COCOON.CHRY.HANDLE (c i : Nat) : Fld := ⟨0x100 + c, 0x220 + 4 * i, 0, 32⟩
def Reg.COCOON.CHRY_STAT.STATE (c i : Nat) : Fld := ⟨0x100 + c, 0x230 + 4 * i, 0, 2⟩
def Reg.COCOON.CHRY_STAT.CORES (c i : Nat) : Fld := ⟨0x100 + c, 0x230 + 4 * i, 4, 12⟩
def Reg.COCOON.CHRY_STAT.ABSORBED (c i : Nat) : Fld := ⟨0x100 + c, 0x230 + 4 * i, 16, 1⟩
def Reg.COCOON.ERR.RESTORE_SHAPE (c : Nat) : Fld := ⟨0x100 + c, 0x20, 0, 1⟩
def Reg.COCOON.ERR.CHRYSALIS_NO_ROOM (c : Nat) : Fld := ⟨0x100 + c, 0x20, 1, 1⟩
def Reg.COCOON.ERR.ABSORBED (c : Nat) : Fld := ⟨0x100 + c, 0x20, 2, 1⟩
def Reg.COCOON.ERR.FENCED (c : Nat) : Fld := ⟨0x100 + c, 0x20, 3, 1⟩

/-! ### FN (R324, R410, R411, R436 of 10_cocoons.md, 13_staido.md, 14_pod.md) -/

def Reg.FN.DIRTY_CFG.EN (f : Nat) : Fld := ⟨fnPage f, 0x800, 0, 1⟩
def Reg.FN.DIRTY_MAP_LO.ADDR (f : Nat) : Fld := ⟨fnPage f, 0x804, 0, 32⟩
def Reg.FN.DIRTY_MAP_HI.ADDR (f : Nat) : Fld := ⟨fnPage f, 0x808, 0, 16⟩
def Reg.FN.DIRTY_START_LO.ADDR (f : Nat) : Fld := ⟨fnPage f, 0x80c, 0, 32⟩
def Reg.FN.DIRTY_START_HI.ADDR (f : Nat) : Fld := ⟨fnPage f, 0x810, 0, 16⟩
def Reg.FN.DIRTY_PAGES.PAGES (f : Nat) : Fld := ⟨fnPage f, 0x814, 0, 32⟩
def Reg.FN.DIRTY_STATUS.ACTIVE (f : Nat) : Fld := ⟨fnPage f, 0x818, 0, 1⟩
def Reg.FN.DIRTY_STATUS.OVERFLOW (f : Nat) : Fld := ⟨fnPage f, 0x818, 1, 1⟩
def Reg.FN.DIRTY_STATUS.CFG_IGNORED (f : Nat) : Fld := ⟨fnPage f, 0x818, 2, 1⟩
def Reg.FN.FN_CFG.SV_BASE (f : Nat) : Fld := ⟨fnPage f, 0x100, 0, 12⟩
def Reg.FN.FN_CFG.SV_COUNT (f : Nat) : Fld := ⟨fnPage f, 0x100, 12, 9⟩
def Reg.FN.FN_CFG.WEIGHT (f : Nat) : Fld := ⟨fnPage f, 0x100, 24, 7⟩
def Reg.FN.FN_STATUS.STATE (f : Nat) : Fld := ⟨fnPage f, 0x104, 0, 2⟩
def Reg.FN.FN_STATUS.COCOON (f : Nat) : Fld := ⟨fnPage f, 0x104, 8, 6⟩
def Reg.FN.FN_STATUS.QHALT (f : Nat) : Fld := ⟨fnPage f, 0x104, 16, 1⟩
def Reg.FN.FN_STATUS.ERR_VEC_VALID (f : Nat) : Fld := ⟨fnPage f, 0x104, 17, 1⟩
def Reg.FN.FN_CTRL.CLEAR (f : Nat) : Fld := ⟨fnPage f, 0x108, 0, 1⟩
def Reg.FN.FN_CTRL.ERR_VEC (f : Nat) : Fld := ⟨fnPage f, 0x108, 8, 8⟩
def Reg.FN.TT_ROOT_LO.ROOT (f : Nat) : Fld := ⟨fnPage f, 0x10c, 0, 32⟩
def Reg.FN.TT_ROOT_HI.ROOT (f : Nat) : Fld := ⟨fnPage f, 0x110, 0, 20⟩
def Reg.FN.TT_CTRL.INVAL (f : Nat) : Fld := ⟨fnPage f, 0x114, 0, 1⟩
def Reg.FN.TT_CTRL.INVAL_BUSY (f : Nat) : Fld := ⟨fnPage f, 0x114, 1, 1⟩
def Reg.FN.TT_FAULT_LO.ADDR (f : Nat) : Fld := ⟨fnPage f, 0x118, 0, 32⟩
def Reg.FN.TT_FAULT_HI.ADDR (f : Nat) : Fld := ⟨fnPage f, 0x11c, 0, 16⟩
def Reg.FN.TT_FAULT_INFO.CAUSE (f : Nat) : Fld := ⟨fnPage f, 0x120, 0, 2⟩
def Reg.FN.SV_MASK.MASK (f i : Nat) : Fld := ⟨fnPage f, 0x140 + 4 * i, 0, 32⟩
def Reg.FN.SV_PEND.PEND (f i : Nat) : Fld := ⟨fnPage f, 0x160 + 4 * i, 0, 32⟩
def Reg.FN.STRIDE_NS_LO.NS (f : Nat) : Fld := ⟨fnPage f, 0x180, 0, 32⟩
def Reg.FN.STRIDE_NS_HI.NS (f : Nat) : Fld := ⟨fnPage f, 0x184, 0, 32⟩
def Reg.FN.STRIDES.TOTAL (f : Nat) : Fld := ⟨fnPage f, 0x188, 0, 32⟩
def Reg.FN.BEATS.TOTAL (f : Nat) : Fld := ⟨fnPage f, 0x18c, 0, 32⟩
def Reg.FN.OVERRUN_NS_LO.TOTAL (f : Nat) : Fld := ⟨fnPage f, 0x190, 0, 32⟩
def Reg.FN.OVERRUN_NS_HI.TOTAL (f : Nat) : Fld := ⟨fnPage f, 0x194, 0, 32⟩
def Reg.FN.COMMANDS.TOTAL (f : Nat) : Fld := ⟨fnPage f, 0x198, 0, 32⟩
def Reg.FN.BEAT_LO.LO (f : Nat) : Fld := ⟨fnPage f, 0x1a0, 0, 32⟩
def Reg.FN.BEAT_HI.HI (f : Nat) : Fld := ⟨fnPage f, 0x1a4, 0, 32⟩
def Reg.FN.NOW48_LO.LO (f : Nat) : Fld := ⟨fnPage f, 0x1a8, 0, 32⟩
def Reg.FN.NOW48_HI.HI (f : Nat) : Fld := ⟨fnPage f, 0x1ac, 0, 16⟩
def Reg.FN.ERR.TT_FAULT (f : Nat) : Fld := ⟨fnPage f, 0x20, 0, 1⟩
def Reg.FN.ERR.QHALT (f : Nat) : Fld := ⟨fnPage f, 0x20, 1, 1⟩
def Reg.FN.ERR.ERROR (f : Nat) : Fld := ⟨fnPage f, 0x20, 2, 1⟩
def Reg.FN.SQ_BASE_LO.BASE (f i : Nat) : Fld := ⟨fnPage f, 0x400 + 16 * i, 0, 32⟩
def Reg.FN.SQ_BASE_HI.BASE (f i : Nat) : Fld := ⟨fnPage f, 0x404 + 16 * i, 0, 16⟩
def Reg.FN.SQ_CFG.SIZE_LOG2 (f i : Nat) : Fld := ⟨fnPage f, 0x408 + 16 * i, 0, 4⟩
def Reg.FN.SQ_CFG.RING (f i : Nat) : Fld := ⟨fnPage f, 0x408 + 16 * i, 8, 6⟩
def Reg.FN.SQ_CFG.ENABLE (f i : Nat) : Fld := ⟨fnPage f, 0x408 + 16 * i, 16, 1⟩
def Reg.FN.SQ_HEAD.HEAD (f i : Nat) : Fld := ⟨fnPage f, 0x40c + 16 * i, 0, 12⟩
def Reg.FN.CQ_BASE_LO.BASE (f i : Nat) : Fld := ⟨fnPage f, 0xc00 + 16 * i, 0, 32⟩
def Reg.FN.CQ_BASE_HI.BASE (f i : Nat) : Fld := ⟨fnPage f, 0xc04 + 16 * i, 0, 16⟩
def Reg.FN.CQ_CFG.SIZE_LOG2 (f i : Nat) : Fld := ⟨fnPage f, 0xc08 + 16 * i, 0, 5⟩
def Reg.FN.CQ_CFG.ENABLE (f i : Nat) : Fld := ⟨fnPage f, 0xc08 + 16 * i, 16, 1⟩
def Reg.FN.CQ_CFG.COAL_EN (f i : Nat) : Fld := ⟨fnPage f, 0xc08 + 16 * i, 17, 1⟩
def Reg.FN.CQ_COAL.COUNT (f i : Nat) : Fld := ⟨fnPage f, 0xc0c + 16 * i, 0, 8⟩
def Reg.FN.CQ_COAL.TIME_US (f i : Nat) : Fld := ⟨fnPage f, 0xc0c + 16 * i, 8, 10⟩
def Reg.FN.CQ_COAL.VEC (f i : Nat) : Fld := ⟨fnPage f, 0xc0c + 16 * i, 24, 8⟩
def Reg.FN.RBODY_BASE_LO.BASE (f i : Nat) : Fld := ⟨fnPage f, 0xe00 + 16 * i, 0, 32⟩
def Reg.FN.RBODY_BASE_HI.BASE (f i : Nat) : Fld := ⟨fnPage f, 0xe04 + 16 * i, 0, 16⟩
def Reg.FN.RBODY_LEN.LEN (f i : Nat) : Fld := ⟨fnPage f, 0xe08 + 16 * i, 0, 32⟩
def Reg.FN.PROG_MARK.MARK (f : Nat) : Fld := ⟨fnPage f, 0x1b0, 0, 2⟩
def Reg.FN.QUAR_REQ.DEVICE (f : Nat) : Fld := ⟨fnPage f, 0x1b4, 0, 16⟩
def Reg.FN.QUAR_REQ.CLEAR (f : Nat) : Fld := ⟨fnPage f, 0x1b4, 16, 1⟩
def Reg.FN.PROG_STATUS.MARK_BAD (f : Nat) : Fld := ⟨fnPage f, 0x1b8, 0, 1⟩
def Reg.FN.PROG_STATUS.QUARANTINED (f : Nat) : Fld := ⟨fnPage f, 0x1b8, 16, 5⟩
def Reg.FN.WALL_LO.NS (f : Nat) : Fld := ⟨fnPage f, 0x1c0, 0, 32⟩
def Reg.FN.WALL_HI.NS (f : Nat) : Fld := ⟨fnPage f, 0x1c4, 0, 32⟩
def Reg.FN.USEFUL_LO.NS (f : Nat) : Fld := ⟨fnPage f, 0x1c8, 0, 32⟩
def Reg.FN.USEFUL_HI.NS (f : Nat) : Fld := ⟨fnPage f, 0x1cc, 0, 32⟩
def Reg.FN.LOST_LO.NS (f : Nat) : Fld := ⟨fnPage f, 0x1d0, 0, 32⟩
def Reg.FN.LOST_HI.NS (f : Nat) : Fld := ⟨fnPage f, 0x1d4, 0, 32⟩
def Reg.FN.OVERHEAD_LO.NS (f : Nat) : Fld := ⟨fnPage f, 0x1d8, 0, 32⟩
def Reg.FN.OVERHEAD_HI.NS (f : Nat) : Fld := ⟨fnPage f, 0x1dc, 0, 32⟩
def Reg.FN.PENDING_LO.NS (f : Nat) : Fld := ⟨fnPage f, 0x1e0, 0, 32⟩
def Reg.FN.PENDING_HI.NS (f : Nat) : Fld := ⟨fnPage f, 0x1e4, 0, 32⟩

/-! ### MEM (R348 of 11_memory.md) -/

def Reg.MEM.CFG.RATE : Fld := ⟨0x0A0, 0x100, 0, 4⟩
def Reg.MEM.CFG.CLAMSHELL : Fld := ⟨0x0A0, 0x100, 8, 1⟩
def Reg.MEM.CFG.DENSITY : Fld := ⟨0x0A0, 0x100, 9, 1⟩
def Reg.MEM.POPULATED.CH : Fld := ⟨0x0A0, 0x104, 0, 24⟩
def Reg.MEM.GROUP.CHANNELS (i : Nat) : Fld := ⟨0x0A0, 0x110 + 4 * i, 0, 24⟩
def Reg.MEM.GROUP.MIRROR (i : Nat) : Fld := ⟨0x0A0, 0x110 + 4 * i, 24, 1⟩
def Reg.MEM.GROUP.VALID (i : Nat) : Fld := ⟨0x0A0, 0x110 + 4 * i, 31, 1⟩
def Reg.MEM.USABLE.UNITS : Fld := ⟨0x0A0, 0x180, 0, 32⟩
def Reg.MEM.CH_UNITS.UNITS : Fld := ⟨0x0A0, 0x184, 0, 32⟩
def Reg.MEM.SCRUB.PERIOD_H : Fld := ⟨0x0A0, 0x188, 0, 8⟩
def Reg.MEM.RETRAIN_CFG.TEMP_DELTA : Fld := ⟨0x0A0, 0x18c, 0, 8⟩
def Reg.MEM.RETRAIN_CFG.EDC_THRESH : Fld := ⟨0x0A0, 0x18c, 8, 16⟩
def Reg.MEM.STATUS.DOWN : Fld := ⟨0x0A0, 0x190, 0, 24⟩
def Reg.MEM.ERR.UE : Fld := ⟨0x0A0, 0x20, 0, 1⟩
def Reg.MEM.ERR.CHANNEL_DOWN : Fld := ⟨0x0A0, 0x20, 1, 1⟩
def Reg.MEM.ERR.MIRROR_REPAIR : Fld := ⟨0x0A0, 0x20, 2, 1⟩
def Reg.MEM.ERR.MIRROR_DEGRADED : Fld := ⟨0x0A0, 0x20, 3, 1⟩
def Reg.MEM.ERR.CE_ANY : Fld := ⟨0x0A0, 0x20, 4, 1⟩

/-! ### MEM_CH (R349 of 11_memory.md) -/

def Reg.MEM_CH.STATE.STATE (ch : Nat) : Fld := ⟨0x0A1 + ch, 0x14, 0, 3⟩
def Reg.MEM_CH.CE_COUNT.COUNT (ch : Nat) : Fld := ⟨0x0A1 + ch, 0x100, 0, 32⟩
def Reg.MEM_CH.UE_COUNT.COUNT (ch : Nat) : Fld := ⟨0x0A1 + ch, 0x104, 0, 32⟩
def Reg.MEM_CH.ODECC_CE.COUNT (ch : Nat) : Fld := ⟨0x0A1 + ch, 0x108, 0, 32⟩
def Reg.MEM_CH.ODECC_UE.COUNT (ch : Nat) : Fld := ⟨0x0A1 + ch, 0x10c, 0, 32⟩
def Reg.MEM_CH.EDC_RETRY.COUNT (ch : Nat) : Fld := ⟨0x0A1 + ch, 0x110, 0, 32⟩
def Reg.MEM_CH.SCRUB_PASSES.COUNT (ch : Nat) : Fld := ⟨0x0A1 + ch, 0x114, 0, 32⟩
def Reg.MEM_CH.LAST_UE_LO.ADDR (ch : Nat) : Fld := ⟨0x0A1 + ch, 0x118, 0, 32⟩
def Reg.MEM_CH.LAST_UE_HI.ADDR (ch : Nat) : Fld := ⟨0x0A1 + ch, 0x11c, 0, 16⟩
def Reg.MEM_CH.TEMP.DEGC (ch : Nat) : Fld := ⟨0x0A1 + ch, 0x120, 0, 16⟩
def Reg.MEM_CH.TRAIN_STATUS.RETRAIN_DUE (ch : Nat) : Fld := ⟨0x0A1 + ch, 0x124, 0, 1⟩
def Reg.MEM_CH.TRAIN_STATUS.STEPS (ch : Nat) : Fld := ⟨0x0A1 + ch, 0x124, 8, 5⟩
def Reg.MEM_CH.ACTION.RETRAIN_NOW (ch : Nat) : Fld := ⟨0x0A1 + ch, 0x128, 0, 1⟩
def Reg.MEM_CH.ERR.CE (ch : Nat) : Fld := ⟨0x0A1 + ch, 0x20, 0, 1⟩
def Reg.MEM_CH.ERR.UE (ch : Nat) : Fld := ⟨0x0A1 + ch, 0x20, 1, 1⟩
def Reg.MEM_CH.ERR.LINK_FAIL (ch : Nat) : Fld := ⟨0x0A1 + ch, 0x20, 2, 1⟩
def Reg.MEM_CH.ERR.DOWN (ch : Nat) : Fld := ⟨0x0A1 + ch, 0x20, 3, 1⟩
def Reg.MEM_CH.ERR.RETRAIN_STARVED (ch : Nat) : Fld := ⟨0x0A1 + ch, 0x20, 4, 1⟩

/-! ### SILK_LINK (R383 of 12_silk.md) -/

def Reg.SILK_LINK.STATE.STATE (l : Nat) : Fld := ⟨0x0C0 + l, 0x14, 0, 3⟩
def Reg.SILK_LINK.CFG.EN (l : Nat) : Fld := ⟨0x0C0 + l, 0x100, 0, 1⟩
def Reg.SILK_LINK.CFG.SPARE_FIBRE (l : Nat) : Fld := ⟨0x0C0 + l, 0x100, 1, 1⟩
def Reg.SILK_LINK.NEIGHBOUR.ID (l : Nat) : Fld := ⟨0x0C0 + l, 0x104, 0, 16⟩
def Reg.SILK_LINK.NEIGHBOUR.LINK (l : Nat) : Fld := ⟨0x0C0 + l, 0x104, 16, 6⟩
def Reg.SILK_LINK.RTT_NS.NS (l : Nat) : Fld := ⟨0x0C0 + l, 0x108, 0, 17⟩
def Reg.SILK_LINK.LAMBDA.TX (l : Nat) : Fld := ⟨0x0C0 + l, 0x10c, 0, 3⟩
def Reg.SILK_LINK.LAMBDA.RX (l : Nat) : Fld := ⟨0x0C0 + l, 0x10c, 4, 3⟩
def Reg.SILK_LINK.LAMBDA.FIBRE_SPARE (l : Nat) : Fld := ⟨0x0C0 + l, 0x10c, 8, 1⟩
def Reg.SILK_LINK.LAMBDA.SPARE_INDEX (l : Nat) : Fld := ⟨0x0C0 + l, 0x10c, 10, 2⟩
def Reg.SILK_LINK.RING.LOCK (l : Nat) : Fld := ⟨0x0C0 + l, 0x110, 0, 3⟩
def Reg.SILK_LINK.RATE.GBPS (l : Nat) : Fld := ⟨0x0C0 + l, 0x114, 0, 10⟩
def Reg.SILK_LINK.FEC_CORR.COUNT (l : Nat) : Fld := ⟨0x0C0 + l, 0x118, 0, 32⟩
def Reg.SILK_LINK.FEC_UNCORR.COUNT (l : Nat) : Fld := ⟨0x0C0 + l, 0x11c, 0, 32⟩
def Reg.SILK_LINK.CRC_ERR.COUNT (l : Nat) : Fld := ⟨0x0C0 + l, 0x120, 0, 32⟩
def Reg.SILK_LINK.RETRIES.COUNT (l : Nat) : Fld := ⟨0x0C0 + l, 0x124, 0, 32⟩
def Reg.SILK_LINK.SPARE_SWITCHES.COUNT (l : Nat) : Fld := ⟨0x0C0 + l, 0x128, 0, 16⟩
def Reg.SILK_LINK.POLICE_YELLOW.COUNT (l : Nat) : Fld := ⟨0x0C0 + l, 0x12c, 0, 32⟩
def Reg.SILK_LINK.POLICE_RED.COUNT (l : Nat) : Fld := ⟨0x0C0 + l, 0x130, 0, 32⟩
def Reg.SILK_LINK.ERR.LINK_DOWN (l : Nat) : Fld := ⟨0x0C0 + l, 0x20, 0, 1⟩
def Reg.SILK_LINK.ERR.SPARE_USED (l : Nat) : Fld := ⟨0x0C0 + l, 0x20, 1, 1⟩
def Reg.SILK_LINK.ERR.DEGRADED (l : Nat) : Fld := ⟨0x0C0 + l, 0x20, 2, 1⟩
def Reg.SILK_LINK.ERR.MISWIRED (l : Nat) : Fld := ⟨0x0C0 + l, 0x20, 3, 1⟩
def Reg.SILK_LINK.ERR.RETRY_FAIL (l : Nat) : Fld := ⟨0x0C0 + l, 0x20, 4, 1⟩
def Reg.SILK_LINK.ERR.NO_SPARE (l : Nat) : Fld := ⟨0x0C0 + l, 0x20, 5, 1⟩

/-! ### SILK (R384 of 12_silk.md) -/

def Reg.SILK.DEVICE_ID.ID : Fld := ⟨0x0C0, 0x800, 0, 16⟩
def Reg.SILK.DEAD_US.US : Fld := ⟨0x0C0, 0x804, 0, 14⟩
def Reg.SILK.FAB_ADDR_LO.ADDR : Fld := ⟨0x0C0, 0x808, 0, 32⟩
def Reg.SILK.FAB_ADDR_HI.ADDR : Fld := ⟨0x0C0, 0x80c, 0, 16⟩
def Reg.SILK.FAB_STATUS.SETS : Fld := ⟨0x0C0, 0x810, 0, 7⟩
def Reg.SILK.FAB_STATUS.PENDING : Fld := ⟨0x0C0, 0x810, 8, 1⟩
def Reg.SILK.LATE_RESP.COUNT : Fld := ⟨0x0C0, 0x814, 0, 32⟩
def Reg.SILK.SEG_SEL.COCOON : Fld := ⟨0x0C0, 0x818, 0, 6⟩
def Reg.SILK.SEG_SEL.INDEX : Fld := ⟨0x0C0, 0x818, 16, 10⟩
def Reg.SILK.SEG_BASE.BASE : Fld := ⟨0x0C0, 0x81c, 0, 32⟩
def Reg.SILK.SEG_LEN.LEN : Fld := ⟨0x0C0, 0x820, 0, 32⟩
def Reg.SILK.SEG_CTRL.SET : Fld := ⟨0x0C0, 0x824, 0, 1⟩
def Reg.SILK.SEG_CTRL.CLEAR : Fld := ⟨0x0C0, 0x824, 1, 1⟩
def Reg.SILK.SEG_GEN.GEN : Fld := ⟨0x0C0, 0x828, 0, 32⟩
def Reg.SILK.SEG_STATUS.VALID : Fld := ⟨0x0C0, 0x82c, 0, 1⟩
def Reg.SILK.ERR.SET_MISSING : Fld := ⟨0x0C0, 0x20, 24, 1⟩
def Reg.SILK.ERR.DEAD_TARGET : Fld := ⟨0x0C0, 0x20, 25, 1⟩
def Reg.SILK.ERR.STALE : Fld := ⟨0x0C0, 0x20, 26, 1⟩
def Reg.SILK.ERR.ID_CONFLICT : Fld := ⟨0x0C0, 0x20, 27, 1⟩

/-! ### STAIDO (R409 of 13_staido.md) -/

def Reg.STAIDO.STATE.STATE : Fld := ⟨0x240, 0x14, 0, 3⟩
def Reg.STAIDO.LANES.UP : Fld := ⟨0x240, 0x100, 0, 4⟩
def Reg.STAIDO.RATE.GBPS : Fld := ⟨0x240, 0x104, 0, 11⟩
def Reg.STAIDO.DETACH_CFG.DETACH_MS : Fld := ⟨0x240, 0x108, 0, 10⟩
def Reg.STAIDO.ACTION.DETACH : Fld := ⟨0x240, 0x10c, 0, 1⟩
def Reg.STAIDO.REPLAYS.COUNT : Fld := ⟨0x240, 0x110, 0, 32⟩
def Reg.STAIDO.FEC_UNCORR.COUNT : Fld := ⟨0x240, 0x114, 0, 32⟩
def Reg.STAIDO.HALF_SWITCHES.COUNT : Fld := ⟨0x240, 0x118, 0, 16⟩
def Reg.STAIDO.REG_DENIED.COUNT : Fld := ⟨0x240, 0x11c, 0, 32⟩
def Reg.STAIDO.DB_BAD.COUNT : Fld := ⟨0x240, 0x120, 0, 32⟩
def Reg.STAIDO.ATTACH_COUNT.COUNT : Fld := ⟨0x240, 0x124, 0, 16⟩
def Reg.STAIDO.ERR.HALF_DOWN : Fld := ⟨0x240, 0x20, 0, 1⟩
def Reg.STAIDO.ERR.REMOVED : Fld := ⟨0x240, 0x20, 1, 1⟩
def Reg.STAIDO.ERR.REG_DENIED : Fld := ⟨0x240, 0x20, 2, 1⟩
def Reg.STAIDO.ERR.DB_BAD : Fld := ⟨0x240, 0x20, 3, 1⟩
def Reg.STAIDO.ERR.SV_UNOWNED : Fld := ⟨0x240, 0x20, 4, 1⟩
def Reg.STAIDO.ERR.TT_FAULT : Fld := ⟨0x240, 0x20, 5, 1⟩

/-! ### POD (R435 of 14_pod.md) -/

def Reg.POD.STATE.STATE : Fld := ⟨0x008, 0x14, 0, 2⟩
def Reg.POD.CFG.MODE : Fld := ⟨0x008, 0x100, 0, 1⟩
def Reg.POD.CFG.SUSPECT_THR : Fld := ⟨0x008, 0x100, 8, 8⟩
def Reg.POD.CFG.EXPEL_THR : Fld := ⟨0x008, 0x100, 16, 8⟩
def Reg.POD.CFG.BUDGET_E : Fld := ⟨0x008, 0x100, 24, 8⟩
def Reg.POD.WINDOW.S : Fld := ⟨0x008, 0x104, 0, 16⟩
def Reg.POD.MAP_LO.ADDR : Fld := ⟨0x008, 0x108, 0, 32⟩
def Reg.POD.MAP_HI.ADDR : Fld := ⟨0x008, 0x10c, 0, 16⟩
def Reg.POD.SELF.SCORE : Fld := ⟨0x008, 0x110, 0, 8⟩
def Reg.POD.SELF.PENALTY : Fld := ⟨0x008, 0x110, 8, 8⟩
def Reg.POD.HSEL.DEVICE : Fld := ⟨0x008, 0x114, 0, 16⟩
def Reg.POD.HEALTH.H : Fld := ⟨0x008, 0x118, 0, 8⟩
def Reg.POD.HEALTH.LINK_SCORE : Fld := ⟨0x008, 0x118, 8, 8⟩
def Reg.POD.HEALTH.REPORTED : Fld := ⟨0x008, 0x118, 16, 8⟩
def Reg.POD.HEALTH.PSTATE : Fld := ⟨0x008, 0x118, 24, 3⟩
def Reg.POD.KEEPER.ID : Fld := ⟨0x008, 0x11c, 0, 16⟩
def Reg.POD.EXPELLED_COUNT.COUNT : Fld := ⟨0x008, 0x120, 0, 16⟩
def Reg.POD.BUDGET_USED.COUNT : Fld := ⟨0x008, 0x124, 0, 8⟩
def Reg.POD.VOTE_LO.ADDR : Fld := ⟨0x008, 0x128, 0, 32⟩
def Reg.POD.VOTE_HI.ADDR : Fld := ⟨0x008, 0x12c, 0, 16⟩
def Reg.POD.ACTION.VOTE : Fld := ⟨0x008, 0x130, 0, 1⟩
def Reg.POD.ACTION.READMIT : Fld := ⟨0x008, 0x130, 1, 1⟩
def Reg.POD.ERR.SUSPECT : Fld := ⟨0x008, 0x20, 0, 1⟩
def Reg.POD.ERR.PEER_EXPELLED : Fld := ⟨0x008, 0x20, 1, 1⟩
def Reg.POD.ERR.SELF_EXPELLED : Fld := ⟨0x008, 0x20, 2, 1⟩
def Reg.POD.ERR.BUDGET_SPENT : Fld := ⟨0x008, 0x20, 3, 1⟩
def Reg.POD.ERR.VOTE_BAD : Fld := ⟨0x008, 0x20, 4, 1⟩
def Reg.POD.ERR.QUARANTINE : Fld := ⟨0x008, 0x20, 5, 1⟩

/-! ### LSTEP (R437 of 14_pod.md) -/

def Reg.LSTEP.CFG.COCOON (i : Nat) : Fld := ⟨0x009, 0x100 + 64 * i, 0, 6⟩
def Reg.LSTEP.CFG.EN (i : Nat) : Fld := ⟨0x009, 0x100 + 64 * i, 8, 1⟩
def Reg.LSTEP.CFG.POLICY (i : Nat) : Fld := ⟨0x009, 0x100 + 64 * i, 9, 1⟩
def Reg.LSTEP.CFG.PARTNER (i : Nat) : Fld := ⟨0x009, 0x100 + 64 * i, 16, 16⟩
def Reg.LSTEP.LAG.BEATS (i : Nat) : Fld := ⟨0x009, 0x104 + 64 * i, 0, 16⟩
def Reg.LSTEP.STATUS.STATE (i : Nat) : Fld := ⟨0x009, 0x108 + 64 * i, 0, 2⟩
def Reg.LSTEP.STATUS.PENDING (i : Nat) : Fld := ⟨0x009, 0x108 + 64 * i, 16, 13⟩
def Reg.LSTEP.COMPARED.COUNT (i : Nat) : Fld := ⟨0x009, 0x10c + 64 * i, 0, 32⟩
def Reg.LSTEP.MISMATCHES.COUNT (i : Nat) : Fld := ⟨0x009, 0x110 + 64 * i, 0, 32⟩
def Reg.LSTEP.FIRST_INV.INV (i : Nat) : Fld := ⟨0x009, 0x114 + 64 * i, 0, 32⟩
def Reg.LSTEP.FIRST_ENTRY.ENTRY (i : Nat) : Fld := ⟨0x009, 0x118 + 64 * i, 0, 16⟩
def Reg.LSTEP.FIRST_PASS.PASS (i : Nat) : Fld := ⟨0x009, 0x11c + 64 * i, 0, 32⟩
def Reg.LSTEP.FIRST_BEAT_LO.BEAT (i : Nat) : Fld := ⟨0x009, 0x120 + 64 * i, 0, 32⟩
def Reg.LSTEP.FIRST_BEAT_HI.BEAT (i : Nat) : Fld := ⟨0x009, 0x124 + 64 * i, 0, 32⟩
def Reg.LSTEP.FIRST_CORE.RANK (i : Nat) : Fld := ⟨0x009, 0x128 + 64 * i, 0, 12⟩
def Reg.LSTEP.FIRST_CORE.LOCAL (i : Nat) : Fld := ⟨0x009, 0x128 + 64 * i, 16, 11⟩
def Reg.LSTEP.FIRST_PARTNER.CORE (i : Nat) : Fld := ⟨0x009, 0x12c + 64 * i, 0, 11⟩
def Reg.LSTEP.FIRST_PARTNER.CAUSE (i : Nat) : Fld := ⟨0x009, 0x12c + 64 * i, 16, 2⟩
def Reg.LSTEP.ERR.MISMATCH : Fld := ⟨0x009, 0x20, 0, 4⟩

/-! ### BOOT (R460 of 15_bringup.md) -/

def Reg.BOOT.STATE.INSTAR : Fld := ⟨0x001, 0x14, 0, 3⟩
def Reg.BOOT.STATE.FAIL : Fld := ⟨0x001, 0x14, 8, 8⟩
def Reg.BOOT.STATE.HALTED : Fld := ⟨0x001, 0x14, 16, 1⟩
def Reg.BOOT.BUNDLE_LO.ADDR : Fld := ⟨0x001, 0x100, 0, 32⟩
def Reg.BOOT.BUNDLE_HI.ADDR : Fld := ⟨0x001, 0x104, 0, 20⟩
def Reg.BOOT.BUNDLE_LEN.BYTES : Fld := ⟨0x001, 0x108, 0, 26⟩
def Reg.BOOT.ACTION.LOAD : Fld := ⟨0x001, 0x10c, 0, 1⟩
def Reg.BOOT.ATTEMPTS.COUNT : Fld := ⟨0x001, 0x110, 0, 16⟩
def Reg.BOOT.VERSION.VERSION : Fld := ⟨0x001, 0x114, 0, 32⟩
def Reg.BOOT.SVN.BUNDLE : Fld := ⟨0x001, 0x118, 0, 8⟩
def Reg.BOOT.SVN.FUSED : Fld := ⟨0x001, 0x118, 8, 8⟩
def Reg.BOOT.SVN.REVOKED0 : Fld := ⟨0x001, 0x118, 16, 1⟩
def Reg.BOOT.SVN.REVOKED1 : Fld := ⟨0x001, 0x118, 17, 1⟩
def Reg.BOOT.EXPOSED.CORES : Fld := ⟨0x001, 0x11c, 0, 12⟩
def Reg.BOOT.FUSE_USED.COUNT : Fld := ⟨0x001, 0x120, 0, 10⟩
def Reg.BOOT.ERR.FUSE_FULL : Fld := ⟨0x001, 0x20, 0, 1⟩
def Reg.BOOT.ERR.NEW_DEFECT : Fld := ⟨0x001, 0x20, 1, 1⟩

/-! ### RESET (R461 of 15_bringup.md) -/

def Reg.RESET.TARGET.INDEX : Fld := ⟨0x002, 0x100, 0, 16⟩
def Reg.RESET.RETEST.CORE : Fld := ⟨0x002, 0x104, 0, 16⟩
def Reg.RESET.ACTION.CORE : Fld := ⟨0x002, 0x108, 0, 1⟩
def Reg.RESET.ACTION.CLUSTER : Fld := ⟨0x002, 0x108, 1, 1⟩
def Reg.RESET.ACTION.COCOON : Fld := ⟨0x002, 0x108, 2, 1⟩
def Reg.RESET.ACTION.DEVICE : Fld := ⟨0x002, 0x108, 3, 1⟩
def Reg.RESET.ACTION.RETEST : Fld := ⟨0x002, 0x108, 4, 1⟩
def Reg.RESET.STATUS.BUSY : Fld := ⟨0x002, 0x10c, 0, 1⟩
def Reg.RESET.STATUS.RETEST_FAIL : Fld := ⟨0x002, 0x10c, 1, 1⟩
def Reg.RESET.ERR.UNIT_LOST : Fld := ⟨0x002, 0x20, 0, 1⟩

/-! ### ATTEST (R462 of 15_bringup.md) -/

def Reg.ATTEST.LOG_COUNT.COUNT : Fld := ⟨0x003, 0x100, 0, 9⟩
def Reg.ATTEST.LOG_COUNT.LOG_FULL : Fld := ⟨0x003, 0x100, 16, 1⟩
def Reg.ATTEST.DIGEST.M (i : Nat) : Fld := ⟨0x003, 0x140 + 4 * i, 0, 32⟩

/-! ### PWR (R483 of 16_power.md) -/

def Reg.PWR.LIMIT.LIMIT_W : Fld := ⟨0x004, 0x100, 0, 11⟩
def Reg.PWR.LIMIT.HYST_W : Fld := ⟨0x004, 0x100, 16, 8⟩
def Reg.PWR.THERM.THROTTLE_C : Fld := ⟨0x004, 0x104, 0, 8⟩
def Reg.PWR.PKG_POWER.W : Fld := ⟨0x004, 0x108, 0, 16⟩
def Reg.PWR.THROTTLE.PKG : Fld := ⟨0x004, 0x10c, 0, 1⟩
def Reg.PWR.THROTTLE.THERM : Fld := ⟨0x004, 0x10c, 1, 1⟩
def Reg.PWR.THROTTLE.HOLD : Fld := ⟨0x004, 0x10c, 2, 1⟩
def Reg.PWR.CLASS.CLASS (i k : Nat) : Fld := ⟨0x004, 0x110 + 4 * i, 0 + 2 * k, 2⟩
def Reg.PWR.DIE_REQ.REQ (i k : Nat) : Fld := ⟨0x004, 0x120 + 4 * i, 0 + 2 * k, 2⟩
def Reg.PWR.RAIL.MV (i : Nat) : Fld := ⟨0x004, 0x200 + 4 * i, 0, 12⟩
def Reg.PWR.RAIL.P (i : Nat) : Fld := ⟨0x004, 0x200 + 4 * i, 16, 12⟩
def Reg.PWR.TEMP.DEGC (i : Nat) : Fld := ⟨0x004, 0x300 + 4 * i, 0, 16⟩
def Reg.PWR.LASER.DBM (i : Nat) : Fld := ⟨0x004, 0x320 + 4 * i, 0, 16⟩
def Reg.PWR.LASER.LOW (i : Nat) : Fld := ⟨0x004, 0x320 + 4 * i, 16, 1⟩
def Reg.PWR.LASER_THR.DBM : Fld := ⟨0x004, 0x340, 0, 16⟩
def Reg.PWR.ERR.PKG_LIMIT : Fld := ⟨0x004, 0x20, 0, 1⟩
def Reg.PWR.ERR.THERM_THROTTLE : Fld := ⟨0x004, 0x20, 1, 1⟩
def Reg.PWR.ERR.LIMIT_UNMET : Fld := ⟨0x004, 0x20, 2, 1⟩
def Reg.PWR.ERR.LASER_LOW : Fld := ⟨0x004, 0x20, 3, 1⟩
def Reg.PWR.ERR.RAIL_FAULT : Fld := ⟨0x004, 0x20, 4, 1⟩
def Reg.PWR.ERR.NEIGHBOUR_GAP : Fld := ⟨0x004, 0x20, 5, 1⟩

/-! ### BBOX (R484 of 16_power.md) -/

def Reg.BBOX.BASE_LO.ADDR : Fld := ⟨0x005, 0x100, 0, 32⟩
def Reg.BBOX.BASE_HI.ADDR : Fld := ⟨0x005, 0x104, 0, 16⟩
def Reg.BBOX.HOST_LO.ADDR : Fld := ⟨0x005, 0x108, 0, 32⟩
def Reg.BBOX.HOST_HI.ADDR : Fld := ⟨0x005, 0x10c, 0, 20⟩
def Reg.BBOX.ACTION.SNAPSHOT : Fld := ⟨0x005, 0x110, 0, 1⟩
def Reg.BBOX.STATUS.ARMED : Fld := ⟨0x005, 0x114, 0, 1⟩
def Reg.BBOX.STATUS.FLUSHING : Fld := ⟨0x005, 0x114, 1, 1⟩
def Reg.BBOX.FLUSH_COUNT.COUNT : Fld := ⟨0x005, 0x118, 0, 32⟩
def Reg.BBOX.MASK.CLASS_EN : Fld := ⟨0x005, 0x11c, 2, 5⟩
def Reg.BBOX.ERR.HOST_FLUSH_FAIL : Fld := ⟨0x005, 0x20, 0, 1⟩
def Reg.BBOX.ERR.REGION_INVALID : Fld := ⟨0x005, 0x20, 1, 1⟩

/-! ### INDEX (R490 of 17_registers.md) -/

def Reg.INDEX.PRESENT.PRESENT (i : Nat) : Fld := ⟨0x000, 0x100 + 4 * i, 0, 32⟩
def Reg.INDEX.ERR_PAGES.ERR (i : Nat) : Fld := ⟨0x000, 0x180 + 4 * i, 0, 32⟩
def Reg.INDEX.RUNS.COUNT : Fld := ⟨0x000, 0x200, 0, 6⟩
def Reg.INDEX.RUN_W0.FIRST (i : Nat) : Fld := ⟨0x000, 0x210 + 8 * i, 0, 10⟩
def Reg.INDEX.RUN_W0.COUNT (i : Nat) : Fld := ⟨0x000, 0x210 + 8 * i, 16, 10⟩
def Reg.INDEX.RUN_W1.TYPE (i : Nat) : Fld := ⟨0x000, 0x214 + 8 * i, 0, 16⟩
def Reg.INDEX.RUN_W1.PAGE_VER (i : Nat) : Fld := ⟨0x000, 0x214 + 8 * i, 16, 16⟩

end Sys2Proof.Machine
end

