-- ==== Sys2Proof/Machine/RegMap.lean ====
section
/-!
DEFINITION. The register tables of the spec as data: for every page type the words, and in each word its fields with
access code and reset value (the columns Bits, Access and Reset of the tables of R42, R73, R76, R114, R137, R228, R229,
R257, R258, R287–R290, R323, R324, R348, R349, R383, R384, R409–R411, R435–R437, R460–R462, R483, R484 and R490).
The common words of R492 are in the named operations over pages (Machine/Pages.lean).
-/
namespace Sys2Proof.Machine

/-- The access codes of R6; the last two are the codes of R410 that take writes from the management function alone. -/
inductive Acc where
  | ro | rw | rws | w1c | wo | rwM | woM
deriving DecidableEq, Repr

/-- One field of a register word. `rst` is the reset value; nothing where the table gives "—" (R513). `cnt` marks a
read-only field named COUNT, which BLOCK_RESET clears (R497). -/
structure RegFld where
  lo : Nat
  w : Nat
  acc : Acc
  rst : Option Nat
  cnt : Bool
deriving DecidableEq, Repr

/-- A word of a page, or `count` words `stride` bytes apart. -/
structure RegWord where
  base : Nat
  stride : Nat
  count : Nat
  flds : List RegFld
deriving DecidableEq, Repr

/-- The block types of R491. -/
inductive PageType where
  | index | boot | reset | attest | pwr | bbox | pod | lstep | seq | seqDebt | time | timeCmp | lfc | timePort
  | fh | fhPort | radio | radioEng | mem | memCh | silkLink | cocoon | tenantFn | staido | mgmtFn | radioFn | cluster
deriving DecidableEq, Repr

/-- Does the word (or one of the words) lie at byte offset `off`? -/
def RegWord.has (r : RegWord) (off : Nat) : Bool :=
  Nat.ble r.base off &&
    (if r.count = 1 then Nat.beq off r.base
     else Nat.beq ((off - r.base) % r.stride) 0 && Nat.blt ((off - r.base) / r.stride) r.count)

namespace Layout

/-- Page INDEX (R490). -/
def index : List RegWord :=
  [
   ⟨0x100, 4, 32, [⟨0, 32, .ro, some 0, false⟩]⟩,
   ⟨0x180, 4, 32, [⟨0, 32, .ro, some 0, false⟩]⟩,
   ⟨0x200, 0, 1, [⟨0, 6, .ro, some 27, true⟩]⟩,
   ⟨0x210, 8, 27, [⟨0, 10, .ro, some 0, false⟩, ⟨16, 10, .ro, some 0, true⟩]⟩,
   ⟨0x214, 8, 27, [⟨0, 16, .ro, some 0, false⟩, ⟨16, 16, .ro, some 0, false⟩]⟩ ]

/-- Page BOOT (R460). -/
def boot : List RegWord :=
  [
   ⟨0x14, 0, 1, [⟨0, 3, .ro, some 0, false⟩, ⟨8, 8, .ro, some 0, false⟩, ⟨16, 1, .ro, some 0, false⟩]⟩,
   ⟨0x100, 0, 1, [⟨0, 32, .rw, none, false⟩]⟩,
   ⟨0x104, 0, 1, [⟨0, 20, .rw, none, false⟩]⟩,
   ⟨0x108, 0, 1, [⟨0, 26, .rw, some 0, false⟩]⟩,
   ⟨0x10c, 0, 1, [⟨0, 1, .wo, some 0, false⟩]⟩,
   ⟨0x110, 0, 1, [⟨0, 16, .ro, some 0, true⟩]⟩,
   ⟨0x114, 0, 1, [⟨0, 32, .ro, some 0, false⟩]⟩,
   ⟨0x118, 0, 1, [⟨0, 8, .ro, some 0, false⟩, ⟨8, 8, .ro, some 0, false⟩, ⟨16, 1, .ro, some 0, false⟩, ⟨17, 1, .ro, some 0, false⟩]⟩,
   ⟨0x11c, 0, 1, [⟨0, 12, .ro, some 0, false⟩]⟩,
   ⟨0x120, 0, 1, [⟨0, 10, .ro, some 0, true⟩]⟩ ]

/-- Page RESET (R461). -/
def reset : List RegWord :=
  [
   ⟨0x100, 0, 1, [⟨0, 16, .rw, some 0, false⟩]⟩,
   ⟨0x104, 0, 1, [⟨0, 16, .rw, some 0, false⟩]⟩,
   ⟨0x108, 0, 1, [⟨0, 1, .wo, some 0, false⟩, ⟨1, 1, .wo, some 0, false⟩, ⟨2, 1, .wo, some 0, false⟩, ⟨3, 1, .wo, some 0, false⟩, ⟨4, 1, .wo, some 0, false⟩]⟩,
   ⟨0x10c, 0, 1, [⟨0, 1, .ro, some 0, false⟩, ⟨1, 1, .ro, some 0, false⟩]⟩ ]

/-- Page ATTEST (R462). -/
def attest : List RegWord :=
  [
   ⟨0x100, 0, 1, [⟨0, 9, .ro, some 0, true⟩, ⟨16, 1, .ro, some 0, false⟩]⟩,
   ⟨0x140, 4, 12, [⟨0, 32, .ro, some 0, false⟩]⟩ ]

/-- Page PWR (R483). -/
def pwr : List RegWord :=
  [
   ⟨0x100, 0, 1, [⟨0, 11, .rws, some 1500, false⟩, ⟨16, 8, .rws, some 30, false⟩]⟩,
   ⟨0x104, 0, 1, [⟨0, 8, .rws, some 95, false⟩]⟩,
   ⟨0x108, 0, 1, [⟨0, 16, .ro, some 0, false⟩]⟩,
   ⟨0x10c, 0, 1, [⟨0, 1, .ro, some 0, false⟩, ⟨1, 1, .ro, some 0, false⟩, ⟨2, 1, .ro, some 0, false⟩]⟩,
   ⟨0x110, 4, 4, [⟨0, 2, .rw, some 2, false⟩, ⟨2, 2, .rw, some 2, false⟩, ⟨4, 2, .rw, some 2, false⟩, ⟨6, 2, .rw, some 2, false⟩, ⟨8, 2, .rw, some 2, false⟩, ⟨10, 2, .rw, some 2, false⟩, ⟨12, 2, .rw, some 2, false⟩, ⟨14, 2, .rw, some 2, false⟩, ⟨16, 2, .rw, some 2, false⟩, ⟨18, 2, .rw, some 2, false⟩, ⟨20, 2, .rw, some 2, false⟩, ⟨22, 2, .rw, some 2, false⟩, ⟨24, 2, .rw, some 2, false⟩, ⟨26, 2, .rw, some 2, false⟩, ⟨28, 2, .rw, some 2, false⟩, ⟨30, 2, .rw, some 2, false⟩]⟩,
   ⟨0x120, 4, 2, [⟨0, 2, .rw, some 2, false⟩, ⟨2, 2, .rw, some 2, false⟩, ⟨4, 2, .rw, some 2, false⟩, ⟨6, 2, .rw, some 2, false⟩, ⟨8, 2, .rw, some 2, false⟩, ⟨10, 2, .rw, some 2, false⟩, ⟨12, 2, .rw, some 2, false⟩, ⟨14, 2, .rw, some 2, false⟩, ⟨16, 2, .rw, some 2, false⟩, ⟨18, 2, .rw, some 2, false⟩, ⟨20, 2, .rw, some 2, false⟩, ⟨22, 2, .rw, some 2, false⟩, ⟨24, 2, .rw, some 2, false⟩, ⟨26, 2, .rw, some 2, false⟩, ⟨28, 2, .rw, some 2, false⟩, ⟨30, 2, .rw, some 2, false⟩]⟩,
   ⟨0x200, 4, 36, [⟨0, 12, .ro, some 0, false⟩, ⟨16, 12, .ro, some 0, false⟩]⟩,
   ⟨0x300, 4, 8, [⟨0, 16, .ro, none, false⟩]⟩,
   ⟨0x320, 4, 8, [⟨0, 16, .ro, none, false⟩, ⟨16, 1, .ro, some 0, false⟩]⟩,
   ⟨0x340, 0, 1, [⟨0, 16, .rws, some 1300, false⟩]⟩ ]

/-- Page BBOX (R484). -/
def bbox : List RegWord :=
  [
   ⟨0x100, 0, 1, [⟨0, 32, .rws, some 0, false⟩]⟩,
   ⟨0x104, 0, 1, [⟨0, 16, .rws, some 0, false⟩]⟩,
   ⟨0x108, 0, 1, [⟨0, 32, .rw, some 0, false⟩]⟩,
   ⟨0x10c, 0, 1, [⟨0, 20, .rw, some 0, false⟩]⟩,
   ⟨0x110, 0, 1, [⟨0, 1, .wo, some 0, false⟩]⟩,
   ⟨0x114, 0, 1, [⟨0, 1, .ro, some 0, false⟩, ⟨1, 1, .ro, some 0, false⟩]⟩,
   ⟨0x118, 0, 1, [⟨0, 32, .ro, some 0, true⟩]⟩,
   ⟨0x11c, 0, 1, [⟨2, 5, .rws, some 31, false⟩]⟩ ]

/-- Page POD (R435). -/
def pod : List RegWord :=
  [
   ⟨0x14, 0, 1, [⟨0, 2, .ro, some 3, false⟩]⟩,
   ⟨0x100, 0, 1, [⟨0, 1, .rws, some 0, false⟩, ⟨8, 8, .rws, some 128, false⟩, ⟨16, 8, .rws, some 32, false⟩, ⟨24, 8, .rws, some 4, false⟩]⟩,
   ⟨0x104, 0, 1, [⟨0, 16, .rws, some 3600, false⟩]⟩,
   ⟨0x108, 0, 1, [⟨0, 32, .rws, none, false⟩]⟩,
   ⟨0x10c, 0, 1, [⟨0, 16, .rws, none, false⟩]⟩,
   ⟨0x110, 0, 1, [⟨0, 8, .ro, some 255, false⟩, ⟨8, 8, .rw, some 0, false⟩]⟩,
   ⟨0x114, 0, 1, [⟨0, 16, .rw, some 0, false⟩]⟩,
   ⟨0x118, 0, 1, [⟨0, 8, .ro, some 255, false⟩, ⟨8, 8, .ro, some 255, false⟩, ⟨16, 8, .ro, some 255, false⟩, ⟨24, 3, .ro, some 0, false⟩]⟩,
   ⟨0x11c, 0, 1, [⟨0, 16, .ro, some 0, false⟩]⟩,
   ⟨0x120, 0, 1, [⟨0, 16, .ro, some 0, true⟩]⟩,
   ⟨0x124, 0, 1, [⟨0, 8, .ro, some 0, false⟩]⟩,
   ⟨0x128, 0, 1, [⟨0, 32, .rw, none, false⟩]⟩,
   ⟨0x12c, 0, 1, [⟨0, 16, .rw, none, false⟩]⟩,
   ⟨0x130, 0, 1, [⟨0, 1, .wo, some 0, false⟩, ⟨1, 1, .wo, some 0, false⟩]⟩ ]

/-- Page LSTEP (R437). -/
def lstep : List RegWord :=
  [
   ⟨0x100, 64, 4, [⟨0, 6, .rws, some 0, false⟩, ⟨8, 1, .rws, some 0, false⟩, ⟨9, 1, .rws, some 0, false⟩, ⟨16, 16, .rws, some 0, false⟩]⟩,
   ⟨0x104, 64, 4, [⟨0, 16, .rws, some 80, false⟩]⟩,
   ⟨0x108, 64, 4, [⟨0, 2, .ro, some 0, false⟩, ⟨16, 13, .ro, some 0, false⟩]⟩,
   ⟨0x10c, 64, 4, [⟨0, 32, .ro, some 0, true⟩]⟩,
   ⟨0x110, 64, 4, [⟨0, 32, .ro, some 0, true⟩]⟩,
   ⟨0x114, 64, 4, [⟨0, 32, .ro, some 0, false⟩]⟩,
   ⟨0x118, 64, 4, [⟨0, 16, .ro, some 0, false⟩]⟩,
   ⟨0x11c, 64, 4, [⟨0, 32, .ro, some 0, false⟩]⟩,
   ⟨0x120, 64, 4, [⟨0, 32, .ro, some 0, false⟩]⟩,
   ⟨0x124, 64, 4, [⟨0, 32, .ro, some 0, false⟩]⟩,
   ⟨0x128, 64, 4, [⟨0, 12, .ro, some 0, false⟩, ⟨16, 11, .ro, some 0, false⟩]⟩,
   ⟨0x12c, 64, 4, [⟨0, 11, .ro, some 0, false⟩, ⟨16, 2, .ro, some 0, false⟩]⟩ ]

/-- Page SEQ (R73). -/
def seq : List RegWord :=
  [
   ⟨0x14, 0, 1, [⟨0, 3, .ro, some 0, false⟩]⟩,
   ⟨0x100, 0, 1, [⟨0, 2, .rws, some 1, false⟩, ⟨8, 1, .rws, some 0, false⟩]⟩,
   ⟨0x108, 0, 1, [⟨0, 32, .rws, none, false⟩]⟩,
   ⟨0x10c, 0, 1, [⟨0, 16, .rws, none, false⟩]⟩,
   ⟨0x110, 0, 1, [⟨0, 32, .ro, some 0, false⟩]⟩,
   ⟨0x114, 0, 1, [⟨0, 32, .ro, some 0, false⟩]⟩,
   ⟨0x118, 0, 1, [⟨0, 16, .ro, some 0, false⟩]⟩,
   ⟨0x11c, 0, 1, [⟨0, 10, .ro, some 0, false⟩, ⟨16, 8, .ro, some 0, false⟩]⟩,
   ⟨0x120, 0, 1, [⟨0, 32, .ro, some 0, false⟩]⟩,
   ⟨0x124, 0, 1, [⟨0, 32, .ro, some 0, false⟩]⟩,
   ⟨0x128, 0, 1, [⟨0, 32, .ro, some 4294967295, false⟩]⟩,
   ⟨0x12c, 0, 1, [⟨0, 32, .ro, some 4294967295, false⟩]⟩,
   ⟨0x130, 0, 1, [⟨0, 20, .ro, some 0, false⟩, ⟨24, 7, .ro, some 0, false⟩]⟩,
   ⟨0x134, 0, 1, [⟨0, 10, .ro, some 0, false⟩, ⟨16, 16, .ro, some 0, false⟩]⟩,
   ⟨0x138, 0, 1, [⟨0, 1, .wo, some 0, false⟩]⟩,
   ⟨0x13c, 0, 1, [⟨0, 1, .ro, some 0, false⟩, ⟨1, 1, .ro, some 0, false⟩, ⟨2, 1, .ro, some 0, false⟩]⟩,
   ⟨0x140, 0, 1, [⟨0, 32, .ro, some 0, true⟩]⟩,
   ⟨0x144, 0, 1, [⟨0, 32, .ro, some 0, true⟩]⟩ ]

/-- Page SEQ_DEBT (R76). -/
def seqDebt : List RegWord :=
  [
   ⟨0x100, 4, 64, [⟨0, 24, .ro, some 0, false⟩, ⟨31, 1, .ro, some 0, false⟩]⟩ ]

/-- Page TIME (R287). -/
def time : List RegWord :=
  [
   ⟨0x14, 0, 1, [⟨0, 2, .ro, some 0, false⟩]⟩,
   ⟨0x100, 0, 1, [⟨0, 16, .ro, some 0, false⟩]⟩,
   ⟨0x104, 0, 1, [⟨0, 30, .ro, some 0, false⟩]⟩,
   ⟨0x108, 0, 1, [⟨0, 32, .ro, some 0, false⟩]⟩,
   ⟨0x10c, 0, 1, [⟨0, 16, .ro, some 0, false⟩]⟩,
   ⟨0x110, 0, 1, [⟨0, 32, .ro, some 0, false⟩]⟩,
   ⟨0x114, 0, 1, [⟨0, 16, .ro, some 0, false⟩]⟩,
   ⟨0x118, 0, 1, [⟨0, 32, .rws, some 315964819, false⟩]⟩,
   ⟨0x11c, 0, 1, [⟨0, 16, .rws, some 0, false⟩]⟩,
   ⟨0x120, 0, 1, [⟨0, 8, .rws, some 24, false⟩, ⟨8, 1, .rws, some 0, false⟩]⟩,
   ⟨0x124, 0, 1, [⟨0, 32, .rws, none, false⟩]⟩,
   ⟨0x128, 0, 1, [⟨0, 32, .rws, none, false⟩]⟩,
   ⟨0x12c, 0, 1, [⟨0, 20, .rws, some 1000, false⟩, ⟨24, 3, .rws, some 1, false⟩, ⟨28, 2, .rws, some 0, false⟩, ⟨30, 1, .rws, some 0, false⟩]⟩,
   ⟨0x130, 0, 1, [⟨0, 1, .wo, some 0, false⟩]⟩,
   ⟨0x134, 0, 1, [⟨0, 1, .ro, some 0, false⟩, ⟨1, 1, .ro, some 1, false⟩, ⟨2, 1, .ro, some 0, false⟩, ⟨3, 1, .ro, some 0, false⟩, ⟨4, 1, .ro, some 0, false⟩, ⟨5, 1, .ro, some 0, false⟩]⟩,
   ⟨0x138, 0, 1, [⟨0, 32, .ro, some 0, false⟩]⟩,
   ⟨0x13c, 0, 1, [⟨0, 32, .ro, some 0, false⟩]⟩,
   ⟨0x140, 0, 1, [⟨0, 32, .ro, some 0, false⟩]⟩,
   ⟨0x144, 0, 1, [⟨0, 32, .ro, some 0, true⟩]⟩,
   ⟨0x148, 0, 1, [⟨0, 32, .ro, some 0, false⟩]⟩,
   ⟨0x14c, 0, 1, [⟨0, 32, .ro, some 0, false⟩]⟩,
   ⟨0x150, 0, 1, [⟨0, 32, .ro, some 0, false⟩]⟩,
   ⟨0x154, 0, 1, [⟨0, 16, .ro, some 0, false⟩]⟩,
   ⟨0x158, 4, 4, [⟨0, 32, .rws, some 0, false⟩]⟩,
   ⟨0x168, 0, 1, [⟨0, 1, .rws, some 0, false⟩, ⟨1, 1, .rws, some 0, false⟩, ⟨8, 10, .rws, some 100, false⟩]⟩,
   ⟨0x16c, 0, 1, [⟨0, 32, .rws, some 0, false⟩]⟩,
   ⟨0x170, 0, 1, [⟨0, 30, .ro, some 0, false⟩]⟩,
   ⟨0x174, 0, 1, [⟨0, 32, .ro, some 0, false⟩]⟩,
   ⟨0x178, 0, 1, [⟨0, 32, .rw, some 0, false⟩]⟩,
   ⟨0x17c, 0, 1, [⟨0, 16, .rws, some 300, false⟩]⟩ ] ++
  [
   ⟨0x180, 0, 1, [⟨0, 4, .ro, some 15, false⟩, ⟨8, 4, .rw, some 15, false⟩]⟩ ]

/-- Page TIME_CMP (R288). -/
def timeCmp : List RegWord :=
  [
   ⟨0x100, 16, 16, [⟨0, 32, .rw, some 0, false⟩]⟩,
   ⟨0x104, 16, 16, [⟨0, 16, .rw, some 0, false⟩]⟩,
   ⟨0x108, 16, 16, [⟨0, 1, .rw, some 0, false⟩, ⟨1, 1, .rw, some 0, false⟩, ⟨2, 1, .rw, some 0, false⟩]⟩,
   ⟨0x10c, 16, 16, [⟨0, 32, .rw, some 1000000, false⟩]⟩ ]

/-- Page LFC (R289). -/
def lfc : List RegWord :=
  [
   ⟨0x100, 0, 1, [⟨0, 15, .ro, some 0, true⟩, ⟨16, 4, .ro, some 0, false⟩]⟩,
   ⟨0x104, 0, 1, [⟨0, 10, .ro, some 0, false⟩, ⟨16, 10, .ro, some 0, false⟩, ⟨31, 1, .ro, some 0, false⟩]⟩,
   ⟨0x108, 0, 1, [⟨0, 32, .rw, some 0, false⟩]⟩,
   ⟨0x10c, 0, 1, [⟨0, 1, .ro, some 0, false⟩, ⟨1, 1, .ro, some 0, false⟩]⟩ ]

/-- Page TIME_PORT (R290). -/
def timePort : List RegWord :=
  [
   ⟨0x100, 16, 4, [⟨0, 32, .rw, some 0, false⟩]⟩,
   ⟨0x104, 16, 4, [⟨0, 32, .rw, some 0, false⟩]⟩,
   ⟨0x108, 16, 4, [⟨0, 1, .rw, some 0, false⟩]⟩ ]

/-- Page FH (R257). -/
def fh : List RegWord :=
  [
   ⟨0x100, 0, 1, [⟨0, 32, .rws, none, false⟩]⟩,
   ⟨0x104, 0, 1, [⟨0, 16, .rws, none, false⟩]⟩,
   ⟨0x108, 0, 1, [⟨0, 14, .rws, some 9216, false⟩]⟩,
   ⟨0x10c, 0, 1, [⟨0, 1, .ro, some 0, false⟩]⟩ ]

/-- Page FH_PORT (R258). -/
def fhPort : List RegWord :=
  [
   ⟨0x100, 0, 1, [⟨0, 2, .rws, some 0, false⟩, ⟨2, 1, .rws, some 0, false⟩, ⟨3, 1, .rws, some 0, false⟩, ⟨4, 1, .rws, some 0, false⟩]⟩,
   ⟨0x104, 0, 1, [⟨0, 3, .rws, some 7, false⟩, ⟨4, 3, .rws, some 6, false⟩, ⟨8, 3, .rws, some 5, false⟩, ⟨12, 3, .rws, some 0, false⟩]⟩,
   ⟨0x108, 0, 1, [⟨0, 12, .rws, some 0, false⟩]⟩,
   ⟨0x10c, 0, 1, [⟨0, 32, .rws, none, false⟩]⟩,
   ⟨0x110, 0, 1, [⟨0, 16, .rws, none, false⟩]⟩,
   ⟨0x114, 0, 1, [⟨0, 16, .rws, none, false⟩]⟩,
   ⟨0x118, 4, 4, [⟨0, 32, .rws, none, false⟩]⟩,
   ⟨0x128, 0, 1, [⟨0, 9, .rws, some 20, false⟩]⟩,
   ⟨0x12c, 0, 1, [⟨0, 32, .rws, none, false⟩]⟩,
   ⟨0x130, 0, 1, [⟨0, 16, .rws, none, false⟩]⟩,
   ⟨0x134, 0, 1, [⟨0, 4, .ro, some 0, false⟩]⟩,
   ⟨0x138, 0, 1, [⟨0, 32, .ro, some 0, true⟩]⟩,
   ⟨0x13c, 0, 1, [⟨0, 32, .ro, some 0, true⟩]⟩,
   ⟨0x140, 0, 1, [⟨0, 32, .ro, some 0, true⟩]⟩,
   ⟨0x144, 0, 1, [⟨0, 32, .ro, some 0, true⟩]⟩,
   ⟨0x148, 0, 1, [⟨0, 32, .ro, some 0, true⟩]⟩,
   ⟨0x14c, 0, 1, [⟨0, 32, .ro, some 0, true⟩]⟩,
   ⟨0x150, 0, 1, [⟨0, 32, .ro, some 0, true⟩]⟩,
   ⟨0x154, 0, 1, [⟨0, 32, .ro, some 0, true⟩]⟩,
   ⟨0x158, 0, 1, [⟨0, 32, .ro, some 0, true⟩]⟩ ]

/-- Page RADIO (R228). -/
def radio : List RegWord :=
  [
   ⟨0x100, 0, 1, [⟨0, 32, .rws, none, false⟩]⟩,
   ⟨0x104, 0, 1, [⟨0, 16, .rws, none, false⟩]⟩,
   ⟨0x108, 0, 1, [⟨0, 5, .rws, some 30, false⟩]⟩,
   ⟨0x110, 0, 1, [⟨0, 32, .rws, none, false⟩]⟩,
   ⟨0x114, 0, 1, [⟨0, 32, .rws, none, false⟩]⟩,
   ⟨0x118, 0, 1, [⟨0, 16, .rws, none, false⟩]⟩,
   ⟨0x11c, 0, 1, [⟨0, 2, .ro, some 0, false⟩, ⟨8, 1, .ro, some 0, false⟩]⟩,
   ⟨0x120, 0, 1, [⟨0, 13, .ro, some 0, false⟩]⟩,
   ⟨0x124, 0, 1, [⟨0, 32, .ro, some 4294967295, false⟩]⟩,
   ⟨0x128, 0, 1, [⟨0, 32, .ro, some 4294967295, false⟩]⟩,
   ⟨0x130, 0, 1, [⟨0, 32, .ro, some 0, true⟩]⟩,
   ⟨0x134, 0, 1, [⟨0, 32, .ro, some 0, true⟩]⟩,
   ⟨0x138, 0, 1, [⟨0, 32, .ro, some 0, true⟩]⟩,
   ⟨0x13c, 0, 1, [⟨0, 32, .ro, some 0, true⟩]⟩,
   ⟨0x140, 0, 1, [⟨0, 32, .ro, some 0, true⟩]⟩ ]

/-- Page RADIO_ENG (R229). -/
def radioEng : List RegWord :=
  [
   ⟨0x100, 0, 1, [⟨0, 32, .ro, some 0, false⟩]⟩,
   ⟨0x104, 0, 1, [⟨0, 16, .ro, some 0, false⟩]⟩,
   ⟨0x108, 0, 1, [⟨0, 16, .ro, some 0, false⟩]⟩,
   ⟨0x10c, 0, 1, [⟨0, 24, .ro, some 0, false⟩]⟩,
   ⟨0x110, 0, 1, [⟨0, 8, .ro, some 0, false⟩]⟩,
   ⟨0x114, 0, 1, [⟨0, 32, .ro, some 0, true⟩]⟩ ]

/-- Page MEM (R348). -/
def mem : List RegWord :=
  [
   ⟨0x100, 0, 1, [⟨0, 4, .rws, some 0, false⟩, ⟨8, 1, .rws, some 0, false⟩, ⟨9, 1, .rws, some 1, false⟩]⟩,
   ⟨0x104, 0, 1, [⟨0, 24, .rws, some 0, false⟩]⟩,
   ⟨0x110, 4, 24, [⟨0, 24, .rws, some 0, false⟩, ⟨24, 1, .rws, some 0, false⟩, ⟨31, 1, .rws, some 0, false⟩]⟩,
   ⟨0x180, 0, 1, [⟨0, 32, .ro, some 0, false⟩]⟩,
   ⟨0x184, 0, 1, [⟨0, 32, .ro, some 0, false⟩]⟩,
   ⟨0x188, 0, 1, [⟨0, 8, .rws, some 24, false⟩]⟩,
   ⟨0x18c, 0, 1, [⟨0, 8, .rws, some 10, false⟩, ⟨8, 16, .rws, some 1000, false⟩]⟩,
   ⟨0x190, 0, 1, [⟨0, 24, .ro, some 0, false⟩]⟩ ]

/-- Page MEM_CH (R349). -/
def memCh : List RegWord :=
  [
   ⟨0x14, 0, 1, [⟨0, 3, .ro, some 0, false⟩]⟩,
   ⟨0x100, 0, 1, [⟨0, 32, .ro, some 0, true⟩]⟩,
   ⟨0x104, 0, 1, [⟨0, 32, .ro, some 0, true⟩]⟩,
   ⟨0x108, 0, 1, [⟨0, 32, .ro, some 0, true⟩]⟩,
   ⟨0x10c, 0, 1, [⟨0, 32, .ro, some 0, true⟩]⟩,
   ⟨0x110, 0, 1, [⟨0, 32, .ro, some 0, true⟩]⟩,
   ⟨0x114, 0, 1, [⟨0, 32, .ro, some 0, true⟩]⟩,
   ⟨0x118, 0, 1, [⟨0, 32, .ro, some 0, false⟩]⟩,
   ⟨0x11c, 0, 1, [⟨0, 16, .ro, some 0, false⟩]⟩,
   ⟨0x120, 0, 1, [⟨0, 16, .ro, none, false⟩]⟩,
   ⟨0x124, 0, 1, [⟨0, 1, .ro, some 0, false⟩, ⟨8, 5, .ro, some 0, false⟩]⟩,
   ⟨0x128, 0, 1, [⟨0, 1, .wo, some 0, false⟩]⟩ ]

/-- Page SILK_LINK (R383). -/
def silkLink : List RegWord :=
  [
   ⟨0x14, 0, 1, [⟨0, 3, .ro, some 0, false⟩]⟩,
   ⟨0x100, 0, 1, [⟨0, 1, .rws, some 0, false⟩, ⟨1, 1, .rws, some 1, false⟩]⟩,
   ⟨0x104, 0, 1, [⟨0, 16, .ro, some 0, false⟩, ⟨16, 6, .ro, some 0, false⟩]⟩,
   ⟨0x108, 0, 1, [⟨0, 17, .ro, some 0, false⟩]⟩,
   ⟨0x10c, 0, 1, [⟨0, 3, .ro, some 0, false⟩, ⟨4, 3, .ro, some 0, false⟩, ⟨8, 1, .ro, some 0, false⟩, ⟨10, 2, .ro, some 0, false⟩]⟩,
   ⟨0x110, 0, 1, [⟨0, 3, .ro, some 0, false⟩]⟩,
   ⟨0x114, 0, 1, [⟨0, 10, .ro, some 0, false⟩]⟩,
   ⟨0x118, 0, 1, [⟨0, 32, .ro, some 0, true⟩]⟩,
   ⟨0x11c, 0, 1, [⟨0, 32, .ro, some 0, true⟩]⟩,
   ⟨0x120, 0, 1, [⟨0, 32, .ro, some 0, true⟩]⟩,
   ⟨0x124, 0, 1, [⟨0, 32, .ro, some 0, true⟩]⟩,
   ⟨0x128, 0, 1, [⟨0, 16, .ro, some 0, true⟩]⟩,
   ⟨0x12c, 0, 1, [⟨0, 32, .ro, some 0, true⟩]⟩,
   ⟨0x130, 0, 1, [⟨0, 32, .ro, some 0, true⟩]⟩ ]

/-- Page COCOON (R323). -/
def cocoon : List RegWord :=
  [
   ⟨0x14, 0, 1, [⟨0, 3, .ro, some 0, false⟩]⟩,
   ⟨0x100, 0, 1, [⟨0, 1, .rws, some 0, false⟩, ⟨1, 1, .rws, some 1, false⟩, ⟨8, 6, .rws, none, false⟩, ⟨16, 2, .rws, some 0, false⟩]⟩,
   ⟨0x104, 0, 1, [⟨0, 4, .rws, some 0, false⟩]⟩,
   ⟨0x110, 8, 8, [⟨0, 32, .rws, none, false⟩]⟩,
   ⟨0x114, 8, 8, [⟨0, 32, .rws, none, false⟩]⟩,
   ⟨0x150, 0, 1, [⟨0, 32, .rws, none, false⟩]⟩,
   ⟨0x154, 0, 1, [⟨0, 32, .rws, none, false⟩]⟩,
   ⟨0x158, 0, 1, [⟨0, 32, .rws, none, false⟩]⟩,
   ⟨0x15c, 0, 1, [⟨0, 32, .rws, some 0, false⟩]⟩,
   ⟨0x170, 4, 16, [⟨0, 32, .wo, some 0, false⟩]⟩,
   ⟨0x1b0, 0, 1, [⟨0, 1, .wo, some 0, false⟩, ⟨1, 1, .wo, some 0, false⟩]⟩,
   ⟨0x1b4, 0, 1, [⟨0, 1, .ro, some 0, false⟩]⟩,
   ⟨0x1c0, 0, 1, [⟨0, 32, .ro, some 0, false⟩]⟩,
   ⟨0x1c4, 0, 1, [⟨0, 32, .ro, some 0, false⟩]⟩,
   ⟨0x1c8, 0, 1, [⟨0, 32, .ro, some 0, true⟩]⟩,
   ⟨0x1cc, 0, 1, [⟨0, 32, .ro, some 0, true⟩]⟩,
   ⟨0x1d0, 0, 1, [⟨0, 32, .ro, some 0, false⟩]⟩,
   ⟨0x1d4, 0, 1, [⟨0, 32, .ro, some 0, false⟩]⟩,
   ⟨0x1d8, 0, 1, [⟨0, 32, .ro, some 0, true⟩]⟩,
   ⟨0x1e0, 0, 1, [⟨0, 8, .wo, some 0, false⟩, ⟨8, 1, .wo, some 0, false⟩]⟩,
   ⟨0x1f0, 0, 1, [⟨0, 1, .wo, some 0, false⟩]⟩,
   ⟨0x200, 4, 8, [⟨0, 32, .ro, some 0, false⟩]⟩,
   ⟨0x220, 4, 4, [⟨0, 32, .ro, some 0, false⟩]⟩,
   ⟨0x230, 4, 4, [⟨0, 2, .ro, some 0, false⟩, ⟨4, 12, .ro, some 0, false⟩, ⟨16, 1, .ro, some 0, false⟩]⟩ ]

/-- Page STAIDO (R409). -/
def staido : List RegWord :=
  [
   ⟨0x14, 0, 1, [⟨0, 3, .ro, some 0, false⟩]⟩,
   ⟨0x100, 0, 1, [⟨0, 4, .ro, some 0, false⟩]⟩,
   ⟨0x104, 0, 1, [⟨0, 11, .ro, some 0, false⟩]⟩,
   ⟨0x108, 0, 1, [⟨0, 10, .rw, some 100, false⟩]⟩,
   ⟨0x10c, 0, 1, [⟨0, 1, .wo, some 0, false⟩]⟩,
   ⟨0x110, 0, 1, [⟨0, 32, .ro, some 0, true⟩]⟩,
   ⟨0x114, 0, 1, [⟨0, 32, .ro, some 0, true⟩]⟩,
   ⟨0x118, 0, 1, [⟨0, 16, .ro, some 0, true⟩]⟩,
   ⟨0x11c, 0, 1, [⟨0, 32, .ro, some 0, true⟩]⟩,
   ⟨0x120, 0, 1, [⟨0, 32, .ro, some 0, true⟩]⟩,
   ⟨0x124, 0, 1, [⟨0, 16, .ro, some 0, true⟩]⟩ ]

/-- The device-wide silk registers, on the page of link 0 (R384). -/
def silkDevice : List RegWord :=
  [
   ⟨0x800, 0, 1, [⟨0, 16, .rws, some 0, false⟩]⟩,
   ⟨0x804, 0, 1, [⟨0, 14, .rws, some 50, false⟩]⟩,
   ⟨0x808, 0, 1, [⟨0, 32, .rws, none, false⟩]⟩,
   ⟨0x80c, 0, 1, [⟨0, 16, .rws, none, false⟩]⟩,
   ⟨0x810, 0, 1, [⟨0, 7, .ro, some 0, false⟩, ⟨8, 1, .ro, some 0, false⟩]⟩,
   ⟨0x814, 0, 1, [⟨0, 32, .ro, some 0, true⟩]⟩,
   ⟨0x818, 0, 1, [⟨0, 6, .rw, some 0, false⟩, ⟨16, 10, .rw, some 0, false⟩]⟩,
   ⟨0x81c, 0, 1, [⟨0, 32, .rw, none, false⟩]⟩,
   ⟨0x820, 0, 1, [⟨0, 32, .rw, none, false⟩]⟩,
   ⟨0x824, 0, 1, [⟨0, 1, .wo, some 0, false⟩, ⟨1, 1, .wo, some 0, false⟩]⟩,
   ⟨0x828, 0, 1, [⟨0, 32, .ro, some 0, false⟩]⟩,
   ⟨0x82c, 0, 1, [⟨0, 1, .ro, some 0, false⟩]⟩ ]

/-- Page CLUSTER (R114, R137). -/
def cluster : List RegWord :=
  [
   ⟨0x100, 16, 8, [⟨0, 3, .ro, some 0, false⟩, ⟨8, 6, .ro, some 0, false⟩, ⟨16, 1, .ro, some 0, false⟩]⟩,
   ⟨0x104, 16, 8, [⟨0, 8, .ro, some 0, false⟩, ⟨8, 8, .ro, some 0, false⟩, ⟨16, 12, .ro, some 0, false⟩]⟩,
   ⟨0x108, 16, 8, [⟨0, 16, .ro, some 0, true⟩]⟩,
   ⟨0x180, 0, 1, [⟨0, 16, .ro, some 0, true⟩]⟩,
   ⟨0x200, 4, 4, [⟨0, 8, .ro, some 128, false⟩, ⟨8, 8, .ro, some 128, false⟩, ⟨16, 8, .ro, some 128, false⟩, ⟨24, 8, .ro, some 128, false⟩]⟩,
   ⟨0x240, 4, 8, [⟨0, 5, .ro, some 0, false⟩, ⟨5, 1, .ro, some 0, false⟩, ⟨8, 5, .ro, some 0, false⟩, ⟨13, 1, .ro, some 0, false⟩, ⟨16, 5, .ro, some 0, false⟩, ⟨21, 1, .ro, some 0, false⟩, ⟨24, 5, .ro, some 0, false⟩, ⟨29, 1, .ro, some 0, false⟩, ⟨31, 1, .ro, some 0, false⟩]⟩ ]

/-- The die registers, on the cluster-0 page of each C-die (R42). -/
def die : List RegWord :=
  [
   ⟨0x800, 0, 1, [⟨0, 5, .ro, some 0, false⟩, ⟨8, 7, .ro, some 0, false⟩, ⟨16, 2, .ro, some 0, false⟩, ⟨24, 8, .ro, some 0, false⟩]⟩,
   ⟨0x810, 4, 16, [⟨0, 7, .ro, some 0, false⟩, ⟨7, 1, .ro, some 0, false⟩, ⟨8, 7, .ro, some 0, false⟩, ⟨15, 1, .ro, some 0, false⟩, ⟨16, 7, .ro, some 0, false⟩, ⟨23, 1, .ro, some 0, false⟩, ⟨24, 7, .ro, some 0, false⟩, ⟨31, 1, .ro, some 0, false⟩]⟩,
   ⟨0x860, 0, 1, [⟨0, 2, .ro, some 0, false⟩, ⟨8, 2, .ro, some 2, false⟩, ⟨16, 1, .ro, some 0, false⟩]⟩,
   ⟨0x864, 0, 1, [⟨0, 12, .ro, none, false⟩]⟩,
   ⟨0x868, 0, 1, [⟨0, 16, .ro, none, false⟩]⟩,
   ⟨0x870, 0, 1, [⟨0, 1, .ro, some 0, false⟩, ⟨1, 1, .ro, some 0, false⟩, ⟨2, 1, .ro, some 0, false⟩]⟩,
   ⟨0x874, 0, 1, [⟨0, 4, .ro, some 0, false⟩]⟩ ]

/-- A tenant function page (R410, R411, R324, R436). -/
def tenantFn : List RegWord :=
  [
   ⟨0x100, 0, 1, [⟨0, 12, .rwM, some 0, false⟩, ⟨12, 9, .rwM, some 0, false⟩, ⟨24, 7, .rwM, some 1, false⟩]⟩,
   ⟨0x104, 0, 1, [⟨0, 2, .ro, some 0, false⟩, ⟨8, 6, .ro, some 0, false⟩, ⟨16, 1, .ro, some 0, false⟩, ⟨17, 1, .ro, some 0, false⟩]⟩,
   ⟨0x108, 0, 1, [⟨0, 1, .wo, some 0, false⟩, ⟨8, 8, .rw, some 0, false⟩]⟩,
   ⟨0x10c, 0, 1, [⟨0, 32, .rwM, none, false⟩]⟩,
   ⟨0x110, 0, 1, [⟨0, 20, .rwM, none, false⟩]⟩,
   ⟨0x114, 0, 1, [⟨0, 1, .woM, some 0, false⟩, ⟨1, 1, .ro, some 0, false⟩]⟩,
   ⟨0x118, 0, 1, [⟨0, 32, .ro, some 0, false⟩]⟩,
   ⟨0x11c, 0, 1, [⟨0, 16, .ro, some 0, false⟩]⟩,
   ⟨0x120, 0, 1, [⟨0, 2, .ro, some 0, false⟩]⟩,
   ⟨0x140, 4, 8, [⟨0, 32, .rw, some 4294967295, false⟩]⟩,
   ⟨0x160, 4, 8, [⟨0, 32, .w1c, some 0, false⟩]⟩,
   ⟨0x180, 0, 1, [⟨0, 32, .ro, some 0, false⟩]⟩,
   ⟨0x184, 0, 1, [⟨0, 32, .ro, some 0, false⟩]⟩,
   ⟨0x188, 0, 1, [⟨0, 32, .ro, some 0, false⟩]⟩,
   ⟨0x18c, 0, 1, [⟨0, 32, .ro, some 0, false⟩]⟩,
   ⟨0x190, 0, 1, [⟨0, 32, .ro, some 0, false⟩]⟩,
   ⟨0x194, 0, 1, [⟨0, 32, .ro, some 0, false⟩]⟩,
   ⟨0x198, 0, 1, [⟨0, 32, .ro, some 0, false⟩]⟩,
   ⟨0x1a0, 0, 1, [⟨0, 32, .ro, some 0, false⟩]⟩,
   ⟨0x1a4, 0, 1, [⟨0, 32, .ro, some 0, false⟩]⟩,
   ⟨0x1a8, 0, 1, [⟨0, 32, .ro, some 0, false⟩]⟩,
   ⟨0x1ac, 0, 1, [⟨0, 16, .ro, some 0, false⟩]⟩,
   ⟨0x1b0, 0, 1, [⟨0, 2, .wo, some 0, false⟩]⟩,
   ⟨0x1b4, 0, 1, [⟨0, 16, .wo, some 0, false⟩, ⟨16, 1, .wo, some 0, false⟩]⟩,
   ⟨0x1b8, 0, 1, [⟨0, 1, .w1c, some 0, false⟩, ⟨16, 5, .ro, some 0, false⟩]⟩,
   ⟨0x1c0, 0, 1, [⟨0, 32, .ro, some 0, false⟩]⟩,
   ⟨0x1c4, 0, 1, [⟨0, 32, .ro, some 0, false⟩]⟩,
   ⟨0x1c8, 0, 1, [⟨0, 32, .ro, some 0, false⟩]⟩,
   ⟨0x1cc, 0, 1, [⟨0, 32, .ro, some 0, false⟩]⟩,
   ⟨0x1d0, 0, 1, [⟨0, 32, .ro, some 0, false⟩]⟩ ] ++
  [
   ⟨0x1d4, 0, 1, [⟨0, 32, .ro, some 0, false⟩]⟩,
   ⟨0x1d8, 0, 1, [⟨0, 32, .ro, some 0, false⟩]⟩,
   ⟨0x1dc, 0, 1, [⟨0, 32, .ro, some 0, false⟩]⟩,
   ⟨0x1e0, 0, 1, [⟨0, 32, .ro, some 0, false⟩]⟩,
   ⟨0x1e4, 0, 1, [⟨0, 32, .ro, some 0, false⟩]⟩,
   ⟨0x400, 16, 64, [⟨0, 32, .rw, none, false⟩]⟩,
   ⟨0x404, 16, 64, [⟨0, 16, .rw, none, false⟩]⟩,
   ⟨0x408, 16, 64, [⟨0, 4, .rw, some 0, false⟩, ⟨8, 6, .rw, some 0, false⟩, ⟨16, 1, .rw, some 0, false⟩]⟩,
   ⟨0x40c, 16, 64, [⟨0, 12, .ro, some 0, false⟩]⟩,
   ⟨0x800, 0, 1, [⟨0, 1, .rw, some 0, false⟩]⟩,
   ⟨0x804, 0, 1, [⟨0, 32, .rw, none, false⟩]⟩,
   ⟨0x808, 0, 1, [⟨0, 16, .rw, none, false⟩]⟩,
   ⟨0x80c, 0, 1, [⟨0, 32, .rw, none, false⟩]⟩,
   ⟨0x810, 0, 1, [⟨0, 16, .rw, none, false⟩]⟩,
   ⟨0x814, 0, 1, [⟨0, 32, .rw, some 0, false⟩]⟩,
   ⟨0x818, 0, 1, [⟨0, 1, .ro, some 0, false⟩, ⟨1, 1, .w1c, some 0, false⟩, ⟨2, 1, .w1c, some 0, false⟩]⟩,
   ⟨0xc00, 16, 64, [⟨0, 32, .rw, none, false⟩]⟩,
   ⟨0xc04, 16, 64, [⟨0, 16, .rw, none, false⟩]⟩,
   ⟨0xc08, 16, 64, [⟨0, 5, .rw, some 0, false⟩, ⟨16, 1, .rw, some 0, false⟩, ⟨17, 1, .rw, some 0, false⟩]⟩,
   ⟨0xc0c, 16, 64, [⟨0, 8, .rw, some 1, false⟩, ⟨8, 10, .rw, some 0, false⟩, ⟨24, 8, .rw, some 0, false⟩]⟩ ]

/-- The management function page: no TT fields (R410, R411). -/
def mgmtFn : List RegWord :=
  [
   ⟨0x100, 0, 1, [⟨0, 12, .rwM, some 0, false⟩, ⟨12, 9, .rwM, some 0, false⟩, ⟨24, 7, .rwM, some 1, false⟩]⟩,
   ⟨0x104, 0, 1, [⟨0, 2, .ro, some 0, false⟩, ⟨8, 6, .ro, some 0, false⟩, ⟨16, 1, .ro, some 0, false⟩, ⟨17, 1, .ro, some 0, false⟩]⟩,
   ⟨0x108, 0, 1, [⟨0, 1, .wo, some 0, false⟩, ⟨8, 8, .rw, some 0, false⟩]⟩,
   ⟨0x140, 4, 8, [⟨0, 32, .rw, some 4294967295, false⟩]⟩,
   ⟨0x160, 4, 8, [⟨0, 32, .w1c, some 0, false⟩]⟩,
   ⟨0x180, 0, 1, [⟨0, 32, .ro, some 0, false⟩]⟩,
   ⟨0x184, 0, 1, [⟨0, 32, .ro, some 0, false⟩]⟩,
   ⟨0x188, 0, 1, [⟨0, 32, .ro, some 0, false⟩]⟩,
   ⟨0x18c, 0, 1, [⟨0, 32, .ro, some 0, false⟩]⟩,
   ⟨0x190, 0, 1, [⟨0, 32, .ro, some 0, false⟩]⟩,
   ⟨0x194, 0, 1, [⟨0, 32, .ro, some 0, false⟩]⟩,
   ⟨0x198, 0, 1, [⟨0, 32, .ro, some 0, false⟩]⟩,
   ⟨0x1a0, 0, 1, [⟨0, 32, .ro, some 0, false⟩]⟩,
   ⟨0x1a4, 0, 1, [⟨0, 32, .ro, some 0, false⟩]⟩,
   ⟨0x1a8, 0, 1, [⟨0, 32, .ro, some 0, false⟩]⟩,
   ⟨0x1ac, 0, 1, [⟨0, 16, .ro, some 0, false⟩]⟩,
   ⟨0x400, 16, 64, [⟨0, 32, .rw, none, false⟩]⟩,
   ⟨0x404, 16, 64, [⟨0, 16, .rw, none, false⟩]⟩,
   ⟨0x408, 16, 64, [⟨0, 4, .rw, some 0, false⟩, ⟨8, 6, .rw, some 0, false⟩, ⟨16, 1, .rw, some 0, false⟩]⟩,
   ⟨0x40c, 16, 64, [⟨0, 12, .ro, some 0, false⟩]⟩,
   ⟨0xc00, 16, 64, [⟨0, 32, .rw, none, false⟩]⟩,
   ⟨0xc04, 16, 64, [⟨0, 16, .rw, none, false⟩]⟩,
   ⟨0xc08, 16, 64, [⟨0, 5, .rw, some 0, false⟩, ⟨16, 1, .rw, some 0, false⟩, ⟨17, 1, .rw, some 0, false⟩]⟩,
   ⟨0xc0c, 16, 64, [⟨0, 8, .rw, some 1, false⟩, ⟨8, 10, .rw, some 0, false⟩, ⟨24, 8, .rw, some 0, false⟩]⟩ ]

/-- The radio function page: no totals, 16 queues and 16 rings (R410, R411, R396). -/
def radioFn : List RegWord :=
  [
   ⟨0x100, 0, 1, [⟨0, 12, .rwM, some 0, false⟩, ⟨12, 9, .rwM, some 0, false⟩, ⟨24, 7, .rwM, some 1, false⟩]⟩,
   ⟨0x104, 0, 1, [⟨0, 2, .ro, some 0, false⟩, ⟨8, 6, .ro, some 0, false⟩, ⟨16, 1, .ro, some 0, false⟩, ⟨17, 1, .ro, some 0, false⟩]⟩,
   ⟨0x108, 0, 1, [⟨0, 1, .wo, some 0, false⟩, ⟨8, 8, .rw, some 0, false⟩]⟩,
   ⟨0x10c, 0, 1, [⟨0, 32, .rwM, none, false⟩]⟩,
   ⟨0x110, 0, 1, [⟨0, 20, .rwM, none, false⟩]⟩,
   ⟨0x114, 0, 1, [⟨0, 1, .woM, some 0, false⟩, ⟨1, 1, .ro, some 0, false⟩]⟩,
   ⟨0x118, 0, 1, [⟨0, 32, .ro, some 0, false⟩]⟩,
   ⟨0x11c, 0, 1, [⟨0, 16, .ro, some 0, false⟩]⟩,
   ⟨0x120, 0, 1, [⟨0, 2, .ro, some 0, false⟩]⟩,
   ⟨0x140, 4, 8, [⟨0, 32, .rw, some 4294967295, false⟩]⟩,
   ⟨0x160, 4, 8, [⟨0, 32, .w1c, some 0, false⟩]⟩,
   ⟨0x1a0, 0, 1, [⟨0, 32, .ro, some 0, false⟩]⟩,
   ⟨0x1a4, 0, 1, [⟨0, 32, .ro, some 0, false⟩]⟩,
   ⟨0x1a8, 0, 1, [⟨0, 32, .ro, some 0, false⟩]⟩,
   ⟨0x1ac, 0, 1, [⟨0, 16, .ro, some 0, false⟩]⟩,
   ⟨0x400, 16, 16, [⟨0, 32, .rw, none, false⟩]⟩,
   ⟨0x404, 16, 16, [⟨0, 16, .rw, none, false⟩]⟩,
   ⟨0x408, 16, 16, [⟨0, 4, .rw, some 0, false⟩, ⟨8, 6, .rw, some 0, false⟩, ⟨16, 1, .rw, some 0, false⟩]⟩,
   ⟨0x40c, 16, 16, [⟨0, 12, .ro, some 0, false⟩]⟩,
   ⟨0xc00, 16, 16, [⟨0, 32, .rw, none, false⟩]⟩,
   ⟨0xc04, 16, 16, [⟨0, 16, .rw, none, false⟩]⟩,
   ⟨0xc08, 16, 16, [⟨0, 5, .rw, some 0, false⟩, ⟨16, 1, .rw, some 0, false⟩, ⟨17, 1, .rw, some 0, false⟩]⟩,
   ⟨0xc0c, 16, 16, [⟨0, 8, .rw, some 1, false⟩, ⟨8, 10, .rw, some 0, false⟩, ⟨24, 8, .rw, some 0, false⟩]⟩,
   ⟨0xe00, 16, 16, [⟨0, 32, .rw, none, false⟩]⟩,
   ⟨0xe04, 16, 16, [⟨0, 16, .rw, none, false⟩]⟩,
   ⟨0xe08, 16, 16, [⟨0, 32, .rw, none, false⟩]⟩ ]

end Layout

/-- The words of each page type. The die registers stand on the cluster page of every C-die's cluster 0 and the
device-wide silk registers on the page of link 0, so the instance decides (R42, R384). -/
def layout (t : PageType) (inst : Nat) : List RegWord :=
  match t with
  | .index => Layout.index
  | .boot => Layout.boot
  | .reset => Layout.reset
  | .attest => Layout.attest
  | .pwr => Layout.pwr
  | .bbox => Layout.bbox
  | .pod => Layout.pod
  | .lstep => Layout.lstep
  | .seq => Layout.seq
  | .seqDebt => Layout.seqDebt
  | .time => Layout.time
  | .timeCmp => Layout.timeCmp
  | .lfc => Layout.lfc
  | .timePort => Layout.timePort
  | .fh => Layout.fh
  | .fhPort => Layout.fhPort
  | .radio => Layout.radio
  | .radioEng => Layout.radioEng
  | .mem => Layout.mem
  | .memCh => Layout.memCh
  | .silkLink => if inst = 0 then Layout.silkLink ++ Layout.silkDevice else Layout.silkLink
  | .cocoon => Layout.cocoon
  | .tenantFn => Layout.tenantFn
  | .staido => Layout.staido
  | .mgmtFn => Layout.mgmtFn
  | .radioFn => Layout.radioFn
  | .cluster => if inst % 8 = 0 then Layout.cluster ++ Layout.die else Layout.cluster

/-- A run of implemented pages of one type: first page, count, CTRL bits ENABLE, COMMIT, BLOCK_RESET (R491), and the
UNITS of PAGE_CAP (R492). -/
structure PageRun where
  first : Nat
  count : Nat
  type : PageType
  hasE : Bool
  hasC : Bool
  hasB : Bool
  units : Nat
deriving DecidableEq, Repr

/-- The implemented pages (R491). UNITS counts the sub-units of a page: the compare units, queues, interfaces or cores
that R492 names, and 0 elsewhere. -/
def pageRuns : List PageRun := [
  ⟨0x000, 1, .index, false, false, false, 0⟩,
  ⟨0x001, 1, .boot, false, false, false, 0⟩,
  ⟨0x002, 1, .reset, false, false, false, 0⟩,
  ⟨0x003, 1, .attest, false, false, false, 0⟩,
  ⟨0x004, 1, .pwr, false, true, false, 0⟩,
  ⟨0x005, 1, .bbox, false, true, false, 0⟩,
  ⟨0x008, 1, .pod, false, true, true, 0⟩,
  ⟨0x009, 1, .lstep, false, true, true, 4⟩,
  ⟨0x010, 1, .seq, true, true, true, 0⟩,
  ⟨0x011, 1, .seqDebt, false, false, false, 0⟩,
  ⟨0x040, 1, .time, false, true, true, 0⟩,
  ⟨0x041, 1, .timeCmp, false, false, true, 16⟩,
  ⟨0x042, 1, .lfc, false, false, false, 0⟩,
  ⟨0x048, 16, .timePort, false, false, true, 4⟩,
  ⟨0x060, 1, .fh, false, true, true, 0⟩,
  ⟨0x061, 16, .fhPort, true, true, true, 4⟩,
  ⟨0x080, 1, .radio, true, true, true, 0⟩,
  ⟨0x081, 1, .radioEng, false, false, false, 0⟩,
  ⟨0x0A0, 1, .mem, true, true, false, 0⟩,
  ⟨0x0A1, 24, .memCh, false, false, false, 0⟩,
  ⟨0x0C0, 64, .silkLink, false, true, true, 0⟩,
  ⟨0x100, 64, .cocoon, true, true, false, 0⟩,
  ⟨0x140, 256, .tenantFn, false, false, false, 64⟩,
  ⟨0x240, 1, .staido, false, false, false, 0⟩,
  ⟨0x241, 1, .mgmtFn, false, false, false, 64⟩,
  ⟨0x242, 1, .radioFn, false, false, false, 16⟩,
  ⟨0x300, 256, .cluster, false, false, false, 8⟩]

/-- The run that holds page `p`, if `p` is implemented. -/
def pageRun (p : Nat) : Option PageRun :=
  pageRuns.find? fun r => Nat.ble r.first p && Nat.blt p (r.first + r.count)

/-- The fields of the word at byte offset `off` of page `p`; none at a reserved offset or on a missing page (R487). -/
def wordFlds (p off : Nat) : List RegFld :=
  match pageRun p with
  | none => []
  | some r =>
    ((layout r.type (p - r.first)).filter fun w => w.has off).flatMap fun w => w.flds

end Sys2Proof.Machine
end

