-- ==== Sys2Proof/Machine/Ops.lean ====
section
/-!
DEFINITION. The named operations every block shares: register fields (R6–R9, R513), device time (R262), error bits
(R493), refusals (R498), signal vectors (R397, R398), the black box (R476) and the fatal error (R75, R477, R479).
-/
namespace Sys2Proof.Machine

/-! ### Register fields -/

/-- The key of a field in the register file. -/
def Fld.key (f : Fld) : Nat := (f.page * 4096 + f.off) * 32 + f.lo

/-- The common words of R492. -/
def ctrlEnable (p : Nat) : Fld := ⟨p, 0x10, 0, 1⟩
def refusalReason (p : Nat) : Fld := ⟨p, 0x18, 0, 16⟩
def refusalOffset (p : Nat) : Fld := ⟨p, 0x18, 16, 16⟩
def errWord (p : Nat) : Fld := ⟨p, 0x20, 0, 32⟩
def errMask (p : Nat) : Fld := ⟨p, 0x24, 0, 32⟩
def errFirstBit (p : Nat) : Fld := ⟨p, 0x28, 0, 5⟩
def errFirstValid (p : Nat) : Fld := ⟨p, 0x28, 31, 1⟩
def errTime (p : Nat) : Fld := ⟨p, 0x2C, 0, 32⟩
def signalVec (p : Nat) : Fld := ⟨p, 0x30, 0, 12⟩
def signalEn (p : Nat) : Fld := ⟨p, 0x30, 31, 1⟩

/-- The reset value of a field: nothing where its table gives "—"; 0 for the common words of R492; SEALED is 1 for cocoon 0 (R323), and DIE_INFO.DIE is the
die index (R42). -/
def resetOf (f : Fld) : Option Nat :=
  if f = Reg.COCOON.CFG.SEALED 0 then some 1
  else if Nat.ble 0x300 f.page && Nat.blt f.page 0x400 && f = Reg.DIE.DIE_INFO.DIE ((f.page - 0x300) / 8) then some ((f.page - 0x300) / 8)
  else if Nat.blt f.off 0x34 && !Nat.beq f.off 0x14 then some 0
  else match (wordFlds f.page f.off).find? fun r => Nat.beq r.lo f.lo with
    | some r => r.rst
    | none => some 0

/-- The value of a field that nothing has written since reset (R513). -/
def State.unwritten (s : State) (f : Fld) : Nat :=
  match resetOf f with
  | some v => v
  | none => Config.unspecified s.draws f.key

/-- A field's value in effect, of the field's width. -/
def State.fld (s : State) (f : Fld) : Nat :=
  (match Assoc.find f.key s.pages.file.live with
  | some v => v
  | none => s.unwritten f) % 2 ^ f.w

/-- A field's shadow value (R6); for a field that is not RWS it means nothing. -/
def State.shd (s : State) (f : Fld) : Nat :=
  (match Assoc.find f.key s.pages.file.shadow with
  | some v => v
  | none => s.unwritten f) % 2 ^ f.w

/-- Is the field's value 1? -/
def State.isSet (s : State) (f : Fld) : Bool := Nat.beq (s.fld f) 1

/-- The state with other values in effect in its register file. -/
def State.withLive (s : State) (m : Assoc Nat) : State :=
  { s with pages := { s.pages with file := { s.pages.file with live := m } } }

/-- The state with another shadow. -/
def State.withShadow (s : State) (m : Assoc Nat) : State :=
  { s with pages := { s.pages with file := { s.pages.file with shadow := m } } }

/-- Set a field's value in effect. -/
def State.setFld (s : State) (f : Fld) (v : Nat) : State :=
  s.withLive (Assoc.put f.key (v % 2 ^ f.w) s.pages.file.live)

/-- Set a field's shadow value. -/
def State.setShd (s : State) (f : Fld) (v : Nat) : State :=
  s.withShadow (Assoc.put f.key (v % 2 ^ f.w) s.pages.file.shadow)

/-- Give a field its reset value again, in effect and in the shadow (R497). -/
def State.resetFld (s : State) (f : Fld) : State :=
  { s with pages := { s.pages with
      file := ⟨Assoc.del f.key s.pages.file.live, Assoc.del f.key s.pages.file.shadow⟩ } }

/-- Set both the value in effect and the shadow, as the bundle's configuration does (R443). -/
def State.setBoth (s : State) (f : Fld) (v : Nat) : State := (s.setFld f v).setShd f v

/-- Set several fields in turn. -/
def State.setFlds (s : State) : List (Fld × Nat) → State
  | [] => s
  | (f, v) :: r => (s.setFld f v).setFlds r

/-- A value split into a low field of 32 bits and a high field. -/
def State.fld2 (s : State) (lo hi : Fld) : Nat := s.fld lo + 2 ^ 32 * s.fld hi
def State.setFld2 (s : State) (lo hi : Fld) (v : Nat) : State :=
  (s.setFld lo (v % 2 ^ 32)).setFld hi (v / 2 ^ 32)
def State.shd2 (s : State) (lo hi : Fld) : Nat := s.shd lo + 2 ^ 32 * s.shd hi

/-- Count up, saturating at the field's largest value. -/
def State.countSat (s : State) (f : Fld) (n : Nat) : State :=
  s.setFld f (min (s.fld f + n) (2 ^ f.w - 1))

/-- Count up modulo the field's range. -/
def State.countMod (s : State) (f : Fld) (n : Nat) : State := s.setFld f (s.fld f + n)

/-- Count up a 64-bit value in two fields, saturating. -/
def State.countSat2 (s : State) (lo hi : Fld) (n : Nat) : State :=
  s.setFld2 lo hi (min (s.fld2 lo hi + n) (2 ^ 64 - 1))

/-- An error bit of a page (R492): `f` names the bit. -/
def State.err (s : State) (f : Fld) : Bool := (s.fld (errWord f.page)).testBit f.lo

/-! ### Device time and free values -/

/-- The nanosecond count N of device time (R262). -/
def State.now (s : State) : Nat := s.time.t / 65536

/-- Time on the part's own clock in ns, which no step moves: the residence counter (R271). Intervals such as the 10 ms of R472 are
measured on it. -/
def State.mono (s : State) : Nat := s.time.res / 65536

/-- Beat length L in ns of a LEN code, and beats per 10 ms frame F (R43). -/
def beatLen (code : Nat) : Nat := 62500 * 2 ^ code
def beatsPerFrame (code : Nat) : Nat := 160 / 2 ^ code

/-- L and F in effect. -/
def State.L (s : State) : Nat := beatLen (s.fld Reg.SEQ.BEAT_CFG.LEN)
def State.F (s : State) : Nat := beatsPerFrame (s.fld Reg.SEQ.BEAT_CFG.LEN)

/-- Both counters of time, run on to `n` ns of device time if that lies ahead. -/
def TimeUnit.runTo (u : TimeUnit) (n : Nat) : TimeUnit :=
  { u with t := u.t + (65536 * n - u.t), res := u.res + (65536 * n - u.t) }

/-- Let device time and the residence counter run on to `n` ns, if that lies ahead (R260, R271). -/
def State.advanceTo (s : State) (n : Nat) : State := { s with time := s.time.runTo n }

/-- Let time run on until the part's own clock reads `n` ns. -/
def State.advanceMono (s : State) (n : Nat) : State :=
  { s with time := { s.time with t := s.time.t + (65536 * n - s.time.res), res := s.time.res + (65536 * n - s.time.res) } }

/-- The state after one more free value has been drawn. -/
def State.drawn (s : State) : State := { s with draws := s.draws + 1 }

/-- Something leaves the part. -/
def State.emit (s : State) (e : Emit) : State := { s with out := s.out ++ [e] }

/-! ### The black box (R476) -/

/-- The die whose ring records events of a page (DEDUCED, log entry 5). -/
def pageDie (p : Nat) : Nat :=
  if 0x300 ≤ p ∧ p < 0x400 then (p - 0x300) / 8
  else if 0x0A1 ≤ p ∧ p ≤ 0x0B8 then 32 + (p - 0x0A1) / 6
  else if 0x0C0 ≤ p ∧ p ≤ 0x0FF then 36 + (p - 0x0C0) / 32
  else if 0x040 ≤ p ∧ p ≤ 0x081 then 38
  else 39

/-- Is an event of the class recorded now: rings armed and not frozen, and classes 2 to 6 not masked. -/
def State.bbTakes (s : State) (cls : Nat) : Bool :=
  s.isSet Reg.BBOX.STATUS.ARMED &&
    (Nat.beq cls 0 || (!s.bbox.frozen &&
      (Nat.ble cls 1 || (s.fld Reg.BBOX.MASK.CLASS_EN).testBit (cls - 2))))

/-- Add a record to a die's ring, which keeps its last 4,096. -/
def State.recordOn (s : State) (die cls page code detail : Nat) : State :=
  if s.bbTakes cls then
    { s with bbox := { s.bbox with
        rings := Assoc.upd die [] (fun l => (⟨s.now % 2 ^ 48, die, cls, page, code, detail⟩ :: l).take 4096) s.bbox.rings
        written := Assoc.upd die 0 (· + 1) s.bbox.written } }
  else s

/-- Record an event of a page. -/
def State.record (s : State) (cls page code detail : Nat) : State :=
  s.recordOn (pageDie page) cls page code detail

/-- Record a power action (class 5): DETAIL holds the die and the new operating point. -/
def State.powerAction (s : State) (code die point : Nat) : State :=
  s.recordOn die 5 0x004 code (die + 256 * point)

/-- Give a STATE field a new value; a change is recorded as class 1. -/
def State.enter (s : State) (f : Fld) (v : Nat) : State :=
  if s.fld f = v then s else (s.setFld f v).record 1 f.page v v

/-! ### Crossings (R29–R35) -/

def CrossState.up : CrossState := ⟨false, false, false, [], 0⟩

def State.crossing (s : State) (x : Crossing) : CrossState :=
  match s.crossings.find? fun c => c.1 == x with
  | some c => c.2
  | none => .up

def State.setCrossing (s : State) (x : Crossing) (k : CrossState) : State :=
  { s with crossings := (x, k) :: s.crossings.filter fun c => !(c.1 == x) }

/-- R30: an event is raised. While a request for its line is outstanding it is held pending, and pending raises merge. -/
def CrossState.raise (k : CrossState) (core mask : Nat) : CrossState :=
  if k.events.any fun l => Nat.beq l.core core && Nat.beq l.mask mask then
    { k with events := k.events.map fun l => if l.core = core ∧ l.mask = mask then { l with again := true } else l }
  else { k with events := k.events ++ [⟨core, mask, false⟩] }

/-! ### Signal vectors (R397, R398) and host transactions (R391) -/

/-- A fresh function. -/
def FnState.fresh : FnState := ⟨[], [], [], [], 0, [], 0⟩

/-- Is the Staido link able to carry transactions: ATTACHED, ATTACHED_HALF or DETACHING (R404)? -/
def State.linkUp (s : State) : Bool :=
  Nat.ble 2 (s.fld Reg.STAIDO.STATE.STATE)

/-- Queue a transaction of a function towards the host; with no link it is discarded (R406). -/
def State.toHost (s : State) (fn : Nat) (t : HostTxn) : State :=
  if s.linkUp then { s with staido := { s.staido with queue := s.staido.queue ++ [(fn, t)] } } else s

/-- The function whose range holds global vector `v` (R397). -/
def State.vecOwner (s : State) (v : Nat) : Option Nat :=
  (List.range 258).find? fun f =>
    Nat.ble (s.fld (Reg.FN.FN_CFG.SV_BASE f)) v &&
      Nat.blt v (s.fld (Reg.FN.FN_CFG.SV_BASE f) + s.fld (Reg.FN.FN_CFG.SV_COUNT f))

/-- Send one SIGNAL, merging into one of the same vector that has not yet left (R398). -/
def State.sendSignal (s : State) (fn v : Nat) : State :=
  if s.staido.queue.contains (fn, .signal v) then s else s.toHost fn (.signal v)

/-- Raise vector index `i` of a function (R398). -/
def State.raiseIndex (s : State) (fn i : Nat) : State :=
  if (s.fld (Reg.FN.SV_MASK.MASK fn (i / 32))).testBit (i % 32) then
    let f := Reg.FN.SV_PEND.PEND fn (i / 32)
    s.setFld f (s.fld f ||| 2 ^ (i % 32))
  else s.sendSignal fn (s.fld (Reg.FN.FN_CFG.SV_BASE fn) + i)

/-- Raise a global vector if a function owns it; nothing if none does. -/
def State.raiseOwned (s : State) (v : Nat) : State :=
  match s.vecOwner v with
  | some f => s.raiseIndex f (v - s.fld (Reg.FN.FN_CFG.SV_BASE f))
  | none => s

/-- Set an error bit without its signal: ERR, ERR_FIRST, ERR_TIME and the black-box record (R493, R476). -/
def State.setErrQuiet (s : State) (page bit : Nat) : State :=
  let e := s.fld (errWord page)
  let s := (s.setFld (errWord page) (e ||| 2 ^ bit)).record 2 page bit (e ||| 2 ^ bit)
  if (s.fld (errMask page)).testBit bit || s.isSet (errFirstValid page) then s
  else ((s.setFld (errFirstBit page) bit).setFld (errFirstValid page) 1).setFld (errTime page) s.now

/-- Raise a page's vector (R493); a number that lies in no range sets STAIDO.ERR.SV_UNOWNED (R397), whose own signal is
raised if its vector is owned. -/
def State.raisePage (s : State) (page : Nat) : State :=
  if s.isSet (signalEn page) then
    match s.vecOwner (s.fld (signalVec page)) with
    | some _ => s.raiseOwned (s.fld (signalVec page))
    | none =>
      if s.err Reg.STAIDO.ERR.SV_UNOWNED then s
      else
        let s := s.setErrQuiet 0x240 4
        if s.isSet (signalEn 0x240) && !(s.fld (errMask 0x240)).testBit 4 then s.raiseOwned (s.fld (signalVec 0x240))
        else s
  else s

/-- Set an error bit: a change from 0 to 1 is recorded, latches ERR_FIRST and raises the page's vector if the bit is not
masked (R493). -/
def State.raiseErr (s : State) (f : Fld) : State :=
  if s.err f then s
  else
    let s := s.setErrQuiet f.page f.lo
    if (s.fld (errMask f.page)).testBit f.lo then s else s.raisePage f.page

/-- Clear error bits; ERR_FIRST and ERR_TIME clear when none is left (R493, W1C of R6). -/
def State.clearErr (s : State) (page mask : Nat) : State :=
  let e := s.fld (errWord page)
  let e' := e - (e &&& mask)
  let s := s.setFld (errWord page) e'
  if e' = 0 then s.setFlds [(errFirstBit page, 0), (errFirstValid page, 0), (errTime page, 0)] else s

/-- A check or action is refused (R493, R498). -/
def State.refuse (s : State) (page reason off : Nat) : State :=
  (((s.setFld (refusalReason page) reason).setFld (refusalOffset page) off).record 3 page reason off).raisePage page

/-- A check passes: REFUSAL reads 0 (R492). -/
def State.passed (s : State) (page : Nat) : State :=
  (s.setFld (refusalReason page) 0).setFld (refusalOffset page) 0

/-! ### Page SEQ in HALTED (R75) -/

/-- Is the sequencer HALTED (R75)? -/
def State.seqHalted (s : State) : Bool := Nat.beq (s.fld Reg.SEQ.STATE.STATE) 5

/-- Change page SEQ, whose values stay frozen in HALTED (R75). -/
def State.onSeq (s : State) (k : State → State) : State := if s.seqHalted then s else k s

/-! ### The fatal device error (R75, R477, R479) -/

/-- A fatal device error: recorded as class 0, the rings freeze, FATAL_N falls, the sequencer halts and the flush begins. A
second one during the flush is recorded only (R482). -/
def State.fatalError (s : State) (cause : Nat) : State :=
  let s := s.recordOn 39 0 0x000 cause cause
  match s.fatal with
  | some _ => s
  | none =>
    let s := { s with fatal := some cause
                      bbox := { s.bbox with
                        frozen := true
                        snapshot := none
                        flush := some ⟨cause,
                          match s.bbox.snapshot, s.bbox.newest with
                          | some f, _ => 1 - f.slot
                          | none, some n => 1 - n
                          | none, none => 0,
                          s.bbox.rings, s.bbox.written, s.now % 2 ^ 48, s.seq.beat⟩ } }
    (s.setFld Reg.BBOX.STATUS.FLUSHING 1).setFld Reg.SEQ.STATE.STATE 5

/-! ### Ownership and names -/

/-- The function of a cocoon's own: 256 for management, 257 for the radio; a tenant cocoon has those bound to it. -/
def State.bound (s : State) (c f : Nat) : Bool :=
  (s.fld (Reg.COCOON.FUNCS.BOUND c (f / 32))).testBit (f % 32)

/-- COCOON.STATE. -/
def State.cocoonState (s : State) (c : Nat) : Nat := s.fld (Reg.COCOON.STATE.STATE c)

/-- A cocoon nothing has used. -/
def Cocoon.fresh : Cocoon :=
  { slots := [], segments := [], images := [], saveSeq := 0, dispatched := 0, turn := 0, lastBeat := none, fill := [], keyWords := []
    quar := [], prog := ⟨.none, 0, 0, 0, 0, 0, 0⟩ }

/-- A core nothing has used. -/
def Core.fresh : Core :=
  { cycle := 0, landings := [], delay := none, calls := [], handler := none, routine := none, point := false, faulted := false
    array := none, tail := [], vector := none, copies := [], remotes := [], nextId := 0, firedOnce := [], eligible := none
    feeders := [], vecHeld := false, held := [], fired := [], sig := 0 }

def State.core (s : State) (n : Nat) : Core := Assoc.findD n Core.fresh s.cores
def State.setCore (s : State) (n : Nat) (c : Core) : State := { s with cores := Assoc.put n c s.cores }
def State.cocoon (s : State) (c : Nat) : Cocoon := Assoc.findD c Cocoon.fresh s.cocoons
def State.setCocoon (s : State) (c : Nat) (k : Cocoon) : State := { s with cocoons := Assoc.put c k s.cocoons }
def State.fn (s : State) (f : Nat) : FnState := Assoc.findD f FnState.fresh s.fns
def State.setFn (s : State) (f : Nat) (k : FnState) : State := { s with fns := Assoc.put f k s.fns }
def State.setMem (s : State) (m : Memory) : State := { s with mem := m }

/-- Is the cocoon sealed (R314)? -/
def State.sealed (s : State) (c : Nat) : Bool := Nat.beq c 0 || s.isSet (Reg.COCOON.CFG.SEALED c)

/-- CORE_k.STATE and OWNER of a logical core (R114). -/
def coreStateFld (n : Nat) : Fld := Reg.CLUSTER.CORE.STATE (n / 8) (n % 8)
def coreOwnerFld (n : Nat) : Fld := Reg.CLUSTER.CORE.OWNER (n / 8) (n % 8)
def State.coreState (s : State) (n : Nat) : Nat := s.fld (coreStateFld n)

/-- Is a logical core disabled in the map (R24)? -/
def State.coreDisabled (s : State) (n : Nat) : Bool :=
  s.isSet (Reg.DIE.CORE_MAP.DIS (dieOf n) (n % 64 / 4) (n % 4))

end Sys2Proof.Machine
end

