-- ==== Sys2Proof/Machine/Host.lean ====
section
/-!
DEFINITION. The host side of the Staido link as named operations: translation of the host window (R400–R402), dirty-page
logging (R319–R321), writes to host memory (R389, R391) and completion entries (R188, R395, R399, R401).
-/
namespace Sys2Proof.Machine

/-! ### Translation (R400, R401) -/

/-- What a walk step or access fault is called in TT_FAULT_INFO.CAUSE (R410). -/
inductive TtCause where
  | invalid | writeProtect | malformed | readError
deriving DecidableEq, Repr

def TtCause.code : TtCause → Nat
  | .invalid => 0 | .writeProtect => 1 | .malformed => 2 | .readError => 3

/-- The shift of a level's index (R400). -/
def ttShift (level : Nat) : Nat := 39 - 9 * level

/-- Check one table entry at a level: a leaf's mapping, the next table's address, or the cause of a fault. -/
def ttEntry (level : Nat) (v : Nat) (write : Bool) (e : Word64) : Except TtCause (TtEntry ⊕ Nat) :=
  let n := e.toNat
  let size := 2 ^ ttShift level
  let addr := bitsOf n 12 40 * 4096
  let leaf := n.testBit 2
  if !n.testBit 0 then .error .invalid
  else if bitsOf n 3 9 ≠ 0 ∨ bitsOf n 52 12 ≠ 0 then .error .malformed
  else if leaf && Nat.beq level 0 || !leaf && Nat.beq level 3 then .error .malformed
  else if leaf && !Nat.beq (addr % size) 0 then .error .malformed
  else if leaf then
    if write && !n.testBit 1 then .error .writeProtect
    else .ok (.inl ⟨v / size * size, size, addr, n.testBit 1⟩)
  else .ok (.inr addr)

/-- Walk the table tree from `table` at `level`, `fuel` levels at most; `draw` numbers the walk reads. -/
def ttWalk (draw table level v : Nat) (write : Bool) : Nat → Except TtCause TtEntry
  | 0 => .error .malformed
  | fuel + 1 =>
    match Config.hostQword draw (table + 8 * (v / 2 ^ ttShift level % (if level = 0 then 256 else 512))) with
    | none => .error .readError
    | some e =>
      match ttEntry level v write e with
      | .error c => .error c
      | .ok (.inl t) => .ok t
      | .ok (.inr t) => ttWalk (draw + 1) t (level + 1) v write fuel

/-- Record a translation fault of a function (R401). -/
def State.ttFault (s : State) (fn addr : Nat) (c : TtCause) : State :=
  let s := (s.setFld2 (Reg.FN.TT_FAULT_LO.ADDR fn) (Reg.FN.TT_FAULT_HI.ADDR fn) addr).setFld (Reg.FN.TT_FAULT_INFO.CAUSE fn) c.code
  (s.raiseErr (Reg.FN.ERR.TT_FAULT fn)).raiseErr Reg.STAIDO.ERR.TT_FAULT

/-- The host physical address of a host-window address, through the function's cache and tables; nothing where the access
faults, which is then recorded. -/
def State.translate (s : State) (fn addr : Nat) (write : Bool) : State × Option Nat :=
  let v := addr - hostBase
  if fn = 256 then (s, some v)
  else
    let k := s.fn fn
    match k.tt.find? fun e => Nat.ble e.vbase v && Nat.blt v (e.vbase + e.size) with
    | some e =>
      if write && !e.write then (s.ttFault fn addr .writeProtect, none)
      else (s, some (e.pbase + (v - e.vbase)))
    | none =>
      let root := s.fld2 (Reg.FN.TT_ROOT_LO.ROOT fn) (Reg.FN.TT_ROOT_HI.ROOT fn)
      let r := ttWalk s.draws root 0 v write 4
      let s := { s with draws := s.draws + 4 }
      match r with
      | .ok e => (s.setFn fn { k with tt := (e :: k.tt).take 64 }, some (e.pbase + (v - e.vbase)))
      | .error c => (s.ttFault fn addr c, none)

/-! ### Dirty-page logging (R319–R321) -/

/-- Log one page of a function's host window that is about to be written. -/
def State.logPage (s : State) (fn page : Nat) : State :=
  let start := s.fld2 (Reg.FN.DIRTY_START_LO.ADDR fn) (Reg.FN.DIRTY_START_HI.ADDR fn) / 4096
  if page < start ∨ start + s.fld (Reg.FN.DIRTY_PAGES.PAGES fn) ≤ page then
    s.setFld (Reg.FN.DIRTY_STATUS.OVERFLOW fn) 1
  else
    let p := page - start
    let a := s.fld2 (Reg.FN.DIRTY_MAP_LO.ADDR fn) (Reg.FN.DIRTY_MAP_HI.ADDR fn) + p / 64 * 8
    match s.translate fn a true with
    | (s, some pa) => s.toHost fn (.atomicOr pa (BitVec.ofNat 64 (2 ^ (p % 64))))
    | (s, none) => s.setFld (Reg.FN.DIRTY_STATUS.OVERFLOW fn) 1

/-- Log every page that a write of `len` bytes at `addr` touches, while the function's logging is on. -/
def State.logWrite (s : State) (fn addr len : Nat) : State :=
  if Nat.blt fn 256 && s.isSet (Reg.FN.DIRTY_CFG.EN fn) && !Nat.beq len 0 then
    (List.range ((addr + len - 1) / 4096 - addr / 4096 + 1)).foldl (fun s i => s.logPage fn (addr / 4096 + i)) s
  else s

/-! ### Writes to host memory -/

/-- Write bytes that lie within one 4 KiB page of the host window; false where the access faults. -/
def State.hostWritePage (s : State) (fn addr : Nat) (bytes : List Byte) : State × Bool :=
  match s.translate fn addr true with
  | (s, some pa) => ((s.logWrite fn addr bytes.length).toHost fn (.memWr pa bytes), true)
  | (s, none) => (s, false)

/-- Write bytes to the host window, one MEM_WR for each 4 KiB page touched (R389). -/
def State.hostWrite (s : State) (fn addr : Nat) (bytes : List Byte) : Nat → State × Bool
  | 0 => (s, true)
  | fuel + 1 =>
    let n := 4096 - addr % 4096
    if bytes.length ≤ n then s.hostWritePage fn addr bytes
    else
      match s.hostWritePage fn addr (bytes.take n) with
      | (s, true) => s.hostWrite fn (addr + n) (bytes.drop n) fuel
      | (s, false) => (s, false)

/-! ### Rings (R395, R399, R401) -/

def SubQueue.fresh : SubQueue := ⟨0, false, false, [], []⟩
def CplRing.fresh : CplRing := ⟨0, 0, 0, 0, none, 0, []⟩

def State.queue (s : State) (fn q : Nat) : SubQueue := Assoc.findD q SubQueue.fresh (s.fn fn).queues
def State.setQueue (s : State) (fn q : Nat) (k : SubQueue) : State :=
  s.setFn fn { s.fn fn with queues := Assoc.put q k (s.fn fn).queues }
def State.ring (s : State) (fn r : Nat) : CplRing := Assoc.findD r CplRing.fresh (s.fn fn).rings
def State.setRing (s : State) (fn r : Nat) (k : CplRing) : State :=
  s.setFn fn { s.fn fn with rings := Assoc.put r k (s.fn fn).rings }

/-- The ring's entries not yet used or reserved. -/
def State.ringRoom (s : State) (fn r : Nat) : Nat :=
  let k := s.ring fn r
  2 ^ s.fld (Reg.FN.CQ_CFG.SIZE_LOG2 fn r) - (k.written - k.released) - k.reserved

/-- The ring's slots that a queue may still reserve: a read of a queue's entry in flight holds one (R394). -/
def State.ringFree (s : State) (fn r : Nat) : Nat :=
  s.ringRoom fn r - ((s.fn fn).queues.filter fun q => q.2.reading && Nat.beq (s.fld (Reg.FN.SQ_CFG.RING fn q.1)) r).length

/-- Raise a function's error vector, if ERR_VEC lies within its range (R394, R401). -/
def State.raiseErrVec (s : State) (fn : Nat) : State :=
  let v := s.fld (Reg.FN.FN_CTRL.ERR_VEC fn)
  if v < s.fld (Reg.FN.FN_CFG.SV_COUNT fn) then s.raiseIndex fn v else s

/-- The function enters ERROR (R401). -/
def State.fnError (s : State) (fn : Nat) : State :=
  ((s.enter (Reg.FN.FN_STATUS.STATE fn) 2).raiseErr (Reg.FN.ERR.ERROR fn)).raiseErrVec fn

/-- A queue halts (R394). -/
def State.haltQueue (s : State) (fn q : Nat) : State :=
  let s := s.setQueue fn q { s.queue fn q with halted := true, reading := false }
  ((s.setFld (Reg.FN.FN_STATUS.QHALT fn) 1).raiseErr (Reg.FN.ERR.QHALT fn)).raiseErrVec fn

/-- The signal rule of R399 for an entry just written into ring `r`. -/
def State.coalesce (s : State) (fn r : Nat) (signal : Bool) : State :=
  let k := s.ring fn r
  let vec := s.fld (Reg.FN.CQ_COAL.VEC fn r)
  if signal then (s.setRing fn r { k with pendingCount := 0, countFrom := none }).raiseIndex fn vec
  else if s.isSet (Reg.FN.CQ_CFG.COAL_EN fn r) then
    let n := k.pendingCount + 1
    if s.fld (Reg.FN.CQ_COAL.COUNT fn r) ≤ n then
      (s.setRing fn r { k with pendingCount := 0, countFrom := none }).raiseIndex fn vec
    else
      s.setRing fn r { k with pendingCount := n
                              countFrom := match k.countFrom with | some t => some t | none => some s.mono }
  else s

/-- PHASE of the entry the ring writes next (R395). -/
def State.ringPhase (s : State) (fn r : Nat) : Nat :=
  1 - (s.ring fn r).written / 2 ^ s.fld (Reg.FN.CQ_CFG.SIZE_LOG2 fn r) % 2

/-- Write the next entry of a ring (its bytes given the phase) and apply the signal rule; a write that faults puts the
function into ERROR (R401). -/
def State.ringWrite (s : State) (fn r : Nat) (entry : List Byte) (signal : Bool) : State :=
  let k := s.ring fn r
  let n := 2 ^ s.fld (Reg.FN.CQ_CFG.SIZE_LOG2 fn r)
  let a := s.fld2 (Reg.FN.CQ_BASE_LO.BASE fn r) (Reg.FN.CQ_BASE_HI.BASE fn r) + k.written % n * entry.length
  match s.hostWrite fn a entry 2 with
  | (s, true) => (s.setRing fn r { k with written := k.written + 1 }).coalesce fn r signal
  | (s, false) => s.fnError fn

/-- What a completion reports (R188). -/
structure Completion where
  status : Nat
  detail : Nat
  faultCode : Nat
  beats : Nat
  strides : Nat
  result : Nat
  faultRank : Nat
  faultSlot : Nat
deriving DecidableEq, Repr

/-- A completion of a command that ran no stride. -/
def Completion.plain (status detail result : Nat) : Completion := ⟨status, detail, 0, 0, 0, result, 0, 0⟩

/-- The 32 bytes of a completion (R188). -/
def Completion.bytes (c : Completion) (tag : List Byte) (phase elapsed : Nat) : List Byte :=
  tag ++ [BitVec.ofNat 8 (c.status + 128 * phase), BitVec.ofNat 8 c.faultCode] ++ leBytes 2 c.detail ++ leBytes 8 elapsed ++
    leBytes 4 c.beats ++ leBytes 4 c.strides ++ leBytes 4 c.result ++ leBytes 2 c.faultRank ++ [BitVec.ofNat 8 c.faultSlot, 0]

/-- The cocoon a function acts for (R298). -/
def State.fnCocoon (s : State) (fn : Nat) : Nat :=
  if fn = 256 then 1 else if fn = 257 then 0 else s.fld (Reg.FN.FN_STATUS.COCOON fn)

/-- A command completes: its entry is written into its queue's ring unless the function is not READY (R188, R401, R406). -/
def State.complete (s : State) (c : Cmd) (k : Completion) : State :=
  let s := s.countSat (Reg.COCOON.COMMANDS.COUNT (s.fnCocoon c.fn)) 1
  let r := s.fld (Reg.FN.SQ_CFG.RING c.fn c.queue)
  let g := s.ring c.fn r
  let s := s.setRing c.fn r { g with reserved := g.reserved - 1 }
  if s.fld (Reg.FN.FN_STATUS.STATE c.fn) = 1 then
    s.ringWrite c.fn r (k.bytes (slice c.bytes 4 4) (s.ringPhase c.fn r) (s.mono - c.at_))
      ((fieldAt c.bytes 1 1).testBit 0)
  else s

/-- A command is refused with a reason (R190, R498). -/
def State.refuseCmd (s : State) (c : Cmd) (reason : Nat) : State := s.complete c (.plain 1 reason 0)

end Sys2Proof.Machine
end

