-- ==== Sys2Proof/Machine/Runs.lean ====
section
/-!
DEFINITION. Runs and cores as named operations: the words of the core-state window (R79), faults of a core (R110, R111), the
end of a run and its completion (R183, R188–R191), the fence (R65), and what a reset or handover clears of a core (R301, R457).
-/
namespace Sys2Proof.Machine

/-! ### The core-state window (R79) -/

def tokenAddr (n t : Nat) : Nat := cwBase n + 0xA000 + 2 * t
def counterAddr (n a : Nat) : Nat := cwBase n + 0xA200 + 4 * a
def scalarAddr (n k : Nat) : Nat := cwBase n + 0xA400 + 4 * k
def agAddr (n g : Nat) : Nat := cwBase n + 0xA480 + 16 * g
def repeatAddr (n i : Nat) : Nat := cwBase n + 0xA500 + 8 * i
def pcAddr (n : Nat) : Nat := cwBase n + 0xA520
def statusAddr (n : Nat) : Nat := cwBase n + 0xA524
def handlerAddr (n : Nat) (beat : Bool) : Nat := cwBase n + (if beat then 0xA52C else 0xA528)
def signalAddr (n : Nat) : Nat := cwBase n + 0xA530
def vectorAddr (n v : Nat) : Nat := cwBase n + 0xB000 + 256 * v
def faultAddr (n : Nat) : Nat := cwBase n + 0xC000
def slotAddr (n i : Nat) : Nat := cwBase n + 0x8000 + 32 * i

/-- Read and write a little-endian value of memory. -/
def State.rd (s : State) (a n : Nat) : Nat := s.mem.readLe a n
def State.wr (s : State) (a n v : Nat) : State := s.setMem (s.mem.writeLe a n v)
def State.rdBytes (s : State) (a n : Nat) : List Byte := s.mem.read a n
def State.wrBytes (s : State) (a : Nat) (b : List Byte) : State := s.setMem (s.mem.write a b)

/-- Set bits of a core's pending signals: 1 FAULT, 2 YIELD, 4 BEAT (R79, R84); a signal already pending merges (R30). -/
def State.signalCore (s : State) (n mask : Nat) : State := s.wr (signalAddr n) 4 (s.rd (signalAddr n) 4 ||| mask)

/-- R30, R32, R35: the sequencer raises an event on a core. Its request is acknowledged within a few cycles, and so within the command, where the
crossing of the core's die accepts it; it is dropped where the crossing is down, and kept while the crossing resynchronises. -/
def State.raiseEvent (s : State) (n mask : Nat) : State :=
  let x := Crossing.core (dieOf n)
  if (s.crossing x).down then s
  else if (s.crossing x).resync then s.setCrossing x ((s.crossing x).raise n mask)
  else s.signalCore n mask

/-- Set sticky bits of a core's status word (R79). -/
def State.sticky (s : State) (n mask : Nat) : State := s.wr (statusAddr n) 4 (s.rd (statusAddr n) 4 ||| mask)

/-! ### Faults of a core (R110, R111) -/

/-- The fault codes of R110. -/
def faultIllegalSeq : Nat := 0x01
def faultRepeatDepth : Nat := 0x02
def faultRepeatExit : Nat := 0x03
def faultAgBound : Nat := 0x04
def faultTokenOverflow : Nat := 0x05
def faultStaleInput : Nat := 0x06
def faultAccess : Nat := 0x07
def faultDeadTarget : Nat := 0x08
def faultSramUe : Nat := 0x09
def faultRunaway : Nat := 0x0A
def faultDescriptor : Nat := 0x0B
def faultCopyError : Nat := 0x0C

/-- Has the invocation of a run not completed yet? One whose command was absorbed has (R183, R322). -/
def Run.outstanding (r : Run) : Bool := r.kind != .invoke || r.cmd.isSome

/-- The run whose group holds a core, if one does. -/
def State.runOn (s : State) (n : Nat) : Option Run := s.runs.find? fun r => r.cores.contains n

/-- Change the run with an id. -/
def State.updRun (s : State) (id : Nat) (f : Run → Run) : State :=
  { s with runs := s.runs.map fun r => if r.id = id then f r else r }

def State.run (s : State) (id : Nat) : Option Run := s.runs.find? fun r => Nat.beq r.id id

/-- Does cocoon 0 hold the core: did its last window belong to it? -/
def State.radioHolds (s : State) (n : Nat) : Bool := Assoc.find n s.seq.lastOwner == some 0

/-- R227, first part: a fault of a cocoon-0 core shows on page RADIO. -/
def State.radioCoreFault (s : State) (n : Nat) : State :=
  if s.radioHolds n then s.raiseErr Reg.RADIO.ERR.CORE_FAULT else s

/-- A fault of a core's job (R110, R111): the fault record and CLUSTER.FAULT_k are written, copies and remote loads are absorbed,
FAULT is pending, the core is FAULTED, and its run keeps the first fault. -/
def State.faultCore (s : State) (n code slot : Nat) : State :=
  let c := s.core n
  let pc := s.rd (pcAddr n) 2 % 4096
  let g := n / 8
  let k := n % 8
  let s := s.wr (faultAddr n) 4 (code + 256 * (slot % 256) + 65536 * pc)
  let s := s.setFlds [(Reg.CLUSTER.FAULT.CODE g k, code), (Reg.CLUSTER.FAULT.SLOT g k, slot), (Reg.CLUSTER.FAULT.PC g k, pc),
    (coreStateFld n, 3)]
  let s := s.setCore n { c with faulted := true, copies := [], remotes := [] }
  let s := s.signalCore n 1
  let s := s.raiseErr ⟨0x300 + g, 0x20, k, 1⟩
  let s := s.recordOn (dieOf n) 4 (0x300 + g) code (n + 65536 * (slot % 256))
  let s := s.radioCoreFault n
  match s.runOn n with
  | none => s
  | some r =>
    match r.fault with
    | some _ => s
    | none => s.updRun r.id fun r => { r with fault := some (code, pc, r.cores.findIdx (Nat.beq n), slot) }

/-! ### The end of a run (R183, R188–R191) -/

/-- Address of a context-table entry (R182). -/
def State.ctxAddr (s : State) (c x : Nat) : Nat := s.fld (Reg.COCOON.CTX_BASE.BASE c) * 0x10000 + 64 * x

/-- Status OK: LEN grows by APPEND and STEP by 1 in every listed context (R183). A context that the list names twice advances twice (DESIGN CHOICE,
log entry 225). -/
def State.advanceCtx (s : State) (c append : Nat) : List Nat → State
  | [] => s
  | x :: r =>
    let a := s.ctxAddr c x
    ((s.wr (a + 8) 4 (s.rd (a + 8) 4 + append)).wr (a + 24) 8 (s.rd (a + 24) 8 + 1)).advanceCtx c append r

/-- A run ends with a status and DETAIL: its completion is written, its group is free, and on OK its contexts advance (R183,
R188, R190). A group with a faulted core stays unusable through CORE_k.STATE (R191). -/
def State.endRun (s : State) (r : Run) (status detail : Nat) : State :=
  let s := { s with runs := s.runs.filter fun x => !Nat.beq x.id r.id }
  let s := if status = 0 then s.advanceCtx r.cocoon r.append r.ctxs else s
  match r.cmd with
  | none => s
  | some c =>
    let (fc, pc, rank, slot) := if status = 2 then r.fault.getD (0, 0, 0, 0) else (0, 0, 0, 0)
    s.complete c ⟨status, if status = 2 then pc else detail, fc, r.beats, r.strides, r.step0 % 2 ^ 32, rank, slot⟩

/-- End every run of which nothing runs and whose end is settled: by a fault (STATUS FAULT) or by a status that waited for the
stride in progress (R191). Of a fault and a fence or absorption met during one stride the latter gives the status (DESIGN CHOICE, log entry 224). -/
def State.settle (s : State) (id : Nat) : State :=
  match s.run id with
  | none => s
  | some r =>
    match r.stride with
    | some _ => s
    | none =>
      match r.ending, r.fault with
      | some (st, d), _ => s.endRun r st d
      | none, some _ => s.endRun r 2 0
      | none, none => s

/-- A core faults and, if none of its group's strides runs, its run ends. -/
def State.faultRun (s : State) (n code slot : Nat) : State :=
  let s := s.faultCore n code slot
  match s.runOn n with
  | some r => s.settle r.id
  | none => s

/-- Every run of a list is to end with a status, now or when its stride has ended. -/
def State.endRuns (s : State) (status detail : Nat) : List Nat → State
  | [] => s
  | id :: rest =>
    ((s.updRun id fun r => match r.ending with
      | some _ => r
      | none => { r with ending := some (status, detail) }).settle id).endRuns status detail rest

/-- The ids of the runs that satisfy a test. -/
def State.runIds (s : State) (p : Run → Bool) : List Nat := (s.runs.filter p).map fun r => r.id

/-! ### The fence (R65) -/

/-- Fence a cocoon: no further stride, no dispatch; invocations in progress complete FENCED (R191). -/
def State.fence (s : State) (c : Nat) : State :=
  if s.cocoonState c = 1 then
    let s := (s.setFld (Reg.SEQ_DEBT.DEBT.FENCED c) 1).enter (Reg.COCOON.STATE.STATE c) 2
    let s := s.raiseErr (Reg.COCOON.ERR.FENCED c)
    s.endRuns 3 0 (s.runIds fun r => Nat.beq r.cocoon c && !r.suspended && r.cmd.isSome)
  else s

/-- Fence and tell the management function through SEQ: ERR.FENCE is set, and each fence raises SEQ's vector, unless its bit is masked (R65, R493). -/
def State.fenceFromSeq (s : State) (c : Nat) : State :=
  (s.onSeq fun s =>
    if s.err Reg.SEQ.ERR.FENCE && !(s.fld (errMask 0x010)).testBit Reg.SEQ.ERR.FENCE.lo then s.raisePage 0x010 else s.raiseErr Reg.SEQ.ERR.FENCE).fence c

/-! ### Clearing a core (R106, R301, R457) -/

/-- Drop the SRAM errors of words in [a, a + len) (R301, R107). -/
def State.healSram (s : State) (a len : Nat) : State :=
  { s with sram := s.sram.filter fun e => !(Nat.ble a (e.1 * 8) && Nat.blt (e.1 * 8) (a + len)) }

/-- Clear the scratchpad, accumulator store and core-state window of a core, its queues and units, and absorb what it has
outstanding (R106, R301). -/
def State.clearCore (s : State) (n : Nat) : State :=
  let m := ((s.mem.clear (spBase n) 0x200000).clear (accBase n) 0x40000).clear (cwBase n) 0x10000
  let s := ((s.setMem m).healSram (spBase n) 0x200000).healSram (accBase n) 0x40000
  (s.healSram (cwBase n) 0x10000).setCore n { Core.fresh with nextId := (s.core n).nextId }

/-- A core reset (R457): cleared as in a handover; CORE_k.STATE becomes idle unless the core is disabled. -/
def State.resetCore (s : State) (n : Nat) : State :=
  let s := s.clearCore n
  let s := match s.runOn n with
    | some r => s.updRun r.id fun r => { r with needLaunch := true }
    | none => s
  if s.coreDisabled n then s else s.setFld (coreStateFld n) 0

end Sys2Proof.Machine
end

