-- ==== Sys2Proof/Machine/Units.lean ====
section
/-!
DEFINITION. The floor plan (R10, R50), the disabled-unit map as named operations (R22–R25, R451, R458), the measurement log
(R447) and the levels from which each C-die's operating point follows (R37–R41, R469).
-/
namespace Sys2Proof.Machine

/-! ### Dies and mesh edges (R10, R50, R476) -/

/-- Dies as R476 numbers them: 0–31 C-dies, 32–35 M-dies, 36–37 O-dies, 38 the radio die, 39 the K-die. The two dies of mesh edge
`e`, in the order of R50. -/
def edgeEnds (e : Nat) : Nat × Nat :=
  if e < 28 then (8 * (e / 7) + e % 7, 8 * (e / 7) + e % 7 + 1)
  else if e < 52 then (8 * ((e - 28) % 3) + (e - 28) / 3, 8 * ((e - 28) % 3) + (e - 28) / 3 + 8)
  else if e < 68 then
    let m := (e - 52) / 4
    (32 + m, (if m < 2 then 4 * m else 24 + 4 * (m - 2)) + (e - 52) % 4)
  else if e < 74 then (36 + (e - 68) / 3, 8 * ((e - 68) % 3) + 7 * ((e - 68) / 3))
  else if e = 74 then (39, 24)
  else if e = 75 then (39, 36)
  else if e = 76 then (39, 34)
  else if e = 77 then (38, 31)
  else if e = 78 then (38, 37)
  else (38, 35)

/-- The mesh edges. -/
def meshEdges : List Nat := List.range 80

/-- The bits of EDGE_UP (north 0, east 1, south 2, west 3) that stand for an edge, as (C-die, bit) (R42). -/
def edgeBits (e : Nat) : List (Nat × Nat) :=
  let (a, b) := edgeEnds e
  if e < 28 then [(a, 1), (b, 3)]
  else if e < 52 then [(a, 2), (b, 0)]
  else if e < 60 then [(b, 0)]
  else if e < 68 then [(b, 2)]
  else if e < 71 then [(b, 3)]
  else if e < 74 then [(b, 1)]
  else if e = 74 then [(24, 3)]
  else if e = 77 then [(31, 1)]
  else []

/-- Set or clear an edge's bits in EDGE_UP. -/
def State.setEdge (s : State) (e : Nat) (up : Bool) : State :=
  (edgeBits e).foldl (fun s x =>
    let f := Reg.DIE.EDGE_UP.UP x.1
    s.setFld f (putBits (s.fld f) x.2 1 (if up then 1 else 0))) s

/-- The C-dies next to a C-die. -/
def cNeighbours (d : Nat) : List Nat :=
  (if d % 8 = 0 then [] else [d - 1]) ++ (if d % 8 = 7 then [] else [d + 1]) ++
    (if d < 8 then [] else [d - 8]) ++ (if d < 24 then [d + 8] else [])

/-- A die's temperature in 1/16 °C (R42, R483). -/
def State.dieTemp (s : State) (d : Nat) : Int :=
  toSigned 16 (if d < 32 then s.fld (Reg.DIE.TEMP.DEGC d) else s.fld (Reg.PWR.TEMP.DEGC (d - 32)))

/-! ### The disabled-unit map (R22–R25, R42, R451) -/

/-- The CORE_MAP fields of logical core `j` of die `d`. -/
def physFld (d j : Nat) : Fld := Reg.DIE.CORE_MAP.PHYS d (j / 4) (j % 4)
def disFld (d j : Nat) : Fld := Reg.DIE.CORE_MAP.DIS d (j / 4) (j % 4)

/-- The physical position of a logical core of a die, if it has one. -/
def State.position (s : State) (d j : Nat) : Option Nat :=
  if s.isSet (disFld d j) then none else some (s.fld (physFld d j))

/-- The 64 bytes of a die's CORE_MAP words (R42). -/
def State.mapBytes (s : State) (d : Nat) : List Byte :=
  (List.range 64).map fun j => BitVec.ofNat 8 (s.fld (physFld d j) + 128 * s.fld (disFld d j))

/-- Logical core `j` of die `d` is implemented by position `p`. -/
def State.implement (s : State) (d j p : Nat) : State :=
  let s := s.setFlds [(physFld d j, p), (disFld d j, 0),
    (Reg.CLUSTER.CORE.SPARE (8 * d + j / 8) (j % 8), if 64 ≤ p then 1 else 0)]
  if s.coreState (64 * d + j) = 4 then s.setFld (coreStateFld (64 * d + j)) 0 else s

/-- Logical core `j` of die `d` is disabled (R24). -/
def State.disable (s : State) (d j : Nat) : State :=
  s.setFlds [(physFld d j, 0), (disFld d j, 1), (Reg.CLUSTER.CORE.SPARE (8 * d + j / 8) (j % 8), 0),
    (coreStateFld (64 * d + j), 4)]

/-- The spare positions of a die in use. -/
def State.sparesUsed (s : State) (d : Nat) : List Nat :=
  [64, 65].filter fun p => (List.range 64).any fun j => s.position d j == some p

/-- DIE_INFO.EXPOSED and SPARES_FREE of a die with `bad` of its spares unusable, and BOOT.EXPOSED. -/
def State.recount (s : State) (d : Nat) : State :=
  let n := ((List.range 64).filter fun j => (s.position d j).isSome).length
  let bad := ([64, 65].filter fun p => s.boot.defects.contains (.position d p)).length
  let s := s.setFlds [(Reg.DIE.DIE_INFO.EXPOSED d, n), (Reg.DIE.DIE_INFO.SPARES_FREE d, 2 - (s.sparesUsed d).length - bad)]
  s.setFld Reg.BOOT.EXPOSED.CORES (((List.range 32).map fun d => s.fld (Reg.DIE.DIE_INFO.EXPOSED d)).sum)

/-! ### The measurement log (R447) -/

/-- Bytes of a bit vector, least significant first. -/
def bvBytes {w : Nat} (n : Nat) (v : BitVec w) : List Byte := leBytes n v.toNat

/-- Append an entry of TYPE `ty` and index `i` over a digest; a 257th entry sets LOG_FULL instead. -/
def State.measure (s : State) (ty i : Nat) (digest : BitVec 384) : State :=
  if 256 ≤ s.boot.log.length then s.setFld Reg.ATTEST.LOG_COUNT.LOG_FULL 1
  else
    let e := leBytes 2 ty ++ leBytes 2 i ++ leBytes 4 0 ++ bvBytes 48 digest ++ leBytes 8 0
    let m := Config.sha384 (bvBytes 48 s.boot.digest ++ e)
    let s := { s with boot := { s.boot with log := s.boot.log ++ [e], digest := m } }
    (List.range 12).foldl (fun s i => s.setFld (Reg.ATTEST.DIGEST.M i) (fieldAt (bvBytes 48 m) (4 * i) 4))
      (s.setFld Reg.ATTEST.LOG_COUNT.COUNT s.boot.log.length)

/-- A die's part of the map has changed while emerged: MAP_GEN counts and the log takes an entry (R25, R447). -/
def State.mapChanged (s : State) (d : Nat) : State :=
  ((s.recount d).countMod (Reg.DIE.DIE_INFO.MAP_GEN d) 1).measure 4 d (Config.sha384 (s.mapBytes d))

/-! ### Operating points (R36–R41, R469–R473) -/

/-- Does some row of the table give the cocoon a window on a core of the die? -/
def SchedTable.cocoonOnDie (t : SchedTable) (d : Nat) (p : Nat → Bool) : Bool :=
  t.rows.any fun r => (List.range r.winCount).any fun k =>
    (t.windows[r.winFirst + k]?).any fun w => p w.cocoon && (t.coreSets[w.coreSet]?).any fun (cs : CoreSet) => !((cs >>> (64 * d)).setWidth 64 == 0#64)

/-- Is the die pinned: it holds a core of cocoon 0 in the table in force or the armed one (R40)? -/
def State.pinnedBy (s : State) (d : Nat) : Bool :=
  s.seq.active.any (fun t => t.cocoonOnDie d (Nat.beq 0)) || s.seq.armed.any fun t => t.cocoonOnDie d (Nat.beq 0)

/-- Has the die tenant cores: cores held by any cocoon other than cocoon 0 (R41)? -/
def State.hasTenants (s : State) (d : Nat) : Bool :=
  s.seq.active.any fun t => t.cocoonOnDie d fun c => !Nat.beq c 0

/-- The point in force. -/
def State.point (s : State) (d : Nat) : Nat := s.fld (Reg.DIE.OPPOINT.CUR d)
def State.pinned (s : State) (d : Nat) : Bool := s.isSet (Reg.DIE.OPPOINT.PINNED d)

/-- The package, thermal and gap levels of a die (R469). -/
def State.pkgLevel (s : State) (d : Nat) : Nat :=
  s.power.steps.foldl (fun m x => match x with
    | .lowered e p => if e = d then min m p else m
    | .held _ => m) 2
def State.thermLevel (s : State) (d : Nat) : Nat := (Assoc.find d s.power.thermal).elim 2 fun t => t.level
def State.gapLevel (s : State) (d : Nat) : Nat :=
  s.power.gapLevels.foldl (fun m g => if g.die = d then min m g.level else m) 2

/-- The highest point that the neighbour limits allow with the neighbours' current points (R39). -/
def State.neighbourLimit (s : State) (d : Nat) : Nat :=
  (cNeighbours d).foldl (fun m n => min m (s.point n + 1)) 2

/-- The point wanted for a die before neighbour limits: 800 MHz when pinned, else the lowest of request and levels, and no less than
600 MHz beside a pinned die (R40, R469). Before instar 5 every die stays at 400 MHz. -/
def State.wanted (s : State) (d : Nat) : Nat :=
  if s.fld Reg.BOOT.STATE.INSTAR < 5 then 0
  else if s.pinned d then 2
  else
    let p := min (min (s.fld (Reg.PWR.DIE_REQ.REQ (d / 16) (d % 16))) (s.pkgLevel d)) (min (s.thermLevel d) (s.gapLevel d))
    if (cNeighbours d).any s.pinned then max 1 p else p

/-- The nominal core rail of an operating point in mV, with the die's fused trim (R36). -/
def State.railFor (s : State) (d p : Nat) : Nat := (690 + 30 * p + s.boot.fuses.trims.getD d 0).toNat

/-- The setting of a core rail in mV: that of point 0 until the die's first change (R469). -/
def State.railSet (s : State) (d : Nat) : Nat := (Assoc.find d s.power.rails).getD (s.railFor d 0)

/-- Set a core rail for a point. -/
def State.setRail (s : State) (d p : Nat) : State := { s with power := { s.power with rails := Assoc.put d (s.railFor d p) s.power.rails } }

/-- May the die change now: it and no neighbour changes (R38)? -/
def State.mayMove (s : State) (d : Nat) : Bool :=
  !(s.power.changes.any fun c => Nat.beq c.1 d || (cNeighbours d).contains c.1)

/-- Is the die below the point wanted, with no neighbour below it, so that R37 and R38 allow a raise now? -/
def State.mayRaise (s : State) (d : Nat) : Bool :=
  s.mayMove d && Nat.blt (s.point d) (s.wanted d) && (cNeighbours d).all fun n => Nat.ble (s.point d) (s.point n)

/-- Start to raise a die by one point: its rail first (R38). -/
def State.raiseDie (s : State) (d : Nat) : State :=
  if s.mayRaise d then
    let p := s.point d
    let pin := s.pinned d || s.power.emerging.contains d || (Nat.beq p 0 && (cNeighbours d).any s.pinned)
    let s := (s.powerAction (if pin then 0x0005 else 0x0004) d (p + 1)).setRail d (p + 1)
    { s with power := { s.power with changes := s.power.changes ++ [(d, p + 1)] } }
  else s

/-- Start to lower a die by one point, if R37 and R38 allow it now: its clock first (R38). -/
def State.lowerDie (s : State) (d : Nat) : State :=
  let p := s.point d
  if s.mayMove d && Nat.blt (s.wanted d) p && (cNeighbours d).all fun n => Nat.ble (s.point n) p then
    { s with power := { s.power with changes := s.power.changes ++ [(d, p - 1)] } }.setFld (Reg.DIE.OPPOINT.CUR d) (p - 1)
  else s

/-- OPPOINT.LIMIT and PINNED of every C-die, and PWR.THROTTLE. -/
def State.refreshPower (s : State) : State :=
  let s := (List.range 32).foldl (fun s d =>
    s.setFlds [(Reg.DIE.OPPOINT.LIMIT d, s.neighbourLimit d), (Reg.DIE.OPPOINT.PINNED d, if s.pinnedBy d then 1 else 0)]) s
  let held := s.power.steps.any fun x => match x with | .held _ => true | .lowered _ _ => false
  s.setFlds [(Reg.PWR.THROTTLE.PKG, if s.power.steps.isEmpty then 0 else 1),
    (Reg.PWR.THROTTLE.THERM, if s.power.thermal.isEmpty && s.power.thermHolds.isEmpty then 0 else 1),
    (Reg.PWR.THROTTLE.HOLD, if held || !s.power.thermHolds.isEmpty || !s.power.gapHolds.isEmpty then 1 else 0)]

/-- The set of a C-die for the turns of R40. -/
def turnOf (d : Nat) : Nat := (d / 8 + d % 8) % 2

/-- Is a raise under way? -/
def State.raising (s : State) : Bool := s.power.changes.any fun c => Nat.blt (s.point c.1) c.2

/-- R40: once no raise of a turn is under way, the other set of C-dies has its turn, or the same one again if the other raises none. -/
def State.raiseTurn (s : State) : State :=
  if s.raising then s
  else
    let of (t : Nat) : List Nat := (List.range 32).filter fun d => Nat.beq (turnOf d) t && s.mayRaise d
    let t := 1 - s.power.turn
    let t := if (of t).isEmpty then s.power.turn else t
    (of t).foldl (fun s d => s.raiseDie d) { s with power := { s.power with turn := t } }

/-- Start every change that may start: those that lower, and the raises of the next turn (R38, R40). -/
def State.pumpPower (s : State) : State :=
  let s := s.refreshPower
  let s := ((List.range 32).foldl (fun s d => s.lowerDie d) s).raiseTurn
  { s with power := { s.power with emerging := s.power.emerging.filter fun d => Nat.blt (s.point d) (s.wanted d) } }

/-- The throttle class of a cocoon: always 3 for cocoon 1 (R471). -/
def State.throttleClass (s : State) (c : Nat) : Nat :=
  if c = 1 then 3 else s.fld (Reg.PWR.CLASS.CLASS (c / 16) (c % 16))

/-- Is a core, held by a cocoon other than cocoon 0, held from starting strides (R41, R471, R473)? -/
def State.coreHeld (s : State) (n c : Nat) : Bool :=
  !Nat.beq c 0 &&
    (s.power.gapHolds.any (fun g => Nat.beq g.1 (dieOf n)) || s.power.thermHolds.contains (dieOf n) ||
      (s.pinned (dieOf n) && s.power.steps.any fun x => match x with
        | .held k => Nat.beq k (s.throttleClass c)
        | .lowered _ _ => false))

end Sys2Proof.Machine
end

