-- ==== Sys2Proof/Machine/PageOps.lean ====
section
/-!
DEFINITION. Who reaches a page (R20, R390, R440, R491), and the latches of split values (R262, R283, R489).
-/
namespace Sys2Proof.Machine

/-- May an issuer reach a page: control cores every page, the management function every page, the radio function page 0x242, a tenant
function its own page (R390, R491); before instar 5 nobody but the test port reaches more than page 0x001 (R440). -/
def State.mayReach (s : State) (who : Issuer) (page : Nat) : Bool :=
  if !s.boot.powered then false
  else match who with
  | .testPort => true
  | .core _ => Nat.beq (s.fld Reg.BOOT.STATE.INSTAR) 5 || Nat.beq page 0x001
  | .fn f =>
    if s.fld Reg.BOOT.STATE.INSTAR < 5 then Nat.beq f 256 && Nat.beq page 0x001
    else if f = 256 then true
    else if f = 257 then Nat.beq page 0x242
    else Nat.beq page (0x140 + f)

/-- Is the page a function page (R410)? -/
def isFnPage (p : Nat) : Bool := Nat.ble 0x140 p && Nat.ble p 0x23F || Nat.beq p 0x241 || Nat.beq p 0x242

/-- May an issuer write what only the management function and the control cores write? -/
def managesPages : Issuer → Bool
  | .fn f => Nat.beq f 256
  | .core _ => true
  | .testPort => true

/-- A denied register access (R390). -/
def State.denied (s : State) : State :=
  (s.countSat Reg.STAIDO.REG_DENIED.COUNT 1).raiseErr Reg.STAIDO.ERR.REG_DENIED

/-- What a register read returns leaves towards its issuer. -/
def State.answer (s : State) (who : Issuer) (v : Nat) : State := s.emit (.regData who (BitVec.ofNat 32 v))

/-- An issuer's latch of a word, if it holds one. -/
def State.latched (s : State) (who : Issuer) (page off : Nat) : Option Latch :=
  s.pages.latches.find? fun l => l.who == who && Nat.beq l.page page && Nat.beq l.off off

/-- Empty an issuer's latch. -/
def State.unlatch (s : State) (who : Issuer) (page off : Nat) : State :=
  { s with pages := { s.pages with
      latches := s.pages.latches.filter fun l => !(l.who == who && Nat.beq l.page page && Nat.beq l.off off) } }

/-- Store a word in an issuer's latch, replacing what it held. -/
def State.latch (s : State) (who : Issuer) (page off v : Nat) : State :=
  let s := s.unlatch who page off
  { s with pages := { s.pages with latches := ⟨who, page, off, BitVec.ofNat 32 v, s.now / s.L⟩ :: s.pages.latches } }

/-- Read a latched high word: the latch, which empties, or the live word (R489). -/
def State.readLatched (s : State) (who : Issuer) (page off live : Nat) : State :=
  match s.latched who page off with
  | some l => (s.unlatch who page off).answer who l.val.toNat
  | none => s.answer who live

/-- Do `k` if the issuer reaches the page; else the access is denied: a read returns 0 (R390). -/
def State.access (s : State) (who : Issuer) (page : Nat) (read : Bool) (k : State → State) : State :=
  if s.mayReach who page then k s
  else if read then s.denied.answer who 0 else s.denied

/-- The count U of basic units of the legacy frame counter (R282), held while frozen (R284). -/
def State.lfcHeld (s : State) : Int :=
  match s.time.lfcFrozen with
  | some u => u
  | none => (s.time.t : Int) * 3072 / (100000 * 65536) + toSigned 32 (s.fld Reg.LFC.LFC_OFFSET.TS)

/-! ### Sub-millisecond rounding -/

/-- num / den rounded down or, where it is not exact, up: the spec states no rounding, so the direction is free. -/
def roundFree (draw : Nat) (num : Int) (den : Nat) : Int :=
  num / den + (if num % den ≠ 0 ∧ Config.freeBool draw = true then 1 else 0)

end Sys2Proof.Machine
end

