-- ==== Sys2Proof/Machine/MemOps.lean ====
section
/-!
DEFINITION. The GDDR7 address map and rates as named operations (R18, R327, R328, R334–R336, R341), poisoned lines (R332), and which
addresses a cocoon owns (R20, R21, R293).
-/
namespace Sys2Proof.Machine

/-! ### Channels and groups -/

/-- The pin rate in Gbit/s of a RATE code (R348). -/
def pinRate (code : Nat) : Nat := 32 + 2 * code

/-- U_ch in units of 64 KiB for the configuration in effect (R328). -/
def State.chUnits (s : State) : Nat :=
  let gib := (if s.isSet Reg.MEM.CFG.DENSITY then 4 else 3) * (if s.isSet Reg.MEM.CFG.CLAMSHELL then 2 else 1)
  gib * 2 ^ 30 * 8 / 9 / 65536

/-- The channels of a bit mask, in ascending number. -/
def maskChannels (m : Nat) : List Nat := (List.range 24).filter fun c => m.testBit c

/-- A memory group in effect (R334): its number, first address, channels that hold addresses, and their mirrors. -/
structure MemGroup where
  num : Nat
  base : Nat
  ch : List Nat
  mirror : List Nat
  size : Nat
deriving DecidableEq, Repr

/-- The valid groups, each directly after the one before (R334). -/
def State.memGroups (s : State) : List MemGroup :=
  let u := s.chUnits * 65536
  ((List.range 24).foldl (fun (acc : List MemGroup × Nat) g =>
    if s.isSet (Reg.MEM.GROUP.VALID g) then
      let all := maskChannels (s.fld (Reg.MEM.GROUP.CHANNELS g))
      let m := s.isSet (Reg.MEM.GROUP.MIRROR g)
      let ch := if m then all.take (all.length / 2) else all
      let mir := if m then all.drop (all.length / 2) else []
      (acc.1 ++ [⟨g, acc.2, ch, mir, ch.length * u⟩], acc.2 + ch.length * u)
    else acc) ([], 0)).1

/-- The usable GDDR7 capacity in bytes (R334). -/
def State.usable (s : State) : Nat := (s.memGroups.map fun g => g.size).sum

/-- The group that holds an address. -/
def State.groupOf (s : State) (a : Nat) : Option MemGroup :=
  s.memGroups.find? fun g => Nat.ble g.base a && Nat.blt a (g.base + g.size)

/-- The channel of an address and its mirror's, if any (R335, R336). -/
def State.channelOf (s : State) (a : Nat) : Option (Nat × Option Nat) :=
  (s.groupOf a).bind fun g =>
    let k := (a - g.base) / 4096
    (g.ch[k % g.ch.length]?).map fun c => (c, g.mirror[k % g.ch.length]?)

/-- Payload rate of a channel in ninths of a byte per ns: 32 × rate / 8 × 8 (R327). -/
def State.payloadRate (s : State) : Nat := 32 * pinRate (s.fld Reg.MEM.CFG.RATE)

/-- T_TA, 48 controller cycles of 32 / rate ns, in ps (R341). -/
def State.turnaround (s : State) : Nat := 48 * 32000 / pinRate (s.fld Reg.MEM.CFG.RATE)

/-! ### Windows of the address map (R18) -/

/-- What an address is part of. -/
inductive Region where
  | gddr | scratch (core : Nat) | accum (core : Nat) | cluster (g way : Nat) | coreState (core : Nat) | pages | host | unmapped
deriving DecidableEq, Repr

def State.region (s : State) (a : Nat) : Region :=
  if a < 0x004000000000 then (if a < s.usable then .gddr else .unmapped)
  else if a < 0x004100000000 then .scratch ((a - 0x004000000000) / 0x200000)
  else if a < 0x004120000000 then .accum ((a - 0x004100000000) / 0x40000)
  else if a < 0x004200000000 then .unmapped
  else if a < 0x004300000000 then .cluster ((a - 0x004200000000) / 0x1000000) ((a - 0x004200000000) % 0x1000000 / 0x100000)
  else if a < 0x004308000000 then .coreState ((a - 0x004300000000) / 0x10000)
  else if 0x008000000000 ≤ a ∧ a < 0x008000400000 then .pages
  else if hostBase ≤ a ∧ a < 2 ^ 48 then .host
  else .unmapped

/-! ### Ownership (R20, R21, R293) -/

/-- The extents of a cocoon in effect: first address and length in bytes. -/
def State.extents (s : State) (c : Nat) : List (Nat × Nat) :=
  (List.range (s.fld (Reg.COCOON.EXT_COUNT.COUNT c))).map fun i =>
    (s.fld (Reg.COCOON.EXT_BASE.BASE c i) * 65536, s.fld (Reg.COCOON.EXT_LEN.LEN c i) * 65536)

/-- Does [a, a + len) lie wholly in one extent of the cocoon? -/
def State.inExtent (s : State) (c a len : Nat) : Bool :=
  (s.extents c).any fun e => Nat.ble e.1 a && Nat.ble (a + len) (e.1 + e.2)

/-- Does the cocoon hold the core in the row in force: an open window of it stands on the core? -/
def State.holdsCore (s : State) (c n : Nat) : Bool :=
  s.seq.openWins.any fun w => Nat.beq w.core n && Nat.beq w.cocoon c && !w.waiting && !w.ended

/-- The index of the row in force under a table: (n − E) mod N, which a realigned n below E leaves in range (R48, R54). -/
def State.rowIndex (s : State) (t : SchedTable) : Nat := (((s.seq.beat : Int) - s.seq.epoch) % (t.rows.length : Int)).toNat

/-- The row in force (R54). -/
def State.row (s : State) : Option Row :=
  s.seq.active.bind fun t => t.rows[s.rowIndex t]?

/-- Owner byte of a cluster-store way in the row in force; idle with no row (R50, R74). -/
def State.wayOwner (s : State) (g w : Nat) : Nat :=
  match s.seq.active, s.row with
  | some t, some r => ((t.wayMaps[r.wayMap]?).bind fun m => m[16 * g + w]?).getD 0x80
  | _, _ => 0x80

/-- Owner byte of a TDM slot of a channel in the row in force. -/
def State.slotOwner (s : State) (ch slot : Nat) : Nat :=
  match s.seq.active, s.row with
  | some t, some r => ((t.chMaps[r.chMap]?).bind fun m => m[16 * ch + slot]?).getD 0x80
  | _, _ => 0x80

/-- May a cocoon access [a, a + len): its extents, cores it holds, ways it owns (R20, R21)? The core-state window and register
pages are out of reach of cores; the host window is a function's own. -/
def State.owns (s : State) (c a len : Nat) : Bool :=
  match s.region a with
  | .gddr => s.inExtent c a len
  | .scratch n => s.holdsCore c n && Nat.ble (a % 0x200000 + len) 0x200000
  | .accum n => s.holdsCore c n && Nat.ble (a % 0x40000 + len) 0x40000
  | .cluster g w =>
    (List.range (len / 0x100000 + 2)).all fun i =>
      Nat.ble (a + len) (csBase g + (w + i) * 0x100000) || (Nat.blt (w + i) 16 && Nat.beq (s.wayOwner g (w + i)) c)
  | _ => false

/-- Does [a, a + len) meet the cocoon's context table, which the Y40 alone writes (R182)? -/
def State.meetsCtx (s : State) (c a len : Nat) : Bool :=
  let t := s.fld (Reg.COCOON.CTX_BASE.BASE c) * 0x10000
  Nat.blt a (t + 0x400000) && Nat.blt t (a + len)

/-- May a cocoon write [a, a + len): what it may access, but for its context table (R182)? -/
def State.ownsWrite (s : State) (c a len : Nat) : Bool := s.owns c a len && !s.meetsCtx c a len

/-! ### Poison and channels that are down (R107, R332, R336, R345) -/

/-- The SRAM word (8 bytes) of an address is poisoned (R107). -/
def State.sramBad (s : State) (a : Nat) : Bool := Assoc.find (a / 8) s.sram == some 2

/-- Does the channel serve accesses: SERVING or RETRAINING? -/
def State.channelUp (s : State) (ch : Nat) : Bool := [2, 3].contains (s.fld (Reg.MEM_CH.STATE.STATE ch))

/-- Has the address a copy that serves (R345)? -/
def State.served (s : State) (a : Nat) : Bool :=
  match s.channelOf a with
  | some (ch, some b) => s.channelUp ch || s.channelUp b
  | some (ch, none) => s.channelUp ch
  | none => false

/-- Is the line readable: some serving copy of it is not poisoned? -/
def State.lineGood (s : State) (l : Nat) : Bool :=
  match s.channelOf (64 * l) with
  | some (ch, some b) => (s.channelUp ch && !s.poison.contains l) || (s.channelUp b && !s.poisonB.contains l)
  | some (ch, none) => s.channelUp ch && !s.poison.contains l
  | none => false

/-- The GDDR7 lines of which some copy is poisoned. -/
def State.poisonedLines (s : State) : List Nat := s.poison ++ s.poisonB.filter fun l => !s.poison.contains l

/-- The 4 KiB pieces that [a, a + len) touches, by their first address inside it. -/
def granules (a len : Nat) : List Nat :=
  if len = 0 then [] else (List.range ((a + len - 1) / 4096 - a / 4096 + 1)).map fun i => max a ((a / 4096 + i) * 4096)

/-- Does a read of [a, a + len) meet a poisoned SRAM word or an unreadable GDDR7 line? -/
def State.bad (s : State) (a len : Nat) : Bool :=
  (s.sram.any fun e => Nat.beq e.2 2 && Nat.blt (e.1 * 8) (a + len) && Nat.blt a (e.1 * 8 + 8)) ||
    (decide (a < 0x004000000000) &&
      ((granules a len).any (fun x => !s.served x) ||
        s.poisonedLines.any fun l => Nat.blt (l * 64) (a + len) && Nat.blt a (l * 64 + 64) && !s.lineGood l))

/-- The page and field that count corrected errors of an SRAM address (R114). -/
def State.countCe (s : State) (a : Nat) : State :=
  match s.region a with
  | .cluster g _ => (s.countSat (Reg.CLUSTER.CS_CE.COUNT g) 1).raiseErr (Reg.CLUSTER.ERR.CE_ANY g)
  | .scratch n => (s.countSat (Reg.CLUSTER.SRAM_CE.COUNT (n / 8) (n % 8)) 1).raiseErr (Reg.CLUSTER.ERR.CE_ANY (n / 8))
  | .accum n => (s.countSat (Reg.CLUSTER.SRAM_CE.COUNT (n / 8) (n % 8)) 1).raiseErr (Reg.CLUSTER.ERR.CE_ANY (n / 8))
  | .coreState n => (s.countSat (Reg.CLUSTER.SRAM_CE.COUNT (n / 8) (n % 8)) 1).raiseErr (Reg.CLUSTER.ERR.CE_ANY (n / 8))
  | _ => s

/-- Count an uncorrected line of a channel (R332). -/
def State.countUe (s : State) (ch line : Nat) : State :=
  let s := (s.countSat (Reg.MEM_CH.UE_COUNT.COUNT ch) 1).setFld2 (Reg.MEM_CH.LAST_UE_LO.ADDR ch) (Reg.MEM_CH.LAST_UE_HI.ADDR ch) (64 * line)
  (s.raiseErr (Reg.MEM_CH.ERR.UE ch)).raiseErr Reg.MEM.ERR.UE

/-- A poisoned first copy whose second copy is good is rewritten from it (R336). -/
def State.repairLine (s : State) (l : Nat) : State :=
  match s.channelOf (64 * l) with
  | some (ch, some b) =>
    if s.channelUp ch && s.channelUp b && !s.poisonB.contains l then
      ({ s.countUe ch l with poison := s.poison.filter fun x => !Nat.beq x l }).raiseErr Reg.MEM.ERR.MIRROR_REPAIR
    else s
  | _ => s

/-- The SRAM words in error of a kind, 1 single-bit or 2 poisoned, that [a, a + len) touches. -/
def State.sramHits (s : State) (a len kind : Nat) : List (Nat × Nat) :=
  s.sram.filter fun e => Nat.beq e.2 kind && Nat.blt (e.1 * 8) (a + len) && Nat.blt a (e.1 * 8 + 8)

/-- An uncorrected error in a store shows on the page of its cluster (R114). -/
def State.noteUe (s : State) (a : Nat) : State :=
  match s.region a with
  | .cluster g _ => s.raiseErr (Reg.CLUSTER.ERR.CS_UE g)
  | .scratch n => s.raiseErr ⟨0x300 + n / 8, 0x20, 8 + n % 8, 1⟩
  | .accum n => s.raiseErr ⟨0x300 + n / 8, 0x20, 8 + n % 8, 1⟩
  | .coreState n => s.raiseErr ⟨0x300 + n / 8, 0x20, 8 + n % 8, 1⟩
  | _ => s

/-- A read of [a, a + len) in SRAM: single-bit errors met are corrected, written back and counted, poisoned words shown (R107, R114). -/
def State.scrubSram (s : State) (a len : Nat) : State :=
  let s' := (s.sramHits a len 1).foldl (fun s e => { s.countCe (e.1 * 8) with sram := Assoc.del e.1 s.sram }) s
  (s.sramHits a len 2).foldl (fun s e => s.noteUe (e.1 * 8)) s'

/-- A read of [a, a + len): errors of SRAM met (R107), mirror lines repaired (R336), and every poisoned line met counted (R332). -/
def State.scrubRead (s : State) (a len : Nat) : State :=
  let s := s.scrubSram a len
  let lines := s.poisonedLines.filter fun l => Nat.blt (l * 64) (a + len) && Nat.blt a (l * 64 + 64)
  lines.foldl (fun s l =>
    if s.lineGood l then s.repairLine l
    else match s.channelOf (64 * l) with
      | some (ch, _) => s.countUe ch l
      | none => s) s

/-- A write of [a, a + len) ends the poison of every SRAM word and GDDR7 line it covers whole (R107, R332). -/
def State.healWrite (s : State) (a len : Nat) : State :=
  let keep (l : Nat) : Bool := !(Nat.ble a (l * 64) && Nat.ble (l * 64 + 64) (a + len))
  { s with sram := s.sram.filter fun e => !(Nat.ble a (e.1 * 8) && Nat.ble (e.1 * 8 + 8) (a + len))
           poison := s.poison.filter keep, poisonB := s.poisonB.filter keep }

/-- R377: a segment in which a write changes a byte counts its generation up. -/
def Segment.noteWrite (g : Segment) (m : Memory) (a : Nat) (b : List Byte) : Segment :=
  let lo := max a g.base
  let hi := min (a + b.length) (g.base + g.len)
  if g.valid && Nat.blt lo hi && (b.drop (lo - a)).take (hi - lo) != m.read lo (hi - lo) then { g with gen := (g.gen + 1) % 2 ^ 32 } else g

def State.noteWrite (s : State) (a : Nat) (b : List Byte) : State :=
  { s with cocoons := s.cocoons.map fun c => (c.1, { c.2 with segments := c.2.segments.map fun g => (g.1, g.2.noteWrite s.mem a b) }) }

/-- The bits of byte `o` of a core-state window that are not reserved (R79). -/
def windowMask (o : Nat) : Byte :=
  if o < 0xA200 then 0xFF
  else if o < 0xA400 then (if o % 4 < 2 then 0xFF else if o % 4 = 2 then 0 else 0x80)
  else if o < 0xA520 then 0xFF
  else if o < 0xA534 then
    ([0xFF, 0x0F, 0, 0, 0x03, 0, 0x07, 0, 0xFF, 0x0F, 0, 0x80, 0xFF, 0x0F, 0, 0x80, 0x07, 0, 0, 0] : List Byte).getD (o - 0xA520) 0
  else if o < 0xB000 then 0
  else if o < 0xC000 then 0xFF
  else if o < 0xC004 then (if o = 0xC003 then 0x0F else 0xFF)
  else 0

/-- Bytes as a write to `a` leaves them: reserved offsets and bits of a core-state window read as 0 (R79). -/
def windowBytes (a : Nat) (b : List Byte) : List Byte :=
  if 0x004300000000 ≤ a ∧ a < 0x004308000000 then (b.zipIdx).map fun x => x.1 &&& windowMask ((a + x.2) % 0x10000) else b

/-- Write bytes as a store does: memory, and the poison it ends. Writes to lines that no channel serves are discarded (R345), and a write
of part of a poisoned line changes nothing (R332); false where either happens. -/
def State.store (s : State) (a : Nat) (b : List Byte) : State × Bool :=
  let n := b.length
  let partly (l : Nat) : Bool := Nat.blt (l * 64) (a + n) && Nat.blt a (l * 64 + 64) &&
    !(Nat.ble a (l * 64) && Nat.ble (l * 64 + 64) (a + n)) && !s.lineGood l
  if a < 0x004000000000 then
    if (granules a n).any (fun x => !s.served x) || s.poisonedLines.any partly then (s, false)
    else (((s.noteWrite a b).wrBytes a b).healWrite a n, true)
  else
    let b := windowBytes a b
    ((s.wrBytes a b).healWrite a n, true)

/-! ### Host and GDDR7 writes of a command (R187, R189) -/

/-- Write bytes where a command may write: GDDR7 of its cocoon or its function's host window. -/
def State.writeFor (s : State) (c fn addr : Nat) (b : List Byte) : State × Bool :=
  if hostBase ≤ addr ∧ addr + b.length ≤ 2 ^ 48 then s.hostWrite fn addr b (b.length / 4096 + 2)
  else if s.region addr = .gddr && s.inExtent c addr b.length then s.store addr b
  else (s, false)

/-! ### Slots (R339, R340) -/

/-- Does the active table give the cocoon a slot on a channel in some row (R340)? -/
def State.hasSlot (s : State) (c ch : Nat) : Bool :=
  s.seq.active.any fun t => t.rows.any fun r =>
    let m := t.chMaps.getD r.chMap []
    (List.range 16).any fun k => Nat.beq (m.getD (16 * ch + k) 0x80) c

/-- Has the cocoon a slot on every channel that [a, a + len) falls on? -/
def State.slotsFor (s : State) (c a len : Nat) : Bool :=
  let chs := (granules a len).filterMap s.channelOf
  chs.all fun x => s.hasSlot c x.1 && x.2.all (s.hasSlot c)

/-- May a core's job of a cocoon access [a, a + len) (R21, R340)? -/
def State.reaches (s : State) (c a len : Nat) : Bool :=
  s.owns c a len && (!decide (a < 0x004000000000) || s.slotsFor c a len)

end Sys2Proof.Machine
end

