-- ==== Sys2Proof/Machine/Tables.lean ====
section
/-!
DEFINITION. The schedule table image (R49–R53) and the consistency check of R57: parsing, the CRC, the geometry of windows, the mesh
routes (R11, R15), the guard band (R59), the drain bound (R70) and the radio capacity (R66).
-/
namespace Sys2Proof.Machine

/-! ### CRC-32 (R49) -/

/-- One bit of the reflected CRC-32 of IEEE 802.3. -/
def crcBit (c : Word) : Word := if c.getLsbD 0 then (c >>> 1) ^^^ 0xEDB88320#32 else c >>> 1

/-- One byte. -/
def crcByte (c : Word) (b : Byte) : Word :=
  let x := c ^^^ b.setWidth 32
  crcBit (crcBit (crcBit (crcBit (crcBit (crcBit (crcBit (crcBit x)))))))

/-- CRC-32 of a list of bytes. -/
def crc32 (l : List Byte) : Word := ~~~(l.foldl crcByte 0xFFFFFFFF#32)

/-- CRC-32 of an image computed with the four bytes at `off` as 0. -/
def imageCrc (l : List Byte) (off : Nat) : Nat :=
  (crc32 (l.take off ++ [0, 0, 0, 0] ++ l.drop (off + 4))).toNat

/-! ### Parsing (R49–R53) -/

def tblSecOff (b : List Byte) (i : Nat) : Nat := fieldAt b (0x20 + 8 * i) 4
def tblSecCnt (b : List Byte) (i : Nat) : Nat := fieldAt b (0x24 + 8 * i) 2
def tblLen (b : List Byte) : Nat := fieldAt b 0x18 4

/-- The entry sizes of R50. -/
def tblSize : List Nat := [16, 256, 16, 16, 384, 4096, 2400]
/-- The largest entry counts of R50. -/
def tblMax : List Nat := [1024, 256, 16384, 16384, 32, 32, 16]

/-- The entries of section `i`, as their bytes. -/
def tblEntries (b : List Byte) (i : Nat) : List (List Byte) :=
  let z := tblSize.getD i 0
  (List.range (tblSecCnt b i)).map fun k => slice b (tblSecOff b i + z * k) z

def parseRow (e : List Byte) : Row :=
  { winFirst := fieldAt e 0 2, winCount := fieldAt e 2 1, workCount := fieldAt e 3 1, workFirst := fieldAt e 4 2
    chMap := fieldAt e 6 1, wayMap := fieldAt e 7 1, subMap := fieldAt e 8 1, silkSet := fieldAt e 9 1
    retrainCh := bitsOf (fieldAt e 10 1) 0 5, radioReserved := (fieldAt e 10 1).testBit 6, retrainEn := (fieldAt e 10 1).testBit 7 }

def parseWindow (e : List Byte) : Window :=
  { cocoon := bitsOf (fieldAt e 0 1) 0 6, coreSet := fieldAt e 1 1, start := bitsOf (fieldAt e 4 4) 0 20, stop := bitsOf (fieldAt e 8 4) 0 20 }

def parseWork (e : List Byte) : Work :=
  { cocoon := bitsOf (fieldAt e 0 1) 0 6, kind := fieldAt e 1 1, coreSet := fieldAt e 2 1, start := bitsOf (fieldAt e 4 4) 0 20
    handle := fieldAt e 8 4, arg := fieldAt e 12 4 }

/-- A table image as a table. -/
def parseTable (b : List Byte) : SchedTable :=
  { beatLen := fieldAt b 6 1, preempt := fieldAt b 7 1, guard := fieldAt b 0x0C 4, saveMask := fieldAt b 0x10 8
    rows := ((tblEntries b 0).map parseRow).take (fieldAt b 8 2)
    coreSets := (tblEntries b 1).map fun e => BitVec.ofNat 2048 (leNat e)
    windows := (tblEntries b 2).map parseWindow
    works := (tblEntries b 3).map parseWork
    chMaps := (tblEntries b 4).map fun e => e.map fun x => x.toNat
    wayMaps := (tblEntries b 5).map fun e => e.map fun x => x.toNat
    subMaps := (tblEntries b 6).map fun e => e.map fun x => x.toNat }

/-! ### Windows and cores -/

/-- Is core `n` in the core set with index `i`? -/
def SchedTable.hasCore (t : SchedTable) (i n : Nat) : Bool :=
  (t.coreSets[i]?).any fun cs => cs.getLsbD n

/-- The cores of a core set, ascending. -/
def SchedTable.coresOf (t : SchedTable) (i : Nat) : List Nat :=
  (t.coreSets[i]?).elim [] fun cs => (List.range 2048).filter fun n => cs.getLsbD n

/-- The window entries of a row with their indices. -/
def SchedTable.rowWins (t : SchedTable) (r : Row) : List (Nat × Window) :=
  (List.range r.winCount).filterMap fun k => (t.windows[r.winFirst + k]?).map fun w => (r.winFirst + k, w)

/-- The work entries of a row with their indices. -/
def SchedTable.rowWorks (t : SchedTable) (r : Row) : List (Nat × Work) :=
  (List.range r.workCount).filterMap fun k => (t.works[r.workFirst + k]?).map fun w => (r.workFirst + k, w)

/-- The spans of one core over all rows, in ns from the start of row 0: (row, entry, start, end, cocoon), in rising order. -/
def SchedTable.spans (t : SchedTable) (L n : Nat) : List (Nat × Nat × Nat × Nat × Nat) :=
  (t.rows.zipIdx).flatMap fun (r, i) =>
    let ws := (t.rowWins r).filter fun w => t.hasCore w.2.coreSet n
    sortBy (fun a b => Nat.ble a.2.2.1 b.2.2.1) (ws.map fun w => (i, w.1, i * L + w.2.start, i * L + w.2.stop, w.2.cocoon))

/-- Does the cocoon hold the core in some row? -/
def SchedTable.holds (t : SchedTable) (c n : Nat) : Bool :=
  t.rows.any fun r => (t.rowWins r).any fun w => Nat.beq w.2.cocoon c && t.hasCore w.2.coreSet n

/-- Does the table name the cocoon in a window, map entry or work entry of some row (R296)? -/
def SchedTable.names (t : SchedTable) (c : Nat) : Bool :=
  t.rows.any fun r => (t.rowWins r).any (fun w => Nat.beq w.2.cocoon c) || (t.rowWorks r).any (fun w => Nat.beq w.2.cocoon c) ||
    ((t.chMaps.getD r.chMap []).contains c) || ((t.wayMaps.getD r.wayMap []).contains c) || ((t.subMaps.getD r.subMap []).contains c)

/-- Does cocoon `c` hold core `n` continuously through every row (R53, R178)? -/
def SchedTable.continuous (t : SchedTable) (L c n : Nat) : Bool :=
  t.rows.all fun r =>
    let ws := ((t.rowWins r).filter fun w => Nat.beq w.2.cocoon c && t.hasCore w.2.coreSet n).map fun w => (w.2.start, w.2.stop)
    Nat.beq ((sortBy (fun a b => Nat.ble a.1 b.1) ws).foldl (fun p w => if Nat.beq w.1 p then w.2 else p) 0) L

/-! ### Mesh routes (R11) and sub-lanes (R15) -/

/-- The attachment dies of a die: itself for a C-die (R10, R11). -/
def attachments (d : Nat) : List Nat :=
  if d < 32 then [d]
  else sortBy Nat.ble (meshEdges.filterMap fun e =>
    if Nat.beq (edgeEnds e).1 d && Nat.blt (edgeEnds e).2 32 then some (edgeEnds e).2 else none)

/-- The edge between two dies, with its direction, if one joins them. -/
def edgeBetween (a b : Nat) : Option (Nat × Nat) :=
  meshEdges.findSome? fun e =>
    if edgeEnds e = (a, b) then some (e, 0) else if edgeEnds e = (b, a) then some (e, 1) else none

/-- The dies passed in the grid from C-die `a` to C-die `b`: along the row, then along the column. -/
def gridPath (a b : Nat) : List Nat :=
  let (r, c) := (a / 8, a % 8)
  let (r', c') := (b / 8, b % 8)
  let row := (List.range (if c < c' then c' - c else c - c')).map fun i => 8 * r + (if c < c' then c + i + 1 else c - i - 1)
  let col := (List.range (if r < r' then r' - r else r - r')).map fun i => 8 * (if r < r' then r + i + 1 else r - i - 1) + c'
  a :: (row ++ col)

def gridHops (a b : Nat) : Nat := (gridPath a b).length - 1

/-- The edges, with direction, of the route between two dies (R11). -/
def route (a b : Nat) : List (Nat × Nat) :=
  if a = b then []
  else match edgeBetween a b with
    | some e => [e]
    | none =>
      let pairs := (attachments a).flatMap fun x => (attachments b).map fun y => (x, y)
      let best := pairs.foldl (fun (acc : Option (Nat × Nat)) p => match acc with
        | none => some p
        | some q => if Nat.blt (gridHops p.1 p.2) (gridHops q.1 q.2) then some p else some q) none
      match best with
      | none => []
      | some (x, y) =>
        let path := (if a < 32 then [] else [a]) ++ gridPath x y ++ (if b < 32 then [] else [b])
        (path.zip path.tail).filterMap fun p => edgeBetween p.1 p.2

/-- Owner byte of sub-lane `k` of edge `e` in direction `d` in a row (R50). -/
def SchedTable.subOwner (t : SchedTable) (r : Row) (e d k : Nat) : Nat := (t.subMaps.getD r.subMap []).getD (30 * e + 15 * d + k) 0x80

/-- Offset and entry count of section `i` of a fabric image (R364), and the share entry of a link in its share set `set` (R369). -/
def fabOff (b : List Byte) (i : Nat) : Nat := fieldAt b (0x10 + 8 * i) 4
def fabCnt (b : List Byte) (i : Nat) : Nat := fieldAt b (0x14 + 8 * i) 4
def fabShare (b : List Byte) (set l share : Nat) : List Byte :=
  slice b (fabOff b 4 + 2048 * fieldAt b (fabOff b 2 + 256 * set + 4 * l + 1) 1 + 32 * (share % 64)) 32
def shareQuota (e : List Byte) : Nat := fieldAt e 0 2 % 2 ^ 14

/-- The O-dies that a cocoon's traffic uses in a row: those with a link on which the row's share set gives its share a quota (R368). -/
def quotaDies (fab : List Byte) (r : Row) (c : Nat) : List Nat :=
  let set := if r.silkSet < fabCnt fab 2 then r.silkSet else 0
  [0, 1].filterMap fun o =>
    if (List.range 32).any fun i => Nat.blt 0 (shareQuota (fabShare fab set (32 * o + i) c)) then some (36 + o) else none

/-- The dies between which a cocoon's traffic runs in a row (DEDUCED, log entry 35): those of its cores, of the channels with slots of it and of
the silk links on which it has a quota; cocoon 0 also uses the radio die. -/
def SchedTable.usesDies (t : SchedTable) (fab : List Byte) (r : Row) (c : Nat) : List Nat :=
  let wins := (t.rowWins r).filter fun w => Nat.beq w.2.cocoon c
  let cd := (List.range 32).filter fun d => wins.any fun w => (t.coreSets[w.2.coreSet]?).any fun (cs : CoreSet) => !((cs >>> (64 * d)).setWidth 64 == 0#64)
  let map := t.chMaps.getD r.chMap []
  let md := (List.range 4).filter fun m => (List.range 96).any fun i => Nat.beq (map.getD (96 * m + i) 0x80) c
  cd ++ md.map (32 + ·) ++ quotaDies fab r c ++ (if c = 0 then [38] else [])

/-- Do two dies exchange a cocoon's packets: neither two M-dies nor two O-dies do, as both only serve accesses. -/
def exchange (a b : Nat) : Bool := !(Nat.ble 32 a && Nat.ble a 35 && Nat.ble 32 b && Nat.ble b 35) && !(Nat.ble 36 a && Nat.ble a 37 && Nat.ble 36 b && Nat.ble b 37)

/-- The edges, with direction, of a cocoon's routes in a row. -/
def SchedTable.cocoonRoutes (t : SchedTable) (fab : List Byte) (r : Row) (c : Nat) : List (Nat × Nat) :=
  let dies := t.usesDies fab r c
  (dies.flatMap fun a => dies.flatMap fun b => if exchange a b then route a b else []).eraseDups

/-- Has the cocoon at least `n` reserved sub-lanes on every edge of its routes in the row (R15)? -/
def SchedTable.lanesOk (t : SchedTable) (fab : List Byte) (r : Row) (c n : Nat) : Bool :=
  (t.cocoonRoutes fab r c).all fun e =>
    Nat.ble n (((List.range 15).filter fun k => Nat.beq (t.subOwner r e.1 e.2 k) c).length)

/-! ### Radio capacity (R66) -/

/-- Does the handover of R60 apply to span `i` of a core: the span before it, cyclically, is of another cocoon, or, for the first one, the window that
held the core before the table began is not of its cocoon? -/
def handoverFirst (spans : List (Nat × Nat × Nat × Nat × Nat)) (follows : Nat → Bool) (i : Nat) : Bool :=
  let prev := spans.getD (if i = 0 then spans.length - 1 else i - 1) (0, 0, 0, 0, 64)
  let cur := spans.getD i (0, 0, 0, 0, 64)
  !Nat.beq prev.2.2.2.2 cur.2.2.2.2 || (Nat.beq i 0 && !follows cur.2.2.2.2)

/-- R66: the first row whose capacity falls short of its D_p. `ok` names the cores that count; `follows n c` says that a window of `c` that is the
first of the table on core `n` follows a window of `c`; true throughout for a table that runs already. -/
def SchedTable.fits (t : SchedTable) (L F : Nat) (demand : List (Nat × Nat)) (ok : Nat → Bool) (follows : Nat → Nat → Bool) : Option Nat :=
  let per := (List.range 2048).filter ok |>.map fun n => (n, t.spans L n)
  let eff := per.flatMap fun x => (x.2.zipIdx).filterMap fun (y, i) =>
    if Nat.beq y.2.2.2.2 0 then some (y.1, (y.2.2.2.1 - y.2.2.1) - (if handoverFirst x.2 (follows x.1) i then 1000 else 0)) else none
  (List.range t.rows.length).find? fun r =>
    let (d, m) := demand.getD (r % F) (0, 0)
    Nat.blt (((eff.filter fun x => Nat.beq x.1 r && Nat.ble m x.2).map fun x => x.2).sum) (d * 1000)

/-- Does a window of cocoon `c` that opens on core `n` after the table in force, or with none in force after what came before, follow one of `c` (R60)? -/
def State.followsOwn (s : State) (n c : Nat) : Bool :=
  match s.seq.active.bind fun o => (o.spans s.L n).getLast? with
  | some x => Nat.beq x.2.2.2.2 c
  | none => Assoc.find n s.seq.lastOwner == some c

/-- The demand table of a cell image: D_p in core-µs and M_p in ns (R201). -/
def parseDemand (b : List Byte) : List (Nat × Nat) :=
  (List.range (min 160 (fieldAt b 0x14 2))).map fun p => (fieldAt b (fieldAt b 0x10 4 + 8 * p) 4, fieldAt b (fieldAt b 0x10 4 + 8 * p + 4) 4)

/-! ### The drain bound (R70) -/

/-- The chrysalis volume of one reclaimed core in bytes. -/
def chryBytes : Nat := 2424832

/-- Cores of `c` that the incoming table reclaims. -/
def reclaimed (old new : SchedTable) (c : Nat) : List Nat :=
  (List.range 2048).filter fun n => old.holds c n && !new.holds c n

/-- The largest total of channel contributions that keeps every M-die within 500 bytes/ns: `single m` from channels of M-die m, `pair m k`
from mirror pairs on M-dies m and k. Half the least cut of the doubled graph, all in the unit of the contributions (R70). -/
def drainRate (cap : Nat) (single : Nat → Nat) (pair : Nat → Nat → Nat) : Nat :=
  let subsets := List.range 16
  let singles := ((List.range 4).map fun m => min (single m) cap).sum
  let cut (a b : Nat) : Nat :=
    cap * (((List.range 4).filter a.testBit).length + ((List.range 4).filter b.testBit).length) +
      ((List.range 4).map fun i => ((List.range 4).map fun j =>
        if a.testBit i || b.testBit j then 0 else if i < j then pair i j else pair j i).sum).sum
  let best := (subsets.flatMap fun a => subsets.map fun b => cut a b).foldl min (8 * cap)
  singles + best / 2

/-- Contribution in row `r`, which comes after row `before`, of a channel with `s` slots of `c`, `t` of them after another owner's, in 1/(9·16·1000) byte/ns per ns of beat: payload
rate × (s × L / 16 − t × T_TA) (R70), times L. -/
def State.channelShare (s : State) (t : SchedTable) (r before : Row) (L ch c : Nat) : Nat :=
  let own (r : Row) (k : Nat) : Bool := Nat.beq ((t.chMaps.getD r.chMap []).getD (16 * ch + k) 0x80) c
  let n := ((List.range 16).filter (own r)).length
  let turn := ((List.range 16).filter fun k => own r k && !(if k = 0 then own before 15 else own r (k - 1))).length
  s.payloadRate * (n * L * 1000 - turn * s.turnaround * 16)

/-- R70 for one cocoon: is K too small for its reclaimed cores? -/
def State.drainShort (s : State) (old new : SchedTable) (L k c : Nat) : Bool :=
  let cores := reclaimed old new c
  if cores.isEmpty || Nat.beq (s.fld (Reg.COCOON.CHRY_LEN.LEN c)) 0 then false
  else if k = 0 then true
  else match s.groupOf (s.fld (Reg.COCOON.CHRY_BASE.BASE c) * 65536) with
    | none => true
    | some g =>
      let row (i : Nat) : Option Row := old.rows[(2 * old.rows.length - k % old.rows.length + i - 1) % old.rows.length]?
      let rows := (List.range k).filterMap fun i => (row (i + 1)).bind fun r => (row i).map fun p => (r, p)
      let share (r : Row × Row) (i : Nat) : Nat × Nat × Nat :=
        let a := g.ch.getD i 0
        match g.mirror[i]? with
        | some b => (a / 6, b / 6, min (s.channelShare old r.1 r.2 L a c) (s.channelShare old r.1 r.2 L b c))
        | none => (a / 6, a / 6, s.channelShare old r.1 r.2 L a c)
      let unit := 9 * 16 * 1000 * L
      let q (r : Row × Row) : Nat :=
        let l := (List.range g.ch.length).map (share r)
        drainRate (500 * unit)
          (fun m => ((l.filter fun x => Nat.beq x.1 m && Nat.beq x.2.1 m).map fun x => x.2.2).sum)
          (fun m n => ((l.filter fun x => !Nat.beq x.1 x.2.1 && Nat.beq (min x.1 x.2.1) m && Nat.beq (max x.1 x.2.1) n).map fun x => x.2.2).sum)
      let held (r : Row) (n : Nat) : Nat :=
        (((old.rowWins r).filter fun w => Nat.beq w.2.cocoon c && old.hasCore w.2.coreSet n).map fun w => w.2.stop - w.2.start).sum
      let qMin := (rows.map q).foldl min (500 * unit * 4)
      let wMin := (rows.flatMap fun r => cores.map (held r.1)).foldl min L
      let v := cores.length * chryBytes * unit
      if qMin * wMin = 0 then true else Nat.blt k ((v + qMin * wMin - 1) / (qMin * wMin) + 1)

/-! ### The check of R57 -/

/-- A failed condition: reason, row and entry shown in REFUSAL_ROW. -/
abbrev Fail := Nat × Nat × Nat

/-- The first failure among rows: `bad` gives the entry at fault. -/
def rowBad (t : SchedTable) (bad : Row → Nat → Option Nat) (reason : Nat) : Option Fail :=
  (t.rows.zipIdx).findSome? fun x => (bad x.1 x.2).map fun e => (reason, x.2, e)

/-- The first entry of a section that fails, with the first row that names it, or row 0 where none does. -/
def entryBad {α : Type} (t : SchedTable) (l : List α) (names : Row → Nat → Bool) (bad : α → Bool) (reason : Nat) : Option Fail :=
  ((l.zipIdx).find? fun x => bad x.1).map fun x => (reason, (t.rows.findIdx? fun r => names r x.2).getD 0, x.2)

def SchedTable.winBad (t : SchedTable) (bad : Window → Bool) (reason : Nat) : Option Fail :=
  entryBad t t.windows (fun r i => Nat.ble r.winFirst i && Nat.blt i (r.winFirst + r.winCount)) bad reason
def SchedTable.workBad (t : SchedTable) (bad : Work → Bool) (reason : Nat) : Option Fail :=
  entryBad t t.works (fun r i => Nat.ble r.workFirst i && Nat.blt i (r.workFirst + r.workCount)) bad reason

/-- Windows and work entries of every row, with their row. -/
def SchedTable.allWins (t : SchedTable) : List (Nat × Nat × Window) :=
  (t.rows.zipIdx).flatMap fun x => (t.rowWins x.1).map fun w => (x.2, w.1, w.2)
def SchedTable.allWorks (t : SchedTable) : List (Nat × Row × Nat × Work) :=
  (t.rows.zipIdx).flatMap fun x => (t.rowWorks x.1).map fun w => (x.2, x.1, w.1, w.2)

/-- Lies core `n` at the work entry's start in a window of its cocoon in the row (R53)? -/
def SchedTable.covered (t : SchedTable) (r : Row) (w : Work) (n : Nat) : Bool :=
  (t.rowWins r).any fun x => Nat.beq x.2.cocoon w.cocoon && Nat.ble x.2.start w.start && Nat.blt w.start x.2.stop && t.hasCore x.2.coreSet n

/-- R59 on one core: the first window of cocoon 0 or a sealed cocoon that follows a window of another cocoon too soon. `old` gives the
spans of the outgoing table and its length; `free` exempts a reclaimed core at the epoch boundary. -/
def guardBad (sealed : Nat → Bool) (G len : Nat) (spans : List (Nat × Nat × Nat × Nat × Nat))
    (old : Option (List (Nat × Nat × Nat × Nat × Nat) × Nat)) (free : Bool) : Option (Nat × Nat) :=
  let n := spans.length
  let inner := (List.range n).findSome? fun i =>
    let cur := spans.getD i (0, 0, 0, 0, 64)
    let prev := spans.getD (if i = 0 then n - 1 else i - 1) (0, 0, 0, 0, 64)
    let gap := if i = 0 then cur.2.2.1 + len - prev.2.2.2.1 else cur.2.2.1 - prev.2.2.2.1
    if sealed cur.2.2.2.2 && !Nat.beq prev.2.2.2.2 cur.2.2.2.2 && Nat.blt gap G then some (cur.1, cur.2.1) else none
  match inner with
  | some x => some x
  | none =>
    match old, spans with
    | some (os, olen), cur :: _ =>
      match os.getLast? with
      | some p => if !free && sealed cur.2.2.2.2 && !Nat.beq p.2.2.2.2 cur.2.2.2.2 && Nat.blt (cur.2.2.1 + olen - p.2.2.2.1) G
          then some (cur.1, cur.2.1) else none
      | none => none
    | _, _ => none

/-- Has the cocoon been created (R294)? -/
def State.created (s : State) (c : Nat) : Bool := Nat.beq (s.cocoonState c) 1 || Nat.beq (s.cocoonState c) 2

/-- The program a handle of a cocoon names, if it is loaded (R175). -/
def State.program (s : State) (c handle : Nat) : Option (Nat × Nat × Program) :=
  let z := handle / 256 % 16
  let p := handle % 256
  ((Assoc.find z (s.cocoon c).slots).bind fun sl => Assoc.find p sl.programs).bind fun g =>
    if g.gen = handle / 65536 ∧ bitsOf handle 12 4 = 0 then some (z, p, g) else none

/-- The largest program bound of a cocoon. -/
def State.maxBound (s : State) (c : Nat) : Nat :=
  ((s.cocoon c).slots.flatMap fun sl => sl.2.programs.map fun p => p.2.bP).foldl max 0

/-- The consistency check of a table image against the rest of the part, first failure in the order of R57. `len` is the LEN code to
be met and `addrLo` the low address word taken. A condition on windows, work entries or maps is asked of every entry of their sections. -/
def State.checkTable (s : State) (b : List Byte) (addrLo len : Nat) : Option Fail :=
  let t := parseTable b
  let L := beatLen len
  let F := beatsPerFrame len
  let n := t.rows.length
  let ends := (List.range 7).map fun i => tblSecOff b i + tblSecCnt b i * tblSize.getD i 0
  let perCore := fun (f : Nat → Option Fail) => (List.range 2048).findSome? f
  let tests : List (Unit → Option Fail) := [
    fun _ => if addrLo % 256 ≠ 0 then some (0x0121, 0, 0) else none,
    fun _ => if fieldAt b 0 4 ≠ 0x57425431 ∨ fieldAt b 4 2 ≠ 1 ∨ tblLen b < 256 ∨ fieldAt b 0x1C 4 ≠ imageCrc (b.take (tblLen b)) 0x1C ∨
        (List.range 7).any (fun i => !Nat.beq (tblSecOff b i % 16) 0 || Nat.blt (tblLen b) (ends.getD i 0))
      then some (0x0205, 0, 0) else none,
    fun _ => if 0x100000 < tblLen b then some (0x0503, 0, 0) else none,
    fun _ => if 3 < t.beatLen then some (0x0101, 0, 0) else if t.beatLen ≠ len then some (0x0201, 0, 0) else none,
    fun _ => if fieldAt b 8 2 = 0 ∨ fieldAt b 8 2 % F ≠ 0 ∨ 1024 < fieldAt b 8 2 ∨ 64 < t.preempt ∨
        (List.range 7).any (fun i => Nat.blt (tblMax.getD i 0) (tblSecCnt b i)) then some (0x0102, 0, 0)
      else rowBad t (fun r k => if Nat.blt 64 r.winCount || Nat.blt 64 r.workCount then some k else none) 0x0102,
    fun _ => if tblSecCnt b 0 < fieldAt b 8 2 then some (0x0103, 0, 0)
      else rowBad t (fun r k =>
        if t.windows.length < r.winFirst + r.winCount ∨ t.works.length < r.workFirst + r.workCount ∨ t.chMaps.length ≤ r.chMap ∨
          t.wayMaps.length ≤ r.wayMap ∨ t.subMaps.length ≤ r.subMap then some k else none) 0x0103
        |>.or (t.winBad (fun w => Nat.ble t.coreSets.length w.coreSet) 0x0103) |>.or (t.workBad (fun w => Nat.ble t.coreSets.length w.coreSet) 0x0103),
    fun _ => t.winBad (fun w => Nat.ble w.stop w.start || Nat.blt L w.stop) 0x0104,
    fun _ => if t.guard < 10000 ∨ 100000 < t.guard then some (0x0105, 0, 0) else none,
    fun _ => t.workBad (fun w => Nat.beq w.kind 0 || Nat.blt 4 w.kind) 0x0106,
    fun _ => perCore fun c =>
      let sp := t.spans L c
      (sp.zip sp.tail).findSome? fun (a, d) => if Nat.beq a.1 d.1 && Nat.blt d.2.2.1 a.2.2.2.1 then some (0x0202, d.1, d.2.1) else none,
    fun _ => (t.allWorks.find? fun w => (t.coresOf w.2.2.2.coreSet).any fun c => !t.covered w.2.1 w.2.2.2 c).map fun w => (0x0203, w.1, w.2.2.1),
    fun _ =>
      let bad (shared : Bool) (o : Nat) : Bool := !(Nat.beq o 0x80 || (shared && Nat.beq o 0x40) || (Nat.blt o 64 && s.created o))
      t.winBad (fun w => !s.created w.cocoon) 0x0301 |>.or (t.workBad (fun w => !s.created w.cocoon) 0x0301)
      |>.or (entryBad t t.chMaps (fun r i => Nat.beq r.chMap i) (fun m => m.any (bad false)) 0x0301)
      |>.or (entryBad t t.wayMaps (fun r i => Nat.beq r.wayMap i) (fun m => m.any (bad false)) 0x0301)
      |>.or (entryBad t t.subMaps (fun r i => Nat.beq r.subMap i) (fun m => m.any (bad true)) 0x0301),
    fun _ => t.workBad (fun w => (Nat.beq w.kind 1 || Nat.beq w.kind 3) && (s.program w.cocoon w.handle).isNone) 0x0302,
    fun _ => t.winBad (fun w => (t.coresOf w.coreSet).any s.coreDisabled) 0x0801,
    fun _ => rowBad t (fun r _ =>
      if !t.lanesOk s.silk.fabric r 0 2 || (List.range 64).any (fun c => s.sealed c && !Nat.beq c 0 && !t.lanesOk s.silk.fabric r c 1) then some r.subMap
      else none) 0x0502,
    fun _ => perCore fun c =>
      let old := s.seq.active.map fun o => (o.spans L c, o.rows.length * L)
      let free := Nat.blt 0 t.preempt && s.seq.active.any fun o => (List.range 64).any fun k => o.holds k c && !t.holds k c
      (guardBad s.sealed t.guard (n * L) (t.spans L c) old free).map fun x => (0x0601, x.1, x.2),
    fun _ => (t.allWins.find? fun w => !Nat.beq w.2.2.cocoon 0 && Nat.blt t.guard (s.maxBound w.2.2.cocoon)).map fun w => (0x0602, w.1, w.2.1),
    fun _ => s.seq.active.bind fun o =>
      ((List.range 64).find? fun c => t.saveMask.testBit c && s.drainShort o t L t.preempt c).map fun c => (0x0603, 0, c),
    fun _ => ((t.fits L F s.demand (fun c => !s.coreDisabled c) s.followsOwn).map fun r => (0x0501, r, 0)) |>.or
      ((s.radio.next.bind fun b => t.fits L F (parseDemand b) (fun c => !s.coreDisabled c) s.followsOwn).map fun r => (0x0501, r, 0)) |>.or
      ((t.allWorks.find? fun w => Nat.beq w.2.2.2.kind 1 && !Nat.beq w.2.2.2.cocoon 0).map fun w => (0x0501, w.1, w.2.2.1)) ]
  tests.findSome? fun f => f ()

end Sys2Proof.Machine
end

