-- ==== Sys2Proof/Machine/RadioOps.lean ====
section
/-!
DEFINITION. The radio as named operations: cell images (R197, R198, R201), slots (R219), the error ring (R222) and spoiled slots (R223).
-/
namespace Sys2Proof.Machine

/-! ### Cell images (R197, R198, R201) -/

def cellCount (b : List Byte) : Nat := fieldAt b 6 2
/-- The 128 bytes of a cell entry. -/
def cellEntry (b : List Byte) (c : Nat) : List Byte := slice b (0x40 + 128 * c) 128
def cellIsLte (e : List Byte) : Bool := (fieldAt e 0 1).testBit 0
def cellMu (e : List Byte) : Nat := bitsOf (fieldAt e 0 1) 1 3
def cellCatB (e : List Byte) : Bool := (fieldAt e 1 1).testBit 0
def cellPrbs (e : List Byte) : Nat := fieldAt e 2 2
def cellAnt (e : List Byte) : Nat := fieldAt e 4 1
def cellDl (e : List Byte) : Nat := fieldAt e 5 1
def cellUl (e : List Byte) : Nat := fieldAt e 6 1
def cellRu (e : List Byte) : Nat := fieldAt e 7 1
def cellP5 (b : List Byte) (e : List Byte) : List Byte := slice b (fieldAt e 32 4) (fieldAt e 36 2)

/-- The cell entries of the image in force that run, by cell number. -/
def State.cellsIn (s : State) : List (Nat × List Byte) :=
  (List.range (cellCount s.radio.image)).map fun c => (c, cellEntry s.radio.image c)

/-- Streams that an RU's cells use: antennas for category A, layers for category B (R238). -/
def State.ruStreams (s : State) (ru : Nat) : Nat :=
  ((s.cellsIn.filter fun x => Nat.beq (cellRu x.2) ru).map fun x =>
    if cellCatB x.2 then max (cellDl x.2) (cellUl x.2) else cellAnt x.2).foldl max 0

/-! ### Slots (R219) -/

/-- Slot length in ns. -/
def slotNs (e : List Byte) : Nat := if cellIsLte e then 1000000 else 1000000 / 2 ^ cellMu e

/-- SFN and slot of a slot that starts at device time `t`. -/
def sfnOf (t : Nat) : Nat := t / 10000000 % 1024
def slotOf (e : List Byte) (t : Nat) : Nat := t % 10000000 / slotNs e

/-! ### The error ring (R222) -/

/-- Write an error-ring entry: the ring wraps, and RADIO's vector is raised. -/
def State.errRing (s : State) (cell sfn slot code id : Nat) : State :=
  let base := s.fld Reg.RADIO.ERR_RING_LO.ADDR + 2 ^ 32 * s.fld Reg.RADIO.ERR_RING_HI.ADDR
  let n := max 1 (s.fld Reg.RADIO.ERR_RING_LEN.ENTRIES)
  let e := leBytes 2 cell ++ leBytes 2 sfn ++ leBytes 2 slot ++ leBytes 1 code ++ leBytes 1 id ++ leBytes 8 0
  let s := (s.writeFor 0 257 (base + 16 * (s.radio.errCount % n)) e).1
  { s with radio := { s.radio with errCount := s.radio.errCount + 1 } }.raisePage 0x080

/-- The radio function is in service: not DISABLED. -/
def State.radioOn (s : State) : Bool := !Nat.beq (s.fld Reg.RADIO.STATUS.RSTATE) 0

/-- R227: work of cocoon 0 on a core is lost. Whether a cell's slot work stood on it, and of which of the last four slots, is free (log entry 245);
each such slot writes an error-ring entry CORE_FAULT, and its indications report CRC failure. -/
def State.loseRadioWork (s : State) : State :=
  s.cellsIn.foldl (fun s c =>
    let len := slotNs c.2
    let start := (s.now / len - Config.freeNat (s.draws + 1) % 4) * len
    let hit := Config.freeBool s.draws = true && s.radioOn
    let s := s.drawn.drawn
    if hit then
      let s := s.errRing c.1 (sfnOf start) (slotOf c.2 start) 0x08 0
      { s with radio := { s.radio with lost := s.radio.lost ++ [(c.1, start)] } }
    else s) s

/-! ### Spoiled slots (R223) -/

/-- Does a slot of a cell that starts at `t` overlap a realignment beat, or start too soon after one? -/
def State.spoiledSlot (s : State) (t len : Nat) : Bool :=
  s.radio.spoiled.any fun x => Nat.blt x.1 (t + len) && Nat.blt t x.2.2

/-- The slots of one cell that a realignment beat from `a` to `b` spoils: each writes an entry and is counted. -/
def State.spoilCell (s : State) (c : Nat) (e : List Byte) (a lim : Nat) : State :=
  let len := slotNs e
  let first := a / len
  (List.range ((lim + len - 1) / len - first)).foldl (fun s k =>
    let t := (first + k) * len
    ((s.countSat Reg.RADIO.SPOILED_COUNT.COUNT 1).raiseErr Reg.RADIO.ERR.SPOILED).errRing c (sfnOf t) (slotOf e t) 0x06 0) s

/-- R223: the realignment beat in progress spoils the slots it overlaps and those that start before the second boundary after it. -/
def State.spoilSlots (s : State) : State :=
  match s.seq.realign with
  | none => s
  | some b =>
    if s.radioOn then
      let lim := b + 2 * s.L
      let s := { s with radio := { s.radio with spoiled := s.radio.spoiled ++ [(s.now, b, lim)] } }
      let a := s.now
      s.cellsIn.foldl (fun s x => s.spoilCell x.1 x.2 a lim) s
    else s

/-! ### Symbols (R192, R240) -/

/-- Device time in ns of the start of a symbol at the antenna, rounded down: the slot's start and the symbol lengths of TS 38.211 with normal
cyclic prefix, counted from the start of the subframe in units of T_s / 2^μ. -/
def airTime (e : List Byte) (start symbol : Nat) : Nat :=
  let mu := cellMu e
  let sub := start / 1000000 * 1000000
  let g := (start - sub) / slotNs e * 14 + symbol
  let long := (if 0 < g then 1 else 0) + (if 7 * 2 ^ mu < g then 1 else 0)
  sub + (g * 2192 + long * 16 * 2 ^ mu) * 100000 / (3072 * 2 ^ mu)

/-! ### What a slot transmits (R220, R221, R223, R225, R226, R239) -/

/-- The message ids of R217; those of LTE are of document 082 (PRESUMED, log entry 90). -/
def idDl : Nat := 0x80
def idUl : Nat := 0x81
def idDci : Nat := 0x83
def idTx : Nat := 0x84

/-- State of a cell in the slot that starts at `start`: it serves again from the slot of its first on-time request (R226). -/
def State.cellAt (s : State) (cell start : Nat) : Option Nat :=
  match Assoc.find cell s.radio.serveAt with
  | some t => if t ≤ start then some 1 else Assoc.find cell s.radio.cells
  | none => Assoc.find cell s.radio.cells

/-- The requests kept for a slot, of a message, on time or late. -/
def State.slotReqs (s : State) (cell start id : Nat) (onTime : Bool) : List RadioReq :=
  s.radio.reqs.filter fun r => Nat.beq r.id id && Nat.beq r.cell cell && Nat.beq r.start start && r.onTime == onTime

/-- The PBCH payload with the SFN bits and the half-frame bit of the slot at `t` (R225). The places are those of the BCH payload of TS 38.212 and
TS 38.331, and of the MIB of TS 36.331 (PRESUMED, log entry 233). -/
def stampMib (lte : Bool) (t : Nat) (p : List Byte) : List Byte :=
  let sfn := sfnOf t
  let half := t % 10000000 / 5000000
  let byte (k : Nat) : Nat := (p.getD k 0).toNat
  if lte then (p.set 0 (BitVec.ofNat 8 (putBits (byte 0) 0 2 (sfn / 256)))).set 1 (BitVec.ofNat 8 (putBits (byte 1) 2 6 (sfn / 4)))
  else (p.set 0 (BitVec.ofNat 8 (putBits (byte 0) 1 6 (sfn / 16)))).set 3 (BitVec.ofNat 8 (putBits (putBits (byte 3) 4 4 sfn) 3 1 half))

/-- The cached broadcast content of a cell for the position of a slot modulo 160 ms (R225). -/
def State.cachedTx (s : State) (cell start : Nat) : SlotTx :=
  let mine := s.radio.cache.filter fun c => Nat.beq c.cell cell && Nat.beq (c.start % 160000000) (start % 160000000)
  let lte := cellIsLte (cellEntry s.radio.image cell)
  let stamp (p : Pdu) : Pdu := match p with
    | .ssb b => .ssb (stampMib lte start b)
    | p => p
  ⟨(mine.flatMap fun c => c.pdus).map stamp, mine.flatMap fun c => c.blocks⟩

/-- The transport blocks that a slot's on-time TX requests carry. -/
def State.txBlocks (s : State) (cell start : Nat) : List TxBlock := (s.slotReqs cell start idTx true).flatMap fun r => r.blocks

/-- Has a PDU what it needs to be transmitted: a PDSCH its transport block (R221)? -/
def Pdu.hasData (blocks : List TxBlock) : Pdu → Bool
  | .pdsch _ tb _ _ _ => blocks.any fun b => Nat.beq b.tb tb
  | _ => true

/-- What a slot of a cell transmits: nothing where it is spoiled or the cell is SILENT; its cached broadcast in FALLBACK and where its DL_TTI or
TX_Data request was late; else what its on-time requests ask for. -/
def State.slotTx (s : State) (cell start : Nat) : SlotTx :=
  if s.spoiledSlot start (slotNs (cellEntry s.radio.image cell)) then ⟨[], []⟩
  else match s.cellAt cell start with
    | some 2 => s.cachedTx cell start
    | some 1 =>
      if (s.slotReqs cell start idDl false ++ s.slotReqs cell start idTx false).isEmpty then
        let blocks := s.txBlocks cell start
        let pdus := (s.slotReqs cell start idDl true ++ s.slotReqs cell start idDci true).flatMap fun r => r.pdus
        ⟨pdus.filter (Pdu.hasData blocks), blocks⟩
      else s.cachedTx cell start
    | _ => ⟨[], []⟩

/-- Is a slot's uplink processed: its cell serves, it is not spoiled, and its request was not late (R220, R223, R225)? -/
def State.uplinkOn (s : State) (cell start : Nat) : Bool :=
  Nat.blt cell (cellCount s.radio.image) && (s.cellAt cell start == some 1) && !s.spoiledSlot start (slotNs (cellEntry s.radio.image cell)) &&
    (s.slotReqs cell start idUl false).isEmpty

/-- The uplink PDUs of a slot, from its on-time UL_TTI request. -/
def State.ulPdus (s : State) (cell start : Nat) : List Pdu :=
  if s.uplinkOn cell start then (s.slotReqs cell start idUl true).flatMap fun r => r.pdus else []

end Sys2Proof.Machine
end

