-- ==== Sys2Proof/Machine/PodOps.lean ====
section
/-!
DEFINITION. The pod as named operations: the pod map (R413), scores (R415, R416), the keeper (R418), progress (R425), and the signatures of
lock-step pairs (R431–R433).
-/
namespace Sys2Proof.Machine

/-! ### The pod map (R413) -/

def podDevices (m : List Byte) : Nat := fieldAt m 6 2
def podManagers (m : List Byte) : Nat := fieldAt m 8 1
def podQuorum (m : List Byte) : Nat := fieldAt m 9 1
def podKey (m : List Byte) (i : Nat) : List Byte := slice m (0x40 + 32 * i) 32
def podId (m : List Byte) (d : Nat) : Nat := fieldAt m (0x140 + 132 * d) 2
/-- The neighbour ids of entry `d`. -/
def podList (m : List Byte) (d : Nat) : List Nat :=
  (List.range (min 64 (fieldAt m (0x142 + 132 * d) 2))).map fun k => fieldAt m (0x144 + 132 * d + 2 * k) 2

/-- The device ids of the map in force. -/
def State.podIds (s : State) : List Nat := (List.range (podDevices s.pod.map)).map (podId s.pod.map)

/-- The neighbours of a device in the map in force. -/
def State.podNeighbours (s : State) (x : Nat) : List Nat :=
  match (List.range (podDevices s.pod.map)).find? fun d => Nat.beq (podId s.pod.map d) x with
  | some d => podList s.pod.map d
  | none => []

/-- Hardware mode (R417)? -/
def State.podHardware (s : State) : Bool := Nat.beq (s.fld Reg.POD.CFG.MODE) 0

/-! ### Scores (R415, R416) -/

def State.linkScore (s : State) (n : Nat) : Nat := Assoc.findD n 255 s.pod.link
def State.reportedScore (s : State) (n : Nat) : Nat := Assoc.findD n 255 s.pod.reported
/-- The health score H(n). -/
def State.health (s : State) (n : Nat) : Nat := min (s.linkScore n) (s.reportedScore n)
def State.suspect (s : State) (n : Nat) : Bool := Nat.ble (s.health n) (s.fld Reg.POD.CFG.SUSPECT_THR)

/-- This device's self-score (R416). -/
def State.selfScore (s : State) : Nat :=
  if s.fatal.isSome then 0
  else
    let down := ((List.range 24).filter fun c => Nat.beq (s.fld (Reg.MEM_CH.STATE.STATE c)) 4).length
    let failed := ((List.range 64).filter fun l => Nat.beq (s.fld (Reg.SILK_LINK.STATE.STATE l)) 5).length
    255 - 48 * down - 8 * failed - s.fld Reg.POD.SELF.PENALTY

/-- A pod message leaves for a device, or for every device. -/
def State.sendPod (s : State) (dst : Option Nat) (m : PodMsg) : State := s.emit (.pod dst m)

/-- Devices of the map that are not expelled, in ascending id; the keeper is the first (R418). -/
def State.podLive (s : State) : List Nat := s.podIds.filter fun d => !s.pod.expelled.contains d

/-- The device to which this device's votes on a suspect go: the keeper, or after redirections the next lowest id. -/
def State.voteDest (s : State) (x : Nat) : Option Nat := s.podLive[Assoc.findD (α := Nat) x 0 s.pod.moved]?

/-- Change the scores of neighbour `n`: one that becomes suspect sets SUSPECT; in hardware mode one that is no longer suspect gets one NO,
which a device that is itself the keeper counts (R415, R418). -/
def State.score (s : State) (n : Nat) (f : PodUnit → PodUnit) : State :=
  let s' := { s with pod := f s.pod }
  if !s.suspect n && s'.suspect n then s'.raiseErr Reg.POD.ERR.SUSPECT
  else if s.suspect n && !s'.suspect n && s.podHardware then
    let s' := { s' with pod := { s'.pod with yesSince := Assoc.del n s'.pod.yesSince } }
    match s'.voteDest n with
    | some k =>
      if k = s'.fld Reg.SILK.DEVICE_ID.ID then
        let rest := s'.pod.votes.filter fun v => !(Nat.beq v.voter k && Nat.beq v.suspect n)
        { s' with pod := { s'.pod with votes := ⟨k, n, false, s'.mono⟩ :: rest } }
      else s'.sendPod (some k) (.vote n false)
    | none => s'
  else s'

/-- Lower the link score of a neighbour of the map. -/
def State.scoreDown (s : State) (n d : Nat) : State :=
  if (s.podNeighbours (s.fld Reg.SILK.DEVICE_ID.ID)).contains n then
    s.score n fun p => { p with link := Assoc.put n (Assoc.findD n 255 p.link - d) p.link }
  else s

/-! ### Progress (R425) -/

/-- Open time of a course at `now`. -/
def Progress.open_ (p : Progress) (now : Nat) : Nat := now - p.since

/-- PENDING as it reads. -/
def Progress.pendingNow (p : Progress) (now : Nat) : Nat := p.pending + (if p.course = .running then p.open_ now else 0)

/-- WALL as it reads. -/
def Progress.wall (p : Progress) (now : Nat) : Nat := if p.course = .none then 0 else now - p.first

/-! ### Signatures (R431–R433) -/

def LockPair.fresh_ : LockPair := ⟨[], [], [], false⟩
def State.pair (s : State) (i : Nat) : LockPair := Assoc.findD i LockPair.fresh_ s.pod.pairs
def State.setPair (s : State) (i : Nat) (k : LockPair) : State := { s with pod := { s.pod with pairs := Assoc.put i k s.pod.pairs } }

/-- The lock-step pair that compares a cocoon's strides, if one does (R431, R437). -/
def State.pairOf (s : State) (c : Nat) : Option Nat :=
  (List.range 4).find? fun i => s.isSet (Reg.LSTEP.CFG.EN i) && Nat.beq (s.fld (Reg.LSTEP.CFG.COCOON i)) c

/-- R431: the signatures of a stride or launch of a run that ended wait for their exchange. -/
def State.signStride (s : State) (r : Run) (x : StrideRun) : State :=
  match s.pairOf r.cocoon with
  | none => s
  | some i =>
    let tag (rank : Nat) : SigTag := ⟨r.inv, if x.launch then 0xFFFF else x.entry, Assoc.findD x.entry 0 r.ran, rank⟩
    let sigs := (r.cores.zipIdx).map fun c => (⟨tag c.2, c.1, (s.core c.1).sig, x.beat⟩ : SigRec)
    s.setPair i { s.pair i with fresh := (s.pair i).fresh ++ sigs }

end Sys2Proof.Machine
end

