-- ==== Sys2Proof/Machine/Strides.lean ====
section
/-!
DEFINITION. Windows, strides and debt as named operations (R58–R65, R172, R173, R178–R181, R189), and the commands of a stride.
-/
namespace Sys2Proof.Machine

/-! ### The loop rule (R172, R173) -/

/-- How often the loop that closes at an entry runs. -/
def StrideEntry.count (e : StrideEntry) (maxLen : Nat) : Nat :=
  if e.loopN = 0xFFFF then max 1 ((maxLen + e.loopDiv - 1) / e.loopDiv) else e.loopN

/-- The program of a run. -/
def State.runProgram (s : State) (r : Run) : Option Program :=
  (Assoc.find r.slot (s.cocoon r.cocoon).slots).bind fun z => Assoc.find r.prog z.programs

/-- After entry `e`: the next entry and the passes of the loops; nothing after the last entry's final pass. -/
def nextEntry (es : List StrideEntry) (maxLen e : Nat) (passes : Assoc Nat) : Option (Nat × Assoc Nat) :=
  match es[e]? with
  | none => none
  | some x =>
    let done := Assoc.findD e 0 passes + 1
    if x.loopN ≠ 0 ∧ done < x.count maxLen then some (x.loopTo, Assoc.put e done passes)
    else if e + 1 < es.length then some (e + 1, Assoc.del e passes)
    else none

/-- The iteration number of the innermost active loop around an entry, from 0 (R181). -/
def iteration (es : List StrideEntry) (e : Nat) (passes : Assoc Nat) : Nat :=
  match (es.zipIdx).find? fun x => !Nat.beq x.1.loopN 0 && Nat.ble x.1.loopTo e && Nat.ble e x.2 with
  | some x => Assoc.findD x.2 0 passes
  | none => 0

/-! ### Windows on a core -/

/-- The window of a cocoon open on a core, whether its end has passed or not. -/
def State.winOn (s : State) (c n : Nat) : Option OpenWin :=
  s.seq.openWins.find? fun w => Nat.beq w.core n && Nat.beq w.cocoon c && !w.waiting

/-- Change the windows open on a core. -/
def State.updWins (s : State) (f : OpenWin → OpenWin) : State :=
  { s with seq := { s.seq with openWins := s.seq.openWins.map f } }

/-- Is a core under reclaim: no stride starts on it in the drain beats (R71)? -/
def State.draining (s : State) (n : Nat) : Bool := s.seq.drains.any fun d => Nat.beq d.core n

/-- R61 for one core: the cocoon's window stands open past its handover and `b` fits before its effective end; the core is neither faulted,
nor held back (R41, R471, R473), nor reclaimed. -/
def State.mayStart (s : State) (c n now b : Nat) : Bool :=
  (s.winOn c n).any (fun w => !w.ended && Nat.ble w.handover now && Nat.ble (now + b) w.stop) &&
    !s.coreHeld n c && !s.draining n && !(s.core n).faulted && !([1, 3, 4, 5, 6].contains (s.coreState n))

/-- May the cocoon's work start at all: it is created and not fenced (R61, R65)? -/
def State.mayRun (s : State) (c : Nat) : Bool := Nat.beq (s.cocoonState c) 1

/-! ### Debt (R64, R65) -/

/-- Charge an overrun to a cocoon; debt above 2 × L fences it. -/
def State.charge (s : State) (c ns : Nat) : State :=
  if c = 0 ∨ ns = 0 then s
  else
    let s := s.countSat (Reg.SEQ_DEBT.DEBT.DEBT_NS c) ns
    let s := s.countSat2 (Reg.COCOON.OVERRUN_NS_LO.NS c) (Reg.COCOON.OVERRUN_NS_HI.NS c) ns
    if 2 * s.L < s.fld (Reg.SEQ_DEBT.DEBT.DEBT_NS c) then s.fenceFromSeq c else s

/-- The key under which the overruns of one window entry of one beat are kept. -/
def chargeKey (w : OpenWin) : Nat := w.beat * 65536 + w.win

/-- Have all units of a core retired their last operation? -/
def Core.idle (c : Core) : Bool :=
  c.array.isNone && c.tail.isEmpty && c.vector.isNone && c.routine.isNone && c.copies.isEmpty && c.remotes.isEmpty

/-- Does a stride's work still run on a core of its group: on a faulted core until the units that a fault leaves running have retired (R117, R191)? -/
def State.working (s : State) (n : Nat) : Bool := !((s.core n).faulted && (s.core n).idle)

/-- Does a stride still run, late, on a core of the window entry? -/
def State.lateLeft (s : State) (w : OpenWin) : Bool :=
  s.seq.openWins.any fun x => Nat.beq (chargeKey x) (chargeKey w) && x.ended &&
    (s.runOn x.core).any fun r => Nat.beq r.cocoon x.cocoon && r.stride.isSome && s.working x.core

/-- Note that work on a core ended at `now`: its overrun past the window's effective end enters the window entry's largest. -/
def State.noteOverrun (s : State) (c n now : Nat) : State :=
  match s.winOn c n with
  | none => s
  | some w =>
    if w.stop < now then
      { s with seq := { s.seq with charges := Assoc.upd (chargeKey w) 0 (max (now - w.stop)) s.seq.charges } }
    else s

/-- Charge the window entries whose last late stride has ended (R64). -/
def State.settleCharges (s : State) (c n : Nat) : State :=
  match s.winOn c n with
  | none => s
  | some w =>
    let due := Assoc.findD (α := Nat) (chargeKey w) 0 s.seq.charges
    if due = 0 ∨ s.lateLeft w then s
    else { s with seq := { s.seq with charges := Assoc.del (chargeKey w) s.seq.charges } }.charge c due

/-! ### Opening a window (R60, R63, R64) -/

/-- What passes to the new owner of a core: with a handover, the core is cleared and its outstanding traffic absorbed (R301), and a run of
another cocoon on it must launch again (R180). -/
def State.takeCore (s : State) (w : OpenWin) : State :=
  let n := w.core
  let s := { s with seq := { s.seq with lastOwner := Assoc.put n w.cocoon s.seq.lastOwner } }
  let s := s.setFld (coreOwnerFld n) w.cocoon
  if w.handover = w.start then s
  else
    let s := match s.runOn n with
      | some r => s.updRun r.id fun r => { r with needLaunch := true }
      | none => s
    if s.coreDisabled n then s.clearCore n else (s.clearCore n).setFld (coreStateFld n) 1

/-- A waiting window starts when the stride before it has ended, plus the handover (R63). -/
def State.startWaiting (s : State) (n now : Nat) : State :=
  match s.seq.openWins.find? fun w => Nat.beq w.core n && w.waiting with
  | none =>
    let newer (x : OpenWin) : Bool := s.seq.openWins.any fun y => Nat.beq y.core n && !y.ended && Nat.beq x.cocoon y.cocoon
    { s with seq := { s.seq with openWins := s.seq.openWins.filter fun x => !(Nat.beq x.core n && x.ended && newer x) } }
  | some w =>
    let w' := { w with waiting := false, start := now, handover := now + 1000 }
    let rest := s.seq.openWins.filter fun x => !Nat.beq x.core n
    { s with seq := { s.seq with openWins := w' :: rest } }.takeCore w'

/-! ### The stride log (R189) -/

/-- The stride-log record of a stride or launch, if its command logs (R189); false where it cannot be written. -/
def State.logStride (s : State) (r : Run) (x : StrideRun) (elapsed overrun : Nat) : State × Bool :=
  match r.cmd with
  | none => (s, true)
  | some c =>
    if (fieldAt c.bytes 1 1).testBit 1 then
      let rec_ := leBytes 2 (if x.launch then 0xFFFF else x.entry) ++ leBytes 2 x.iter ++ leBytes 4 x.beat ++ leBytes 4 elapsed ++ leBytes 4 overrun
      let (s, ok) := s.writeFor r.cocoon c.fn (fieldAt c.bytes 48 8 + 16 * r.logged) rec_
      (s.updRun r.id fun r => { r with logged := r.logged + 1 }, ok)
    else (s, true)

/-! ### Strides (R61, R181) -/

/-- Increment a token register of a core; beyond 65,535 it stays and the job faults with TOKEN_OVERFLOW (R93);
a poisoned word faults with SRAM_UE (R107). -/
def State.post (s : State) (n t inc slot : Nat) : State :=
  let v := s.rd (tokenAddr n t) 2 + inc
  if !(s.sramHits (tokenAddr n t) 2 2).isEmpty then (s.scrubSram (tokenAddr n t) 2).faultRun n faultSramUe slot
  else
  let s := s.scrubSram (tokenAddr n t) 2
  if 65535 < v then (s.wr (tokenAddr n t) 2 65535).faultRun n faultTokenOverflow slot
  else s.wr (tokenAddr n t) 2 v

/-- R181: write s28 to s30 on a core, count GO up, and let the core run. -/
def State.beginOn (s : State) (n entry iter maxLen go : Nat) : State :=
  let s := ((s.wr (scalarAddr n 28) 4 entry).wr (scalarAddr n 29) 4 iter).wr (scalarAddr n 30) 4 maxLen
  let s := s.setCore n { s.core n with fired := [], sig := 0, eligible := some ((s.core n).eligible.getD s.now) }
  (s.setFld (coreStateFld n) 2).post n go 1 0

/-- R170, R178: a CONTINUOUS program runs only on cores that its cocoon holds through every row. -/
def State.heldThrough (s : State) (p : Program) (c : Nat) (cores : List Nat) : Bool :=
  !p.continuous || s.seq.active.any fun t => cores.all (t.continuous s.L c)

/-- R181: a stride of a run starts at device time `now`, if R61 holds on every core of the group. -/
def strideStart (run now : Nat) (s : State) : State :=
  match s.run run with
  | none => s
  | some r =>
    match s.runProgram r with
    | none => s
    | some p =>
      match p.strides[r.entry]? with
      | none => s
      | some e =>
        let s := s.advanceTo now
        if r.stride.isNone && r.fault.isNone && r.ending.isNone && !r.suspended && !r.needLaunch && s.mayRun r.cocoon &&
            s.heldThrough p r.cocoon r.cores && r.cores.all (fun n => s.mayStart r.cocoon n s.now e.b) then
          let it := iteration p.strides r.entry r.passes
          let s := s.updRun run fun r => { r with
            stride := some ⟨false, r.entry, it, s.now, e.b, s.seq.beat, false⟩, strides := r.strides + 1
            beats := if r.lastBeat = some s.seq.beat then r.beats else r.beats + 1, lastBeat := some s.seq.beat }
          r.cores.foldl (fun s n => s.beginOn n r.entry it r.maxLen e.go) s
        else s

def execStrideStart (run now : Nat) (s : State) : Answer := .next (strideStart run now s)

/-- A beat in which a stride of the cocoon ran, counted once (R323). -/
def State.countBeat (s : State) (c beat : Nat) : State :=
  if (s.cocoon c).lastBeat = some beat then s
  else (s.countSat (Reg.COCOON.BEATS.COUNT c) 1).setCocoon c { s.cocoon c with lastBeat := some beat }

/-- At a boundary, every stride and launch under way has run in the beat `old` that ends, and runs in the new one (R188, R317). -/
def State.spanBeats (s : State) (old : Nat) : State :=
  let s := (s.runs.filter fun r => r.stride.isSome).foldl (fun s r => s.countBeat r.cocoon old) s
  { s with runs := s.runs.map fun r =>
      if r.stride.isSome && !(r.lastBeat == some s.seq.beat) then { r with beats := r.beats + 1, lastBeat := some s.seq.beat } else r }

/-- Cocoon totals for one stride or launch (R317). -/
def State.countStride (s : State) (c elapsed : Nat) : State :=
  let s := s.countSat2 (Reg.COCOON.STRIDE_NS_LO.NS c) (Reg.COCOON.STRIDE_NS_HI.NS c) elapsed
  (s.countSat (Reg.COCOON.STRIDES.COUNT c) 1).countBeat c s.seq.beat

/-- The largest overrun of a group's cores at `now`. -/
def State.groupOverrun (s : State) (r : Run) (now : Nat) : Nat :=
  (r.cores.map fun n => (s.winOn r.cocoon n).elim 0 fun w => now - w.stop).foldl max 0

/-- A stride or launch of a run has ended at `now`: overruns are charged (R64), totals and log are written, waiting windows start (R63). -/
def State.finishStride (s : State) (r : Run) (x : StrideRun) (now : Nat) : State × Bool :=
  let elapsed := now - x.start
  let late := s.groupOverrun r now
  let s := s.updRun r.id fun r => { r with stride := none }
  let s := r.cores.foldl (fun s n => if s.coreState n = 2 then s.setFld (coreStateFld n) 0 else s) s
  let s := s.countStride r.cocoon elapsed
  let s := if r.cocoon = 0 then s
    else
      let live := r.cores.filter fun n => !(s.core n).faulted
      let s := live.foldl (fun s n => s.noteOverrun r.cocoon n now) s
      live.foldl (fun s n => s.settleCharges r.cocoon n) s
  let (s, ok) := s.logStride r x elapsed late
  (r.cores.foldl (fun s n => s.startWaiting n now) s, ok)

/-- R181: the stride of a run ends once DONE is at least DONE_COUNT on every core and every unit has retired; faulted cores are not
waited for (R191) but for the units that still run on them (R117). DONE falls by DONE_COUNT, and the loop rule selects the next entry or ends the run. -/
def strideEnd (run now : Nat) (s : State) : State :=
  match s.run run with
  | none => s
  | some r =>
    let s := s.advanceTo now
    match r.stride, s.runProgram r with
    | some x, some p =>
      match p.strides[x.entry]? with
      | none => s
      | some e =>
        let live := r.cores.filter fun n => !(s.core n).faulted
        if !x.launch && live.all (fun n => Nat.ble e.doneCount (s.rd (tokenAddr n e.done) 2)) && r.cores.all (fun n => (s.core n).idle) then
          let s := live.foldl (fun s n => s.wr (tokenAddr n e.done) 2 (s.rd (tokenAddr n e.done) 2 - e.doneCount)) s
          let s := (s.signStride r x).updRun run fun r => { r with ran := Assoc.upd x.entry 0 (· + 1) r.ran }
          let (s, ok) := s.finishStride r x s.now
          if !ok then s.endRuns 1 0x0362 [run]
          else if r.fault.isSome || r.ending.isSome then s.settle run
          else match nextEntry p.strides r.maxLen x.entry r.passes with
            | some (n, ps) => s.updRun run fun r => { r with entry := n, passes := ps }
            | none => s.endRuns 0 0 [run]
        else s
    | _, _ => s

def execStrideEnd (run now : Nat) (s : State) : Answer := .next (strideEnd run now s)

end Sys2Proof.Machine
end

