-- ==== Sys2Proof/Machine/Chrysalis.lean ====
section
/-!
DEFINITION. Reclaim, save and restore of cores as named operations (R70, R71, R304–R311).
-/
namespace Sys2Proof.Machine

/-! ### The chrysalis area (R307, R308) -/

/-- Bytes of one image slot of a cocoon's chrysalis area. -/
def State.imageSlotBytes (s : State) (c : Nat) : Nat :=
  s.fld (Reg.COCOON.CHRY_LEN.LEN c) / (s.fld (Reg.COCOON.CFG.CHRY_SLOTS c) + 1) * 65536

/-- First address of image slot `j`. -/
def State.imageBase (s : State) (c j : Nat) : Nat := s.fld (Reg.COCOON.CHRY_BASE.BASE c) * 65536 + j * s.imageSlotBytes c

/-- First address of record `k` of an image. -/
def recordAddr (base k : Nat) : Nat := base + 0x10000 + 0x250000 * k

/-- The image in a slot. -/
def State.image (s : State) (c j : Nat) : Option ChryImage := (s.cocoon c).images.find? fun i => Nat.beq i.slot j

def State.setImage (s : State) (c : Nat) (i : ChryImage) : State :=
  s.setCocoon c { s.cocoon c with images := i :: (s.cocoon c).images.filter fun x => !Nat.beq x.slot i.slot }

/-- An image slot becomes free. -/
def State.freeImage (s : State) (c j : Nat) : State :=
  (s.setCocoon c { s.cocoon c with images := (s.cocoon c).images.filter fun x => !Nat.beq x.slot j }).setFlds
    [(Reg.COCOON.CHRY.HANDLE c j, 0), (Reg.COCOON.CHRY_STAT.STATE c j, 0), (Reg.COCOON.CHRY_STAT.CORES c j, 0),
     (Reg.COCOON.CHRY_STAT.ABSORBED c j, 0)]

/-- The saved entries of an image, in the order of their records. -/
def ChryImage.saved (i : ChryImage) : List ChryEntry := i.entries.filter fun e => !e.kept

/-- The bytes of an entry (R308), with NOW_CORE. -/
def ChryEntry.bytes (e : ChryEntry) (now : Nat) : List Byte :=
  leBytes 2 (e.src % 2048 + (if e.kept then 2 ^ 14 else 0) + (if e.absorbed then 2 ^ 15 else 0)) ++ leBytes 2 e.group ++
    leBytes 2 e.rank ++ leBytes 2 now

/-- Write the header and the entry table of an image (R308). -/
def State.writeImageHead (s : State) (c : Nat) (i : ChryImage) : State :=
  let base := s.imageBase c i.slot
  let head := leBytes 4 0x43485259 ++ leBytes 2 1 ++ leBytes 2 c ++ leBytes 2 i.saved.length ++ leBytes 2 i.entries.length ++
    leBytes 4 0 ++ leBytes 8 i.epochB ++ leBytes 4 i.handle ++ leBytes 4 0
  let s := s.wrBytes base head
  (i.entries.zipIdx).foldl (fun s x => s.wrBytes (base + 0x40 + 8 * x.2) (x.1.bytes 0)) s

/-! ### The first drain beat (R71, R304, R307) -/

/-- The saves and suspensions of one cocoon at the first drain beat: invocations whose group holds a reclaimed core are suspended, and
an image slot is taken for the reclaimed cores if the cocoon saves. -/
def State.drainCocoon (s : State) (old new : SchedTable) (b c : Nat) : State :=
  let cores := reclaimed old new c
  if cores.isEmpty then s
  else
    let runs := s.runs.map fun r => if Nat.beq r.cocoon c && r.cores.any cores.contains then { r with suspended := true } else r
    let s := { s with runs := runs, seq := { s.seq with drains := s.seq.drains ++ cores.map fun n => ⟨n, c, false, false⟩ } }
    if !new.saveMask.testBit c then s
    else
      let fits := decide ((1 + 37 * cores.length) * 65536 ≤ s.imageSlotBytes c)
      match (List.range (s.fld (Reg.COCOON.CFG.CHRY_SLOTS c) + 1)).find? fun j => (s.image c j).isNone with
      | some j =>
        if !fits then s.raiseErr (Reg.COCOON.ERR.CHRYSALIS_NO_ROOM c)
        else
          let seqNo := (s.cocoon c).saveSeq % 65536
          let handle := 0x80000000 + j * 0x01000000 + seqNo * 0x100
          let entry (kept : Bool) (n : Nat) : ChryEntry := match s.runOn n with
            | some r => ⟨n, kept, false, some r.id, r.inv % 65536, r.cores.findIdx (Nat.beq n)⟩
            | none => ⟨n, kept, false, none, 0xFFFF, 0⟩
          let kept := (s.runs.filter fun r => Nat.beq r.cocoon c && r.cores.any cores.contains).flatMap fun r =>
            r.cores.filter fun n => !cores.contains n
          let i : ChryImage := ⟨j, handle, b, cores.map (entry false) ++ kept.map (entry true), [], [], []⟩
          let s := s.setImage c i
          let s := s.setCocoon c { s.cocoon c with saveSeq := seqNo + 1 }
          s.setFlds [(Reg.COCOON.CHRY.HANDLE c j, handle), (Reg.COCOON.CHRY_STAT.STATE c j, 1),
            (Reg.COCOON.CHRY_STAT.CORES c j, cores.length), (Reg.COCOON.CHRY_STAT.ABSORBED c j, 0)]
      | none => s.raiseErr (Reg.COCOON.ERR.CHRYSALIS_NO_ROOM c)

/-- The first drain beat before boundary `b`. -/
def State.startDrains (s : State) (old new : SchedTable) (b : Nat) : State :=
  (List.range 64).foldl (fun s c => s.drainCocoon old new b c) s

/-- The image in state SAVING that holds a core of a cocoon. -/
def State.savingImage (s : State) (c n : Nat) : Option ChryImage :=
  (s.cocoon c).images.find? fun i => Nat.beq (s.fld (Reg.COCOON.CHRY_STAT.STATE c i.slot)) 1 &&
    i.saved.any fun e => Nat.beq e.src n

/-! ### Boundary B (R71) -/

/-- A reclaimed core at B that is not saved: it is scrubbed; with an image under way that becomes incomplete, its invocations end
CHRYSALIS_INCOMPLETE, else PREEMPTED (R190, R191). -/
def State.dropCore (s : State) (d : Drain) : State :=
  if d.saved then s
  else
    match s.savingImage d.cocoon d.core with
    | some i =>
      let ids := i.entries.filterMap fun e => e.run
      let s := (s.raiseErr Reg.SEQ.ERR.CHRYSALIS_INCOMPLETE).freeImage d.cocoon i.slot
      let s := s.clearCore d.core
      (if s.coreDisabled d.core then s else s.setFld (coreStateFld d.core) 0).endRuns 5 0 ids
    | none =>
      let ids := s.runIds fun r => r.cores.contains d.core
      let s := s.clearCore d.core
      (if s.coreDisabled d.core then s else s.setFld (coreStateFld d.core) 0).endRuns 4 0 ids

/-- R71 items 3 to 5: at B every reclaimed core passes on. A suspended run keeps a saved core's place as that core's number plus
4,096 until its restore. -/
def State.endDrains (s : State) : State :=
  let ds := s.seq.drains
  let s := ds.foldl (fun s d => s.dropCore d) s
  let park (n : Nat) : Nat := if ds.any (fun d => d.saved && Nat.beq d.core n) then n + 4096 else n
  let s := { s with runs := s.runs.map fun (r : Run) => { r with cores := r.cores.map park } }
  { s with seq := { s.seq with drains := [] } }

/-- With no drain beats (K = 0), reclaimed cores pass at B without a save. -/
def State.reclaimNow (s : State) (old new : SchedTable) : State :=
  (List.range 64).foldl (fun s c =>
    let cores := reclaimed old new c
    let s := if !cores.isEmpty && new.saveMask.testBit c then s.raiseErr (Reg.COCOON.ERR.CHRYSALIS_NO_ROOM c) else s
    cores.foldl (fun s n => s.dropCore ⟨n, c, false, false⟩) s) s

/-! ### The commands of a save -/

def State.updDrain (s : State) (n : Nat) (f : Drain → Drain) : State :=
  { s with seq := { s.seq with drains := s.seq.drains.map fun d => if d.core = n then f d else d } }

/-- Does a stride of a run on the core still run? -/
def State.strideOn (s : State) (n : Nat) : Bool := (s.runOn n).any fun r => r.stride.isSome && !(s.core n).faulted

/-- R305: a reclaimed core is idle and its save begins; from now on accesses that reach it are refused. -/
def saveStart (core : Nat) (s : State) : State :=
  match s.seq.drains.find? fun d => Nat.beq d.core core with
  | none => s
  | some d =>
    if !d.started && (s.savingImage d.cocoon core).isSome && !s.strideOn core && (s.core core).copies.isEmpty &&
        (s.core core).remotes.isEmpty && !(s.posts.any fun p => Nat.beq p.src core || Nat.beq p.dst core) then
      (s.updDrain core fun d => { d with started := true }).setFld (coreStateFld core) 5
    else s

def execChrysalisSaveStart (core : Nat) (s : State) : Answer := .next (saveStart core s)

/-- R305: after 50 µs of draining, what is left is absorbed, and the core's entry is marked ABSORBED. -/
def drainTimeoutStep (core : Nat) (s : State) : State :=
  match s.seq.drains.find? fun d => Nat.beq d.core core with
  | none => s
  | some d =>
    if !d.started && !s.strideOn core then
      let k := s.core core
      let left := !k.copies.isEmpty || !k.remotes.isEmpty || s.posts.any fun p => Nat.beq p.src core || Nat.beq p.dst core
      let s := { s.setCore core { k with copies := [], remotes := [] } with
        posts := s.posts.filter fun p => !(Nat.beq p.src core || Nat.beq p.dst core) }
      match left, s.savingImage d.cocoon core with
      | true, some i =>
        let i := { i with entries := i.entries.map fun e => if e.src = core then { e with absorbed := true } else e }
        ((s.setImage d.cocoon i).setFld (Reg.COCOON.CHRY_STAT.ABSORBED d.cocoon i.slot) 1).raiseErr (Reg.COCOON.ERR.ABSORBED d.cocoon)
      | _, _ => s
    else s

def execDrainTimeout (core : Nat) (s : State) : Answer := .next (drainTimeoutStep core s)

/-- R71, R308: a core's save completes: its record is written and the core idles, scrubbed; with the last record the image is COMPLETE. -/
def saveDone (core : Nat) (s : State) : State :=
  match s.seq.drains.find? fun d => Nat.beq d.core core with
  | none => s
  | some d =>
    match d.started && !d.saved, s.savingImage d.cocoon core with
    | true, some i =>
      let c := d.cocoon
      let a := recordAddr (s.imageBase c i.slot) (i.saved.findIdx fun e => Nat.beq e.src core)
      let m := ((s.mem.copy (spBase core) a 0x200000).copy (accBase core) (a + 0x200000) 0x40000).copy (cwBase core) (a + 0x240000) 0x10000
      let s := ((s.setMem m).clearCore core).updDrain core fun d => { d with saved := true }
      let s := if s.coreDisabled core then s else s.setFld (coreStateFld core) 0
      let i := { i with done := core :: i.done }
      let s := (s.setImage c i).writeImageHead c i
      if i.done.length = i.saved.length then s.setFld (Reg.COCOON.CHRY_STAT.STATE c i.slot) 2 else s
    | _, _ => s

def execChrysalisSaveDone (core : Nat) (s : State) : Answer := .next (saveDone core s)

/-! ### Restore (R309–R311) -/

/-- The core an entry's state stands on after the restore: its target, or its own core for a kept entry. -/
def ChryImage.nowCore (i : ChryImage) (e : ChryEntry) : Nat :=
  if e.kept then e.src else i.targets.getD (i.saved.findIdx fun x => Nat.beq x.src e.src) e.src

/-- R309 step 3: entries of one group share a cluster after the restore exactly if they did before. -/
def ChryImage.shapeOk (i : ChryImage) : Bool :=
  i.entries.all fun a => i.entries.all fun b =>
    !Nat.beq a.group b.group || (Nat.beq (clusterOf a.src) (clusterOf b.src) == Nat.beq (clusterOf (i.nowCore a)) (clusterOf (i.nowCore b)))

/-- R309: a work entry of KIND 0x04 fires on the cores `targets`. -/
def State.restore (s : State) (c handle : Nat) (targets : List Nat) : State :=
  match (s.cocoon c).images.find? fun i => Nat.beq i.handle handle with
  | none => s
  | some i =>
    if s.fld (Reg.COCOON.CHRY_STAT.STATE c i.slot) ≠ 2 then s
    else
      let i := { i with targets := targets, loaded := [] }
      if targets.length ≠ i.saved.length || !i.shapeOk then s.raiseErr (Reg.COCOON.ERR.RESTORE_SHAPE c)
      else
        let s := (s.setImage c i).setFld (Reg.COCOON.CHRY_STAT.STATE c i.slot) 3
        targets.foldl (fun s n => if s.coreDisabled n then s else s.setFld (coreStateFld n) 6) s

/-- The groups of an image not yet loaded, with their lowest target core. -/
def ChryImage.left (i : ChryImage) : List (Nat × Nat) :=
  ((i.saved.map fun e => e.group).eraseDups.filter fun g => !i.loaded.contains g).map fun g =>
    (g, ((i.saved.filter fun e => Nat.beq e.group g).map i.nowCore).foldl min 2048)

/-- Rewrite a post word of a restored core (R310). -/
def ChryImage.movePost (i : ChryImage) (w : Nat) : Nat :=
  if w.testBit 31 && !w.testBit 30 then
    match i.saved.find? fun e => Nat.beq e.src (bitsOf w 16 11) with
    | some e => putBits w 16 11 (i.nowCore e)
    | none => w
  else w

/-- Rewrite the post words of a restored core's firing table. -/
def State.movePosts (s : State) (i : ChryImage) (t : Nat) : State :=
  (List.range 256).foldl (fun s k =>
    [20, 24].foldl (fun s o => s.wr (slotAddr t k + o) 4 (i.movePost (s.rd (slotAddr t k + o) 4))) s) s

/-- Reserved offsets and bits of a core's window read as 0 after a load of its whole content (R79). -/
def State.maskWindow (s : State) (n : Nat) : State :=
  let w := cwBase n
  let keep (s : State) (off len : Nat) : State := s.wrBytes (w + off) (windowBytes (w + off) (s.rdBytes (w + off) len))
  let s := s.setMem ((s.mem.clear (w + 0xA534) (0xB000 - 0xA534)).clear (w + 0xC004) (0x10000 - 0xC004))
  keep (keep (keep s 0xA200 0x200) 0xA520 0x14) 0xC000 4

/-- Load one record onto its target core (R310). -/
def State.loadRecord (s : State) (c : Nat) (i : ChryImage) (e : ChryEntry) : State :=
  let t := i.nowCore e
  let a := recordAddr (s.imageBase c i.slot) (i.saved.findIdx fun x => Nat.beq x.src e.src)
  let m := ((s.mem.copy a (spBase t) 0x200000).copy (a + 0x200000) (accBase t) 0x40000).copy (a + 0x240000) (cwBase t) 0x10000
  let s := ((s.setMem m).maskWindow t).movePosts i t
  let s := s.setCore t { Core.fresh with nextId := (s.core t).nextId, eligible := some s.now }
  if s.coreDisabled t then s else s.setFld (coreStateFld t) 0

/-- Restore is under way onto the core. -/
def State.restoring (s : State) (c n : Nat) : Bool :=
  (s.cocoon c).images.any fun i => Nat.beq (s.fld (Reg.COCOON.CHRY_STAT.STATE c i.slot)) 3 &&
    i.saved.any fun e => Nat.beq (i.nowCore e) n && !i.loaded.contains e.group

/-- R309, R311: the last record of the next group is loaded: post words and NOW_CORE are rewritten, the group resumes unless the cocoon
is fenced (R322), an ABSORBED core's job faults with COPY_ERROR, and with the last group the image slot is free. -/
def restoreGroupDone (c slot group : Nat) (s : State) : State :=
  match s.image c slot with
  | none => s
  | some i =>
    let first := i.left.foldl (fun (acc : Option (Nat × Nat)) g => match acc with
      | none => some g
      | some b => if Nat.blt g.2 b.2 then some g else some b) none
    if s.fld (Reg.COCOON.CHRY_STAT.STATE c slot) ≠ 3 || !(first.any fun g => Nat.beq g.1 group) then s
    else
      let es := i.saved.filter fun e => Nat.beq e.group group
      let s := es.foldl (fun s e => s.loadRecord c i e) s
      let base := s.imageBase c slot
      let s := (i.entries.zipIdx).foldl (fun s x =>
        if x.1.group = group then s.wr (base + 0x40 + 8 * x.2 + 6) 2 (i.nowCore x.1) else s) s
      let at_ (n : Nat) : Nat := ((es.find? fun e => Nat.beq (e.src + 4096) n).map i.nowCore).getD n
      let runs := s.runs.map fun (r : Run) =>
        if es.any (fun e => e.run == some r.id) then { r with suspended := !s.mayRun c, needLaunch := false, staged := false, cores := r.cores.map at_ } else r
      let s := { s with runs := runs }
      let i := { i with loaded := group :: i.loaded }
      let s := s.setImage c i
      let s := (es.filter fun e => e.absorbed).foldl (fun s e => s.faultRun (i.nowCore e) faultCopyError 0) s
      let s := (es.filterMap fun e => e.run).eraseDups.foldl (fun s id => s.settle id) s
      if i.left.isEmpty then s.freeImage c slot else s

def execRestoreGroupDone (cocoon slot group : Nat) (s : State) : Answer := .next (restoreGroupDone cocoon slot group s)

end Sys2Proof.Machine
end

