-- ==== Sys2Proof/Machine/Wingbeat.lean ====
section
/-!
DEFINITION. The beat sequencer's commands but for BEAT_BOUNDARY: steps of device time (R48, R274, R284, R516), loading, checking,
cancelling and closing a table (R46, R47, R55–R57, R74), windows and work entries (R53, R60–R64, R68, R178).
-/
namespace Sys2Proof.Machine

/-! ### Steps of device time (R48, R274, R281, R284) -/

/-- Device time jumps by `d` (2⁻¹⁶ ns). Spans under way keep their length; the second reached is not marked by the 1PPS output (R281). -/
def State.jumpTime (s : State) (d : Int) : State :=
  let t := ((s.time.t : Int) + d).toNat
  let move (n : Nat) : Nat := ((n : Int) + ((t / 65536 : Nat) : Int) - ((s.time.t / 65536 : Nat) : Int)).toNat
  let k := (((t / 65536 : Nat) : Int) - toSigned 32 (s.fld Reg.TIME.PPS_OUT_COMP.NS)) / 1000000000
  let k0 := ((s.now : Int) - toSigned 32 (s.fld Reg.TIME.PPS_OUT_COMP.NS)) / 1000000000
  let marked := if d < 0 ∨ k ≠ k0 then some k else s.time.ppsMarked
  let wins := s.seq.openWins.map fun (w : OpenWin) => { w with start := move w.start, stop := move w.stop, handover := move w.handover }
  let runs := s.runs.map fun (r : Run) => { r with stride := r.stride.map fun x => { x with start := move x.start } }
  { s with time := { s.time with t := t, ppsMarked := marked }, runs := runs
           seq := { s.seq with openWins := wins, beatStart := move s.seq.beatStart } }

/-- The beat counter takes the number of R44 at once; a lower one counts BEAT_GEN up and sets ERR.REALIGN (R48, R516). -/
def State.renumber (s : State) : State :=
  let n := s.now / s.L
  let s' := { s with seq := { s.seq with beat := n, beatStart := n * s.L } }
  if n < s.seq.beat then (s'.countMod Reg.SEQ.BEAT_GEN.GEN 1).raiseErr Reg.SEQ.ERR.REALIGN else s'

/-- The requested step of −ō is applied; the legacy frame counter freezes and its latches are dropped (R274, R284, R286). -/
def State.applyStep (s : State) : State :=
  let u := s.lfcHeld
  let d := roundFree s.draws (-s.time.samples.sum) (2 * max 1 s.time.samples.length)
  let s := (s.drawn.jumpTime d).countSat Reg.TIME.STEP_COUNT.COUNT 1
  let s := { s with time := { s.time with samples := [], goodRun := 0, stepRequested := false, refused := false, lfcFrozen := some u }
                    pages := { s.pages with latches := s.pages.latches.filter fun l => !Nat.beq l.page 0x042 } }
  let s := s.setFlds [(Reg.TIME.STATUS.STEP_PENDING, 0), (Reg.SEQ.STATUS.STEP_WAIT, 0), (Reg.LFC.LFC_STATUS.FROZEN, 1),
    (Reg.LFC.LFC_STATUS.JUMP_REFUSED, 0)]
  (s.raiseErr Reg.TIME.ERR.STEP_APPLIED).enter Reg.TIME.STATE.STATE 1

/-- A window on a core ends: YIELD is pending and no stride starts in it (R61, R84). Radio work still running is counted (R68). -/
def State.endWindow (s : State) (w : OpenWin) : State :=
  let s := s.updWins fun x => if x.win = w.win ∧ x.core = w.core ∧ x.beat = w.beat then { x with ended := true, waiting := false } else x
  let s := s.raiseEvent w.core 2
  if Nat.beq w.cocoon 0 && s.strideOn w.core then
    (s.raiseErr Reg.SEQ.ERR.RADIO_OVERRUN).countSat Reg.SEQ.RADIO_OVERRUN_COUNT.COUNT 1
  else s

/-- Every window closes. -/
def State.closeWindows (s : State) : State :=
  (s.seq.openWins.filter fun w => !w.ended).foldl (fun s w => s.endWindow w) s

/-- R48, R274: a requested step is applied: with the sequencer disabled at once, in RUNNING at the end of the beat in progress, with a
realignment beat after it; in any other state it waits, and in HALTED none is applied (R75). A step requested while a realignment beat is in
progress also waits with STEP_WAIT 1, until that beat has ended (DESIGN CHOICE, log entry 212). -/
def timeStepApply (s : State) : State :=
  if !s.time.stepRequested || Nat.beq (s.fld Reg.SEQ.STATE.STATE) 5 then s
  else if s.isSet (ctrlEnable 0x010) then
    if s.fld Reg.SEQ.STATE.STATE = 4 ∧ s.seq.realign = none then
      let s := ((s.advanceTo (s.seq.beatStart + s.L)).closeWindows).applyStep
      let L := s.L
      let stop := (s.now + L / 2 + L - 1) / L * L
      let s := { s with seq := { s.seq with realign := some stop, openWork := [] } }
      (s.setFld Reg.SEQ.STATUS.REALIGNING 1).spoilSlots
    else s.setFld Reg.SEQ.STATUS.STEP_WAIT 1
  else s.applyStep.renumber

def execTimeStepApply (s : State) : Answer := .next (timeStepApply s)

/-! ### Loading a table (R46, R47, R55) -/

/-- The state becomes RUNNING; a waiting step no longer waits (R48). -/
def State.seqRunning (s : State) : State := (s.enter Reg.SEQ.STATE.STATE 4).setFld Reg.SEQ.STATUS.STEP_WAIT 0

/-- Copy the image that TABLE_ADDR names to the shadow bank and start its check (R55 step 4). -/
def State.loadTable (s : State) (first : Bool) : State :=
  let a := s.shd2 Reg.SEQ.TABLE_ADDR_LO.ADDR_LO Reg.SEQ.TABLE_ADDR_HI.ADDR_HI
  let bytes := s.rdBytes a (max 256 (s.rd (a + 0x18) 4))
  let s := { s with seq := { s.seq with loading := some bytes, taken := s.pages.file.shadow, first := first } }
  let s := s.enter Reg.SEQ.STATE.STATE 1
  if s.time.stepRequested && s.isSet (ctrlEnable 0x010) then s.setFld Reg.SEQ.STATUS.STEP_WAIT 1 else s

/-- SEQ.CTRL.ENABLE rises (R46, R47, R55, R74). LEN and FREE_RUN take effect here, before the first table's check, and stay in effect where the check
fails (DESIGN CHOICE, log entry 213). -/
def State.enableSeq (s : State) : State :=
  if s.fld Reg.SEQ.STATE.STATE = 5 then s
  else if s.fld Reg.SEQ.STATE.STATE = 6 then s.refuse 0x010 0x0406 0x010
  else if s.shd Reg.SEQ.TABLE_ADDR_LO.ADDR_LO % 256 ≠ 0 then s.refuse 0x010 0x0121 0x108
  else if !s.isSet Reg.TIME.STATUS.ACQUIRED && s.shd Reg.SEQ.BEAT_CFG.FREE_RUN ≠ 1 then s.refuse 0x010 0x0403 0x010
  else
    let len := s.shd Reg.SEQ.BEAT_CFG.LEN
    let changed := !Nat.beq len (s.fld Reg.SEQ.BEAT_CFG.LEN)
    let s := s.setFlds [(Reg.SEQ.BEAT_CFG.LEN, len), (Reg.SEQ.BEAT_CFG.FREE_RUN, s.shd Reg.SEQ.BEAT_CFG.FREE_RUN), (ctrlEnable 0x010, 1)]
    let n := s.now / s.L
    let s := if changed then
        ({ s with seq := { s.seq with beat := n, beatStart := n * s.L } }).countMod Reg.SEQ.BEAT_GEN.GEN 1
      else s
    s.loadTable true

/-- SEQ.CTRL.COMMIT (R46, R55, R56, R495). -/
def State.commitSeq (s : State) : State :=
  if s.fld Reg.SEQ.STATE.STATE = 5 then s
  else if !s.isSet (ctrlEnable 0x010) then s.refuse 0x010 0x0421 0x010
  else if [1, 2, 3].contains (s.fld Reg.SEQ.STATE.STATE) then s.refuse 0x010 0x0401 0x010
  else if s.shd Reg.SEQ.TABLE_ADDR_LO.ADDR_LO % 256 ≠ 0 then s.refuse 0x010 0x0121 0x108
  else if s.shd Reg.SEQ.BEAT_CFG.LEN ≠ s.fld Reg.SEQ.BEAT_CFG.LEN then s.refuse 0x010 0x0404 0x100
  else ({ s with pages := { s.pages with commits := 0x010 :: s.pages.commits } }).loadTable false

/-- SEQ.CTRL.COMMIT reads 0 again. -/
def State.commitOver (s : State) (page : Nat) : State :=
  { s with pages := { s.pages with commits := s.pages.commits.filter fun p => !Nat.beq p page } }

/-- NEXT reads all ones while no table is armed. -/
def State.clearNext (s : State) : State :=
  s.setFlds [(Reg.SEQ.NEXT_LO.NEXT, 0xFFFFFFFF), (Reg.SEQ.NEXT_HI.NEXT, 0xFFFFFFFF), (Reg.SEQ.LIVE.PREEMPT_BEATS, 0)]

/-- What follows when a loading or armed table is given up: a first table leaves the sequencer disabled (R55, R56). -/
def State.tableGone (s : State) : State :=
  let first := s.seq.first
  let s := ({ s with seq := { s.seq with loading := none, armed := none, first := false } }.commitOver 0x010).clearNext
  if first then (s.setFld (ctrlEnable 0x010) 0).enter Reg.SEQ.STATE.STATE 0 else s.seqRunning

/-- The least number from `lo` on that is congruent to `base` modulo `step`. -/
def leastFrom (base step lo : Nat) : Nat := lo + (base % step + step - lo % step) % step

/-- The epoch boundary B of a table that passes its check now (R55 step 5). -/
def State.boundary (s : State) (k : Nat) : Nat :=
  let early := (s.now + 100000 + s.L - 1) / s.L
  match s.seq.active with
  | none => leastFrom 0 s.F (max early (s.seq.beat + 2))
  | some t => leastFrom s.seq.epoch (max 1 t.rows.length) (max early (s.seq.beat + k + 1))

/-- R57, R55: the check of the loaded table ends; in HALTED it has no outcome (R75). -/
def tableCheckDone (s : State) : State :=
  match s.seq.loading with
  | none => s
  | some b =>
    s.onSeq fun s =>
    let lo := Assoc.findD (α := Nat) Reg.SEQ.TABLE_ADDR_LO.ADDR_LO.key 0 s.seq.taken
    match s.checkTable b lo (s.fld Reg.SEQ.BEAT_CFG.LEN) with
    | some (reason, row, entry) =>
      ((s.refuse 0x010 reason 0x108).setFlds [(Reg.SEQ.REFUSAL_ROW.ROW, row), (Reg.SEQ.REFUSAL_ROW.ENTRY, entry)]).tableGone
    | none =>
      let t := parseTable b
      let n := s.boundary t.preempt
      let s := ({ s with seq := { s.seq with loading := none, armed := some t, next := n } }.commitOver 0x010).passed 0x010
      let s := s.setFlds [(Reg.SEQ.NEXT_LO.NEXT, n % 2 ^ 32), (Reg.SEQ.NEXT_HI.NEXT, n / 2 ^ 32), (Reg.SEQ.LIVE.PREEMPT_BEATS, t.preempt)]
      (s.enter Reg.SEQ.STATE.STATE 2).pumpPower

def execTableCheckDone (s : State) : Answer := .next (tableCheckDone s)

/-- R56: a write of 1 to SEQ.CANCEL. -/
def cancelStep (s : State) : State :=
  let st := s.fld Reg.SEQ.STATE.STATE
  if st = 1 then s.tableGone
  else if st = 2 ∨ st = 3 then
    match s.seq.armed with
    | some t => if st = 2 ∧ s.seq.beat < s.seq.next - t.preempt then s.tableGone.pumpPower else s.refuse 0x010 0x0402 0x138
    | none => s
  else s

def execCancel (s : State) : Answer := .next (cancelStep s)

/-- R74: SEQ.CTRL.ENABLE is cleared. -/
def State.disableSeq (s : State) : State :=
  if s.fld Reg.SEQ.STATE.STATE = 5 then s
  else if s.fld Reg.RADIO.STATUS.RSTATE ≠ 0 then s.refuse 0x010 0x0405 0x010
  else
    let draining := Nat.beq (s.fld Reg.SEQ.STATE.STATE) 3
    let s := s.setFld (ctrlEnable 0x010) 0
    let frame := (s.seq.beat / s.F + 1) * s.F
    let s := { s with seq := { s.seq with
      loading := none, armed := none, first := false
      closingDrain := if draining then s.seq.armed else none
      closeAt := if s.seq.active.isSome then some (if draining then s.seq.next else frame) else none } }
    let s := ((s.commitOver 0x010).clearNext).setFld Reg.SEQ.STATUS.STEP_WAIT 0
    (s.enter Reg.SEQ.STATE.STATE (if s.seq.active.isSome then 6 else 0)).pumpPower

/-! ### Windows (R52, R60, R63, R64) -/

/-- By how much the end of a window of the row in force is moved earlier when it begins: the cocoon's debt is taken by its windows not
yet begun, in order of END_NS and entry index, each giving at most half its length (R64), in whole ns rounded down (DESIGN CHOICE, log entry 214). -/
def State.debtCut (s : State) (t : SchedTable) (r : Row) (win : Nat) (w : Window) : Nat :=
  let left := sortBy (fun a b => Nat.blt a.2.stop b.2.stop || (Nat.beq a.2.stop b.2.stop && Nat.ble a.1 b.1))
    ((t.rowWins r).filter fun x => Nat.beq x.2.cocoon w.cocoon && (Assoc.find x.1 s.seq.cuts).isNone)
  (left.foldl (fun (acc : Nat × Nat) x =>
    let cut := min acc.1 ((x.2.stop - x.2.start) / 2)
    (acc.1 - cut, if x.1 = win then cut else acc.2)) (s.fld (Reg.SEQ_DEBT.DEBT.DEBT_NS w.cocoon), 0)).2

/-- R60, R63, R64: window entry `win` of the row in force opens on `core`: its end is moved earlier by debt, and it waits while a stride
of another cocoon still runs there, unless the window is one that the guard band protects. -/
def windowStart (win core : Nat) (s : State) : State :=
  match s.seq.active, s.row with
  | some t, some r =>
    match (t.rowWins r).find? fun x => Nat.beq x.1 win with
    | none => s
    | some (_, w) =>
      let now := s.seq.beatStart + w.start
      let again := s.seq.openWins.any fun x => Nat.beq x.win win && Nat.beq x.core core && Nat.beq x.beat s.seq.beat
      if !t.hasCore w.coreSet core || again || s.seq.realign.isSome || Nat.beq (s.fld Reg.SEQ.STATE.STATE) 5 || s.coreDisabled core then s
      else
        let s := s.advanceTo now
        let s : State := match Assoc.find win s.seq.cuts with
          | some _ => s
          | none =>
            let cut := s.debtCut t r win w
            let s := if w.cocoon = 0 then s
              else s.setFld (Reg.SEQ_DEBT.DEBT.DEBT_NS w.cocoon) (s.fld (Reg.SEQ_DEBT.DEBT.DEBT_NS w.cocoon) - cut)
            { s with seq := { s.seq with cuts := Assoc.put win (if w.cocoon = 0 then 0 else cut) s.seq.cuts } }
        let cut := Assoc.findD (α := Nat) win 0 s.seq.cuts
        let same := Assoc.find core s.seq.lastOwner == some w.cocoon
        let late := (s.runOn core).any fun x => x.stride.isSome && !Nat.beq x.cocoon w.cocoon && s.working core &&
          (Nat.beq x.cocoon 0 || !s.sealed w.cocoon)
        let late' := s.strideOn core
        let o : OpenWin := ⟨win, core, w.cocoon, s.seq.beat, now, w.stop - w.start, s.seq.beatStart + w.stop - cut,
          if same then now else now + 1000, late, false, 0⟩
        let keep := s.seq.openWins.filter fun x => !Nat.beq x.core core || late'
        let s := { s with seq := { s.seq with openWins := keep ++ [o] } }
        if late then s else s.takeCore o
  | _, _ => s

def execWindowStart (win core : Nat) (s : State) : Answer := .next (windowStart win core s)

/-- R64, R68: a window reaches its effective end on a core. -/
def windowEnd (win core : Nat) (s : State) : State :=
  match s.seq.openWins.find? fun w => Nat.beq w.win win && Nat.beq w.core core && !w.ended with
  | none => s
  | some w => if s.fld Reg.SEQ.STATE.STATE = 5 then s else (s.advanceTo w.stop).endWindow w

def execWindowEnd (win core : Nat) (s : State) : Answer := .next (windowEnd win core s)

/-- R60: the handover at the start of a window ends; the core's slots may fire from then on. -/
def handoverEnd (core : Nat) (s : State) : State :=
  match s.seq.openWins.find? fun w => Nat.beq w.core core && !w.waiting && !w.ended with
  | none => s
  | some w =>
    if s.coreState core = 1 then
      (s.advanceTo w.handover).setFld (coreStateFld core) (if s.restoring w.cocoon core then 6 else 0)
    else s

def execHandoverEnd (core : Nat) (s : State) : Answer := .next (handoverEnd core s)

/-! ### Work entries (R53, R178, R309) -/

/-- The groups of `n` cores that a core set is cut into (R178). -/
def groupsOf (cores : List Nat) (n : Nat) : List (List Nat) :=
  (List.range (cores.length / max 1 n)).map fun i => (cores.drop (n * i)).take n

/-- A run that has not started. -/
def Run.new (id cocoon : Nat) (kind : RunKind) (slot prog : Nat) (cmd : Option Cmd) (inv arg : Nat) (cores ctxs : List Nat)
    (append maxLen step0 : Nat) : Run :=
  { id := id, cocoon := cocoon, kind := kind, slot := slot, prog := prog, cmd := cmd, inv := inv, arg := arg, cores := cores, ctxs := ctxs
    append := append, maxLen := maxLen, step0 := step0, entry := 0, passes := [], stride := none, needLaunch := true, staged := false
    suspended := false, fault := none, ending := none, strides := 0, beats := 0, lastBeat := none, logged := 0, replay := false, ran := [] }

/-- Is the group free: no run stands on its cores, and none is faulted (R178, R191)? -/
def State.groupFree (s : State) (g : List Nat) : Bool :=
  g.all fun n => (s.runOn n).isNone && !Nat.beq (s.coreState n) 3

/-- A radio or management program starts on every free group of its core set (R53 KIND 0x01, 0x03). -/
def State.startProgram (s : State) (kind : RunKind) (w : Work) (cores : List Nat) : State :=
  match s.program w.cocoon w.handle with
  | none => s
  | some (z, p, g) =>
    (groupsOf cores g.groupCores).foldl (fun s grp =>
      if s.groupFree grp then
        { s with runs := s.runs ++ [Run.new s.nextRun w.cocoon kind z p none 0 w.arg grp [] 0 0 0], nextRun := s.nextRun + 1 }
      else s) s

/-- R53: a work entry of the row in force reaches its START_NS: its work becomes eligible on its core set. An entry of KIND 2 opens dispatch whatever
its ARG (DEDUCED, log entry 44). -/
def workEntryStart (work : Nat) (s : State) : State :=
  match s.seq.active, s.row with
  | some t, some r =>
    match (t.rowWorks r).find? fun x => Nat.beq x.1 work with
    | none => s
    | some (_, w) =>
      if s.seq.realign.isSome || Nat.beq (s.fld Reg.SEQ.STATE.STATE) 5 then s
      else
        let s := s.advanceTo (s.seq.beatStart + w.start)
        let cores := t.coresOf w.coreSet
        let s := cores.foldl (fun s n => s.setCore n { s.core n with eligible := some ((s.core n).eligible.getD s.now) }) s
        match w.kind with
        | 1 => if s.mayRun w.cocoon then s.startProgram .radio w cores else s
        | 2 => if !s.seq.openWork.contains work then { s with seq := { s.seq with openWork := s.seq.openWork ++ [work] } } else s
        | 3 => if s.mayRun w.cocoon then s.startProgram .management w cores else s
        | 4 => s.restore w.cocoon w.handle cores
        | _ => s
  | _, _ => s

def execWorkEntryStart (work : Nat) (s : State) : Answer := .next (workEntryStart work s)

/-! ### Radio capacity and table parity (R67, R72) -/

/-- R67: R66 is run again on the active table. -/
def capacityRecheck (s : State) : State :=
  match s.seq.active with
  | none => s
  | some t =>
    if (t.fits s.L s.F s.demand (fun n => !s.coreDisabled n) fun _ _ => true).isSome then
      s.onSeq fun s => (s.setFld Reg.SEQ.STATUS.RADIO_SHORT 1).raiseErr Reg.SEQ.ERR.RADIO_SHORT
    else s

def execRadioCapacityRecheck (s : State) : Answer := .next (capacityRecheck s)

/-- R72: a parity error in the active table bank is a fatal device error. -/
def parityError (s : State) : State :=
  if s.seq.active.isSome then (s.onSeq fun s => s.raiseErr Reg.SEQ.ERR.TABLE_PARITY).fatalError 3 else s

def execTableParityError (s : State) : Answer := .next (parityError s)

end Sys2Proof.Machine
end

