-- ==== Sys2Proof/Machine/Gddr.lean ====
section
/-!
DEFINITION. The GDDR7 controllers (R329–R347): accesses of lines with the outer code, retries and mirrors, slots, retraining, the patrol
scrub, and channels that go down.
-/
namespace Sys2Proof.Machine

/-- A controller that nothing has used. -/
def MemCtl.fresh : MemCtl :=
  { queues := [], rowOpen := false, checkBuf := [], linkFails := [], trainTemp := 0, dueSince := none, stepAt := none
    training := false, scrub := 0, answer := .none }

def State.ctl (s : State) (ch : Nat) : MemCtl := Assoc.findD ch MemCtl.fresh s.gddr.ctls
def State.setCtl (s : State) (ch : Nat) (k : MemCtl) : State := { s with gddr := { s.gddr with ctls := Assoc.put ch k s.gddr.ctls } }
def State.updCtl (s : State) (ch : Nat) (f : MemCtl → MemCtl) : State := s.setCtl ch (f (s.ctl ch))
def chState (ch : Nat) : Fld := Reg.MEM_CH.STATE.STATE ch

/-! ### Channels that go down (R345) -/

/-- The other channel of a channel's mirror pair, if it has one (R336). -/
def State.partner (s : State) (ch : Nat) : Option Nat :=
  s.memGroups.findSome? fun g =>
    (g.ch.zip g.mirror).findSome? fun p => if p.1 = ch then some p.2 else if p.2 = ch then some p.1 else none

/-- A channel becomes DOWN. -/
def State.channelDown (s : State) (ch : Nat) : State :=
  let s := (s.enter (chState ch) 4).updCtl ch fun k => { k with dueSince := none, training := false }
  let s := s.setFlds [(Reg.MEM.STATUS.DOWN, s.fld Reg.MEM.STATUS.DOWN ||| 2 ^ ch), (Reg.MEM_CH.TRAIN_STATUS.RETRAIN_DUE ch, 0)]
  let s := (s.raiseErr (Reg.MEM_CH.ERR.DOWN ch)).raiseErr Reg.MEM.ERR.CHANNEL_DOWN
  match s.partner ch with
  | some o => if s.channelUp o then s.raiseErr Reg.MEM.ERR.MIRROR_DEGRADED else s
  | none => s

/-- An access fails its CRC a fifth time (R333); the sixteenth LINK_FAIL within 1 ms takes the channel down (R345). -/
def State.linkFail (s : State) (ch : Nat) : State :=
  let s := s.raiseErr (Reg.MEM_CH.ERR.LINK_FAIL ch)
  let l := s.mono :: (s.ctl ch).linkFails.filter fun t => Nat.ble s.mono (t + 1000000)
  let s := s.updCtl ch fun k => { k with linkFails := l.take 16 }
  if 16 ≤ l.length then s.channelDown ch else s

/-- A corrected line of a channel (R330). -/
def State.lineCorrected (s : State) (ch : Nat) : State :=
  ((s.countSat (Reg.MEM_CH.CE_COUNT.COUNT ch) 1).raiseErr (Reg.MEM_CH.ERR.CE ch)).raiseErr Reg.MEM.ERR.CE_ANY

/-- The counts an access brings: on-die ECC events and CRC retries (R333). -/
def State.countAccess (s : State) (ch : Nat) (e : LineErr) : State :=
  ((s.countSat (Reg.MEM_CH.ODECC_CE.COUNT ch) e.odeccCe).countSat (Reg.MEM_CH.ODECC_UE.COUNT ch) e.odeccUe).countSat
    (Reg.MEM_CH.EDC_RETRY.COUNT ch) (min 4 e.crcFails)

/-! ### Reading and writing one copy of a line (R330–R333) -/

/-- What reading one copy came to. -/
inductive CopyRead where
  | good
  /-- three or more symbols in error that the code did not tell: the line's bytes are free -/
  | lost
  /-- uncorrected; the copy is to be poisoned, or was already -/
  | poison
  /-- uncorrected without poison: a link failure or a channel that is down -/
  | failed
deriving DecidableEq, Repr

/-- Read one copy of a line. The code gives no guarantee for three or more symbols: whether it tells is a free choice. -/
def State.readCopy (s : State) (ch : Nat) (poisoned : Bool) (e : LineErr) : State × CopyRead :=
  if !s.channelUp ch then (s, .failed)
  else
    let s := s.countAccess ch e
    if 5 ≤ e.crcFails then (s.linkFail ch, .failed)
    else if poisoned then (s, .poison)
    else if e.symbols = 0 then (s, .good)
    else if e.symbols = 1 then (s.lineCorrected ch, .good)
    else if e.symbols = 2 ∨ Config.freeBool s.draws = true then (s.drawn, .poison)
    else (s.drawn, .lost)

/-- A line whose bytes are free from now on. -/
def State.loseLine (s : State) (line : Nat) : State := s.drawn.setMem (s.mem.undefine (64 * line) 64 (s.draws + 1))

/-- Mark the copies of a line poisoned. -/
def State.poisonA (s : State) (line : Nat) : State := if s.poison.contains line then s else { s with poison := line :: s.poison }
def State.poisonBoth (s : State) (line : Nat) : State :=
  let s := s.poisonA line
  if s.poisonB.contains line then s else { s with poisonB := line :: s.poisonB }

/-- Read a line: the copy on the lower-numbered M-die first; false where it is uncorrected (R332, R336). -/
def State.readLine (s : State) (line : Nat) (eA eB : LineErr) : State × Bool :=
  match s.channelOf (64 * line) with
  | none => (s, false)
  | some (a, none) =>
    match s.readCopy a (s.poison.contains line) eA with
    | (s, .good) => (s, true)
    | (s, .lost) => (s.loseLine line, true)
    | (s, .poison) => ((s.countUe a line).poisonA line, false)
    | (s, .failed) => (s.countUe a line, false)
  | some (a, some b) =>
    match s.readCopy a (s.poison.contains line) eA with
    | (s, .good) => (s, true)
    | (s, .lost) => (s.loseLine line, true)
    | (s, ra) =>
      let s := if s.channelUp a then s.countUe a line else s
      match s.readCopy b (s.poisonB.contains line) eB with
      | (s, .good) =>
        if s.channelUp a then
          ({ s with poison := s.poison.filter fun l => !Nat.beq l line }.raiseErr Reg.MEM.ERR.MIRROR_REPAIR, true)
        else (s, true)
      | (s, .lost) => (s.loseLine line, true)
      | (s, rb) =>
        let s := s.countUe b line
        let s := if ra = .poison then s.poisonA line else s
        (if rb = .poison ∧ !s.poisonB.contains line then { s with poisonB := line :: s.poisonB } else s, false)

/-- Write to one copy: accepted, or failed on its link or discarded. -/
def State.writeCopy (s : State) (ch : Nat) (e : LineErr) : State × Bool :=
  if !s.channelUp ch then (s, false)
  else
    let s := s.countAccess ch e
    if 5 ≤ e.crcFails then ((s.linkFail ch), false) else (s, true)

/-- Write bytes of one line to its copies. A mirror half that is down leaves the other alone (R345); a link failure leaves the line's bytes
free where only one copy took them. -/
def State.writeLine (s : State) (line off : Nat) (b : List Byte) (eA eB : LineErr) : State × Bool :=
  let put (s : State) : State := ((s.noteWrite (64 * line + off) b).wrBytes (64 * line + off) b).healWrite (64 * line + off) b.length
  match s.channelOf (64 * line) with
  | none => (s, false)
  | some (a, none) =>
    match s.writeCopy a eA with
    | (s, true) => (put s, true)
    | (s, false) => (s.countUe a line, false)
  | some (a, some c) =>
    let (upA, upC) := (s.channelUp a, s.channelUp c)
    let (s, okA) := s.writeCopy a eA
    let (s, okC) := s.writeCopy c eB
    if (okA || !upA) && (okC || !upC) && (okA || okC) then (put s, true)
    else
      let s := (if upA && !okA then s.countUe a line else s)
      let s := (if upC && !okC then s.countUe c line else s)
      (if okA || okC then s.loseLine line else s, false)

/-! ### Requests in slots (R339, R340) -/

/-- Touch a line's check line in the check buffer of its channel, and leave a row open (R303, R331). -/
def State.touch (s : State) (ch line : Nat) : State :=
  s.updCtl ch fun k => { k with rowOpen := true, checkBuf := ((line / 8) :: k.checkBuf.filter fun x => !Nat.beq x (line / 8)).take 64 }

/-- Issue a request to the devices: the answer stands in the controller. -/
def State.issue (s : State) (q : MemReq) : State :=
  let line := q.addr / 64
  match s.channelOf (64 * line) with
  | none => s
  | some (ch, _) =>
    let s := s.touch ch line
    let done (x : State × MemAnswer) : State := x.1.updCtl ch fun k => { k with answer := x.2 }
    match q.op with
    | .read =>
      match s.readLine line q.errA q.errB with
      | (s, true) => done (s, .data (s.rdBytes (64 * line) 64))
      | (s, false) => done (s, .error)
    | .writeLine b =>
      let (s, ok) := s.writeLine line 0 (slice b 0 64) q.errA q.errB
      done (s, if ok then .written else .error)
    | .writePart off b =>
      match s.readLine line q.errA q.errB with
      | (s, false) => done (s, .error)
      | (s, true) =>
        let (s, ok) := s.writeLine line (off % 64) (b.take (64 - off % 64)) ⟨0, q.errA.crcFails, 0, 0⟩ ⟨0, q.errB.crcFails, 0, 0⟩
        done (s, if ok then .written else .error)

/-- The owner byte of the slot in progress on a channel. -/
def State.slotNow (s : State) (ch : Nat) : Nat := s.gddr.owners.getD ch 0x80

/-- R339, R340: a request of a cocoon reaches its controller: issued in a slot of the cocoon, else queued while its queue has room. A request
outside the cocoon's extents, or on a channel on which the active table gives it no slot, is refused. -/
def gddr7Access (cocoon addr : Nat) (op : LineOp) (errA errB : LineErr) (s : State) : State :=
  let q : MemReq := ⟨cocoon, addr, op, errA, errB⟩
  match s.channelOf addr with
  | none => s
  | some (ch, _) =>
    if !s.inExtent cocoon (addr / 64 * 64) 64 || !s.hasSlot cocoon ch then s.updCtl ch fun k => { k with answer := .error }
    else if s.slotNow ch = cocoon then s.issue q
    else
      let l := Assoc.findD cocoon [] (s.ctl ch).queues
      if 64 ≤ l.length then s else s.updCtl ch fun k => { k with queues := Assoc.put cocoon (l ++ [q]) k.queues }

def execGddr7Access (cocoon addr : Nat) (op : LineOp) (errA errB : LineErr) (s : State) : Answer :=
  .next (gddr7Access cocoon addr op errA errB s)

/-- R339: a per-bank refresh is issued at its fixed time; it changes no data and depends on no cocoon's traffic. -/
def execGddr7Refresh (_channel _bank : Nat) (s : State) : Answer := .next s

/-! ### The fill of a destroyed cocoon (R296) -/

/-- Bytes of the 4 KiB pieces k0 to k1 − 1 of a group that fall on list place `i` of `n`. -/
def shareOf (k0 k1 n i : Nat) : Nat := ((k1 + n - 1 - i) / n - (k0 + n - 1 - i) / n) * 4096

/-- Bytes of a cocoon's extents on a channel, both copies of mirror groups counted. -/
def State.bytesOn (s : State) (c ch : Nat) : Nat :=
  ((s.extents c).flatMap fun e => s.memGroups.map fun g =>
    let lo := max e.1 g.base
    let hi := min (e.1 + e.2) (g.base + g.size)
    let i := if g.ch.contains ch then g.ch.findIdx (Nat.beq ch) else g.mirror.findIdx (Nat.beq ch)
    if lo < hi ∧ (g.ch.contains ch ∨ g.mirror.contains ch) then
      shareOf ((lo - g.base) / 4096) ((hi - g.base) / 4096) g.ch.length i
    else 0).sum

/-- Bytes of a cocoon's zero fill still to write on a channel. -/
def State.fillLeft (s : State) (c ch : Nat) : Nat := s.bytesOn c ch - Assoc.findD ch 0 (s.cocoon c).fill

/-- The cocoons in DESTROYING. -/
def State.destroying (s : State) : List Nat := (List.range 64).filter fun c => Nat.beq (s.cocoonState c) 3

/-- An idle slot of a channel fills what is left of destroyed cocoons, lowest first, at the payload rate. -/
def State.fillSlot (s : State) (ch : Nat) : State :=
  (s.destroying.foldl (fun (acc : State × Nat) c =>
    let n := min acc.2 (acc.1.fillLeft c ch)
    let k := acc.1.cocoon c
    if n = 0 then acc else (acc.1.setCocoon c { k with fill := Assoc.upd ch 0 (· + n) k.fill }, acc.2 - n))
    (s, s.payloadRate * s.L / 144)).1

/-- R303, R339: TDM slot `slot` of the beat begins. Where the owner differs from the slot before, the channel's rows close; the owner's
queued requests are issued; an idle slot serves the zero fill. -/
def slotBoundary (slot : Nat) (s : State) : State :=
  if 16 ≤ slot then s
  else
    let before := (List.range 24).map s.slotNow
    let s := s.advanceTo (s.seq.beatStart + slot * s.L / 16)
    let owners := (List.range 24).map fun ch => s.slotOwner ch slot
    let s := { s with gddr := { s.gddr with slot := slot, slotBeat := s.seq.beat, owners := owners } }
    (List.range 24).foldl (fun s ch =>
      let own := s.slotNow ch
      let s := if own = before.getD ch 0x80 then s else s.updCtl ch fun k => { k with rowOpen := false }
      if own = 0x80 then s.fillSlot ch
      else
        let l := Assoc.findD own [] (s.ctl ch).queues
        let s := s.updCtl ch fun k => { k with queues := Assoc.del own k.queues }
        l.foldl (fun s q => s.issue q) s) s

def execTdmSlotBoundary (slot : Nat) (s : State) : Answer := .next (slotBoundary slot s)

/-! ### Retraining (R342, R343) -/

/-- R342: the controller compares the device temperature and the CRC retries of one second with their thresholds. -/
def retrainDue (ch : Nat) (temp : Int) (retries : Nat) (s : State) : State :=
  if s.fld (chState ch) ≠ 2 then s
  else
    let s := s.setFld (Reg.MEM_CH.TEMP.DEGC ch) (ofSigned 16 temp)
    let moved := (temp - (s.ctl ch).trainTemp).natAbs
    if 16 * s.fld Reg.MEM.RETRAIN_CFG.TEMP_DELTA < moved ∨ s.fld Reg.MEM.RETRAIN_CFG.EDC_THRESH < retries then
      if s.isSet (Reg.MEM_CH.TRAIN_STATUS.RETRAIN_DUE ch) then s
      else (s.setFlds [(Reg.MEM_CH.TRAIN_STATUS.RETRAIN_DUE ch, 1), (Reg.MEM_CH.TRAIN_STATUS.STEPS ch, 0)]).updCtl ch fun k =>
        { k with dueSince := some s.mono }
    else s

def execRetrainDue (channel : Nat) (temp : Int) (retries : Nat) (s : State) : Answer := .next (retrainDue channel temp retries s)

/-- Holds the channel a part of a mirror group in which cocoon 0 has an extent (R343)? -/
def State.radioMirror (s : State) (ch : Nat) : Bool := (s.partner ch).isSome && Nat.blt 0 (s.bytesOn 0 ch)

/-- May a due channel step in the row and slot in progress (R342, R343)? -/
def State.mayStep (s : State) (ch : Nat) : Bool :=
  s.isSet (Reg.MEM_CH.TRAIN_STATUS.RETRAIN_DUE ch) && [2, 3].contains (s.fld (chState ch)) &&
    (match s.row with
     | some r => r.retrainEn && Nat.beq r.retrainCh ch && (r.radioReserved || !s.radioMirror ch)
     | none => false) &&
    Nat.beq (s.gddr.slot % 4) 0 && Nat.beq s.gddr.slotBeat s.seq.beat && !((s.ctl ch).stepAt == some (s.seq.beat, s.gddr.slot))

/-- R342: a due channel runs one step; the retraining completes in at most 16, and in fewer where the controller finds it done, which the spec
leaves to it (a free choice). A step that fails takes the channel down (R345). -/
def retrainStep (ch : Nat) (ok : Bool) (s : State) : State :=
  if !s.mayStep ch then s
  else if !ok then s.channelDown ch
  else
    let n := s.fld (Reg.MEM_CH.TRAIN_STATUS.STEPS ch) + 1
    let done := Nat.ble 16 n || Config.freeBool s.draws
    let s := (s.drawn.setFld (Reg.MEM_CH.TRAIN_STATUS.STEPS ch) n).updCtl ch fun k =>
      { k with stepAt := some (s.seq.beat, s.gddr.slot), dueSince := some s.mono }
    if done then
      ((s.setFld (Reg.MEM_CH.TRAIN_STATUS.RETRAIN_DUE ch) 0).updCtl ch fun k =>
        { k with dueSince := none, trainTemp := toSigned 16 (s.fld (Reg.MEM_CH.TEMP.DEGC ch)) }).enter (chState ch) 2
    else s.enter (chState ch) 3

def execRetrainStep (channel : Nat) (ok : Bool) (s : State) : Answer := .next (retrainStep channel ok s)

/-- R343: RETRAIN_DUE stays set for 1 s without a step. -/
def retrainStarved (ch : Nat) (s : State) : State :=
  match (s.ctl ch).dueSince with
  | none => s
  | some t => (s.advanceMono (t + 1000000000)).raiseErr (Reg.MEM_CH.ERR.RETRAIN_STARVED ch)

def execRetrainStarved (channel : Nat) (s : State) : Answer := .next (retrainStarved channel s)

/-! ### The patrol scrub (R344) -/

/-- The device-local address of payload byte `off` of a channel, and whether the channel is the second copy there (R335, R336). -/
def State.addrOn (s : State) (ch off : Nat) : Option (Nat × Bool) :=
  s.memGroups.findSome? fun g =>
    let at_ (l : List Nat) : Option Nat :=
      if l.contains ch then some (g.base + (off / 4096 * g.ch.length + l.findIdx (Nat.beq ch)) * 4096 + off % 4096) else none
    ((at_ g.ch).map fun a => (a, false)) <|> ((at_ g.mirror).map fun a => (a, true))

/-- The scrub's read of one line of a channel: corrected, or poisoned where uncorrected; nothing is written back in a group written since. -/
def State.scrubLine (s : State) (ch off : Nat) (e : LineErr) (written : Bool) : State :=
  match s.addrOn ch off with
  | none => s.countAccess ch e
  | some (a, second) =>
    let line := a / 64
    match s.readCopy ch (if second then s.poisonB.contains line else s.poison.contains line) e with
    | (s, .good) => s
    | (s, .lost) => if written then s else s.loseLine line
    | (s, .failed) => s.countUe ch line
    | (s, .poison) =>
      let s := s.countUe ch line
      if written then s
      else if second then (if s.poisonB.contains line then s else { s with poisonB := line :: s.poisonB })
      else s.poisonA line

/-- R344: the controller reads the next group of its pass, whatever slot is in progress. -/
def patrolScrub (ch group : Nat) (errs : List LineErr) (written : Bool) (s : State) : State :=
  if !s.channelUp ch || !Nat.beq group (s.ctl ch).scrub then s
  else
    let s := (List.range 8).foldl (fun s i => s.scrubLine ch (512 * group + 64 * i) (errs.getD i ⟨0, 0, 0, 0⟩) written) s
    if s.chUnits * 65536 / 512 ≤ group + 1 then
      (s.updCtl ch fun k => { k with scrub := 0 }).countMod (Reg.MEM_CH.SCRUB_PASSES.COUNT ch) 1
    else s.updCtl ch fun k => { k with scrub := group + 1 }

def execPatrolScrub (channel group : Nat) (errs : List LineErr) (written : Bool) (s : State) : Answer :=
  .next (patrolScrub channel group errs written s)

/-! ### RETRAIN_NOW (R346) -/

/-- Holds the channel any part of an extent of a cocoon that is not NONE? -/
def State.liveExtents (s : State) (ch : Nat) : Bool :=
  (List.range 64).any fun c => !Nat.beq (s.cocoonState c) 0 && Nat.blt 0 (s.bytesOn c ch)

/-- R346: MEM_CH.ACTION.RETRAIN_NOW. -/
def retrainNow (ch : Nat) (s : State) : State :=
  let spare := (s.partner ch).any fun o => Nat.beq (s.fld (chState o)) 2
  if s.liveExtents ch && !spare then s.refuse (0x0A1 + ch) 0x04B1 0x128
  else if [2, 4].contains (s.fld (chState ch)) then
    (s.enter (chState ch) 1).updCtl ch fun k => { k with training := true, dueSince := none }
  else s

def execRetrainNow (channel : Nat) (s : State) : Answer := .next (retrainNow channel s)

/-- R346: the full training ends; a mirror copy is refilled from the other one before it serves reads again. -/
def retrainNowDone (ch : Nat) (ok : Bool) (s : State) : State :=
  if !(s.ctl ch).training then s
  else if !ok then s.channelDown ch
  else
    let mine (l : Nat) : Bool := s.channelOf (64 * l) == some (ch, s.partner ch)
    let yours (l : Nat) : Bool := (s.channelOf (64 * l)).any fun x => x.2 == some ch
    let s := { s with
      poison := (s.poison.filter fun l => !(mine l && (s.partner ch).isSome)) ++ (s.poisonB.filter fun l => mine l)
      poisonB := (s.poisonB.filter fun l => !yours l) ++ (s.poison.filter fun l => yours l) }
    let s := s.updCtl ch fun k => { k with training := false, trainTemp := toSigned 16 (s.fld (Reg.MEM_CH.TEMP.DEGC ch)) }
    let down := s.fld Reg.MEM.STATUS.DOWN
    (s.setFlds [(Reg.MEM.STATUS.DOWN, if down.testBit ch then down - 2 ^ ch else down),
      (Reg.MEM_CH.TRAIN_STATUS.RETRAIN_DUE ch, 0)]).enter (chState ch) 2

def execRetrainNowDone (channel : Nat) (ok : Bool) (s : State) : Answer := .next (retrainNowDone channel ok s)

end Sys2Proof.Machine
end

