-- ==== Sys2Proof/Machine/Retry.lean ====
section
/-!
DEFINITION. Go-back-N retry of a link or lane direction (R358, R359, R388).
-/
namespace Sys2Proof.Machine

def Retry.fresh : Retry := ⟨0, 0, 0, 0⟩

/-- What a received flit came to. -/
structure RetryEvent where
  /-- the flit is the one expected and is taken -/
  taken : Bool
  /-- its NAK makes the transmitter replay -/
  replayed : Bool
  /-- the same SEQ failed in 8 consecutive replays -/
  failed : Bool
deriving DecidableEq, Repr

/-- A flit arrives. One that fails FEC or CRC is discarded and so is every later one until the expected SEQ; an ACK releases the flits
before it; a NAK replays from ACK (R358, R359). -/
def Retry.receive (k : Retry) (fecOk crcOk : Bool) (seq ack : Nat) (nak : Bool) : Retry × RetryEvent :=
  if !(fecOk && crcOk) then (k, ⟨false, false, false⟩)
  else
    let oldest := (k.txSeq + 65536 - k.unacked) % 65536
    let gone := (ack + 65536 - oldest) % 65536
    let moved := Nat.ble gone k.unacked
    let n := if nak then (if moved && Nat.blt 0 gone then 1 else k.naks + 1) else if moved && Nat.blt 0 gone then 0 else k.naks
    let taken := Nat.beq seq k.rxSeq
    ({ k with unacked := if moved then k.unacked - gone else k.unacked
              naks := n
              rxSeq := if taken then (k.rxSeq + 1) % 65536 else k.rxSeq },
     ⟨taken, nak, nak && Nat.ble 8 n⟩)

/-- Flits are sent and wait for their ACK. -/
def Retry.sent (k : Retry) (n : Nat) : Retry := { k with txSeq := (k.txSeq + n) % 65536, unacked := k.unacked + n }

end Sys2Proof.Machine
end

