-- ==== Sys2Proof/Machine/Fp.lean ====
section
/-!
DEFINITION. Exact arithmetic on the number formats of R121: decoding, rounding to nearest with ties to even (R122, R127, R141), the special
values of R124, block scales (R126, R128), correctly rounded quotients, reciprocal square roots and powers of two (R149, R154).
-/
namespace Sys2Proof.Machine

/-! ### Values and formats (R121) -/

/-- A value: NaN, an infinity, or (−1)^neg × m × 2^e. -/
inductive Fp where
  | nan
  | inf (neg : Bool)
  | fin (neg : Bool) (m : Nat) (e : Int)
deriving DecidableEq, Repr

/-- The floating-point formats. -/
inductive FpFmt where
  | fp32 | bf16 | fp16 | e4m3 | e5m2 | e2m1
deriving DecidableEq, Repr

/-- Significand bits with the leading one, exponent of the smallest subnormal, exponent of the last place and significand of the largest
finite value, and width in bits. -/
structure FpShape where
  p : Nat
  qmin : Int
  qmax : Int
  maxM : Nat
  w : Nat
deriving DecidableEq, Repr

def FpFmt.shape : FpFmt → FpShape
  | .fp32 => ⟨24, -149, 104, 2 ^ 24 - 1, 32⟩
  | .bf16 => ⟨8, -133, 120, 255, 16⟩
  | .fp16 => ⟨11, -24, 5, 2047, 16⟩
  | .e4m3 => ⟨4, -9, 5, 14, 8⟩
  | .e5m2 => ⟨3, -16, 13, 7, 8⟩
  | .e2m1 => ⟨2, -1, 1, 3, 4⟩

/-- The pattern of NaN that the Y40 writes (R124, R127); E2M1 has none. -/
def FpFmt.nanBits : FpFmt → Nat
  | .fp32 => 0x7FC00000 | .bf16 => 0x7FC0 | .fp16 => 0x7E00 | .e4m3 => 0x7F | .e5m2 => 0x7E | .e2m1 => 0

/-- Read a pattern. -/
def FpFmt.decode (f : FpFmt) (v : Nat) : Fp :=
  let s := f.shape
  let neg := v.testBit (s.w - 1)
  let mag := v % 2 ^ (s.w - 1)
  let ex := mag / 2 ^ (s.p - 1)
  let fr := mag % 2 ^ (s.p - 1)
  let special := match f with
    | .e4m3 => Nat.beq mag 0x7F
    | .e2m1 => false
    | _ => Nat.beq ex (2 ^ (s.w - s.p) - 1)
  if special then (if f ≠ .e4m3 ∧ fr = 0 then .inf neg else .nan)
  else if ex = 0 then .fin neg fr s.qmin
  else .fin neg (2 ^ (s.p - 1) + fr) (s.qmin + (ex : Int) - 1)

/-! ### Rounding -/

/-- The number of bits of a magnitude. -/
def bitLen (n : Nat) : Nat := if n = 0 then 0 else Nat.log2 n + 1

/-- m / 2^s rounded to nearest, ties to even. -/
def rneShift (m s : Nat) : Nat :=
  if bitLen m + 1 < s then 0
  else
    let q := m >>> s
    let r := 2 * (m % 2 ^ s)
    if 2 ^ s < r ∨ (r = 2 ^ s ∧ q % 2 = 1) then q + 1 else q

/-- m × 2^e rounded to `p` significand bits, with no last place below 2^qmin: significand and exponent of its last place. -/
def roundBits (p : Nat) (qmin : Int) (m : Nat) (e : Int) : Nat × Int :=
  if m = 0 then (0, qmin)
  else
    let q := max ((bitLen m : Int) + e - p) qmin
    if q ≤ e then (m * 2 ^ (e - q).toNat, q) else (rneShift m (q - e).toNat, q)

/-- The largest finite value of a format. -/
def FpFmt.largest (f : FpFmt) (neg : Bool) : Fp := .fin neg f.shape.maxM f.shape.qmax

/-- Round to a format; overflow and infinity become infinity, or with `sat` the largest finite value (R127). E2M1 always saturates. -/
def FpFmt.round (f : FpFmt) (sat : Bool) : Fp → Fp
  | .nan => .nan
  | .inf n => if sat || f == .e2m1 then f.largest n else if f = .e4m3 then .nan else .inf n
  | .fin n m e =>
    let s := f.shape
    let (k, q) := roundBits s.p s.qmin m e
    if s.qmax < q ∨ (q = s.qmax ∧ s.maxM < k) then
      (if sat || f == .e2m1 then f.largest n else if f = .e4m3 then .nan else .inf n)
    else .fin n k q

/-- The pattern of a value that the format holds. -/
def FpFmt.encode (f : FpFmt) : Fp → Nat
  | .nan => f.nanBits
  | .inf n => (if n then 2 ^ (f.shape.w - 1) else 0) + (match f with
    | .e4m3 => 0x7F
    | .e2m1 => 7
    | _ => (2 ^ (f.shape.w - f.shape.p) - 1) * 2 ^ (f.shape.p - 1))
  | .fin n m e =>
    let s := f.shape
    let (k, q) := roundBits s.p s.qmin m e
    (if n then 2 ^ (s.w - 1) else 0) + (q - s.qmin).toNat * 2 ^ (s.p - 1) + k

/-- Round to FP32. -/
def r32 (x : Fp) : Fp := FpFmt.fp32.round false x
def enc32 (x : Fp) : Nat := FpFmt.fp32.encode x
def dec32 (v : Nat) : Fp := FpFmt.fp32.decode v

def Fp.zero : Fp := .fin false 0 0
def Fp.ofInt (i : Int) : Fp := .fin (decide (i < 0)) i.natAbs 0
def Fp.ofNat (n : Nat) : Fp := .fin false n 0

/-! ### Exact arithmetic (R122, R124) -/

def Fp.neg : Fp → Fp
  | .nan => .nan
  | .inf n => .inf !n
  | .fin n m e => .fin (!n) m e

def Fp.isNan : Fp → Bool
  | .nan => true
  | _ => false

def Fp.isInf : Fp → Bool
  | .inf _ => true
  | _ => false

def Fp.isZero : Fp → Bool
  | .fin _ m _ => Nat.beq m 0
  | _ => false

/-- The exact product. -/
def Fp.mul : Fp → Fp → Fp
  | .nan, _ => .nan
  | _, .nan => .nan
  | .inf a, .inf b => .inf (a != b)
  | .inf a, .fin b m _ => if m = 0 then .nan else .inf (a != b)
  | .fin a m _, .inf b => if m = 0 then .nan else .inf (a != b)
  | .fin a m e, .fin b n f => .fin (a != b) (m * n) (e + f)

/-- The exact sum; an exact zero from operands of opposite sign is +0. -/
def Fp.add : Fp → Fp → Fp
  | .nan, _ => .nan
  | _, .nan => .nan
  | .inf a, .inf b => if a = b then .inf a else .nan
  | .inf a, .fin _ _ _ => .inf a
  | .fin _ _ _, .inf b => .inf b
  | .fin a m e, .fin b n f =>
    let g := min e f
    let x : Int := (if a then -1 else 1) * ((m * 2 ^ (e - g).toNat : Nat) : Int)
    let y : Int := (if b then -1 else 1) * ((n * 2 ^ (f - g).toNat : Nat) : Int)
    let z := x + y
    if z = 0 then .fin (a && b) 0 g else .fin (decide (z < 0)) z.natAbs g

def Fp.sub (a b : Fp) : Fp := a.add b.neg

/-- Each operation of a stage rounds to FP32 (R141). -/
def Fp.add32 (a b : Fp) : Fp := r32 (a.add b)
def Fp.sub32 (a b : Fp) : Fp := r32 (a.sub b)
def Fp.mul32 (a b : Fp) : Fp := r32 (a.mul b)
/-- A fused multiply-add, rounded once (R148). -/
def Fp.fma32 (a b c : Fp) : Fp := r32 ((a.mul b).add c)

/-- a < b, false where either is NaN; the zeros are equal. -/
def Fp.lt : Fp → Fp → Bool
  | .nan, _ => false
  | _, .nan => false
  | .inf a, .inf b => a && !b
  | .inf a, .fin _ _ _ => a
  | .fin _ _ _, .inf b => !b
  | a, b => match a.sub b with
    | .fin n m _ => n && !Nat.beq m 0
    | _ => false

def Fp.le (a b : Fp) : Bool := !a.isNan && !b.isNan && !b.lt a

/-- x × 2^k, exact. -/
def Fp.scale (x : Fp) (k : Int) : Fp := match x with
  | .fin n m e => .fin n m (e + k)
  | y => y

/-- The magnitude. -/
def Fp.abs : Fp → Fp
  | .nan => .nan
  | .inf _ => .inf false
  | .fin _ m e => .fin false m e

/-- The floor and ceiling of a finite value. -/
def Fp.floor : Fp → Int
  | .fin n m e =>
    let v : Int := if n then -(m : Int) else m
    if 0 ≤ e then v * (2 ^ e.toNat : Nat) else v / (2 ^ (-e).toNat : Nat)
  | _ => 0
def Fp.ceil (x : Fp) : Int := -x.neg.floor

/-- floor(log2) of a finite magnitude that is not 0. -/
def Fp.log2 : Fp → Int
  | .fin _ m e => (Nat.log2 m : Int) + e
  | _ => 0

/-! ### Correctly rounded quotients and roots -/

/-- num / den × 2^e as a value with a sticky last bit, wide enough for any rounding to 40 bits. -/
def quotient (neg : Bool) (num den : Nat) (e : Int) : Fp :=
  let k := 64 + bitLen den - bitLen num
  let n := num * 2 ^ k
  .fin neg (2 * (n / den) + (if n % den = 0 then 0 else 1)) (e - k - 1)

/-- The quotient, rounded once to FP32. -/
def Fp.div32 : Fp → Fp → Fp
  | .nan, _ => .nan
  | _, .nan => .nan
  | .inf _, .inf _ => .nan
  | .inf a, .fin b _ _ => .inf (a != b)
  | .fin a _ _, .inf b => .fin (a != b) 0 0
  | .fin a m e, .fin b n f =>
    if n = 0 then (if m = 0 then .nan else .inf (a != b))
    else if m = 0 then .fin (a != b) 0 0
    else r32 (quotient (a != b) m n (e - f))

/-- The integer square root by Newton's step from above, `fuel` steps at most. -/
def isqrtFrom (n : Nat) : Nat → Nat → Nat
  | 0, x => x
  | fuel + 1, x =>
    let y := (x + n / x) / 2
    if y < x then isqrtFrom n fuel y else x

/-- floor(sqrt n). -/
def isqrt (n : Nat) : Nat := if n = 0 then 0 else isqrtFrom n 400 (2 ^ ((bitLen n + 1) / 2))

/-- 1 / sqrt x, correctly rounded to FP32 (R149). -/
def Fp.rsqrt32 : Fp → Fp
  | .nan => .nan
  | .inf n => if n then .nan else .zero
  | .fin n m e =>
    if m = 0 then .inf n
    else if n then .nan
    else
      let (m, e) := if e % 2 = 0 then (m, e) else (2 * m, e - 1)
      let k := 40 + bitLen m
      let y := isqrt (2 ^ (2 * k) / m)
      r32 (.fin false (2 * y + (if y * y * m = 2 ^ (2 * k) then 0 else 1)) (-(e / 2) - k - 1))

/-- 2^f for f = num / 2^k in [0, 1), as a fixed-point number with 240 bits below the point: the product of the roots of 2 that the bits of f
name. -/
def pow2Bits (num : Nat) : Nat → Nat → Nat → Nat
  | 0, _, acc => acc
  | k + 1, root, acc =>
    let root := isqrt (root * 2 ^ 240)
    pow2Bits num k root (if num.testBit k then acc * root / 2 ^ 240 else acc)

/-- T(f) of R154, correctly rounded to FP32. No f that FP32 values give lies within 2⁻²⁰⁰ of a rounding boundary but 0. -/
def pow2Frac (num k : Nat) : Fp :=
  if num = 0 then .fin false 1 0 else r32 (.fin false (2 * pow2Bits num k (2 ^ 241) (2 ^ 240) + 1) (-241))

/-- The exponential of y under anchor `E`; nothing stands for NONE (R154). -/
def expAnchor (y : Fp) (E : Option Int) : Fp :=
  match y, E with
  | .nan, _ => .nan
  | .inf true, _ => .zero
  | _, none => .zero
  | .inf false, some _ => .nan
  | .fin n m e, some a =>
    let fl := (Fp.fin n m e).floor
    let k := (-e).toNat
    let num := (if 0 ≤ e then 0 else ((if n then -(m : Int) else m) % (2 ^ k : Nat)).toNat)
    r32 ((pow2Frac num k).scale (fl - a))

/-! ### Integers -/

/-- Saturate to `w` bits, signed; whether it saturated. -/
def satTo (w : Nat) (v : Int) : Int × Bool :=
  let hi : Int := 2 ^ (w - 1) - 1
  if v < -(2 ^ (w - 1) : Int) then (-(2 ^ (w - 1) : Int), true) else if hi < v then (hi, true) else (v, false)

/-- x / 2^n rounded to nearest, ties to even (R89). -/
def rshr (x : Int) (n : Nat) : Int :=
  let q := x / (2 ^ n : Nat)
  let r := 2 * (x % (2 ^ n : Nat))
  if (2 ^ n : Nat) < r ∨ (r = (2 ^ n : Nat) ∧ q % 2 = 1) then q + 1 else q

/-- The number of redundant sign bits of a `w`-bit integer; w − 1 for 0 and −1 (R91). -/
def redundant (w : Nat) (x : Int) : Nat :=
  let m := if x < 0 then (-x - 1).toNat else x.toNat
  w - 1 - bitLen m

/-- EXPX of a floating value (R91): the exponent of its leading one, −32,768 for ±0, +32,767 for infinity and NaN. -/
def fpExpx : Fp → Int
  | .nan => 32767
  | .inf _ => 32767
  | .fin _ m e => if m = 0 then -32768 else (Nat.log2 m : Int) + e

/-- The block scale of a code (R126): nothing where it is NaN. -/
def e8m0 (v : Nat) : Option Int := if v = 255 then none else some ((v : Int) - 127)

/-- x with the scale of a code applied. -/
def scaleBy (x : Fp) (code : Nat) : Fp :=
  match e8m0 code with
  | some k => x.scale k
  | none => .nan

/-- The scale exponent of an MX group by the element format (R128): nothing for a group that holds a NaN or an infinity. -/
def mxScale (f : FpFmt) (g : List Fp) : Option Int :=
  if g.any fun x => x.isNan || x.isInf then none
  else
    let a := g.foldl (fun a x => if a.lt x.abs then x.abs else a) Fp.zero
    let emax : Int := match f with | .e2m1 => 2 | .e4m3 => 8 | _ => 15
    if a.isZero then some 0 else some (max (-127) (min 127 (a.log2 - emax)))

/-- An MX group: its scale code and the element patterns (R128). -/
def mxGroup (f : FpFmt) (g : List Fp) : Nat × List Nat :=
  match mxScale f g with
  | none => (255, g.map fun _ => 0)
  | some x =>
    if g.all Fp.isZero then (127, g.map fun _ => 0)
    else ((x + 127).toNat, g.map fun v => f.encode (f.round true (v.scale (-x))))

end Sys2Proof.Machine
end

