-- ==== Sys2Proof/Machine/Mesh.lean ====
section
/-!
DEFINITION. The mesh as named operations (R12–R14, R29, R32, R34): sub-lanes and who sends on them, packets of posts and copies on their routes, and
the crossings they pass.
-/
namespace Sys2Proof.Machine

/-! ### Sub-lanes (R13, R14) -/

/-- What sub-lane `k` of an edge direction carries in the row in force. With no row in force sub-lanes 0–14 count as shared (DESIGN CHOICE, log
entry 250). -/
def State.subLane (s : State) (e dir k : Nat) : LaneClass :=
  if k = 15 then .control
  else match s.seq.active, s.row with
    | some t, some r =>
      let o := t.subOwner r e dir k
      if o = 0x40 then .shared else if o < 64 then .reserved o else .idle
    | _, _ => .shared

/-- R14: the class of sub-lanes on which a cocoon sends on an edge direction: those reserved to it if there are any, and always for cocoon 0 and a
sealed cocoon; else the shared ones. -/
def State.laneClass (s : State) (c e dir : Nat) : LaneClass :=
  if s.row.isSome && (s.sealed c || (List.range 15).any fun k => s.subLane e dir k == .reserved c) then .reserved c else .shared

/-- The sub-lanes on which it sends there. -/
def State.sendLanes (s : State) (c e dir : Nat) : List Nat := (List.range 15).filter fun k => s.subLane e dir k == s.laneClass c e dir

/-! ### Hops -/

/-- The class of a packet at a hop. A core-to-mesh crossing has no sub-lanes; each source has its own place there. -/
def State.hopClass (s : State) (p : Packet) (h : Hop) : LaneClass :=
  match h.x with
  | .edge e => s.laneClass p.source e h.dir
  | .core _ => .reserved p.source

/-- May a packet pass a hop now: the crossing is in service (R32, R34), and on an edge the source has a sub-lane? -/
def State.hopOpen (s : State) (p : Packet) (h : Hop) : Bool :=
  let k := s.crossing h.x
  !k.down && !k.resync && match h.x with
    | .edge e => !(s.sendLanes p.source e h.dir).isEmpty
    | .core _ => true

/-- The packets of a class that wait at a hop, oldest first: those in the crossing's queue, and at the first hop of a route those that a full queue
holds off (R29). -/
def State.waitingAt (s : State) (h : Hop) (c : LaneClass) : List Packet :=
  s.mesh.packets.filter fun p => p.left.head? == some h && s.hopClass p h == c

/-- Is the queue of a crossing full for a class (R29)? -/
def State.fullAt (s : State) (h : Hop) (c : LaneClass) : Bool := Nat.blt Config.crossDepth (s.waitingAt h c).length

/-- The source that shared sub-lanes of an edge direction served last. -/
def State.meshTurn (s : State) (h : Hop) : Nat := ((s.mesh.turns.find? fun t => t.1 == h).map fun t => t.2).getD 64

/-- R14: the packet that goes next at a hop: the oldest of the class; on shared sub-lanes the oldest of the source next in round robin. -/
def State.nextAt (s : State) (h : Hop) (c : LaneClass) : Option Packet :=
  let w := s.waitingAt h c
  match c with
  | .shared =>
    let rank (p : Packet) : Nat := (p.source + 64 - s.meshTurn h) % 65
    w.foldl (fun acc p => match acc with
      | none => some p
      | some q => if rank p < rank q then some p else some q) none
  | _ => w.head?

/-- A packet has passed a hop. -/
def State.passHop (s : State) (p : Packet) (h : Hop) (c : LaneClass) : State :=
  { s with mesh := { s.mesh with
      packets := s.mesh.packets.map fun q => if q.id = p.id then { q with left := q.left.tail } else q
      turns := if c = .shared then (h, p.source) :: s.mesh.turns.filter (fun t => !(t.1 == h)) else s.mesh.turns } }

/-- Move on the packet that goes next at a hop; where the queue before it is full, that queue moves first (R29). -/
def State.moveAt : Nat → State → Hop → LaneClass → State
  | 0, s, _, _ => s
  | n + 1, s, h, c =>
    match s.nextAt h c with
    | none => s
    | some p =>
      match p.left.tail.head? with
      | none => if s.hopOpen p h then s.passHop p h c else s
      | some g =>
        let s := if s.fullAt g (s.hopClass p g) then s.moveAt n g (s.hopClass p g) else s
        if s.hopOpen p h && !s.fullAt g (s.hopClass p g) then s.passHop p h c else s

/-- Move packets until the one with an id has passed every hop, or for `fuel` moves. -/
def State.travel : Nat → State → Nat → State
  | 0, s, _ => s
  | n + 1, s, id =>
    match s.mesh.packets.find? fun p => Nat.beq p.id id with
    | none => s
    | some p =>
      match p.left with
      | [] => s
      | h :: _ => (s.moveAt 24 h (s.hopClass p h)).travel n id

/-! ### Packets -/

/-- The Y40's own device id (R363). -/
def State.deviceId (s : State) : Nat := s.fld Reg.SILK.DEVICE_ID.ID

/-- The dies of an address, without its device id: of a GDDR7 address that of its channel, and that of the channel's mirror. -/
def State.diesAt (s : State) (a : Nat) : List Nat :=
  match s.region a with
  | .gddr => match s.channelOf a with
    | some (c, m) => [32 + c / 6] ++ m.elim [] fun x => [32 + x / 6]
    | none => [39]
  | .scratch n => [dieOf n]
  | .accum n => [dieOf n]
  | .coreState n => [dieOf n]
  | .cluster g _ => [g / 8]
  | _ => [39]

/-- The crossings between two dies: the core clock's of a C-die at each end, and the edges of the route between (R11). -/
def meshRoute (src dst : Nat) : List Hop :=
  if src = dst then []
  else (if src < 32 then [⟨.core src, 0⟩] else []) ++ ((route src dst).map fun e => ⟨.edge e.1, e.2⟩) ++ (if dst < 32 then [⟨.core dst, 1⟩] else [])

/-- Do all crossings between two dies accept entries? -/
def State.meshUp (s : State) (src dst : Nat) : Bool :=
  (meshRoute src dst).all fun h => !(s.crossing h.x).down && !(s.crossing h.x).resync

/-- Does what a packet brings still wait for it? -/
def State.cargoLives (s : State) : Cargo → Bool
  | .post id => s.posts.any fun p => Nat.beq p.id id
  | .copy n id => (s.core n).copies.any fun x => Nat.beq x.id id

/-- An entry is absorbed (R32, R34): a post is discarded; a copy completes with KIND 0x05, which faults no job (R380). -/
def State.absorb (s : State) : Cargo → State
  | .post id => { s with posts := s.posts.filter fun p => !Nat.beq p.id id }
  | .copy n id => s.setCore n { s.core n with copies := (s.core n).copies.filter fun x => !Nat.beq x.id id }

/-- Packets whose cargo waits no more leave the mesh. -/
def State.sweepMesh (s : State) : State := { s with mesh := { s.mesh with packets := s.mesh.packets.filter fun p => s.cargoLives p.cargo } }

/-- The packets that a test picks are absorbed. -/
def State.absorbPackets (s : State) (pick : Packet → Bool) : State :=
  ((s.mesh.packets.filter pick).foldl (fun s p => s.absorb p.cargo) s).sweepMesh

/-- A packet is issued; one whose route has a crossing that is down is absorbed (R32). -/
def State.issuePacket (s : State) (src dst source : Nat) (cargo : Cargo) : State :=
  let r := meshRoute src dst
  if r.isEmpty then s
  else if r.any fun h => (s.crossing h.x).down then s.absorb cargo
  else { s with mesh := { s.mesh with packets := s.mesh.packets ++ [⟨s.mesh.nextId, src, dst, source, r, r, cargo⟩], nextId := s.mesh.nextId + 1 } }

/-- The classes of a packet on the edges of its route (R12). -/
def State.lanesOf (s : State) (p : Packet) : List LaneClass :=
  (p.route.filter fun h => match h.x with | .edge _ => true | .core _ => false).map (s.hopClass p)

/-- Was a packet issued before others of the same dies and class, which so must arrive first (R12)? -/
def State.isAhead (s : State) (q p : Packet) : Bool :=
  Nat.blt q.id p.id && q.cargo != p.cargo && Nat.beq q.src p.src && Nat.beq q.dst p.dst && s.lanesOf q == s.lanesOf p

/-- The packets of a cargo arrive, if none issued before them in their class is still under way (R12) and the mesh lets them pass; true where they
have arrived, or where the cargo crosses no die. -/
def State.meshArrive (s : State) (cargo : Cargo) : State × Bool :=
  let mine := s.mesh.packets.filter fun p => p.cargo == cargo
  if mine.any fun p => s.mesh.packets.any fun q => s.isAhead q p then (s, false)
  else
    let fuel := (s.mesh.packets.map fun p => p.left.length).sum + 1
    let s := mine.foldl (fun s p => s.travel fuel p.id) s
    if s.mesh.packets.any fun p => p.cargo == cargo && !p.left.isEmpty then (s, false)
    else ({ s with mesh := { s.mesh with packets := s.mesh.packets.filter fun p => !(p.cargo == cargo) } }, true)

/-! ### Posts and copies -/

/-- The core in whose stores an address lies, 2,048 for none. -/
def State.coreAt (s : State) (a : Nat) : Nat :=
  match s.region (localOf a) with
  | .scratch n => n
  | .accum n => n
  | _ => 2048

/-- R97: have the poster's earlier copies to the post's core landed? -/
def State.postFree (s : State) (p : Post) : Bool :=
  !(s.core p.src).copies.any fun x => Nat.blt x.id p.after && Nat.beq (s.coreAt x.dst) p.dst && Nat.beq (deviceOf x.dst) s.deviceId

/-- The posts that no copy holds back any more are issued. -/
def State.issuePosts (s : State) : State :=
  let s := s.sweepMesh
  s.posts.foldl (fun s p =>
    if s.postFree p && !s.mesh.packets.any fun q => q.cargo == .post p.id then s.issuePacket (dieOf p.src) (dieOf p.dst) p.cocoon (.post p.id) else s) s

/-- The pairs of dies between which the bytes of a copy inside this device travel. -/
def State.copyDies (s : State) (x : CopyOp) : List (Nat × Nat) :=
  let a := localOf x.src
  let b := localOf x.dst
  let at_ := ((granules a x.len).map fun g => g - a) ++ (granules b x.len).map fun g => g - b
  (at_.flatMap fun o => ((s.diesAt (a + o)).take 1).flatMap fun d => (s.diesAt (b + o)).map fun e => (d, e)).eraseDups

/-- The data of a core's copy inside this device is issued. -/
def State.issueCopy (s : State) (n : Nat) (x : CopyOp) : State :=
  if deviceOf x.src = s.deviceId ∧ deviceOf x.dst = s.deviceId then
    (s.copyDies x).foldl (fun s d => if (s.core n).copies.any fun y => Nat.beq y.id x.id then s.issuePacket d.1 d.2 (s.fld (coreOwnerFld n)) (.copy n x.id) else s) s
  else s

end Sys2Proof.Machine
end

