-- ==== Sys2Proof/Machine/CoreOps.lean ====
section
/-!
DEFINITION. A compute core as named operations: registers of the core-state window with their landing times (R79–R81), the writes of its units
and their signature (R431), the sequencer's issue with delay slots and repeats (R82–R84), and firing (R93–R97).
-/
namespace Sys2Proof.Machine

/-! ### Landing results (R80, R81) -/

/-- Apply one landing; a word written whole is poisoned no longer (R107). -/
def State.applyLanding (s : State) (n : Nat) (l : Landing) : State :=
  (s.wrBytes (cwBase n + l.off) l.bytes).healSram (cwBase n + l.off) (l.bytes.length / 8 * 8)

/-- Apply the landings visible in the core's present cycle, in order of landing. -/
def State.land (s : State) (n : Nat) : State :=
  let c := s.core n
  let s := (c.landings.filter fun l => Nat.ble l.due c.cycle).foldl (fun s l => s.applyLanding n l) s
  s.setCore n { c with landings := c.landings.filter fun l => !Nat.ble l.due c.cycle }

/-- Let every pending result land, as the pipeline drains (R85). -/
def State.landAll (s : State) (n : Nat) : State :=
  let c := s.core n
  let s := c.landings.foldl (fun s l => s.applyLanding n l) s
  s.setCore n { c with landings := [] }

/-- Schedule bytes at an offset of the core-state window to be visible `lat` cycles after the present issue. -/
def State.after (s : State) (n lat off : Nat) (b : List Byte) : State :=
  let c := s.core n
  s.setCore n { c with landings := insertBy (fun x y => Nat.ble x.due y.due) ⟨c.cycle + lat, off, b⟩ c.landings }

/-! ### Registers -/

def scalarOff (k : Nat) : Nat := 0xA400 + 4 * (k % 32)
def vectorOff (v : Nat) : Nat := 0xB000 + 256 * (v % 16)
def agOff (g : Nat) : Nat := 0xA480 + 16 * (g % 8)

/-- A scalar register's visible value. -/
def State.scalar (s : State) (n k : Nat) : Nat := s.rd (cwBase n + scalarOff k) 4
/-- Schedule a scalar result. -/
def State.setScalar (s : State) (n lat k v : Nat) : State := s.after n lat (scalarOff k) (leBytes 4 v)
/-- The second operand of a scalar instruction. -/
def State.srcVal (s : State) (n : Nat) : Src → Nat
  | .reg k => s.scalar n k
  | .imm w => w.toNat

/-! ### Writes of a core's units and their signature (R431) -/

/-- One bit of the CRC-64 with the ECMA-182 polynomial. -/
def crc64Bit (c : Word64) : Word64 := if c.getLsbD 63 then (c <<< 1) ^^^ 0x42F0E1EBA9EA3693#64 else c <<< 1

/-- CRC-64 of a list of bytes: initial value all ones, result inverted. -/
def crc64 (l : List Byte) : Word64 :=
  ~~~(l.foldl (fun (c : Word64) b =>
    let x := c ^^^ ((b.setWidth 64 : Word64) <<< 56)
    crc64Bit (crc64Bit (crc64Bit (crc64Bit (crc64Bit (crc64Bit (crc64Bit (crc64Bit x)))))))) 0xFFFFFFFFFFFFFFFF#64)

/-- The address under which a write enters the signature of core `n`. -/
def sigAddr (n a : Nat) : Nat :=
  if spBase n ≤ a ∧ a < spBase n + 0x200000 then a - spBase n
  else if accBase n ≤ a ∧ a < accBase n + 0x40000 then a - accBase n
  else localOf a

/-- Add a write of core `n` to its signature: one record per aligned 16 bytes touched. -/
def State.signWrite (s : State) (n a : Nat) (data : Nat → List Byte) (len : Nat) : State :=
  match s.pairOf (s.fld (coreOwnerFld n)) with
  | none => s
  | some _ =>
    if len = 0 then s
    else
      let blocks := (List.range ((a + len - 1) / 16 - a / 16 + 1)).map fun i => (a / 16 + i) * 16
      let sum := blocks.foldl (fun (t : Word64) b => t + crc64 (leBytes 8 (sigAddr n b) ++ data b)) (s.core n).sig
      s.setCore n { s.core n with sig := sum }

/-- A unit of core `n` writes bytes to local memory; false where a GDDR7 write is discarded. -/
def State.coreWrite (s : State) (n a : Nat) (b : List Byte) : State × Bool :=
  let (s, ok) := s.store a b
  (s.signWrite n a (fun x => s.rdBytes x 16) b.length, ok)

/-- A unit of core `n` writes to its own stores. -/
def State.ownWrite (s : State) (n a : Nat) (b : List Byte) : State := (s.coreWrite n a b).1

/-! ### The sequencer (R82–R85) -/

/-- Entry `i` of the repeat stack: start, end, remaining count. -/
def State.repeatEntry (s : State) (n i : Nat) : Nat × Nat × Nat :=
  (s.rd (repeatAddr n i) 2, s.rd (repeatAddr n i + 2) 2, s.rd (repeatAddr n i + 4) 4)

def State.setRepeat (s : State) (n i first last count : Nat) : State :=
  ((s.wr (repeatAddr n i) 2 first).wr (repeatAddr n i + 2) 2 last).wr (repeatAddr n i + 4) 4 count

/-- How many repeats are active. -/
def State.repeatDepth (s : State) (n : Nat) : Nat :=
  ((List.range 4).takeWhile fun i => !Nat.beq (s.repeatEntry n i).2.2 0).length

def State.pc (s : State) (n : Nat) : Nat := s.rd (pcAddr n) 2 % 4096
def State.setPc (s : State) (n v : Nat) : State := s.wr (pcAddr n) 4 (v % 4096)

/-- The pending signals of a core. -/
def State.signals (s : State) (n : Nat) : Nat := s.rd (signalAddr n) 4 % 8

/-- Does the sequencer run a routine or a handler? -/
def Core.sequencing (c : Core) : Bool := c.handler.isSome || c.routine.any fun r => !r.ended

/-- At a signal point (R84): the last instruction left one, or no routine runs; never inside a handler, which holds signals off (R85). -/
def Core.atPoint (c : Core) : Bool := c.handler.isNone && (c.point || !c.sequencing)

/-- May the next instruction issue: a routine or handler runs, and no pending signal is to be taken first? -/
def State.canIssue (s : State) (n : Nat) : Bool :=
  (s.core n).sequencing && !((s.core n).atPoint && !Nat.beq (s.signals n) 0)

/-- Past the end of repeat bodies: the program counter after the instruction at `pc`, and whether an outermost repeat has ended. -/
def State.afterBody (s : State) (n pc : Nat) : Nat → State × Nat × Bool
  | 0 => (s, pc + 1, false)
  | d + 1 =>
    let e := s.repeatEntry n d
    if e.2.1 = pc then
      if 1 < e.2.2 then (s.setRepeat n d e.1 e.2.1 (e.2.2 - 1), e.1, false)
      else
        let s := s.setRepeat n d 0 0 0
        if d = 0 then (s, pc + 1, true) else s.afterBody n pc d
    else (s, pc + 1, false)

/-- The cycle of an instruction ends: the program counter moves on, through delay slots (R82) and repeat bodies (R83). -/
def State.advance (s : State) (n : Nat) (slots : Option (Nat × Option Nat)) : State :=
  let pc := s.pc n
  let tick (s : State) (p : Bool) (d : Option (Nat × Option Nat)) : State :=
    s.setCore n { s.core n with cycle := (s.core n).cycle + 1, point := p, delay := d }
  match slots with
  | some (1, t) => tick (s.setPc n (t.getD (pc + 1))) false none
  | some (k + 1, t) => tick (s.setPc n (pc + 1)) false (some (k, t))
  | some (0, _) => tick (s.setPc n (pc + 1)) false none
  | none =>
    let d := (s.core n).delay
    let (s, p, top) := s.afterBody n pc (s.repeatDepth n)
    tick (s.setPc n p) top d

/-- The slot of the routine that runs, for the fault record. -/
def Core.routineSlot (c : Core) : Nat := (c.routine.map fun r => r.slot).getD 0

/-- An instruction's fault. -/
def State.instrFault (s : State) (n code : Nat) : State := s.faultRun n code (s.core n).routineSlot

/-- Issue one instruction that reads the registers `reads` (offset in the core-state window, length): its effect, or SRAM_UE where one of their words
is poisoned (R107). -/
def State.instr (s : State) (n : Nat) (reads : List (Nat × Nat)) (f : State → State) : State :=
  if s.canIssue n then
    let s := s.land n
    let slots := (s.core n).delay
    let ue := reads.any fun r => !(s.sramHits (cwBase n + r.1) r.2 2).isEmpty
    let s := reads.foldl (fun s r => s.scrubSram (cwBase n + r.1) r.2) s
    (if ue then s.instrFault n faultSramUe else f s).advance n slots
  else s

/-- Is the present instruction one of the last three of an active repeat body? -/
def State.lastThree (s : State) (n : Nat) : Bool :=
  (List.range (s.repeatDepth n)).any fun i =>
    let e := s.repeatEntry n i
    Nat.ble (s.pc n) e.2.1 && Nat.ble e.2.1 (s.pc n + 2)

/-! ### Firing (R93–R97) -/

/-- The count and STALE flag that a condition word names (R94). -/
def State.condCount (s : State) (n w : Nat) : Nat × Bool :=
  if w.testBit 8 then
    let v := s.rd (counterAddr n (w % 128)) 4
    (v % 65536, v.testBit 31)
  else (s.rd (tokenAddr n (w % 256)) 2, false)

/-- Does a condition word hold? One that does not take part does. -/
def State.condHolds (s : State) (n w : Nat) : Bool :=
  if w.testBit 9 then
    let (v, stale) := s.condCount n w
    Nat.ble (w / 65536) v && !stale
  else true

/-- The descriptor of a slot, its condition words and its post words. -/
def State.slotDesc (s : State) (n slot : Nat) : List Byte := s.rdBytes (slotAddr n (slot % 256)) 32
def condWords (d : List Byte) : List Nat := [4, 8, 12, 16].map fun o => fieldAt d o 4
def postWords (d : List Byte) : List Nat := [20, 24].map fun o => fieldAt d o 4
def descUnit (d : List Byte) : Nat := fieldAt d 0 1 % 16
/-- Scratchpad offset of the parameter block. -/
def descParam (d : List Byte) : Nat := fieldAt d 2 2 * 32

/-- Reserved values and bits of a descriptor (R94). -/
def descOk (d : List Byte) : Bool :=
  Nat.ble 1 (descUnit d) && Nat.ble (descUnit d) 5 && Nat.beq (bitsOf (fieldAt d 0 1) 4 3) 0 && Nat.beq (fieldAt d 1 1) 0 &&
    Nat.beq (fieldAt d 28 4) 0 &&
    ((condWords d).all fun w => Nat.beq (bitsOf w 11 5) 0 &&
      (!w.testBit 9 || (!Nat.beq (w / 65536) 0 && (!w.testBit 8 || Nat.blt (w % 256) 128)))) &&
    ((postWords d).all fun w => Nat.beq (bitsOf w 27 3) 0 && (!w.testBit 31 || !Nat.beq (bitsOf w 8 8) 0))

/-- Can the unit accept an operation (R95, R117)? A vector routine of the sequencer holds the vector engine (R92). -/
def Core.accepts (c : Core) (unit : Nat) : Bool :=
  match unit with
  | 1 => c.array.isNone
  | 2 => c.vector.isNone && !c.vecHeld
  | 3 => Nat.blt c.copies.length 16
  | 4 => c.routine.isNone && c.handler.isNone
  | 5 => Nat.blt c.remotes.length 256
  | _ => true

/-- Does the slot's operation need the unit? -/
def State.wants (s : State) (n slot unit : Nat) : Bool := Nat.beq (descUnit (s.slotDesc n slot)) unit

/-- How often a slot has fired in the stride. -/
def Core.firedCount (c : Core) (slot : Nat) : Nat := (c.fired.filter fun x => Nat.beq x.1 slot).length

/-- R428: in replay mode the n-th firing of a slot waits for lower slots of its unit to have fired n times and higher ones n − 1 times. -/
def State.replayTurn (s : State) (n slot unit : Nat) : Bool :=
  match s.runOn n with
  | none => true
  | some r =>
    if r.replay then
      let c := s.core n
      let k := c.firedCount slot
      (List.range 256).all fun i => Nat.beq i slot || !s.wants n i unit || Nat.ble (if i < slot then k + 1 else k) (c.firedCount i)
    else true

/-- R95: is the slot ready? -/
def State.ready (s : State) (n slot unit : Nat) : Bool :=
  let c := s.core n
  let d := s.slotDesc n slot
  let free := (condWords d).all fun w => !w.testBit 9
  Nat.blt slot 256 && s.wants n slot unit && !Nat.beq unit 0 && c.accepts unit && !c.faulted && Nat.beq (s.coreState n) 2 &&
    (condWords d).all (s.condHolds n) && !(free && c.firedOnce.contains slot) && s.replayTurn n slot unit &&
    c.eligible.any fun t => Nat.ble t s.now

/-- The count that a condition word which takes part and consumes names: its source and index. -/
def consumed (w : Nat) : Option (Bool × Nat) :=
  if w.testBit 9 && w.testBit 10 then some (w.testBit 8, if w.testBit 8 then w % 128 else w % 256) else none

/-- R101: do two ready slots share a consuming condition whose count can feed only one? -/
def State.contend (s : State) (n i k : Nat) : Bool :=
  (condWords (s.slotDesc n i)).any fun v => (condWords (s.slotDesc n k)).any fun w =>
    (consumed v).isSome && consumed v == consumed w && Nat.blt (s.condCount n w).1 (v / 65536 + w / 65536)

/-- R96, R101: the slot is the lowest ready one of its unit, and no lower ready slot of another unit takes a count from it. -/
def State.fires (s : State) (n slot unit : Nat) : Bool :=
  s.ready n slot unit && !((List.range slot).any fun i => s.ready n i unit || (s.ready n i (descUnit (s.slotDesc n i)) && s.contend n i slot))

/-- The words of the counts that a slot's conditions read: address and length. -/
def condReads (n : Nat) (d : List Byte) : List (Nat × Nat) :=
  ((condWords d).filter fun w => w.testBit 9).map fun w => if w.testBit 8 then (counterAddr n (w % 128), 4) else (tokenAddr n (w % 256), 2)

/-- Firing: consuming conditions take their thresholds, a ONESHOT slot empties, a slot without conditions has fired. Where two conditions of the slot
consume one count that holds less than both thresholds, the count ends at 0 (DESIGN CHOICE, log entry 216). -/
def State.consume (s : State) (n slot : Nat) (d : List Byte) : State :=
  let s := (condWords d).foldl (fun s w =>
    if w.testBit 9 && w.testBit 10 then
      if w.testBit 8 then
        let a := counterAddr n (w % 128)
        s.wr a 2 (s.rd a 2 - w / 65536)
      else
        let a := tokenAddr n (w % 256)
        s.wr a 2 (s.rd a 2 - w / 65536)
    else s) s
  let s := if (fieldAt d 0 1).testBit 7 then s.setMem (s.mem.clear (slotAddr n slot) 32) else s
  let c := s.core n
  s.setCore n { c with fired := (slot, descUnit d) :: c.fired
                       firedOnce := if (condWords d).all (fun w => !w.testBit 9) then slot :: c.firedOnce else c.firedOnce }

/-- R94–R96: a slot fires its operation `start` on a parameter block of `len` bytes that passes `check`; the descriptor's checks come first. A ready slot
with a reserved UNIT faults under any firing command. -/
def State.fire (s : State) (n slot unit len : Nat) (check : List Byte → Bool) (start : State → List Nat → List Byte → State) : State :=
  let d := s.slotDesc n slot
  if Nat.ble 6 (descUnit d) && s.ready n slot (descUnit d) then s.faultRun n faultDescriptor slot
  else if !s.fires n slot unit then s
  else
    let a := spBase n + descParam d
    if s.bad (slotAddr n slot) 32 then (s.scrubRead (slotAddr n slot) 32).faultRun n faultSramUe slot
    else if (condReads n d).any (fun r => !(s.sramHits r.1 r.2 2).isEmpty) then ((condReads n d).foldl (fun s r => s.scrubSram r.1 r.2) s).faultRun n faultSramUe slot
    else if !descOk d || Nat.blt 0x200000 (descParam d + len) then s.faultRun n faultDescriptor slot
    else if s.bad a len then (s.scrubRead a len).faultRun n faultSramUe slot
    else
      let b := s.rdBytes a len
      if !check b then s.faultRun n faultDescriptor slot
      else
        let s := (condReads n d).foldl (fun s r => s.scrubSram r.1 r.2) ((s.scrubRead (slotAddr n slot) 32).scrubRead a len)
        start (s.consume n slot d) (postWords d) b

/-- A post to another core goes on its way. -/
def State.sendPost (s : State) (p : Post) : State :=
  { s with posts := s.posts ++ [p], mesh := { s.mesh with nextId := s.mesh.nextId + 1 } }.issuePosts

/-- Apply a valid post word of core `n` (R94, R97). A post to a core its cocoon does not hold is discarded and the job faults. -/
def State.applyPost (s : State) (n slot w : Nat) : State :=
  if !w.testBit 31 then s
  else if w.testBit 30 then s.post n (w % 256) (bitsOf w 8 8) slot
  else
    let t := bitsOf w 16 11
    let c := s.fld (coreOwnerFld n)
    if t = n then s.post n (w % 256) (bitsOf w 8 8) slot
    else if s.holdsCore c t then s.sendPost ⟨s.mesh.nextId, n, t, w % 256, bitsOf w 8 8, c, slot, (s.core n).nextId⟩
    else s.faultRun n faultAccess slot

/-- An operation's posts apply, unless its job has faulted (R97, R111). -/
def State.applyPosts (s : State) (n slot : Nat) (posts : List Nat) : State :=
  if (s.core n).faulted then s else posts.foldl (fun s w => s.applyPost n slot w) s

end Sys2Proof.Machine
end

