-- ==== Sys2Proof/Machine/SilkOps.lean ====
section
/-!
DEFINITION. The fabric as named operations: the image in force with its routes and peer lists (R364, R366, R373), what a job may reach (R20,
R21, R340, R382), memory operations at their target (R372) and the ends of remote operations at their issuer (R374, R380).
-/
namespace Sys2Proof.Machine

/-! ### The fabric image (R364, R366) -/

/-- The routing entry of a device id: that of the image in force, with VALID 0 before the first image and while the device is expelled (R419). -/
def State.routeWord (s : State) (t : Nat) : Nat :=
  let w := fieldAt s.silk.fabric (fabOff s.silk.fabric 0 + 4 * t) 4
  if s.pod.expelled.contains t then putBits w 31 1 0 else w

/-- Is a link ACTIVE or DEGRADED? -/
def State.linkGood (s : State) (l : Nat) : Bool := [2, 3].contains (s.fld (Reg.SILK_LINK.STATE.STATE l))

/-- Does a link lead to an expelled device? It carries only service 0 (R419). -/
def State.toExpelled (s : State) (l : Nat) : Bool := s.pod.expelled.contains (s.fld (Reg.SILK_LINK.NEIGHBOUR.ID l))

/-- The usable links of a link group. -/
def State.groupLinks (s : State) (g : Nat) : List Nat :=
  let at_ := fabOff s.silk.fabric 1 + 16 * g
  if (fieldAt s.silk.fabric (at_ + 10) 1).testBit 0 then
    (List.range 64).filter fun l => (fieldAt s.silk.fabric at_ 8).testBit l && s.linkGood l && !s.toExpelled l
  else []

/-- A link to a held device with a low link score, which leaves route selection while another is usable (R420). -/
def State.weakLink (s : State) (l : Nat) : Bool :=
  let x := s.fld (Reg.SILK_LINK.NEIGHBOUR.ID l)
  s.pod.held.contains x && Nat.ble (s.linkScore x) (s.fld Reg.POD.CFG.SUSPECT_THR)

/-- The links on which a packet of this device may leave for another: those of the primary group, else of the alternate one (R366); none while
this device is expelled (R419). -/
def State.usableLinks (s : State) (t : Nat) : List Nat :=
  let w := s.routeWord t
  if !w.testBit 31 || Nat.beq (s.fld Reg.POD.STATE.STATE) 1 then []
  else
    let a := s.groupLinks (w % 64)
    let b := if w.testBit 14 then s.groupLinks (w / 256 % 64) else []
    let strong (l : List Nat) : List Nat := l.filter fun x => !s.weakLink x
    if !(strong a).isEmpty then strong a
    else if !(strong b).isEmpty then strong b
    else if !a.isEmpty then a else b

def State.routable (s : State) (t : Nat) : Bool := !(s.usableLinks t).isEmpty

/-- Does the peer list of local cocoon `c` hold device `d` with cocoon `x` (R373)? -/
def State.isPeer (s : State) (c d x : Nat) : Bool :=
  (List.range 256).any fun i =>
    let w := fieldAt s.silk.fabric (fabOff s.silk.fabric 5 + 1024 * c + 4 * i) 4
    w.testBit 31 && Nat.beq (w % 65536) d && Nat.beq (w / 65536 % 64) x

/-- Is a device quarantined for a cocoon (R424)? -/
def State.quarantined (s : State) (c d : Nat) : Bool := (s.cocoon c).quar.contains d

/-! ### What a job reaches (R20, R21, R382) -/

/-- Is the target's core, if it is one, neither in handover nor being saved nor restored? -/
def State.open_ (s : State) (a : Nat) : Bool :=
  match s.region a with
  | .scratch n => ! [1, 5, 6].contains (s.coreState n)
  | .accum n => ! [1, 5, 6].contains (s.coreState n)
  | _ => true

/-- The function through whose tables a core's job reaches the host window: its command's, or its cocoon's own. -/
def State.jobFn (s : State) (n : Nat) : Option Nat :=
  match (s.runOn n).bind fun r => r.cmd with
  | some c => some c.fn
  | none =>
    let c := s.fld (coreOwnerFld n)
    if c = 0 then some 257 else if c = 1 then some 256 else none

/-- May a job on core `n` access [a, a + len) of the device-local address space now? -/
def State.jobReaches (s : State) (n a len : Nat) : Bool :=
  match s.region a with
  | .host => Nat.ble (a + len) (2 ^ 48) && (s.jobFn n).isSome
  | _ => s.owns (s.fld (coreOwnerFld n)) a len && s.open_ a

/-- May it write there (R182)? -/
def State.jobWrites (s : State) (n a len : Nat) : Bool := s.jobReaches n a len && !s.meetsCtx (s.fld (coreOwnerFld n)) a len

/-- Has the job's cocoon the slots that a GDDR7 range needs (R340)? -/
def State.jobSlots (s : State) (n a len : Nat) : Bool :=
  match s.region a with
  | .gddr => s.slotsFor (s.fld (coreOwnerFld n)) a len
  | _ => true

/-- Increase an arrival counter, with STALE if the data was stale (R93, R99, R100). -/
def State.arrive (s : State) (n ctr inc : Nat) (stale : Bool) (slot : Nat) : State :=
  let a := counterAddr n ctr
  let v := s.rd a 2 + inc
  if !(s.sramHits a 4 2).isEmpty then (s.scrubSram a 4).faultRun n faultSramUe slot
  else
  let s := s.scrubSram a 4
  let s := if stale then s.wr a 4 (putBits (s.rd a 4) 31 1 1) else s
  if 65535 < v then (s.wr a 2 65535).faultRun n faultTokenOverflow slot else s.wr a 2 v

/-! ### Memory operations at their target (R372) -/

/-- The operations of R372. -/
def opLoad : Nat := 0x01
def opStore : Nat := 0x02
def opAtomic (op : Nat) : Bool := Nat.ble 0x10 op && Nat.ble op 0x16

/-- The word an atomic leaves, from the old one. -/
def atomicNew (op size old operand compare : Nat) : Nat :=
  let w := 8 * size
  match op with
  | 0x10 => (old + operand) % 2 ^ w
  | 0x11 => operand % 2 ^ w
  | 0x12 => if old = compare then operand % 2 ^ w else old
  | 0x13 => if toSigned w operand < toSigned w old then operand % 2 ^ w else old
  | 0x14 => if toSigned w old < toSigned w operand then operand % 2 ^ w else old
  | 0x15 => min old (operand % 2 ^ w)
  | _ => max old (operand % 2 ^ w)

/-- Perform an operation on local memory through `write`: the value it returns, or nothing where the data is uncorrected. -/
def State.perform (s : State) (write : State → Nat → List Byte → State) (op a size : Nat) (data compare : List Byte) : State × Option (List Byte) :=
  if op = opStore then (write s a (slice data 0 size), some [])
  else if s.bad a size then (s.scrubRead a size, none)
  else
    let old := s.rdBytes a size
    let s := s.scrubRead a size
    if op = opLoad then (s, some old)
    else (write s a (leBytes size (atomicNew op size (leNat old) (leNat data) (leNat compare))), some old)

/-! ### Ends of a remote operation (R374, R380) -/

/-- The fault of the issuing job for an error KIND; KIND 0x05 has none. -/
def kindFault (kind : Nat) : Option Nat :=
  match kind with
  | 1 => some faultDeadTarget
  | 2 => some faultDeadTarget
  | 3 => some faultAccess
  | 4 => some faultSramUe
  | 6 => some faultAccess
  | _ => none

/-- An operation ended with KIND 0x01 or 0x02 (R384). -/
def State.noteDead (s : State) (kind : Nat) : State := if kind = 1 ∨ kind = 2 then s.raiseErr Reg.SILK.ERR.DEAD_TARGET else s

/-- Does the core's run replay (R427)? -/
def State.replays (s : State) (n : Nat) : Bool := (s.runOn n).any fun r => r.replay

/-- A remote operation succeeds: result, STATUS, counter, posts. In replay mode LOCAL takes 0 for the old value (R429). -/
def State.remoteOk (s : State) (n : Nat) (r : RemoteOp) (data : List Byte) : State :=
  let data := if s.replays n && opAtomic r.op then [] else data
  let s := if r.op = opStore then s else s.ownWrite n (spBase n + r.local_) (slice data 0 r.size)
  let s := s.ownWrite n (spBase n + r.status) (leBytes 4 1)
  (s.arrive n r.ctr r.inc false r.slot).applyPosts n r.slot r.posts

/-- A remote operation ends with an error KIND. -/
def State.remoteErr (s : State) (n : Nat) (r : RemoteOp) (kind : Nat) : State :=
  let s := if r.op = opStore then s else s.ownWrite n (spBase n + r.local_) (List.replicate r.size 0xFF#8)
  let s := (s.ownWrite n (spBase n + r.status) (leBytes 4 (3 + 256 * kind))).noteDead kind
  match kindFault kind with
  | some f => s.faultRun n f r.slot
  | none => s

/-- A copy to or from a quarantined device ends: KIND 0x02, DEAD_TARGET (R424). -/
def State.quarantineEnd (s : State) (n slot : Nat) : State := (s.noteDead 2).faultRun n faultDeadTarget slot

/-- The time at which an operation issued now reaches its dead-target bound (R379). -/
def State.deadAt (s : State) : Nat := s.mono + 1000 * s.fld Reg.SILK.DEAD_US.US

end Sys2Proof.Machine
end

