-- ==== Sys2Proof/Machine/Staido.lean ====
section
/-!
DEFINITION. The Staido host link's commands (R386–R412): halves and lanes, arbitration towards the host, doorbells, queues and rings, vectors,
translation caches, detach, removal and attach.
-/
namespace Sys2Proof.Machine

/-- Does the Staido link carry a function's transactions (R404, R440)? -/
def State.serves (s : State) (fn : Nat) : Bool :=
  s.linkUp && (Nat.beq (s.fld Reg.BOOT.STATE.INSTAR) 5 || Nat.beq fn 256)

/-! ### Lanes and halves (R386–R388) -/

/-- Is a half up: both of its lanes in lock? -/
def State.halfUp (s : State) (h : Nat) : Bool := Nat.beq (bitsOf (s.fld Reg.STAIDO.LANES.UP) (2 * h) 2) 3

/-- Set both lanes of a half, and RATE. -/
def State.setHalf (s : State) (h : Nat) (up : Bool) : State :=
  let s := s.setFld Reg.STAIDO.LANES.UP (putBits (s.fld Reg.STAIDO.LANES.UP) (2 * h) 2 (if up then 3 else 0))
  s.setFld Reg.STAIDO.RATE.GBPS ((if s.halfUp 0 then 800 else 0) + if s.halfUp 1 then 800 else 0)

def State.lane (s : State) (l : Nat) : Retry := Assoc.findD l Retry.fresh s.staido.lanes
def State.setLane (s : State) (l : Nat) (k : Retry) : State :=
  { s with staido := { s.staido with lanes := Assoc.put l k s.staido.lanes } }

/-- A half goes down: its unacknowledged flits are replayed on the other half (R387). -/
def State.halfFails (s : State) (h : Nat) : State :=
  if s.halfUp h && s.linkUp then
    let n := (s.lane (2 * h)).unacked + (s.lane (2 * h + 1)).unacked
    let s := ((s.setHalf h false).setLane (2 * h) Retry.fresh).setLane (2 * h + 1) Retry.fresh
    if s.halfUp (1 - h) then
      let o := 2 * (1 - h)
      let s := (s.setLane o ((s.lane o).sent n)).countSat Reg.STAIDO.REPLAYS.COUNT n
      let s := (s.countSat Reg.STAIDO.HALF_SWITCHES.COUNT 1).raiseErr Reg.STAIDO.ERR.HALF_DOWN
      if s.fld Reg.STAIDO.STATE.STATE = 2 then s.enter Reg.STAIDO.STATE.STATE 3 else s
    else s
  else s

/-- R387: a lane of an up half loses lock or fails retry. -/
def execHalfDown (half : Nat) (s : State) : Answer := .next (s.halfFails half)

/-- R387: a retrained half rejoins at a flit boundary. -/
def halfRejoinStep (half : Nat) (s : State) : State :=
  if s.linkUp && Nat.blt half 2 && !s.halfUp half then
    let s := s.setHalf half true
    if s.fld Reg.STAIDO.STATE.STATE = 3 && s.halfUp 0 && s.halfUp 1 then s.enter Reg.STAIDO.STATE.STATE 2 else s
  else s

def execHalfRejoin (half : Nat) (s : State) : Answer := .next (halfRejoinStep half s)

/-- R388: a flit is received on a lane; a lane that fails its retry takes its half down (R387). -/
def staidoFlitStep (lane : Nat) (fecOk crcOk : Bool) (seq ack : Nat) (nak : Bool) (s : State) : State :=
  if Nat.blt lane 4 && s.linkUp && s.halfUp (lane / 2) then
    let s := if fecOk then s else s.countSat Reg.STAIDO.FEC_UNCORR.COUNT 1
    let (k, e) := (s.lane lane).receive fecOk crcOk seq ack nak
    let s := s.setLane lane k
    let s := if e.replayed then s.countSat Reg.STAIDO.REPLAYS.COUNT 1 else s
    if e.failed then s.halfFails (lane / 2) else s
  else s

def execStaidoFlitReceive (lane : Nat) (fecOk crcOk : Bool) (seq ack : Nat) (nak : Bool) (s : State) : Answer :=
  .next (staidoFlitStep lane fecOk crcOk seq ack nak s)

/-! ### Arbitration of the Staido link (R388, R392) -/

/-- Data bytes of a transaction, and its flits: one for each 256 bytes begun, at least one. -/
def HostTxn.dataLen : HostTxn → Nat
  | .memWr _ b => b.length
  | .atomicOr _ _ => 8
  | .memRd _ _ _ => 0
  | .signal _ => 0
def HostTxn.flits (t : HostTxn) : Nat := max 1 ((t.dataLen + 255) / 256)

/-- The oldest transaction of a function. -/
def headOf (fn : Nat) (q : List (Nat × HostTxn)) : Option HostTxn := (q.find? fun x => Nat.beq x.1 fn).map fun x => x.2

/-- The queue without the oldest transaction of a function. -/
def dropHead (fn : Nat) : List (Nat × HostTxn) → List (Nat × HostTxn)
  | [] => []
  | x :: r => if x.1 = fn then r else x :: dropHead fn r

/-- The tenant function that the deficit round robin serves, from the turn on, with the deficits: a visit adds WEIGHT × 4,096 bytes once, and a
function with nothing to send loses what it had. -/
def State.serveTenant (s : State) : Nat → State × Option Nat
  | 0 => (s, none)
  | fuel + 1 =>
    let f := s.staido.turn % 256
    let next : State := { s with staido := { s.staido with turn := (f + 1) % 256, visiting := false } }
    match headOf f s.staido.queue with
    | none => (if (s.fn f).deficit = 0 then next else next.setFn f { s.fn f with deficit := 0 }).serveTenant fuel
    | some t =>
      let k := s.fn f
      let d := if s.staido.visiting then k.deficit else k.deficit + 4096 * s.fld (Reg.FN.FN_CFG.WEIGHT f)
      let n := 256 * t.flits
      if n ≤ d then (({ s with staido := { s.staido with visiting := true } }).setFn f { k with deficit := d - n }, some f)
      else (next.setFn f { k with deficit := d }).serveTenant fuel

/-- The function whose oldest transaction is sent next: the radio function, the management function, then the tenants. -/
def State.nextTxn (s : State) : State × Option Nat :=
  if (headOf 257 s.staido.queue).isSome then (s, some 257)
  else if (headOf 256 s.staido.queue).isSome then (s, some 256)
  else if s.staido.queue.isEmpty then (s, none)
  else s.serveTenant 512

/-- One transaction leaves on a lane of an up half whose replay buffer of 4,096 flits has room for it (R388); which such lane is free, and with
none it waits. -/
def State.sendTxn (s0 : State) : State :=
  match s0.nextTxn with
  | (s, none) => s
  | (s, some f) =>
    match headOf f s.staido.queue with
    | none => s
    | some t =>
      let lanes := [0, 1, 2, 3].filter fun l => s.halfUp (l / 2) && Nat.ble ((s.lane l).unacked + t.flits) 4096
      match lanes[Config.freeNat s.draws % max 1 lanes.length]? with
      | none => s0
      | some l =>
        let s := s.drawn.setLane l ((s.lane l).sent t.flits)
        { s with staido := { s.staido with queue := dropHead f s.staido.queue } }.emit (.host f t)

/-! ### Reading submission queues (R394, R401) -/

/-- Queues of a function's page: 64, or 16 on the radio page (R411). -/
def queuesOf (fn : Nat) : Nat := if fn = 257 then 16 else 64

def State.sqOn (s : State) (fn q : Nat) : Bool := s.isSet (Reg.FN.SQ_CFG.ENABLE fn q)
def State.cqOn (s : State) (fn r : Nat) : Bool := s.isSet (Reg.FN.CQ_CFG.ENABLE fn r)

/-- Bytes of a queue entry: 16 for the radio function (R218), 64 otherwise (R187). -/
def entryBytes (fn : Nat) : Nat := if fn = 257 then 16 else 64

/-- Issue a MEM_RD (R389); with 64 outstanding it waits (R392): the first 64 of a function's reads are those that have been sent. -/
def State.issueRead (s : State) (fn addr len : Nat) (why : RdWhy) : State :=
  let k := s.fn fn
  let s := s.setFn fn { k with reads := k.reads ++ [⟨k.nextTag, addr, len, why⟩], nextTag := k.nextTag + 1 }
  if k.reads.length < 64 then s.toHost fn (.memRd k.nextTag addr len) else s

/-- Read the next entry of a queue if the queue may read: enabled, not halted, not empty, no read of it outstanding, its ring with a slot not
reserved, the function READY and the link not detaching (R394, R401, R404). -/
def State.pumpQueue (s : State) (fn q : Nat) : State :=
  let k := s.queue fn q
  let n := 2 ^ s.fld (Reg.FN.SQ_CFG.SIZE_LOG2 fn q)
  let head := s.fld (Reg.FN.SQ_HEAD.HEAD fn q)
  if s.sqOn fn q && !k.halted && !k.reading && !Nat.beq head k.tail && Nat.blt 0 (s.ringFree fn (s.fld (Reg.FN.SQ_CFG.RING fn q))) &&
      Nat.beq (s.fld (Reg.FN.FN_STATUS.STATE fn)) 1 && s.serves fn && !Nat.beq (s.fld Reg.STAIDO.STATE.STATE) 4 &&
      Nat.blt (s.fn fn).reads.length 64 then
    let a := s.fld2 (Reg.FN.SQ_BASE_LO.BASE fn q) (Reg.FN.SQ_BASE_HI.BASE fn q) + head % n * entryBytes fn
    match s.translate fn a false with
    | (s, none) => s.haltQueue fn q
    | (s, some pa) => (s.setQueue fn q { s.queue fn q with reading := true }).issueRead fn pa (entryBytes fn) (.sqEntry q)
  else s

/-- Every queue of a function that names a ring reads on. -/
def State.pumpRing (s : State) (fn r : Nat) : State :=
  (Assoc.keys (s.fn fn).queues).foldl (fun s q => if s.fld (Reg.FN.SQ_CFG.RING fn q) = r then s.pumpQueue fn q else s) s

/-- A read is no longer outstanding; one that waited is sent. -/
def State.dropRead (s : State) (fn tag : Nat) : State :=
  let k := s.fn fn
  let left := k.reads.filter fun x => !Nat.beq x.tag tag
  let s := s.setFn fn { k with reads := left, inval := k.inval.filter fun x => !Nat.beq x tag }
  match left[63]? with
  | some x => if left.length < k.reads.length then s.toHost fn (.memRd x.tag x.addr x.len) else s
  | none => s

/-- Pieces of a host range that cross no 4 KiB boundary (R389). -/
def hostPieces (a len : Nat) : List (Nat × Nat) :=
  if len = 0 then [] else
    (List.range ((a + len - 1) / 4096 - a / 4096 + 1)).map fun i =>
      let lo := max a ((a / 4096 + i) * 4096)
      (lo, min (a + len) ((a / 4096 + i + 1) * 4096) - lo)

/-- Start the reads of a host source in order; nothing where the translation faults. Reads beyond the 64 outstanding wait at the link. -/
def State.readHost (s : State) (fn : Nat) (why : Nat → RdWhy) (off : Nat) : List (Nat × Nat) → State × Bool
  | [] => (s, true)
  | (a, n) :: r =>
    match s.translate fn a false with
    | (s, some pa) => (s.issueRead fn pa n (why off)).readHost fn why (off + n) r
    | (s, none) => (s, false)

/-- Bytes put at an offset of what has been read of a host source; pieces come in any order. -/
def placeAt (l : List Byte) (off : Nat) (b : List Byte) : List Byte := slice l 0 off ++ b ++ l.drop (off + b.length)

/-- Is a read of a function outstanding for a source that a test picks? -/
def State.reading (s : State) (fn : Nat) (p : RdWhy → Bool) : Bool := (s.fn fn).reads.any fun x => p x.why

/-- R218: a request entry of the radio function is read: its body is taken from the radio region, or read from the host window; a body that
cannot be read marks the entry failed. A message of another id is not supported (R217). -/
def State.fapiEntry (s : State) (b : List Byte) (bell : Nat) : State :=
  let num := s.radio.nextEntry
  let len := fieldAt b 4 4
  let a := fieldAt b 8 8
  let host := Nat.ble hostBase a && Nat.blt 0 len
  let near := s.region a == .gddr && s.inExtent 0 a len
  let (s, ok) := if host then s.readHost 257 (.fapi num) 0 (hostPieces a len) else (s, Nat.beq len 0 || (near && !s.bad a len))
  let e : FapiEntry := ⟨num, fieldAt b 0 2, fieldAt b 2 2, len, if host || !ok then [] else s.rdBytes a len, host, !ok, bell⟩
  let s := if host then s else s.scrubRead a len
  if !([idDl, idUl, idDci, idTx].contains e.id) then s
  else { s with radio := { s.radio with inbox := s.radio.inbox ++ [e], nextEntry := num + 1 } }

/-- A piece of a request's body comes from the host. -/
def State.fapiPiece (s : State) (num off : Nat) (d : Option (List Byte)) : State :=
  let put (e : FapiEntry) : FapiEntry :=
    if e.num = num then (match d with
      | some b => { e with body := placeAt e.body off b }
      | none => { e with failed := true })
    else e
  { s with radio := { s.radio with inbox := s.radio.inbox.map put } }

/-- R394: an entry read from a queue arrives: HEAD advances, and a command reserves a slot of the ring; a request of the radio function goes to
its inbox with the time of the doorbell that covers it (R218, R220). A read error halts the queue. -/
def sqEntryReadStep (fn q : Nat) (d : HostData) (s : State) : State :=
  let k := s.queue fn q
  if s.sqOn fn q && k.reading then
    let s := match (s.fn fn).reads.find? fun x => x.why == .sqEntry q with
      | some x => s.dropRead fn x.tag
      | none => s
    match d with
    | .error => (s.haltQueue fn q).pumpRing fn (s.fld (Reg.FN.SQ_CFG.RING fn q))
    | .data b =>
      let n := 2 ^ s.fld (Reg.FN.SQ_CFG.SIZE_LOG2 fn q)
      let r := s.fld (Reg.FN.SQ_CFG.RING fn q)
      let s := s.setFld (Reg.FN.SQ_HEAD.HEAD fn q) ((s.fld (Reg.FN.SQ_HEAD.HEAD fn q) + 1) % n)
      let cmd := Nat.ble 64 b.length
      let bell := (k.bells.head?.map fun x => x.2).getD s.now
      let bells := if k.bells.head?.any fun x => Nat.beq x.1 (s.fld (Reg.FN.SQ_HEAD.HEAD fn q)) then k.bells.drop 1 else k.bells
      let s := s.setQueue fn q { k with reading := false, bells := bells, cmds := if cmd then k.cmds ++ [b.take 64] else k.cmds }
      let s := if fn = 257 then s.fapiEntry b bell else s
      let s := if cmd then s.setRing fn r { s.ring fn r with reserved := (s.ring fn r).reserved + 1 } else s
      s.pumpQueue fn q
  else s

def execSqEntryRead (fn queue : Nat) (entry : HostData) (s : State) : Answer := .next (sqEntryReadStep fn queue entry s)

/-! ### Doorbells (R393, R395, R408) -/

/-- A doorbell is discarded (R393). -/
def State.badDoorbell (s : State) : State := (s.countSat Reg.STAIDO.DB_BAD.COUNT 1).raiseErr Reg.STAIDO.ERR.DB_BAD

/-- R393, R394: a doorbell writes the tail of a queue. -/
def tailDoorbell (fn off size tail : Nat) (s : State) : State :=
  let q := off / 8
  if !s.serves fn then s
  else if size ≠ 4 ∨ off % 8 ≠ 0 ∨ queuesOf fn ≤ q ∨ !s.sqOn fn q then s.badDoorbell
  else if 2 ^ s.fld (Reg.FN.SQ_CFG.SIZE_LOG2 fn q) ≤ tail % 65536 then s.haltQueue fn q
  else
    let k := s.queue fn q
    let bells := if k.tail = tail % 65536 then k.bells else k.bells ++ [(tail % 65536, s.now)]
    (s.setQueue fn q { k with tail := tail % 65536, bells := bells }).pumpQueue fn q

def execSqTailDoorbell (fn off size tail : Nat) (s : State) : Answer := .next (tailDoorbell fn off size tail s)

/-- R395, R408: a doorbell writes the head of a ring and releases its entries. -/
def headDoorbell (fn off size head : Nat) (s : State) : State :=
  let r := (off - 0x800) / 8
  let k := s.ring fn r
  let n := 2 ^ s.fld (Reg.FN.CQ_CFG.SIZE_LOG2 fn r)
  let d := (head % 65536 + n - k.released % n) % n
  if !s.serves fn then s
  else if size ≠ 4 ∨ off < 0x800 ∨ (off - 0x800) % 8 ≠ 0 ∨ queuesOf fn ≤ r ∨ !s.cqOn fn r ∨ n ≤ head % 65536 ∨ k.written < k.released + d then
    s.badDoorbell
  else
    let done := k.released + d
    (s.setRing fn r { k with released := done, bodies := k.bodies.filter fun b => Nat.ble done b.1 }).pumpRing fn r

def execCqHeadDoorbell (fn off size head : Nat) (s : State) : Answer := .next (headDoorbell fn off size head s)

/-! ### Signal vectors (R398, R399) -/

/-- R398: a function writes a mask word; a vector it unmasks with SV_PEND set sends one SIGNAL and SV_PEND clears. -/
def svMaskStep (fn i : Nat) (w : Word) (s : State) : State :=
  if s.serves fn && Nat.blt i 8 then
    let p := s.fld (Reg.FN.SV_PEND.PEND fn i)
    let s := s.setFld (Reg.FN.SV_MASK.MASK fn i) w.toNat
    (List.range 32).foldl (fun s j =>
      if p.testBit j && !w.toNat.testBit j then
        let f := Reg.FN.SV_PEND.PEND fn i
        (s.setFld f (s.fld f - 2 ^ j)).sendSignal fn (s.fld (Reg.FN.FN_CFG.SV_BASE fn) + 32 * i + j)
      else s) s
  else s

def execSvMaskWrite (fn i : Nat) (w : Word) (s : State) : Answer := .next (svMaskStep fn i w s)

/-- R399: TIME_US passes after the first entry counted. -/
def coalesceStep (fn r : Nat) (s : State) : State :=
  let k := s.ring fn r
  match k.countFrom with
  | none => s
  | some t =>
    let us := s.fld (Reg.FN.CQ_COAL.TIME_US fn r)
    if us = 0 then s
    else ((s.advanceMono (t + 1000 * us)).setRing fn r { k with pendingCount := 0, countFrom := none }).raiseIndex fn
      (s.fld (Reg.FN.CQ_COAL.VEC fn r))

def execCoalesceTimeout (fn ring : Nat) (s : State) : Answer := .next (coalesceStep fn ring s)

/-! ### Translation caches and ERROR (R401, R402) -/

/-- R402: TT_CTRL.INVAL of a function drops its cached translations. The management page has no TT fields (R410). -/
def invalStep (fn : Nat) (s : State) : State :=
  if fn = 256 then s
  else
    let k := s.fn fn
    (s.setFn fn { k with tt := [], inval := k.reads.map fun x => x.tag }).setFld (Reg.FN.TT_CTRL.INVAL_BUSY fn) 1

def execInval (fn : Nat) (s : State) : Answer := .next (invalStep fn s)

/-- R402: the last access translated with a dropped entry has completed. -/
def invalDoneStep (fn : Nat) (s : State) : State :=
  if (s.fn fn).inval.isEmpty then s.setFld (Reg.FN.TT_CTRL.INVAL_BUSY fn) 0 else s

def execInvalDone (fn : Nat) (s : State) : Answer := .next (invalDoneStep fn s)

/-- R401: FN_CTRL.CLEAR takes a function out of ERROR once every queue of it is disabled. -/
def functionClearStep (who : Issuer) (fn : Nat) (s : State) : State :=
  s.access who (fnPage fn) false fun s =>
    if s.fld (Reg.FN.FN_STATUS.STATE fn) = 2 ∧ (List.range (queuesOf fn)).all fun q => !s.sqOn fn q then
      s.enter (Reg.FN.FN_STATUS.STATE fn) 1
    else s

def execFunctionClear (who : Issuer) (fn : Nat) (s : State) : Answer := .next (functionClearStep who fn s)

/-! ### Queue and ring configuration (R411, R412) -/

def State.qhaltAgain (s : State) (fn : Nat) : State :=
  s.setFld (Reg.FN.FN_STATUS.QHALT fn) (if (s.fn fn).queues.any fun q => q.2.halted then 1 else 0)

/-- The reason a queue or ring cannot be enabled because of its function (R412). -/
def State.fnBlocks (s : State) (fn : Nat) : Option Nat :=
  match s.fld (Reg.FN.FN_STATUS.STATE fn) with
  | 0 => some 0x03D0
  | 1 => none
  | _ => some 0x04D0

/-- Offset of SQ_CFG and CQ_CFG words, and of their base words (R411). -/
def sqOff (q : Nat) : Nat := 0x400 + 0x10 * q
def cqOff (r : Nat) : Nat := 0xC00 + 0x10 * r

/-- R411: a write that sets SQ_CFG.ENABLE runs the check of R412 and, if it passes, applies the word. -/
def sqEnableStep (fn q : Nat) (w : Word) (s : State) : State :=
  if !s.serves fn ∨ queuesOf fn ≤ q ∨ s.sqOn fn q then s
  else
    let size := bitsOf w.toNat 0 4
    let ring := bitsOf w.toNat 8 6
    let page := fnPage fn
    if size < 4 ∨ 12 < size then s.refuse page 0x01D0 (sqOff q + 8)
    else if s.fld (Reg.FN.SQ_BASE_LO.BASE fn q) % 4096 ≠ 0 then s.refuse page 0x01D1 (sqOff q)
    else if queuesOf fn ≤ ring ∨ !s.cqOn fn ring then s.refuse page 0x02D0 (sqOff q + 8)
    else match s.fnBlocks fn with
      | some r => s.refuse page r (sqOff q + 8)
      | none =>
        let s := (s.setQueue fn q { SubQueue.fresh with cmds := (s.queue fn q).cmds }).passed page
        (s.setFlds [(Reg.FN.SQ_CFG.SIZE_LOG2 fn q, size), (Reg.FN.SQ_CFG.RING fn q, ring), (Reg.FN.SQ_CFG.ENABLE fn q, 1),
          (Reg.FN.SQ_HEAD.HEAD fn q, 0)]).qhaltAgain fn

def execSqEnable (fn queue : Nat) (w : Word) (s : State) : Answer := .next (sqEnableStep fn queue w s)

/-- R394, R411: clearing SQ_CFG.ENABLE stops a queue; a word that does not clear it changes nothing while ENABLE is 1. On a disabled queue
the word is written. -/
def sqDisableStep (fn q : Nat) (w : Word) (s : State) : State :=
  if !s.serves fn ∨ queuesOf fn ≤ q ∨ w.toNat.testBit 16 then s
  else if s.sqOn fn q then
    let k := s.fn fn
    let s := s.setFn fn { k with reads := k.reads.filter fun x => !(x.why == .sqEntry q) }
    ((s.setQueue fn q { s.queue fn q with halted := false, reading := false, bells := [] }).setFld (Reg.FN.SQ_CFG.ENABLE fn q) 0).qhaltAgain fn
  else s.setFlds [(Reg.FN.SQ_CFG.SIZE_LOG2 fn q, bitsOf w.toNat 0 4), (Reg.FN.SQ_CFG.RING fn q, bitsOf w.toNat 8 6)]

def execSqDisable (fn queue : Nat) (w : Word) (s : State) : Answer := .next (sqDisableStep fn queue w s)

/-- R411: a write that sets CQ_CFG.ENABLE runs the check of R412 and, if it passes, applies the word. -/
def cqEnableStep (fn r : Nat) (w : Word) (s : State) : State :=
  if !s.serves fn ∨ queuesOf fn ≤ r ∨ s.cqOn fn r then s
  else
    let size := bitsOf w.toNat 0 5
    let page := fnPage fn
    if size < 4 ∨ 16 < size then s.refuse page 0x01D0 (cqOff r + 8)
    else if s.fld (Reg.FN.CQ_COAL.COUNT fn r) = 0 ∨ s.fld (Reg.FN.FN_CFG.SV_COUNT fn) ≤ s.fld (Reg.FN.CQ_COAL.VEC fn r) then
      s.refuse page 0x01D0 (cqOff r + 12)
    else if fn = 257 ∧ s.fld (Reg.FN.RBODY_LEN.LEN fn r) < 65536 then s.refuse page 0x01D0 (0xE08 + 0x10 * r)
    else if s.fld (Reg.FN.CQ_BASE_LO.BASE fn r) % 4096 ≠ 0 then s.refuse page 0x01D1 (cqOff r)
    else if fn = 257 ∧ s.fld (Reg.FN.RBODY_BASE_LO.BASE fn r) % 64 ≠ 0 then s.refuse page 0x01D1 (0xE00 + 0x10 * r)
    else match s.fnBlocks fn with
      | some x => s.refuse page x (cqOff r + 8)
      | none =>
        ((s.setRing fn r { CplRing.fresh with reserved := (s.ring fn r).reserved }).passed page).setFlds
          [(Reg.FN.CQ_CFG.SIZE_LOG2 fn r, size), (Reg.FN.CQ_CFG.COAL_EN fn r, bitsOf w.toNat 17 1), (Reg.FN.CQ_CFG.ENABLE fn r, 1)]

def execCqEnable (fn ring : Nat) (w : Word) (s : State) : Answer := .next (cqEnableStep fn ring w s)

/-- R412: clearing CQ_CFG.ENABLE is refused while an enabled queue names the ring. -/
def cqDisableStep (fn r : Nat) (w : Word) (s : State) : State :=
  if !s.serves fn ∨ queuesOf fn ≤ r ∨ w.toNat.testBit 16 then s
  else if s.cqOn fn r then
    if (List.range (queuesOf fn)).any fun q => s.sqOn fn q && Nat.beq (s.fld (Reg.FN.SQ_CFG.RING fn q)) r then
      s.refuse (fnPage fn) 0x04D0 (cqOff r + 8)
    else s.setFld (Reg.FN.CQ_CFG.ENABLE fn r) 0
  else s.setFlds [(Reg.FN.CQ_CFG.SIZE_LOG2 fn r, bitsOf w.toNat 0 5), (Reg.FN.CQ_CFG.COAL_EN fn r, bitsOf w.toNat 17 1)]

def execCqDisable (fn ring : Nat) (w : Word) (s : State) : Answer := .next (cqDisableStep fn ring w s)

/-! ### Detach and removal (R404–R407) -/

/-- The words of a function page that a detach clears (R407): vector range, masks and pending bits, translation root, queues, rings and body
areas, and DIRTY_CFG.EN. -/
def clearedByDetach (off lo : Nat) : Bool :=
  (Nat.beq off 0x100 && Nat.blt lo 24) || Nat.beq off 0x10C || Nat.beq off 0x110 || Nat.beq off 0x114 ||
    (Nat.ble 0x140 off && Nat.blt off 0x180) || (Nat.ble 0x400 off && Nat.ble off 0x800) || Nat.ble 0xC00 off

/-- Put the words of a set of pages that a test picks back to their reset value. -/
def State.forget (s : State) (p : Nat → Nat → Nat → Bool) : State :=
  let keep (e : Nat × Nat) : Bool := !p (e.1 / 32 / 4096) (e.1 / 32 % 4096) (e.1 % 32)
  { s with pages := { s.pages with file := ⟨s.pages.file.live.filter keep, s.pages.file.shadow.filter keep⟩ } }

/-- What a detach clears of one function (R407, R408). -/
def State.clearFn (s : State) (fn : Nat) : State :=
  (s.forget fun p off lo => Nat.beq p (fnPage fn) && clearedByDetach off lo).setFn fn FnState.fresh

/-- Every function number of R390. -/
def allFns : List Nat := List.range 258

/-- R407: every function loses its queues, vectors and translation, and shows DETACHED. -/
def State.clearFns (s : State) : State :=
  let s := s.forget fun p off lo => isFnPage p && clearedByDetach off lo
  { s with fns := [] }

/-- Every function shows DETACHED; its bindings stay. -/
def State.fnsDetached (s : State) : State :=
  allFns.foldl (fun s f => if s.fld (Reg.FN.FN_STATUS.STATE f) = 0 then s else s.setFld (Reg.FN.FN_STATUS.STATE f) 3) s

/-- Every tenant cocoon is fenced as under R65. -/
def State.fenceTenants (s : State) : State :=
  (List.range 62).foldl (fun s i => if s.cocoonState (i + 2) = 1 then s.fence (i + 2) else s) s

/-- Commands in progress of every function are absorbed with ABORTED (R404, R406). -/
def State.abortCommands (s : State) : State :=
  let s := s.endRuns 6 0 (s.runIds fun r => r.cmd.isSome)
  let ws := s.waits
  let s := ws.foldl (fun s w => s.complete w.cmd (.plain 6 0 0)) { s with waits := [] }
  let left := s.fns.flatMap fun f => f.2.queues.flatMap fun q => q.2.cmds.map fun b => (⟨f.1, q.1, b, s.mono⟩ : Cmd)
  let s := left.foldl (fun s c => s.complete c (.plain 6 0 0)) s
  { s with fns := s.fns.map fun f => (f.1, { f.2 with queues := f.2.queues.map fun q => (q.1, { q.2 with cmds := [] }) }) }

/-- R404: STAIDO.ACTION.DETACH. -/
def detachStep (s : State) : State :=
  if s.fld Reg.STAIDO.STATE.STATE = 2 ∨ s.fld Reg.STAIDO.STATE.STATE = 3 then s.enter Reg.STAIDO.STATE.STATE 4
  else s.refuse 0x240 0x04D1 0x10C

def execDetach (s : State) : Answer := .next (detachStep s)

/-- The lanes are switched off. -/
def State.lanesOff (s : State) : State :=
  { s.setFlds [(Reg.STAIDO.LANES.UP, 0), (Reg.STAIDO.RATE.GBPS, 0)] with staido := { s.staido with lanes := [] } }

/-- The transactions still waiting leave in the order of R392 before the lanes go off; where no lane carries them they are discarded. -/
def State.flushHost (s : State) : State :=
  let s := s.staido.queue.foldl (fun s _ => ({ s with staido := { s.staido with lanes := [] } }).sendTxn) s
  { s with staido := { s.staido with queue := [] } }

/-- R404 steps 3 to 5: DETACH_MS expires. The reads still outstanding complete with error as after a removal (R406). -/
def detachTimeoutStep (s : State) : State :=
  if s.fld Reg.STAIDO.STATE.STATE = 4 then
    let s := (s.abortCommands.flushHost.fenceTenants).lanesOff
    let s := { s with staido := { s.staido with owed := true } }
    ((s.fnsDetached).clearFns).enter Reg.STAIDO.STATE.STATE 0
  else s

def execDetachTimeout (s : State) : Answer := .next (detachTimeoutStep s)

/-- What removal does to the work on the link: transactions not yet sent are discarded, commands in progress absorbed with their entries
discarded, tenants fenced, queues and translation cleared (R406, R407). -/
def State.absorbHost (s : State) : State :=
  let s := { s with staido := { s.staido with queue := [], owed := true } }
  (((s.fnsDetached).abortCommands).fenceTenants).clearFns

/-- During instars 0 and 1 a bundle read or check is abandoned with FAIL 0x02, and the ROM waits for lanes (R442, R459). -/
def State.abandonBoot (s : State) : State :=
  if Nat.ble 2 (s.fld Reg.BOOT.STATE.INSTAR) then s
  else
    let busy := s.boot.loading.isSome || Nat.beq (s.fld Reg.BOOT.STATE.INSTAR) 1
    let s := { s with boot := { s.boot with loading := none, lanesTrained := false } }
    if busy then (s.setFld Reg.BOOT.STATE.FAIL 0x02).setFld Reg.BOOT.STATE.INSTAR 0 else s

/-- A link lost while a flush is to be copied to the host: whether the copy had begun is free (R479, R482). -/
def State.cutFlush (s : State) : State :=
  if s.bbox.flush.isSome && s.isSet Reg.BBOX.STATUS.ARMED && !Nat.beq (s.fld2 Reg.BBOX.HOST_LO.ADDR Reg.BBOX.HOST_HI.ADDR) 0 &&
      !Nat.beq (s.fld Reg.STAIDO.STATE.STATE) 4 then
    ({ s with bbox := { s.bbox with hostCut := Config.freeBool s.draws } }).drawn
  else s

/-- R405, R406: the link is declared removed. -/
def State.removed (s : State) : State :=
  if s.linkUp then
    ((((s.cutFlush.lanesOff).raiseErr Reg.STAIDO.ERR.REMOVED).enter Reg.STAIDO.STATE.STATE 0).absorbHost).abandonBoot
  else s

/-- R405: no lane has been in lock for 20 µs. -/
def execNoLockTimeout (s : State) : Answer :=
  .next (if s.fld Reg.STAIDO.LANES.UP = 0 then s.removed else s)

/-- R405: PRESENT_N rises. -/
def execPresentDeassert (s : State) : Answer :=
  .next ({ s with staido := { s.staido with present := false } }.removed)

/-- Does a copy have a host-window end? -/
def CopyOp.onHost (c : CopyOp) : Bool := Nat.ble hostBase (localOf c.src) || Nat.ble hostBase (localOf c.dst)

/-- R406: the outstanding host reads and atomics, and copies and operations with a host-window end, complete with error; KIND 0x05 faults no issuer. -/
def removalErrorStep (s : State) : State :=
  if s.staido.owed then
    let fns := s.fns.map fun f => (f.1, { f.2 with reads := [], inval := [] })
    let cores := s.cores.map fun c => (c.1, { c.2 with copies := c.2.copies.filter fun x => !x.onHost })
    let ops := s.cores.flatMap fun c => (c.2.remotes.filter fun r => Nat.ble hostBase (localOf r.addr) && Nat.beq r.dst s.deviceId).map fun r => (c.1, r)
    let s := { s with staido := { s.staido with owed := false }, fns := fns, cores := cores }
    ops.foldl (fun s x => (s.setCore x.1 { s.core x.1 with remotes := (s.core x.1).remotes.filter fun r => !Nat.beq r.tag x.2.tag }).remoteErr x.1 x.2 5) s
  else s

def execRemovalErrorTimeout (s : State) : Answer := .next (removalErrorStep s)

/-- R407: with the adapter present and light returned the lanes train and the link is attached; bound functions are READY again. Errors still
owed to reads from before come first. -/
def State.attached (s : State) : State :=
  let s := (removalErrorStep s).setFlds [(Reg.STAIDO.LANES.UP, 15), (Reg.STAIDO.RATE.GBPS, 1600)]
  let s := { s with staido := { s.staido with present := true, lanes := [] } }
  let s := allFns.foldl (fun s f => if s.fld (Reg.FN.FN_STATUS.STATE f) = 3 then s.setFld (Reg.FN.FN_STATUS.STATE f) 1 else s) s
  (s.countSat Reg.STAIDO.ATTACH_COUNT.COUNT 1).enter Reg.STAIDO.STATE.STATE 2

def execAttach (s : State) : Answer :=
  .next (if s.fld Reg.STAIDO.STATE.STATE ≤ 1 ∧ 1 ≤ s.fld Reg.BOOT.STATE.INSTAR then s.attached else s)

end Sys2Proof.Machine
end

