-- ==== Sys2Proof/Machine/Cocoons.lean ====
section
/-!
DEFINITION. Cocoons (R292–R325): the check of a cocoon page, creation and destruction, keys, binding of functions, the fence's end, way
clears and dirty-page logging.
-/
namespace Sys2Proof.Machine

/-- COCOON's page. -/
def cocoonPage (c : Nat) : Nat := 0x100 + c

/-- Copy a page's shadow values into effect (R6). -/
def State.takeShadow (s : State) (page : Nat) : State :=
  s.withLive ((s.pages.file.shadow.filter fun e => Nat.beq (e.1 / 131072) page).foldl (fun m e => Assoc.put e.1 e.2 m) s.pages.file.live)

/-! ### The check on ENABLE rising (R294, R295, R297, R325, R337) -/

/-- The extents of a cocoon's shadow, in units of 64 KiB. -/
def State.shExtents (s : State) (c : Nat) : List (Nat × Nat) :=
  (List.range (s.shd (Reg.COCOON.EXT_COUNT.COUNT c))).map fun i => (s.shd (Reg.COCOON.EXT_BASE.BASE c i), s.shd (Reg.COCOON.EXT_LEN.LEN c i))

/-- Do two stretches overlap? -/
def overlap (a b : Nat × Nat) : Bool := Nat.blt a.1 (b.1 + b.2) && Nat.blt b.1 (a.1 + a.2)

/-- Does a cocoon hold its extents and key slot: it is not NONE, or its creation is under way? -/
def State.live (s : State) (c : Nat) : Bool := !Nat.beq (s.cocoonState c) 0 || s.isSet (ctrlEnable (cocoonPage c))

/-- Offsets of EXT_BASEi and EXT_LENi. -/
def extBaseOff (i : Nat) : Nat := 0x110 + 8 * i
def extLenOff (i : Nat) : Nat := 0x114 + 8 * i

/-- The first index of a list that satisfies a test. -/
def firstIdx {α : Type} (l : List α) (p : α → Bool) : Option Nat := ((l.zipIdx).find? fun x => p x.1).map fun x => x.2

/-- A field out of range (0x01A0). -/
def State.cocoonRange (s : State) (c : Nat) : Option (Nat × Nat) :=
  let n := s.shd (Reg.COCOON.EXT_COUNT.COUNT c)
  let l := s.shd (Reg.COCOON.CHRY_LEN.LEN c)
  let ext := s.shExtents c
  if n = 0 ∨ 8 < n then some (0x01A0, 0x104)
  else
    ((firstIdx ext fun e => Nat.beq e.2 0 || Nat.blt (s.usable / 65536) (e.1 + e.2)).map fun i => (0x01A0, extLenOff i)) <|>
      (if l ≠ 0 ∧ l < 38 then some (0x01A0, 0x15C) else none)

/-- The areas of a cocoon: offset of the register that bases each, and the stretch in units (R295). -/
def State.areas (s : State) (c : Nat) : List (Nat × Nat × Nat) :=
  let l := s.shd (Reg.COCOON.CHRY_LEN.LEN c)
  [(0x150, s.shd (Reg.COCOON.SEM_BASE.BASE c), 1), (0x154, s.shd (Reg.COCOON.CTX_BASE.BASE c), 64)] ++
    (if l = 0 then [] else [(0x158, s.shd (Reg.COCOON.CHRY_BASE.BASE c), l)])

/-- An area not wholly in one extent, or overlapping an earlier area (0x02A0). -/
def State.areaBad (s : State) (c : Nat) : Option (Nat × Nat) :=
  let ar := s.areas c
  let ext := s.shExtents c
  ((ar.zipIdx).find? fun x =>
    !(ext.any fun e => Nat.ble e.1 x.1.2.1 && Nat.ble (x.1.2.1 + x.1.2.2) (e.1 + e.2)) ||
      (ar.take x.2).any fun y => overlap y.2 x.1.2).map fun x => (0x02A0, x.1.1)

/-- Does [base, base + len) (units) lie wholly in mirror groups? -/
def State.inMirrors (s : State) (e : Nat × Nat) : Bool :=
  let cover := ((s.memGroups.filter fun g => !g.mirror.isEmpty).map fun g =>
    min (65536 * (e.1 + e.2)) (g.base + g.size) - max (65536 * e.1) g.base).sum
  Nat.beq cover (65536 * e.2)

/-- The check of a cocoon page on ENABLE rising: reason and offset of the first failed condition (R325). -/
def State.checkCocoon (s : State) (c : Nat) : Option (Nat × Nat) :=
  let ext := s.shExtents c
  let others := (List.range 64).filter fun o => !Nat.beq o c && s.live o
  let units (o : Nat) : List (Nat × Nat) := (s.extents o).map fun e => (e.1 / 65536, e.2 / 65536)
  let slot := s.shd (Reg.COCOON.CFG.KEY_SLOT c)
  let tests : List (Unit → Option (Nat × Nat)) := [
    fun _ => if s.cocoonState c = 3 then some (0x04A4, 0x010) else none,
    fun _ => s.cocoonRange c,
    fun _ => s.areaBad c,
    fun _ => ((ext.zipIdx).find? fun x => (ext.take x.2).any (overlap x.1)).map fun x => (0x02A1, extBaseOff x.2),
    fun _ => if c = 0 ∧ s.shd (Reg.COCOON.CFG.SEALED 0) = 0 then some (0x02A2, 0x100) else none,
    fun _ => if c = 0 then (firstIdx ext fun e => !s.inMirrors e).map fun i => (0x02B3, extBaseOff i) else none,
    fun _ => (firstIdx ext fun e => others.any fun o => (units o).any (overlap e)).map fun i => (0x03A0, extBaseOff i),
    fun _ => if others.any fun o => Nat.beq (s.fld (Reg.COCOON.CFG.KEY_SLOT o)) slot then some (0x03A2, 0x100) else none,
    fun _ => if s.shd (Reg.COCOON.CFG.ENC c) = 1 ∧ !s.isSet (Reg.COCOON.KEY_STATUS.VALID c) then some (0x07A0, 0x100) else none]
  tests.findSome? fun f => f ()

/-! ### Creating and destroying (R294, R296) -/

/-- COCOON.CTRL.ENABLE is set: the check, and, if it passes, the clear of the semaphore area and the context table begins. -/
def State.enableCocoon (s : State) (c : Nat) : State :=
  if s.isSet (ctrlEnable (cocoonPage c)) then s
  else match s.checkCocoon c with
    | some (r, off) => s.refuse (cocoonPage c) r off
    | none => ((s.takeShadow (cocoonPage c)).setFld (ctrlEnable (cocoonPage c)) 1).passed (cocoonPage c)

/-- The totals of a cocoon. -/
def totalFlds (c : Nat) : List Fld :=
  [Reg.COCOON.STRIDE_NS_LO.NS c, Reg.COCOON.STRIDE_NS_HI.NS c, Reg.COCOON.STRIDES.COUNT c, Reg.COCOON.BEATS.COUNT c,
   Reg.COCOON.OVERRUN_NS_LO.NS c, Reg.COCOON.OVERRUN_NS_HI.NS c, Reg.COCOON.COMMANDS.COUNT c]

/-- A segment of a cocoon that is gone: its generation stays (R377). -/
def Segment.gone (g : Segment) : Segment := { g with valid := false }

/-- R294: the clear completes: the semaphore area reads zero, every context-table entry has OPEN = 0, and STATE is ACTIVE. -/
def cocoonClearDone (c : Nat) (s : State) : State :=
  if !s.isSet (ctrlEnable (cocoonPage c)) || !Nat.beq (s.cocoonState c) 0 || Nat.ble 64 c then s
  else
    let m := (s.mem.clear (s.fld (Reg.COCOON.SEM_BASE.BASE c) * 65536) 65536).clear (s.ctxAddr c 0) (64 * 65536)
    let segs := (s.cocoon c).segments.map fun x => (x.1, x.2.gone)
    let s := ((s.setMem m).setFlds ((totalFlds c).map fun f => (f, 0))).setCocoon c { Cocoon.fresh with segments := segs }
    (s.setFlds [(Reg.SEQ_DEBT.DEBT.DEBT_NS c, 0), (Reg.SEQ_DEBT.DEBT.FENCED c, 0)]).enter (Reg.COCOON.STATE.STATE c) 1

def execCocoonClearDone (cocoon : Nat) (s : State) : Answer := .next (cocoonClearDone cocoon s)

/-- Erase a key slot. -/
def State.eraseKey (s : State) (slot : Nat) : State := { s with keys := Assoc.del slot s.keys }

/-- Does a table in force or armed name the cocoon? -/
def State.tablesName (s : State) (c : Nat) : Bool :=
  s.seq.active.any (fun t => t.names c) || s.seq.armed.any fun t => t.names c

/-- R296: COCOON.CTRL.ENABLE is cleared. -/
def State.destroyCocoon (s : State) (c : Nat) : State :=
  if !s.isSet (ctrlEnable (cocoonPage c)) then s
  else if c < 2 ∨ (List.range 256).any (s.bound c) ∨ s.tablesName c then s.refuse (cocoonPage c) 0x04A1 0x010
  else
    let images := (s.cocoon c).images.map fun i => i.slot
    let s := images.foldl (fun s j => s.freeImage c j) s
    let k := s.cocoon c
    let segs := k.segments.map fun x => (x.1, x.2.gone)
    let s := s.setCocoon c { k with slots := [], segments := segs, fill := [] }
    let ctls := s.gddr.ctls.map fun x => (x.1, { x.2 with queues := Assoc.del c x.2.queues })
    let s := { s with runs := s.runs.filter fun (r : Run) => !Nat.beq r.cocoon c
                      gddr := { s.gddr with ctls := ctls } }
    let s := (s.eraseKey (s.fld (Reg.COCOON.CFG.KEY_SLOT c))).setFlds [(Reg.COCOON.KEY_STATUS.VALID c, 0), (ctrlEnable (cocoonPage c), 0)]
    s.enter (Reg.COCOON.STATE.STATE c) 3

/-- R296: every channel has finished its part of the fill: the extents read zero and STATE is NONE. -/
def destroyFillDone (c : Nat) (s : State) : State :=
  if s.cocoonState c = 3 ∧ (List.range 24).all fun ch => Nat.beq (s.fillLeft c ch) 0 then
    let s := (s.extents c).foldl (fun s e => (s.setMem (s.mem.clear e.1 e.2)).healWrite e.1 e.2) s
    (s.setCocoon c { s.cocoon c with fill := [] }).enter (Reg.COCOON.STATE.STATE c) 0
  else s

def execCocoonDestroyFillDone (cocoon : Nat) (s : State) : Answer := .next (destroyFillDone cocoon s)

/-! ### Keys (R297) -/

/-- R297: KEY_CTRL.LOAD copies the key words into the slot the shadow CFG names. -/
def keyLoad (c : Nat) (s : State) : State :=
  let slot := s.shd (Reg.COCOON.CFG.KEY_SLOT c)
  let words := (List.range 16).map fun i => Assoc.findD i (0 : Word) (s.cocoon c).keyWords
  if s.isSet (ctrlEnable (cocoonPage c)) then s.refuse (cocoonPage c) 0x04A0 0x1B0
  else if (List.range 64).any fun o => !Nat.beq o c && s.live o && Nat.beq (s.fld (Reg.COCOON.CFG.KEY_SLOT o)) slot then
    s.refuse (cocoonPage c) 0x03A2 0x1B0
  else if words.take 8 = words.drop 8 then s.refuse (cocoonPage c) 0x07A1 0x1B0
  else
    let s := { s with keys := Assoc.put slot words s.keys }
    (s.setCocoon c { s.cocoon c with keyWords := [] }).setFld (Reg.COCOON.KEY_STATUS.VALID c) 1

def execKeyLoad (cocoon : Nat) (s : State) : Answer := .next (keyLoad cocoon s)

/-- R297: KEY_CTRL.ERASE. A slot is erased only where the cocoon has loaded it. -/
def keyErase (c : Nat) (s : State) : State :=
  if s.isSet (ctrlEnable (cocoonPage c)) then s.refuse (cocoonPage c) 0x04A0 0x1B0
  else if s.isSet (Reg.COCOON.KEY_STATUS.VALID c) then
    (s.eraseKey (s.shd (Reg.COCOON.CFG.KEY_SLOT c))).setFld (Reg.COCOON.KEY_STATUS.VALID c) 0
  else s

def execKeyErase (cocoon : Nat) (s : State) : Answer := .next (keyErase cocoon s)

/-- R297: a write of CFG; one that changes the shadow KEY_SLOT while VALID is 1 first erases the slot loaded. -/
def keySlotChange (c : Nat) (cfg : Word) (s : State) : State :=
  let w := cfg.toNat
  let s := if s.isSet (Reg.COCOON.KEY_STATUS.VALID c) && !Nat.beq (bitsOf w 8 6) (s.shd (Reg.COCOON.CFG.KEY_SLOT c)) then
      (s.eraseKey (s.shd (Reg.COCOON.CFG.KEY_SLOT c))).setFld (Reg.COCOON.KEY_STATUS.VALID c) 0
    else s
  (((s.setShd (Reg.COCOON.CFG.SEALED c) (bitsOf w 0 1)).setShd (Reg.COCOON.CFG.ENC c) (bitsOf w 1 1)).setShd
    (Reg.COCOON.CFG.KEY_SLOT c) (bitsOf w 8 6)).setShd (Reg.COCOON.CFG.CHRY_SLOTS c) (bitsOf w 16 2)

def execKeySlotChange (cocoon : Nat) (cfg : Word) (s : State) : Answer := .next (keySlotChange cocoon cfg s)

/-! ### Functions (R299) -/

/-- The cocoon a tenant function is bound to. -/
def State.boundTo (s : State) (f : Nat) : Option Nat := (List.range 64).find? fun c => s.bound c f

/-- R299: bind tenant function `f` to cocoon `c`. -/
def bindStep (c f : Nat) (s : State) : State :=
  let f := f % 256
  if c < 2 then s.refuse (cocoonPage c) 0x02A3 0x1E0
  else if s.bound c f then s
  else if (s.boundTo f).isSome then s.refuse (cocoonPage c) 0x03A1 0x1E0
  else if !s.created c then s.refuse (cocoonPage c) 0x04A2 0x1E0
  else
    let b := Reg.COCOON.FUNCS.BOUND c (f / 32)
    let s := s.setFlds [(b, s.fld b ||| 2 ^ (f % 32)), (Reg.FN.FN_STATUS.COCOON f, c)]
    s.enter (Reg.FN.FN_STATUS.STATE f) (if s.linkUp then 1 else 3)

def execBind (cocoon fn : Nat) (s : State) : Answer := .next (bindStep cocoon fn s)

/-- Every outstanding command of a function completes with ABORTED at once; a run of it goes on to the end of its stride without a command,
and a suspended one stays with no invocation (R299, R322). -/
def State.abortFn (s : State) (f : Nat) : State :=
  let mine (r : Run) : Bool := r.cmd.any fun c => Nat.beq c.fn f
  let runs := s.runs.filter mine
  let done (s : State) (c : Cmd) (r : Option Run) : State :=
    s.complete c ⟨6, 0, 0, (r.map fun x => x.beats).getD 0, (r.map fun x => x.strides).getD 0, (r.map fun x => x.step0 % 2 ^ 32).getD 0, 0, 0⟩
  let s := runs.foldl (fun s r => match r.cmd with
    | some c => done s c (some r)
    | none => s) s
  let s := { s with runs := s.runs.map fun (r : Run) => if mine r then { r with cmd := none, ending := some (6, 0) } else r }
  let s := runs.foldl (fun s r => if r.suspended then s else s.settle r.id) s
  let ws := s.waits.filter fun w => Nat.beq w.cmd.fn f
  let s := ws.foldl (fun s w => done s w.cmd none) { s with waits := s.waits.filter fun w => !Nat.beq w.cmd.fn f }
  let left := (s.fn f).queues.flatMap fun q => q.2.cmds.map fun b => (⟨f, q.1, b, s.mono⟩ : Cmd)
  left.foldl (fun s c => done s c none) s

/-- R299: unbind function `f`. -/
def unbindStep (c f : Nat) (s : State) : State :=
  let f := f % 256
  match s.boundTo f with
  | none => s
  | some o =>
    if o ≠ c then s.refuse (cocoonPage c) 0x03A1 0x1E0
    else
      let s := (s.abortFn f).clearFn f
      let b := Reg.COCOON.FUNCS.BOUND c (f / 32)
      let s := s.setFlds [(b, putBits (s.fld b) (f % 32) 1 0), (Reg.FN.FN_STATUS.COCOON f, 0)]
      s.enter (Reg.FN.FN_STATUS.STATE f) 0

def execUnbind (cocoon fn : Nat) (s : State) : Answer := .next (unbindStep cocoon fn s)

/-! ### The fence's end (R65, R322, R323) -/

/-- R323: ACTION.UNFENCE: the cocoon is ACTIVE again with no debt, and restored groups that waited resume. -/
def unfenceStep (c : Nat) (s : State) : State :=
  if s.cocoonState c ≠ 2 then s.refuse (cocoonPage c) 0x04A3 0x1F0
  else
    let whole (r : Run) : Bool := r.cores.all fun n => Nat.blt n 2048
    let runs := s.runs.map fun (r : Run) => if Nat.beq r.cocoon c && whole r && !r.cores.any s.draining then { r with suspended := false } else r
    let s := { s with runs := runs }
    (s.setFlds [(Reg.SEQ_DEBT.DEBT.DEBT_NS c, 0), (Reg.SEQ_DEBT.DEBT.FENCED c, 0)]).enter (Reg.COCOON.STATE.STATE c) 1

def execUnfence (cocoon : Nat) (s : State) : Answer := .next (unfenceStep cocoon s)

/-! ### Ways (R302) -/

/-- R302: a way's clear completes. -/
def wayClearDone (cluster way : Nat) (s : State) : State :=
  { s with seq := { s.seq with clearing := s.seq.clearing.filter fun x => !(Nat.beq x.1 cluster && Nat.beq x.2 way) } }

def execWayClearDone (cluster way : Nat) (s : State) : Answer := .next (wayClearDone cluster way s)

/-! ### Dirty-page logging (R319–R321, R324) -/

/-- R319, R321: DIRTY_CFG.EN is written; ACTIVE stays 1 after EN is cleared until every write is logged. -/
def dirtyCfg (fn : Nat) (en : Bool) (s : State) : State :=
  if 256 ≤ fn then s
  else if en then s.setFlds [(Reg.FN.DIRTY_CFG.EN fn, 1), (Reg.FN.DIRTY_STATUS.ACTIVE fn, 1)]
  else s.setFld (Reg.FN.DIRTY_CFG.EN fn) 0

def execDirtyCfgWrite (fn : Nat) (en : Bool) (s : State) : Answer := .next (dirtyCfg fn en s)

/-- R321: a write to DIRTY_MAP, DIRTY_START or DIRTY_PAGES. -/
def dirtyLogConfig (fn off : Nat) (w : Word) (s : State) : State :=
  let fld : Option Fld := match off with
    | 0x804 => some (Reg.FN.DIRTY_MAP_LO.ADDR fn)
    | 0x808 => some (Reg.FN.DIRTY_MAP_HI.ADDR fn)
    | 0x80C => some (Reg.FN.DIRTY_START_LO.ADDR fn)
    | 0x810 => some (Reg.FN.DIRTY_START_HI.ADDR fn)
    | 0x814 => some (Reg.FN.DIRTY_PAGES.PAGES fn)
    | _ => none
  match fld with
  | none => s
  | some f =>
    if 256 ≤ fn then s
    else if s.isSet (Reg.FN.DIRTY_CFG.EN fn) then s.setFld (Reg.FN.DIRTY_STATUS.CFG_IGNORED fn) 1
    else s.setFld f w.toNat

def execDirtyLogConfigWrite (fn off : Nat) (w : Word) (s : State) : Answer := .next (dirtyLogConfig fn off w s)

/-- R321: every write issued while EN was 1 has been logged. -/
def dirtyDrained (fn : Nat) (s : State) : State :=
  if 256 ≤ fn || s.isSet (Reg.FN.DIRTY_CFG.EN fn) then s else s.setFld (Reg.FN.DIRTY_STATUS.ACTIVE fn) 0

def execDirtyLogDrained (fn : Nat) (s : State) : Answer := .next (dirtyDrained fn s)

end Sys2Proof.Machine
end

