-- ==== Sys2Proof/Machine/Flags.lean ====
section
/-!
DEFINITION. The sticky flags of a core's status word (R79, R90, R91, R125, R186). A flag clears only by an explicit write of the word.
-/
namespace Sys2Proof.Machine

/-- Set SAT where a result saturated (R90). -/
def State.noteSat (s : State) (n : Nat) (sat : Bool) : State := if sat then s.sticky n 1 else s

/-- Set EXP_SPECIAL where EXPX met an infinity or a NaN (R91). -/
def State.noteSpecial (s : State) (n : Nat) (special : Bool) : State := if special then s.sticky n 2 else s

/-- Set ARR_NAN where a NaN was written or met (R125, R186), ARR_INF where an infinity was written, ARR_SAT where a sum saturated (R125). -/
def State.arrayFlags (s : State) (n : Nat) (nan inf sat : Bool) : State :=
  s.sticky n ((if nan then 2 ^ 16 else 0) + (if inf then 2 ^ 17 else 0) + (if sat then 2 ^ 18 else 0))

end Sys2Proof.Machine
end

