-- ==== Sys2Proof/Machine/Operands.lean ====
section
/-!
DEFINITION. The operands of the matrix array (R116, R118–R120, R126): the product descriptor and its checks, and the layouts in which a
product reads its two operands and their scales.
-/
namespace Sys2Proof.Machine

/-! ### The product descriptor (R116, R118–R120) -/

/-- The parameter block of an array product. -/
structure Product where
  mode : Nat
  zero : Bool
  aScaled : Bool
  bScaled : Bool
  conjA : Bool
  conjB : Bool
  aFmt : Nat
  bFmt : Nat
  blocks : Nat
  tile : Nat
  aBase : Nat
  aPitch : Nat
  bBase : Nat
  bPitch : Nat
  aScale : Nat
  bScale : Nat
  mv : Nat
  nv : Nat
  stage : Nat
deriving DecidableEq, Repr

def parseProduct (b : List Byte) : Product :=
  let fl := fieldAt b 1 1
  { mode := fieldAt b 0 1, zero := fl.testBit 0, aScaled := fl.testBit 1, bScaled := fl.testBit 2, conjA := fl.testBit 3, conjB := fl.testBit 4
    aFmt := fieldAt b 2 1, bFmt := fieldAt b 3 1, blocks := fieldAt b 4 2, tile := fieldAt b 6 1, aBase := fieldAt b 8 4
    aPitch := fieldAt b 12 4, bBase := fieldAt b 16 4, bPitch := fieldAt b 20 4, aScale := fieldAt b 24 4, bScale := fieldAt b 28 4
    mv := fieldAt b 32 1, nv := fieldAt b 33 1, stage := fieldAt b 36 2 }

/-- What R116 and R119 fix per mode: depth per block, output rows and columns, R_A, P, bytes per A value in a feed row, bytes per plane row and
per plane value. -/
structure ModeShape where
  depth : Nat
  lim : Nat
  rA : Nat
  plane : Nat
  aW : Nat
  bRow : Nat
  bW : Nat
deriving DecidableEq, Repr

def modeShape (mode : Nat) : ModeShape :=
  if mode = 2 then ⟨64, 32, 32, 1024, 1, 32, 1⟩
  else if mode = 6 then ⟨16, 16, 32, 1024, 2, 64, 4⟩
  else if mode = 3 ∨ mode = 4 ∨ mode = 7 ∨ mode = 11 then ⟨32, 32, 64, 2048, 2, 64, 2⟩
  else ⟨32, 32, 32, 1024, 1, 32, 1⟩

/-- Reserved bytes and bits of the block. -/
def productReserved (b : List Byte) : Bool :=
  Nat.blt 31 (fieldAt b 1 1) || Nat.blt 3 (fieldAt b 2 1) || Nat.blt 3 (fieldAt b 3 1) || Nat.blt 63 (fieldAt b 6 1) ||
    !Nat.beq (fieldAt b 7 1) 0 || [8, 12, 16, 20, 24, 28].any (fun o => Nat.blt 0x1FFFFF (fieldAt b o 4)) ||
    Nat.blt 63 (fieldAt b 32 1) || Nat.blt 63 (fieldAt b 33 1) || !Nat.beq (fieldAt b 34 2) 0 || !Nat.beq (fieldAt b 38 26) 0

/-- One past the last scratchpad byte that the product reads. -/
def Product.readEnd (p : Product) : Nat :=
  let h := modeShape p.mode
  let groups := p.blocks * h.depth / 32
  let rows := if p.mode = 6 then 16 else 32
  max (max (p.aBase + 31 * p.aPitch + (p.blocks - 1) * h.rA + p.mv * h.aW)
      (p.bBase + (p.blocks - 1) * p.bPitch + (rows - 1) * h.bRow + p.nv * h.bW))
    (max (max (if p.aScaled then p.aScale + 32 * (groups - 1) + p.mv else 0) (if p.bScaled then p.bScale + 32 * (groups - 1) + p.nv else 0))
      (if p.stage = 0xFFFF then 0 else p.stage * 32 + 288))

/-- R120: the block passes its checks. -/
def productOk (b : List Byte) : Bool :=
  let p := parseProduct b
  let h := modeShape p.mode
  let fmtMax := if p.mode = 1 ∨ p.mode = 11 then 1 else 0
  Nat.ble 1 p.mode && Nat.ble p.mode 11 && Nat.ble p.aFmt fmtMax && Nat.ble p.bFmt fmtMax && !productReserved b &&
    Nat.ble 1 p.blocks && Nat.ble p.blocks 4096 && !(Nat.beq p.mode 7 && Nat.blt 2047 p.blocks) &&
    Nat.ble 1 p.mv && Nat.ble p.mv h.lim && Nat.ble 1 p.nv && Nat.ble p.nv h.lim &&
    !(Nat.beq p.mode 2 && !(p.aScaled && p.bScaled)) && !(Nat.blt 2 p.mode && (p.aScaled || p.bScaled)) &&
    !((p.conjA || p.conjB) && !Nat.beq p.mode 6) &&
    [p.aBase, p.aPitch, p.bBase, p.bPitch].all (fun x => Nat.beq (x % 64) 0) &&
    Nat.ble (p.blocks * h.rA) p.aPitch && Nat.ble h.plane p.bPitch && Nat.ble p.readEnd 0x200000 &&
    !((Nat.beq p.mode 6 || Nat.beq p.mode 7) && !Nat.beq p.stage 0xFFFF)

/-! ### Operands (R119, R126) -/

/-- Address of A's value for row m and reduction step k (in MODE 0x06 its real part; the imaginary part stands one feed row on). -/
def Product.aAddr (p : Product) (m k : Nat) : Nat :=
  let h := modeShape p.mode
  let r := k % h.depth
  let row := if p.mode = 2 then r / 2 else if p.mode = 6 then 2 * r else r
  p.aBase + row * p.aPitch + k / h.depth * h.rA + m * h.aW

/-- Address of B's value for reduction step k and column n. -/
def Product.bAddr (p : Product) (k n : Nat) : Nat :=
  let h := modeShape p.mode
  let r := k % h.depth
  p.bBase + k / h.depth * p.bPitch + (if p.mode = 2 then r / 2 else r) * h.bRow + n * h.bW

/-- The format of a side in the floating-point modes. -/
def sideFmt (mode fmt : Nat) : FpFmt :=
  match mode with
  | 1 => if fmt = 0 then .e4m3 else .e5m2
  | 2 => .e2m1
  | 3 => .bf16
  | 4 => .fp16
  | _ => if fmt = 0 then .bf16 else .fp16

/-- The operand reads of a product, as functions of (m, k) and (k, n). -/
structure Operands where
  a : Nat → Nat → Nat
  aIm : Nat → Nat → Nat
  b : Nat → Nat → Nat
  bIm : Nat → Nat → Nat
  aSc : Nat → Nat → Nat
  bSc : Nat → Nat → Nat

/-- The operands of a product from what its refills (`A`) and its plane loads (`B`) read of core `n`'s scratchpad (R134). Block scales come with the
planes (log entry 218). -/
def operandsOf (A B : Memory) (n : Nat) (p : Product) : Operands :=
  let nib (k v : Nat) : Nat := if p.mode = 2 then v / 16 ^ (k % 2) % 16 else v
  { a := fun m k => nib k (A.readLe (spBase n + p.aAddr m k) (modeShape p.mode).aW)
    aIm := fun m k => A.readLe (spBase n + p.aAddr m k + p.aPitch) 2
    b := fun k j => nib k (B.readLe (spBase n + p.bAddr k j) (min 2 (modeShape p.mode).bW))
    bIm := fun k j => B.readLe (spBase n + p.bAddr k j + 2) 2
    aSc := fun m k => if p.aScaled then B.readLe (spBase n + p.aScale + k / 32 * 32 + m) 1 else 127
    bSc := fun k j => if p.bScaled then B.readLe (spBase n + p.bScale + k / 32 * 32 + j) 1 else 127 }

/-! ### Feeding (R104, R119, R133, R514) -/

/-- Bytes that each row draws per array cycle (R133), T_b, and the cycles of a whole product (R116, R117). -/
def rowDraw (mode : Nat) : Nat := if mode = 6 ∨ mode = 7 ∨ mode = 11 then 2 else 1
def blockCycles (mode : Nat) : Nat := (modeShape mode).rA / rowDraw mode
def Product.cycles (p : Product) : Nat := p.blocks * blockCycles p.mode

/-- The bytes of a whole feed row. -/
def Product.rowBytes (p : Product) : Nat := p.blocks * (modeShape p.mode).rA

/-- A product as it fires: nothing of it has been read. -/
def ArrayOp.fresh (slot : Nat) (posts : List Nat) (block : List Byte) (prologue : Bool) : ArrayOp :=
  ⟨slot, posts, block, prologue, false, 0, [], 0, ⟨[], []⟩, ⟨[], []⟩, [], []⟩

/-- Bytes read of a feed row so far. -/
def ArrayOp.fedOf (a : ArrayOp) (row : Nat) : Nat := Assoc.findD (α := Nat) row 0 a.fed

/-- The cycles up to which the array can advance: each takes what every row's queue holds for it. Before the first, every queue holds 8 entries, or a
whole feed row that is shorter (R104, R514). -/
def ArrayOp.reach (a : ArrayOp) : Nat :=
  let p := parseProduct a.block
  if a.planes = 0 ∨ (List.range 32).any (fun r => Nat.blt (a.fedOf r) (min 64 p.rowBytes)) then 0
  else ((List.range 32).map fun r => a.fedOf r / rowDraw p.mode).foldl min p.cycles

/-- Has every operand byte of the product come, so that its occupancy can end? -/
def ArrayOp.whole (a : ArrayOp) : Bool := Nat.ble (parseProduct a.block).cycles a.reach

/-- The poisoned words of a core's scratchpad in [off, off + len), by scratchpad offset (R107). -/
def State.poisonIn (s : State) (n off len : Nat) : List Nat := (s.sramHits (spBase n + off) len 2).map fun e => e.1 * 8 - spBase n

/-- A plane is loaded, with the scales of its block (R119, R126, R514). -/
def State.loadPlane (s : State) (n : Nat) (a : ArrayOp) : State × ArrayOp :=
  let p := parseProduct a.block
  let h := modeShape p.mode
  let g := a.planes * h.depth / 32
  let len := max 1 (h.depth / 32) * 32
  let parts := [(p.bBase + a.planes * p.bPitch, h.plane)] ++ (if p.aScaled then [(p.aScale + 32 * g, len)] else []) ++
    (if p.bScaled then [(p.bScale + 32 * g, len)] else [])
  let seen := parts.foldl (fun (m : Memory) x => m.write (spBase n + x.1) (s.rdBytes (spBase n + x.1) x.2)) a.seenB
  let bad := parts.flatMap fun x => s.poisonIn n x.1 x.2
  (parts.foldl (fun s x => s.scrubSram (spBase n + x.1) x.2) s, { a with planes := a.planes + 1, seenB := seen, badB := a.badB ++ bad })

/-- Plane 0 loads in the prefill, and plane b + 1 as block b begins to stream (R514; the moment within the block is a DESIGN CHOICE, log entry 218). -/
def State.loadPlanes (s : State) (n : Nat) (a : ArrayOp) : Nat → State × ArrayOp
  | 0 => (s, a)
  | k + 1 =>
    let p := parseProduct a.block
    if a.planes < min p.blocks ((a.cycles + blockCycles p.mode - 1) / blockCycles p.mode + 1) then
      let (s, a) := s.loadPlane n a
      s.loadPlanes n a k
    else (s, a)

/-- The array advances to cycle `c`: entries that every row has drawn leave its queue, and planes load on the way. -/
def State.stream (s : State) (n : Nat) (a : ArrayOp) (c : Nat) : State :=
  let p := parseProduct a.block
  let gone := c * rowDraw p.mode / 8 - a.cycles * rowDraw p.mode / 8
  let (s, a) := s.loadPlanes n { a with cycles := c } p.blocks
  let k := s.core n
  s.setCore n { k with array := some a, feeders := k.feeders.map fun q => (q.1, q.2.drop gone) }

end Sys2Proof.Machine
end

