-- ==== Sys2Proof/Machine/Array.lean ====
section
/-!
DEFINITION. The matrix array as named operations (R115–R134): the arithmetic of the eleven modes and the tile a product writes.
-/
namespace Sys2Proof.Machine

/-! ### One output (R122–R132) -/

/-- The running value of an output, with the two sticky conditions a sum can meet. -/
structure CellSum where
  f : Fp
  re : Int
  im : Int
  metric : Int
  winner : Nat
  sat : Bool
deriving DecidableEq, Repr

/-- R123: the initial value of an output. -/
def accInit (mode : Nat) : CellSum := ⟨if mode = 11 then .inf true else .zero, 0, 0, 0x7FFF, 0xFFFF, false⟩

/-- The running value that the entries of an output hold. -/
def accLoad (e : List Nat) : CellSum :=
  let w (i : Nat) : Nat := e.getD i 0
  ⟨dec32 (w 0), if e.length = 4 then toSigned 48 (w 0 + 2 ^ 32 * (w 1 % 65536)) else toSigned 32 (w 0),
    toSigned 48 (w 2 + 2 ^ 32 * (w 3 % 65536)), toSigned 16 (w 0), w 0 / 65536, false⟩

/-- Add an integer to the running sum, saturating at `w` bits (R125). -/
def CellSum.addInt (a : CellSum) (w : Nat) (x : Int) : CellSum :=
  let (v, t) := satTo w (a.re + x)
  { a with re := v, sat := a.sat || t }

/-- Add a complex product (R129). -/
def CellSum.addComplex (a : CellSum) (x y : Int) : CellSum :=
  let (u, t) := satTo 48 (a.re + x)
  let (v, t') := satTo 48 (a.im + y)
  { a with re := u, im := v, sat := a.sat || t || t' }

/-- Count the ones of a byte. -/
def popcount8 (v : Nat) : Nat := ((List.range 8).filter fun i => v.testBit i).length

/-- One reduction step of an output, in ascending k (R122, R129–R132). -/
def accStep (p : Product) (o : Operands) (m n : Nat) (acc : CellSum) (k : Nat) : CellSum :=
  let a := o.a m k
  let b := o.b k n
  match p.mode with
  | 5 => acc.addInt 32 (toSigned 8 a * toSigned 8 b)
  | 6 =>
    let ar := toSigned 16 a
    let br := toSigned 16 b
    let ai := toSigned 16 (o.aIm m k) * (if p.conjA then -1 else 1)
    let bi := toSigned 16 (o.bIm k n) * (if p.conjB then -1 else 1)
    acc.addComplex (ar * br - ai * bi) (ar * bi + ai * br)
  | 7 =>
    let c := (satTo 16 (toSigned 16 a + toSigned 16 b)).1
    if c < acc.metric ∨ acc.winner = 0xFFFF then { acc with metric := c, winner := k } else acc
  | 8 => acc.addInt 32 (toSigned 8 a - toSigned 8 b).natAbs
  | 9 => acc.addInt 32 ((toSigned 8 a - toSigned 8 b) * (toSigned 8 a - toSigned 8 b))
  | 10 => acc.addInt 32 (popcount8 (a ^^^ b))
  | 11 =>
    let c := (FpFmt.decode (sideFmt 11 p.aFmt) a).add32 (FpFmt.decode (sideFmt 11 p.bFmt) b)
    if acc.f.isNan then acc else if c.isNan || acc.f.lt c then { acc with f := c } else acc
  | mode =>
    let x := scaleBy (FpFmt.decode (sideFmt mode p.aFmt) a) (o.aSc m k)
    let y := scaleBy (FpFmt.decode (sideFmt mode p.bFmt) b) (o.bSc k n)
    { acc with f := acc.f.add32 (x.mul y) }

/-- Fold a function over 0, 1, … in ascending order. -/
def foldUp {α : Type} (f : α → Nat → α) : Nat → Nat → α → α
  | 0, _, x => x
  | n + 1, i, x => foldUp f n (i + 1) (f x i)

/-- The entries an output leaves (R116, R129, R130). -/
def accStore (mode : Nat) (a : CellSum) : List Nat :=
  match mode with
  | 5 => [ofSigned 32 a.re]
  | 6 =>
    let r := ofSigned 64 a.re
    let i := ofSigned 64 a.im
    [r % 2 ^ 32, r / 2 ^ 32, i % 2 ^ 32, i / 2 ^ 32]
  | 7 => [ofSigned 16 a.metric + 65536 * (a.winner % 65536)]
  | 8 => [ofSigned 32 a.re]
  | 9 => [ofSigned 32 a.re]
  | 10 => [ofSigned 32 a.re]
  | _ => [enc32 a.f]

/-- Is the mode one whose entries are FP32? -/
def fpMode (mode : Nat) : Bool := Nat.ble 1 mode && Nat.ble mode 4 || Nat.beq mode 11

/-- Entries per output. -/
def perOutput (mode : Nat) : Nat := if mode = 6 then 4 else 1

/-- Address of the entries of output (m, n) of a tile (R116, R129). -/
def entryAddr (core mode tile m n : Nat) : Nat :=
  accBase core + 4 * (tile * 1024 + (if mode = 6 then 4 * (16 * m + n) else 32 * m + n))

/-- Compute output (m, n). -/
def State.output (s : State) (core : Nat) (p : Product) (o : Operands) (m n : Nat) : CellSum :=
  let e := (List.range (perOutput p.mode)).map fun i => s.rd (entryAddr core p.mode p.tile m n + 4 * i) 4
  foldUp (accStep p o m n) (p.blocks * (modeShape p.mode).depth) 0 (if p.zero then accInit p.mode else accLoad e)

/-- Does an access of `w` bytes at scratchpad offset `a` meet a poisoned word? -/
def meets (bad : List Nat) (a w : Nat) : Bool := bad.any fun x => Nat.blt x (a + w) && Nat.blt a (x + 8)

/-- Do the operands of row m, or of column n, include a poisoned word (R134)? -/
def Product.rowBad (p : Product) (bad badB : List Nat) (m : Nat) : Bool :=
  (List.range (p.blocks * (modeShape p.mode).depth)).any fun k =>
    meets bad (p.aAddr m k) (modeShape p.mode).aW || (Nat.beq p.mode 6 && meets bad (p.aAddr m k + p.aPitch) 2) ||
      (p.aScaled && meets badB (p.aScale + k / 32 * 32 + m) 1)
def Product.colBad (p : Product) (bad : List Nat) (n : Nat) : Bool :=
  (List.range (p.blocks * (modeShape p.mode).depth)).any fun k =>
    meets bad (p.bAddr k n) (modeShape p.mode).bW || (p.bScaled && meets bad (p.bScale + k / 32 * 32 + n) 1)

/-- The outputs a product writes. -/
def Product.outputs (p : Product) : List (Nat × Nat) := (List.range p.mv).flatMap fun m => (List.range p.nv).map fun n => (m, n)

/-- Leave [a, a + len) undefined under a stretch of its own. -/
def State.leaveUndefined (s : State) (a len : Nat) : State := s.drawn.setMem (s.mem.undefine a len (s.draws + 1))

/-- Write one output: its entries, or undefined ones where it depends on a poisoned word; also the sticky bits it sets (R125). -/
def State.putOutput (s : State) (core : Nat) (p : Product) (a : CellSum) (bad : Bool) (m n : Nat) : State :=
  let e := accStore p.mode a
  let addr := entryAddr core p.mode p.tile m n
  if bad then s.leaveUndefined addr (4 * perOutput p.mode)
  else
    let s := s.ownWrite core addr (e.flatMap fun w => leBytes 4 w)
    let f := fpMode p.mode
    s.arrayFlags core (f && a.f.isNan) (f && a.f.isInf) (a.sat && !Nat.beq p.mode 7)

/-- A product writes its tile from what was read of its operands; whether a poisoned word entered it (R115–R134). -/
def State.runProduct (s : State) (core : Nat) (a : ArrayOp) : State × Bool :=
  let p := parseProduct a.block
  let o := operandsOf a.seenA a.seenB core p
  let rows := (List.range p.mv).map fun m => !(a.badA.isEmpty && a.badB.isEmpty) && p.rowBad a.badA a.badB m
  let cols := (List.range p.nv).map fun n => !a.badB.isEmpty && p.colBad a.badB n
  let res := p.outputs.map fun x => (x, s.output core p o x.1 x.2,
    rows.getD x.1 false || cols.getD x.2 false || (!p.zero && s.bad (entryAddr core p.mode p.tile x.1 x.2) (4 * perOutput p.mode)))
  (res.foldl (fun s r => s.putOutput core p r.2.1 r.2.2 r.1.1 r.1.2) s, res.any fun r => r.2.2)

end Sys2Proof.Machine
end

