-- ==== Sys2Proof/Machine/Stages.lean ====
section
/-!
DEFINITION. The fixed stages around a product (R140–R165): the stage block, its checks, what each stage computes, the statistic policies, the
destinations, and the vector operation of R156.
-/
namespace Sys2Proof.Machine

/-! ### The stage block (R141, R143, R145) -/

/-- The block's length in bytes. -/
def stageLen : Nat := 288

/-- Is stage `i` enabled? -/
def stageOn (b : List Byte) (i : Nat) : Bool := (fieldAt b 0 1).testBit i
/-- A field of stage entry `i`. -/
def entF (b : List Byte) (i off len : Nat) : Nat := fieldAt b (0x40 + 0x20 * i + off) len
def stagePolicy (b : List Byte) : Nat := fieldAt b 1 1
def stageDst (b : List Byte) : Nat := fieldAt b 2 1
def stageTap (b : List Byte) : Nat := fieldAt b 3 1
def stageRowLen (b : List Byte) : Nat := fieldAt b 24 4
def stageTileIdx (b : List Byte) : Nat := fieldAt b 32 4
def stageTiles (b : List Byte) : Nat := (stageRowLen b + 31) / 32
/-- FMT and OVF of stage `i`. -/
def entFmt (b : List Byte) (i : Nat) : Nat := entF b i 0 1 % 8
def entSat (b : List Byte) (i : Nat) : Bool := (entF b i 0 1).testBit 3
/-- KIND, PASS1, UNNORM, MASK and GAIN_BF16 of NORM; OP and AXIS of REDUCE. -/
def normKind (b : List Byte) : Nat := entF b 4 1 1
def normFlag (b : List Byte) (i : Nat) : Bool := (entF b 4 2 1).testBit i
def normPass1 (b : List Byte) : Bool := normFlag b 0
def normUnnorm (b : List Byte) : Bool := normFlag b 1
def reduceOp (b : List Byte) : Nat := entF b 6 1 1 % 8
def reduceCols (b : List Byte) : Bool := (entF b 6 1 1).testBit 3
def reduceK (b : List Byte) : Nat := entF b 6 2 1

/-- The element format of an FMT code (R141). -/
def fmtOf (code : Nat) : FpFmt :=
  match code with
  | 0 => .fp32 | 1 => .bf16 | 2 => .fp16 | 3 => .e4m3 | 5 => .e4m3 | 4 => .e5m2 | 6 => .e5m2 | _ => .e2m1
/-- Width of an element in half bytes. -/
def fmtHalf (code : Nat) : Nat := (fmtOf code).shape.w / 4
def isMx (code : Nat) : Bool := Nat.ble 5 code

/-- FMT of the last enabled stage among `l`, FP32 with none (R155, R163). -/
def lastFmt (b : List Byte) (l : List Nat) : Nat := l.foldl (fun f i => if stageOn b i then entFmt b i else f) 0
def finalFmt (b : List Byte) : Nat := lastFmt b [1, 2, 3, 4, 5]
/-- FMT of what feeds NORM. -/
def heldFmt (b : List Byte) : Nat := lastFmt b [1, 2, 3]

/-- Where the REDUCE record stands (R160). -/
def reduceRecord (b : List Byte) : Nat := fieldAt b 20 4 + (if stageOn b 4 then 576 else 0)

/-- The bits of the block that are not reserved: offset, bytes and mask, the header's and each stage entry's. -/
def headerMask : List (Nat × Nat × Nat) :=
  [(0, 1, 0x7F), (1, 1, 3), (2, 1, 7), (3, 1, 7), (4, 4, 0x1FFFFF), (8, 4, 0x1FFFFF), (12, 4, 0x1FFFFF), (16, 4, 0x1FFFFF), (20, 4, 0x1FFFFF),
    (24, 4, 0x7FFFFF), (28, 4, 0x1FFFFF), (32, 4, 0x3FFFF), (36, 4, 0x1FFFFF), (40, 4, 0x1FFFFF), (44, 4, 0x1FFFFF), (48, 16, 0)]
def entryMask (i : Nat) : List (Nat × Nat × Nat) :=
  let w := 0x1FFFFF
  match i with
  | 0 => [(0, 1, 15), (1, 1, 15), (2, 1, 7), (3, 1, 1), (4, 4, w), (8, 4, w), (12, 4, w), (16, 4, w), (20, 4, w), (24, 8, 0)]
  | 1 => [(0, 1, 15), (1, 1, 3), (2, 2, 0), (4, 4, w), (8, 24, 0)]
  | 2 => [(0, 1, 15), (1, 1, 63), (2, 1, 3), (3, 1, 1), (4, 4, 63), (8, 4, w), (12, 20, 0)]
  | 3 => [(0, 1, 15), (1, 1, 7), (2, 2, 0), (4, 4, w), (8, 4, w), (12, 20, 0)]
  | 4 => [(0, 1, 15), (1, 1, 7), (2, 1, 15), (3, 1, 0), (8, 4, w), (12, 4, w), (24, 1, 63), (25, 1, 15), (26, 6, 0)]
  | 5 => [(0, 1, 15), (1, 1, 1), (2, 2, 0), (4, 4, w), (8, 24, 0)]
  | _ => [(0, 1, 15), (1, 1, 15), (2, 1, 127), (3, 1, 0), (4, 4, w), (8, 24, 0)]

/-- Is a reserved bit of the block set? -/
def stageReserved (b : List Byte) : Bool :=
  (headerMask.any fun x => !Nat.beq (fieldAt b x.1 x.2.1 &&& x.2.2) (fieldAt b x.1 x.2.1)) ||
    (List.range 7).any fun i => stageOn b i && (entryMask i).any fun x => !Nat.beq (entF b i x.1 x.2.1 &&& x.2.2) (entF b i x.1 x.2.1)

/-! ### Checks (R142, R161, R165) -/

/-- Who uses a stage block: a product of a mode with its two format codes, or a vector operation. -/
inductive StageUser where
  | product (mode aFmt bFmt : Nat)
  | vector
deriving DecidableEq, Repr

/-- R142: is stage `i` allowed for the user? -/
def stageAllowed (u : StageUser) (i : Nat) : Bool :=
  match u with
  | .vector => !Nat.beq i 0
  | .product m _ _ =>
    if m = 1 ∨ m = 3 ∨ m = 4 then true
    else if m = 2 ∨ m = 5 then !Nat.beq i 0
    else if 8 ≤ m then Nat.beq i 5 || Nat.beq i 6
    else false

/-- The FMT code of a side's operand format, where it has one. -/
def operandFmt (u : StageUser) (b : Bool) : Nat :=
  match u with
  | .product 1 a c => 3 + (if b then c else a)
  | .product 3 _ _ => 1
  | .product 4 _ _ => 2
  | _ => 0

/-- The FMT codes that a side of a product takes as its operand format (R116, R118, R126): with block scales the MX form too. -/
def Product.operandCodes (p : Product) (sideB : Bool) : List Nat :=
  let f := if sideB then p.bFmt else p.aFmt
  match p.mode with
  | 1 => [3 + f] ++ (if (if sideB then p.bScaled else p.aScaled) then [5 + f] else [])
  | 2 => [7]
  | 3 => [1]
  | 4 => [2]
  | 11 => [1 + f]
  | _ => []

/-- R161: is the policy allowed for the kind? `divided`: a later stage block divides by the same record. -/
def policyOk (b : List Byte) (divided : Bool) : Bool :=
  let k := normKind b
  match stagePolicy b with
  | 0 => Nat.beq k 4
  | 1 => Nat.beq k 3 && Nat.beq (entFmt b 4) 1 && normUnnorm b && divided
  | 2 => Nat.ble k 3
  | _ => Nat.ble k 3 && (normPass1 b || !Nat.beq k 3 || normUnnorm b)

/-- R165, but for the hold window: the first failed condition. `consumers`: the operand formats of each product that reads the destination. -/
def stageReason (b : List Byte) (users : List StageUser) (divided : Bool) (consumers : List (List Nat)) : Option Nat :=
  let on := stageOn b
  let norm := on 4
  let tests : List (Bool × Nat) := [
    ((List.range 7).any (fun i => on i && !Nat.beq i 5 && isMx (entFmt b i)) || (on 0 && Nat.blt 5 (entF b 0 2 1)) ||
      (on 3 && Nat.blt 4 (entF b 3 1 1)) || (norm && (Nat.beq (normKind b) 0 || Nat.blt 4 (normKind b))) ||
      (on 6 && Nat.beq (reduceOp b) 7) || Nat.blt 4 (stageDst b), 0x0140),
    (on 2 && (Nat.beq (entF b 2 2 1) 0 || Nat.blt 1280 ((entF b 2 1 1 + 1) * 20)), 0x0141),
    (on 6 && (Nat.beq (reduceOp b) 3 || Nat.beq (reduceOp b) 6) && (Nat.beq (reduceK b) 0 || Nat.blt 64 (reduceK b)), 0x0142),
    (Nat.beq (stageRowLen b) 0 || Nat.blt 4194304 (stageRowLen b), 0x0143),
    (users.any fun u => (List.range 7).any fun i => on i && !stageAllowed u i, 0x0240),
    (on 0 && users.any fun u => !Nat.beq (entFmt b 0) (operandFmt u ((entF b 0 1 1).testBit 0)), 0x0241),
    ((Nat.beq (stageDst b) 0 && !Nat.beq (finalFmt b) 0) || ((Nat.beq (stageDst b) 2 || Nat.beq (stageDst b) 3) && (Nat.beq (finalFmt b) 0 || consumers.any fun l => !l.contains (finalFmt b))), 0x0242),
    ((norm && !policyOk b divided) || (!norm && !Nat.beq (stagePolicy b) 0) ||
      (norm && normPass1 b && (!Nat.beq (stagePolicy b) 3 || on 5 || on 6 || !Nat.beq (stageDst b) 4)), 0x0243),
    (!Nat.beq (stageTap b) 7 && !on (stageTap b), 0x0244)]
  (tests.find? fun t => t.1).map fun t => t.2

/-- Bytes of a record (R160). -/
def reduceRecordLen (b : List Byte) : Nat := if reduceOp b = 3 ∨ reduceOp b = 6 then 64 + 256 * reduceK b else 576

/-- The span of a whole row's destination under DST_KIND 2 or 3 (R155, R160): first byte and length. In MX E2M1 tile j takes the feed rows
16 (j mod 2) to 16 (j mod 2) + 15 of block floor(j / 2), so that the second half of the last block is used with an even count only. -/
def dstSpan (b : List Byte) : Option (Nat × Nat) :=
  let t := stageTiles b
  let w := fmtHalf (finalFmt b)
  let base := fieldAt b 4 4
  let pitch := fieldAt b 8 4
  let step := fieldAt b 36 4
  match stageDst b with
  | 2 =>
    if w = 1 then some (base, max ((t - 1) / 2 * step + 15 * pitch + 32) (if 2 ≤ t then (t - 2) / 2 * step + 31 * pitch + 32 else 0))
    else some (base, (t - 1) * step + 31 * pitch + 16 * w)
  | 3 => some (base, (t - 1) * step + 512 * w)
  | _ => none

/-- The regions of a block that must lie inside the hold window: first byte and length (R160). -/
def holdRegions (b : List Byte) : List (Nat × Nat) :=
  let t := stageTiles b
  (if stageOn b 4 then [(fieldAt b 20 4, 576)] else []) ++
  (if stageOn b 6 then [(reduceRecord b, reduceRecordLen b)] else []) ++
  (if stageOn b 4 && Nat.beq (stagePolicy b) 2 then [(fieldAt b 28 4, 512 * fmtHalf (heldFmt b) * t)] else []) ++
  (dstSpan b).toList ++
  (if stageOn b 5 && isMx (entFmt b 5) && (Nat.beq (stageDst b) 2 || Nat.beq (stageDst b) 3) then [(entF b 5 4 4, 32 * t)] else [])

/-- R165: the hold-window conditions. A region is outside the window where a byte of it is; 'together' is taken over the regions of one stage block
(DESIGN CHOICE, log entry 222). -/
def holdReason (holdOff holdLen : Nat) (b : List Byte) : Option Nat :=
  if 0x100000 < holdLen ∨ (holdRegions b).any (fun r => Nat.blt r.1 holdOff || Nat.blt (holdOff + holdLen) (r.1 + r.2)) then some 0x0540
  else if holdLen < ((holdRegions b).map fun r => r.2).sum then some 0x0541
  else none

/-! ### Tiles -/

/-- The valid part of a tile, by rows. -/
abbrev Tile := List (List Fp)

def tileOf (mv nv : Nat) (f : Nat → Nat → Fp) : Tile := (List.range mv).map fun m => (List.range nv).map (f m)
def tileAt (t : Tile) (m n : Nat) : Fp := (t.getD m []).getD n .zero
def Tile.upd (t : Tile) (f : Nat → Nat → Fp → Fp) : Tile := (t.zipIdx).map fun r => (r.1.zipIdx).map fun x => f r.2 x.2 x.1

/-- Round a stage's result to its FMT (R141). -/
def stageRound (b : List Byte) (i : Nat) (t : Tile) : Tile := t.upd fun _ _ x => (fmtOf (entFmt b i)).round (entSat b i) x

/-- A value in an unscaled format at a scratchpad address. -/
def State.value (s : State) (core a code : Nat) : Fp := (fmtOf code).decode (s.rd (spBase core + a) (fmtHalf code / 2))

/-! ### BIAS, ACT, RESID (R147, R148) -/

/-- The parameters of one run of a sequence: core, stage block, tile index, valid rows and columns, the accumulator tile it came from. -/
structure StageRun where
  core : Nat
  b : List Byte
  j : Nat
  mv : Nat
  nv : Nat
  from_ : Option Nat
deriving DecidableEq, Repr

def State.biasStage (s : State) (r : StageRun) (t : Tile) : Tile :=
  let code := (entF r.b 1 1 1) % 2
  t.upd fun m n x => x.add32 (s.value r.core (entF r.b 1 4 4 + fmtHalf code / 2 * (if (entF r.b 1 1 1).testBit 1 then m else 32 * r.j + n)) code)

/-- The piecewise polynomial at x. -/
def State.actValue (s : State) (base segs deg : Nat) (x : Fp) : Fp :=
  let f (o : Nat) : Fp := dec32 (s.rd (base + 4 * o) 4)
  let seg := (List.range segs).foldl (fun acc i => if Nat.ble 1 i && (f i).le x then i else acc) 0
  let c (j : Nat) : Fp := f (segs + 4 * seg + j)
  (List.range deg).foldl (fun p i => p.fma32 x (c (deg - 1 - i))) (c deg)

def State.actStage (s : State) (r : StageRun) (t : Tile) : Tile :=
  t.upd fun m n x =>
    let p := s.actValue (spBase r.core + entF r.b 2 8 4) (entF r.b 2 1 1 + 1) (entF r.b 2 2 1) x
    if (entF r.b 2 3 1).testBit 0 then p.mul32 (dec32 (s.rd (entryAddr r.core 1 (entF r.b 2 4 1) m n) 4)) else p

def State.residStage (s : State) (r : StageRun) (t : Tile) : Tile :=
  let code := entF r.b 3 1 1
  t.upd fun m n x => x.add32 (s.value r.core (entF r.b 3 4 4 + r.j * fieldAt r.b 44 4 + m * entF r.b 3 8 4 + n * (fmtHalf code / 2)) code)

/-! ### Writing elements (R155) -/

/-- Write a pattern at a scratchpad address; for a half-byte element `hi` names its nibble. -/
def State.putPat (s : State) (core code a : Nat) (hi : Bool) (v : Nat) : State :=
  if fmtHalf code = 1 then
    s.ownWrite core (spBase core + a) [BitVec.ofNat 8 (putBits (s.rd (spBase core + a) 1) (if hi then 4 else 0) 4 v)]
  else s.ownWrite core (spBase core + a) (leBytes (fmtHalf code / 2) v)

/-- Where column n of a row-major row at `a` stands. -/
def rowMajor (code a n : Nat) : Nat × Bool := (a + n * fmtHalf code / 2, Nat.beq (n % 2) 1)

/-- The scratchpad address and nibble of output (m, n) of tile j; nothing for accumulator and no output. -/
def dstAddr (b : List Byte) (j m n : Nat) : Option (Nat × Bool) :=
  let code := finalFmt b
  let base := fieldAt b 4 4
  let pitch := fieldAt b 8 4
  let step := fieldAt b 36 4
  match stageDst b with
  | 1 => some (rowMajor code (base + j * step + m * pitch) n)
  | 2 =>
    if code = 7 then some (base + j / 2 * step + (16 * (j % 2) + n / 2) * pitch + m, Nat.beq (n % 2) 1)
    else some (base + j * step + n * pitch + m * (fmtHalf code / 2), false)
  | 3 =>
    if code = 7 then some (base + j * step + 32 * (m / 2) + n, Nat.beq (m % 2) 1)
    else some (base + j * step + (32 * m + n) * (fmtHalf code / 2), false)
  | _ => none

/-- The positions of a tile. -/
def StageRun.cells (r : StageRun) : List (Nat × Nat) := (List.range r.mv).flatMap fun m => (List.range r.nv).map fun n => (m, n)

/-- Write the final result of a tile; `pat` gives an element's pattern. -/
def State.putTile (s : State) (r : StageRun) (pat : Nat → Nat → Nat) : State :=
  r.cells.foldl (fun s x =>
    match dstAddr r.b r.j x.1 x.2 with
    | some (a, hi) => s.putPat r.core (finalFmt r.b) a hi (pat x.1 x.2)
    | none =>
      match stageDst r.b, r.from_ with
      | 0, some t => s.ownWrite r.core (entryAddr r.core 1 t x.1 x.2) (leBytes 4 (pat x.1 x.2))
      | _, _ => s) s

/-- Write the tap of stage `i`, if it is the tapped stage. -/
def State.putTap (s : State) (r : StageRun) (i : Nat) (pat : Nat → Nat → Nat) : State :=
  if stageTap r.b = i then
    r.cells.foldl (fun s x =>
      let a := rowMajor (entFmt r.b i) (fieldAt r.b 12 4 + r.j * fieldAt r.b 40 4 + x.1 * fieldAt r.b 16 4) x.2
      s.putPat r.core (entFmt r.b i) a.1 a.2 (pat x.1 x.2)) s
  else s

/-- Patterns of values that stage `i`'s format holds. -/
def patOf (code : Nat) (t : Tile) (m n : Nat) : Nat := (fmtOf code).encode (tileAt t m n)

/-- Run one elementwise stage, if enabled: compute, round, tap. -/
def State.elementStage (s : State) (r : StageRun) (i : Nat) (f : Tile → Tile) (t : Tile) : State × Tile :=
  if stageOn r.b i then
    let t := stageRound r.b i (f t)
    (s.putTap r i (patOf (entFmt r.b i) t), t)
  else (s, t)

/-- BIAS, ACT and RESID. -/
def State.earlyStages (s : State) (r : StageRun) (t : Tile) : State × Tile :=
  let (s, t) := s.elementStage r 1 (s.biasStage r) t
  let (s, t) := s.elementStage r 2 (s.actStage r) t
  s.elementStage r 3 (s.residStage r) t

/-! ### QUANT (R128, R150) -/

/-- An MX result: patterns, scale codes by group index, and values. -/
def quantMx (b : List Byte) (t : Tile) (mv nv : Nat) : (Nat → Nat → Nat) × List Nat × Tile :=
  let f := fmtOf (entFmt b 5)
  if (entF b 5 1 1).testBit 0 then
    let gs := (List.range nv).map fun n => mxGroup f ((List.range mv).map fun m => tileAt t m n)
    let pat (m n : Nat) : Nat := (gs.getD n (127, [])).2.getD m 0
    (pat, gs.map (·.1), tileOf mv nv fun m n => scaleBy (f.decode (pat m n)) (gs.getD n (127, [])).1)
  else
    let gs := (List.range mv).map fun m => mxGroup f ((List.range nv).map fun n => tileAt t m n)
    let pat (m n : Nat) : Nat := (gs.getD m (127, [])).2.getD n 0
    (pat, gs.map (·.1), tileOf mv nv fun m n => scaleBy (f.decode (pat m n)) (gs.getD m (127, [])).1)

/-! ### Sums (R152) -/

def addPresent : Option Fp → Option Fp → Option Fp
  | some a, some b => some (a.add32 b)
  | some a, none => some a
  | none, b => b

/-- One level of the tree. -/
def treeLevel : List (Option Fp) → List (Option Fp)
  | a :: b :: r => addPresent a b :: treeLevel r
  | l => l

/-- The pairwise sum of up to 32 positions, absent ones passing their partner up. -/
def treeSum (l : List Fp) : Fp :=
  let p := (List.range 32).map fun i => l[i]?
  ((treeLevel (treeLevel (treeLevel (treeLevel (treeLevel p))))).headD none).getD .zero

/-- The first tile's sum is the initial value; later ones join in order. -/
def joinSum (first : Bool) (run x : Fp) : Fp := if first then x else run.add32 x

/-! ### REDUCE (R151) -/

/-- Is a strictly better than b? NaN ranks first in both directions. -/
def better (smallest : Bool) (a b : Fp) : Bool :=
  if b.isNan then false else if a.isNan then true else if smallest then a.lt b else b.lt a

/-- Insert a candidate with its position among the k best, equals keeping the lower position. -/
def topInsert (smallest : Bool) (k : Nat) (l : List (Fp × Nat)) (x : Fp × Nat) : List (Fp × Nat) :=
  ((l.takeWhile fun y => !better smallest x.1 y.1) ++ x :: (l.dropWhile fun y => !better smallest x.1 y.1)).take k

/-- The best of a list with its position. -/
def bestOf (smallest : Bool) (l : List (Fp × Nat)) : Option (Fp × Nat) :=
  l.foldl (fun acc x => match acc with
    | none => some x
    | some y => if better smallest x.1 y.1 then some x else some y) none

/-- The scratchpad word at an address, and a write of one. -/
def State.word (s : State) (core a : Nat) : Nat := s.rd (spBase core + a) 4
def State.putWord (s : State) (core a v : Nat) : State := s.ownWrite core (spBase core + a) (leBytes 4 v)

/-- The mark of an empty place of a TOPK record. -/
def noPosition : Nat := 0xFFFFFFFF

/-- A TOPK record's list for index i. -/
def State.topRecord (s : State) (r : StageRun) (i : Nat) : List (Fp × Nat) :=
  let k := reduceK r.b
  let a := reduceRecord r.b + 64 + 8 * k * i
  ((List.range k).map fun e => (dec32 (s.word r.core (a + 8 * e)), s.word r.core (a + 8 * e + 4))).filter fun x => !Nat.beq x.2 noPosition

def State.putTopRecord (s : State) (r : StageRun) (i : Nat) (l : List (Fp × Nat)) : State :=
  let k := reduceK r.b
  let a := reduceRecord r.b + 64 + 8 * k * i
  (List.range k).foldl (fun s e =>
    let x := l.getD e (.zero, noPosition)
    (s.putWord r.core (a + 8 * e) (enc32 x.1)).putWord r.core (a + 8 * e + 4) x.2) s

/-- Round a reduction's value to the REDUCE entry's FMT and write it. -/
def State.putReduced (s : State) (r : StageRun) (a : Nat) (x : Fp) : State :=
  let code := entFmt r.b 6
  s.putPat r.core code a false ((fmtOf code).encode ((fmtOf code).round (entSat r.b 6) x))

/-- One index of a reduction: its record is updated with the tile's values, and at the last tile its result is written. -/
def State.reduceOne (s : State) (r : StageRun) (i : Nat) (vals : List Fp) (last : Bool) : State :=
  let op := reduceOp r.b
  let dst := entF r.b 6 4 4
  let at_ := reduceRecord r.b + 64 + 16 * i
  let first := Nat.beq r.j 0
  let cand := (vals.zipIdx).map fun x => (x.1, 32 * r.j + x.2)
  match op with
  | 0 =>
    let v := joinSum first (dec32 (s.word r.core at_)) (treeSum vals)
    let s := s.putWord r.core at_ (enc32 v)
    if last then s.putReduced r (dst + 4 * i) v else s
  | 3 | 6 =>
    let k := reduceK r.b
    let l := cand.foldl (topInsert (Nat.beq op 6) k) (if first then [] else s.topRecord r i)
    let s := s.putTopRecord r i l
    if last then
      (List.range k).foldl (fun s e =>
        match l[e]? with
        | some x => (s.putReduced r (dst + 4 * (k * i + e)) x.1).putWord r.core (dst + 128 * k + 4 * (k * i + e)) x.2
        | none => (s.leaveUndefined (spBase r.core + dst + 4 * (k * i + e)) 4).leaveUndefined (spBase r.core + dst + 128 * k + 4 * (k * i + e)) 4) s
    else s
  | op =>
    let small := Nat.ble 4 op
    let old := if first then [] else [(dec32 (s.word r.core at_), s.word r.core (at_ + 4))]
    match bestOf small (old ++ cand) with
    | none => s
    | some (v, p) =>
      let s := (s.putWord r.core at_ (enc32 v)).putWord r.core (at_ + 4) p
      if !last then s
      else if op = 2 ∨ op = 5 then (s.putReduced r (dst + 128 + 4 * i) v).putWord r.core (dst + 4 * i) p
      else s.putReduced r (dst + 4 * i) v

/-- Mark a record complete, or not. -/
def State.setComplete (s : State) (core at_ : Nat) (v : Bool) : State :=
  s.ownWrite core (spBase core + at_) [BitVec.ofNat 8 (putBits (s.rd (spBase core + at_) 1) 0 1 (if v then 1 else 0))]

def State.isComplete (s : State) (core at_ : Nat) : Bool := (s.rd (spBase core + at_) 1).testBit 0

def State.reduceStage (s : State) (r : StageRun) (t : Tile) : State :=
  if stageOn r.b 6 then
    let last := Nat.beq (r.j + 1) (stageTiles r.b)
    let s := if r.j = 0 then s.setComplete r.core (reduceRecord r.b) false else s
    let s := if reduceCols r.b then
        (List.range r.nv).foldl (fun s n => s.reduceOne r n ((List.range r.mv).map fun m => tileAt t m n) last) s
      else (List.range r.mv).foldl (fun s m => s.reduceOne r m (t.getD m []) last) s
    if last then s.setComplete r.core (reduceRecord r.b) true else s
  else s

/-- The stages after NORM and the destination of one tile. -/
def State.lateStages (s : State) (r : StageRun) (t : Tile) : State :=
  if stageOn r.b 5 then
    if isMx (entFmt r.b 5) then
      let (pat, codes, vals) := quantMx r.b t r.mv r.nv
      let s := (codes.zipIdx).foldl (fun s c => s.ownWrite r.core (spBase r.core + entF r.b 5 4 4 + 32 * r.j + c.2) [BitVec.ofNat 8 c.1]) s
      ((s.putTap r 5 pat).putTile r pat).reduceStage r vals
    else
      let t := stageRound r.b 5 t
      let pat := patOf (entFmt r.b 5) t
      ((s.putTap r 5 pat).putTile r pat).reduceStage r t
  else (s.putTile r (patOf (finalFmt r.b) t)).reduceStage r t

/-! ### NORM (R149, R153, R154, R161–R164) -/

/-- The row entry of the NORM record: four words. RMS holds Q in the first; LAYER n, μ and M2; SOFTMAX M, E and S (R162). Bit 0 of byte 12
marks a row whose outputs are NaN. -/
structure RowStat where
  w0 : Nat
  w1 : Nat
  w2 : Nat
  nan : Bool
deriving DecidableEq, Repr

def State.rowStat (s : State) (r : StageRun) (m : Nat) : RowStat :=
  let a := fieldAt r.b 20 4 + 64 + 16 * m
  ⟨s.word r.core a, s.word r.core (a + 4), s.word r.core (a + 8), (s.word r.core (a + 12)).testBit 0⟩

def State.putRowStat (s : State) (r : StageRun) (m : Nat) (x : RowStat) : State :=
  s.ownWrite r.core (spBase r.core + fieldAt r.b 20 4 + 64 + 16 * m)
    (leBytes 4 x.w0 ++ leBytes 4 x.w1 ++ leBytes 4 x.w2 ++ leBytes 4 (if x.nan then 1 else 0))

/-- The anchor NONE as it stands in a record. -/
def anchorNone : Nat := 0x80000000
def encAnchor : Option Int → Nat
  | none => anchorNone
  | some e => ofSigned 32 e
def decAnchor (v : Nat) : Option Int := if v = anchorNone then none else some (toSigned 32 v)

/-- The anchor of a maximum. -/
def anchorOf (m : Fp) : Option Int := if m.isInf then none else some m.ceil

/-- y of element x at (m, q): nothing where the causal mask hides it (R154). -/
def softY (b : List Byte) (m q : Nat) (x : Fp) : Option Fp :=
  if normFlag b 2 && Nat.blt (entF b 4 16 4 + m) (entF b 4 20 4 + q) then none else some (x.mul32 (dec32 (entF b 4 4 4)))

/-- A y that makes its row NaN: NaN, infinite, or above 2^24 in magnitude. -/
def softBad (y : Fp) : Bool := y.isNan || (Fp.fin false 1 24).lt y.abs

/-- The largest y of a row that counts towards its maximum; −∞ with none. -/
def rowMax (ys : List (Option Fp)) : Fp :=
  ys.foldl (fun m y => match y with
    | some v => if !softBad v && m.lt v then v else m
    | none => m) (.inf true)

/-- The exponentials of a row under an anchor; NaN throughout in a NaN row. -/
def rowExp (ys : List (Option Fp)) (anchor : Option Int) (nan : Bool) : List Fp :=
  ys.map fun y => if nan then .nan else match y with
    | some v => expAnchor v anchor
    | none => .zero

def softRowBad (ys : List (Option Fp)) : Bool := ys.any fun y => match y with | some v => softBad v | none => false

def rowY (r : StageRun) (m : Nat) (row : List Fp) : List (Option Fp) := (row.zipIdx).map fun x => softY r.b m (32 * r.j + x.2) x.1

/-- Update a row's statistic with a tile's values (R153, R163): Q, (n, μ, M2) or M. -/
def updStat (r : StageRun) (m : Nat) (row : List Fp) (old : RowStat) : RowStat :=
  let first := Nat.beq r.j 0
  let nan := (!first && old.nan) || (if normKind r.b = 3 then softRowBad (rowY r m row) else row.any fun x => x.isNan || x.isInf)
  match normKind r.b with
  | 1 => ⟨enc32 (joinSum first (dec32 old.w0) (treeSum (row.map fun x => x.mul32 x))), 0, 0, nan⟩
  | 2 =>
    let nt := Fp.ofNat row.length
    let a := (treeSum row).div32 nt
    let sq := treeSum (row.map fun x => (x.sub32 a).mul32 (x.sub32 a))
    if first then ⟨enc32 nt, enc32 a, enc32 sq, nan⟩
    else
      let n := dec32 old.w0
      let mu := dec32 old.w1
      let d := a.sub32 mu
      let n2 := n.add32 nt
      ⟨enc32 n2, enc32 (mu.add32 (d.mul32 (nt.div32 n2))),
        enc32 (((dec32 old.w2).add32 sq).add32 ((d.mul32 d).mul32 ((n.mul32 nt).div32 n2))), nan⟩
  | _ =>
    let y := rowMax (rowY r m row)
    let mx := if first then y else (if (dec32 old.w0).lt y then y else dec32 old.w0)
    ⟨enc32 mx, encAnchor (anchorOf mx), 0, nan⟩

/-- Apply `f` to every row's record and value list. -/
def State.overRows (s : State) (t : Tile) (f : State → Nat → List Fp → State) : State :=
  (t.zipIdx).foldl (fun s x => f s x.2 x.1) s

/-- The gain or beta of a row position. -/
def State.gain (s : State) (r : StageRun) (off q : Nat) : Fp :=
  let code := if normFlag r.b 3 then 1 else 0
  s.value r.core (entF r.b 4 off 4 + fmtHalf code / 2 * q) code

/-- NORM's outputs for a row whose statistic is complete, before rounding to FMT (R149). -/
def State.normRow (s : State) (r : StageRun) (m : Nat) (row : List Fp) : List Fp :=
  let st := s.rowStat r m
  let len := Fp.ofNat (stageRowLen r.b)
  let eps := dec32 (entF r.b 4 4 4)
  if st.nan && Nat.ble (normKind r.b) 3 then row.map fun _ => .nan
  else match normKind r.b with
    | 1 =>
      let inv := (((dec32 st.w0).div32 len).add32 eps).rsqrt32
      (row.zipIdx).map fun x => (x.1.mul32 inv).mul32 (s.gain r 8 (32 * r.j + x.2))
    | 2 =>
      let inv := (((dec32 st.w2).div32 len).add32 eps).rsqrt32
      (row.zipIdx).map fun x => (((x.1.sub32 (dec32 st.w1)).mul32 inv).mul32 (s.gain r 8 (32 * r.j + x.2))).add32 (s.gain r 12 (32 * r.j + x.2))
    | 3 =>
      let t := rowExp (rowY r m row) (decAnchor st.w1) false
      if normUnnorm r.b then t else t.map fun x => x.div32 (dec32 st.w2)
    | _ =>
      if row.any fun x => x.isNan || x.isInf then row.map fun _ => .nan
      else row.map fun x => if enc32 (dec32 st.w2) = 0 then .zero else x.div32 (dec32 st.w2)

/-- Round a NORM row to FMT. -/
def normRound (b : List Byte) (l : List Fp) : List Fp := l.map fun x => (fmtOf (entFmt b 4)).round (entSat b 4) x

/-- Add a tile to S of every row: the sum of the emitted p with UNNORM, else of t (R154, R163, R164). -/
def State.addSums (s : State) (r : StageRun) (t : Tile) : State :=
  s.overRows t fun s m row =>
    let st := s.rowStat r m
    let e := rowExp (rowY r m row) (decAnchor st.w1) st.nan
    let e := if normUnnorm r.b then normRound r.b e else e
    s.putRowStat r m { st with w2 := enc32 (joinSum (Nat.beq r.j 0) (dec32 st.w2) (treeSum e)) }

/-- Apply NORM with complete statistics and run what follows it. -/
def State.applyNorm (s : State) (r : StageRun) (t : Tile) : State :=
  let t := (t.zipIdx).map fun x => normRound r.b (s.normRow r x.2 x.1)
  (s.putTap r 4 (patOf (entFmt r.b 4) t)).lateStages r t

/-- R162 for one row: the record, the carried tiles and p. CARRY_TILE + c beyond tile 63 is taken modulo 64 (DESIGN CHOICE, log entry 219). -/
def State.carryRow (s : State) (r : StageRun) (m : Nat) (row : List Fp) : State × List Fp :=
  let first := Nat.beq r.j 0
  let st := if first then ⟨enc32 (.inf true), anchorNone, 0, false⟩ else s.rowStat r m
  let ys := rowY r m row
  let nan := st.nan || softRowBad ys
  let y := rowMax ys
  let mx := if (dec32 st.w0).lt y then y else dec32 st.w0
  let e := decAnchor st.w1
  let e' := anchorOf mx
  let a := match e, e' with
    | none, _ => Fp.zero
    | some x, some x' => if x = x' then Fp.fin false 1 0 else r32 (.fin false 1 (x - x'))
    | some _, none => Fp.fin false 1 0
  let sum := (dec32 st.w2).mul32 a
  let s := if first then s
    else (List.range (entF r.b 4 25 1)).foldl (fun s c =>
      (List.range 32).foldl (fun s n =>
        let ad := entryAddr r.core 1 ((entF r.b 4 24 1 + c) % 64) m n
        s.ownWrite r.core ad (leBytes 4 (enc32 ((dec32 (s.rd ad 4)).mul32 a)))) s) s
  let p := normRound r.b (rowExp ys e' nan)
  (s.putRowStat r m ⟨enc32 mx, encAnchor e', enc32 (sum.add32 (treeSum p)), nan⟩, p)

/-- Address of an element of held tile j, row-major (R160). -/
def heldAddr (b : List Byte) (j m n : Nat) : Nat := fieldAt b 28 4 + 512 * fmtHalf (heldFmt b) * j + (32 * m + n) * (fmtHalf (heldFmt b) / 2)

/-- The run that held tile j of the row: its own valid rows and columns and accumulator tile, where the core still knows them (log entry 91). -/
def State.heldRun (s : State) (r : StageRun) (j : Nat) : StageRun :=
  if j = r.j then r
  else match Assoc.find (spBase r.core + heldAddr r.b j 0 0) (s.core r.core).held with
    | some h => { r with j := j, mv := h.mv, nv := h.nv, from_ := h.from_ }
    | none => { r with j := j, nv := 32, from_ := none }

/-- The runs of a row's held tiles, in ascending order. -/
def State.heldRuns (s : State) (r : StageRun) : List StageRun := (List.range (stageTiles r.b)).map (s.heldRun r)

/-- A held tile as its run left it. -/
def State.heldTile (s : State) (r : StageRun) : Tile :=
  tileOf r.mv r.nv fun m n => s.value r.core (heldAddr r.b r.j m n) (heldFmt r.b)

/-- The core keeps what the held tile was. -/
def State.noteHeld (s : State) (r : StageRun) : State :=
  let c := s.core r.core
  s.setCore r.core { c with held := Assoc.put (spBase r.core + heldAddr r.b r.j 0 0) ⟨r.mv, r.nv, r.from_⟩ c.held }

/-- Hold and apply (R163): the tile is held and its statistic updated; at the last tile every held tile is finished in order. -/
def State.holdNorm (s : State) (r : StageRun) (t : Tile) : State :=
  let rec_ := fieldAt r.b 20 4
  let s := r.cells.foldl (fun s x => s.putPat r.core (heldFmt r.b) (heldAddr r.b r.j x.1 x.2) false (patOf (heldFmt r.b) t x.1 x.2)) (s.noteHeld r)
  let s := if r.j = 0 then s.setComplete r.core rec_ false else s
  let s := s.overRows t fun s m row => s.putRowStat r m (updStat r m row (s.rowStat r m))
  if r.j + 1 = stageTiles r.b then
    let runs := s.heldRuns r
    let s := if normKind r.b = 3 then runs.foldl (fun s q => s.addSums q (s.heldTile q)) s else s
    let s := s.setComplete r.core rec_ true
    runs.foldl (fun s q => s.applyNorm q (s.heldTile q)) s
  else s

/-- The first of two passes (R164). -/
def State.passOne (s : State) (r : StageRun) (t : Tile) : State :=
  let rec_ := fieldAt r.b 20 4
  let s := if r.j = 0 then s.setComplete r.core rec_ false else s
  let s := s.overRows t fun s m row => s.putRowStat r m (updStat r m row (s.rowStat r m))
  if r.j + 1 = stageTiles r.b then s.setComplete r.core rec_ true else s

/-- Carried statistics (R162). -/
def State.carryNorm (s : State) (r : StageRun) (t : Tile) : State :=
  let rec_ := fieldAt r.b 20 4
  let s := if r.j = 0 then s.setComplete r.core rec_ false else s
  let (s, rows) := (t.zipIdx).foldl (fun (acc : State × Tile) x =>
    let (s, p) := acc.1.carryRow r x.2 x.1
    (s, acc.2 ++ [p])) (s, [])
  let s := if r.j + 1 = stageTiles r.b then s.setComplete r.core rec_ true else s
  (s.putTap r 4 (patOf (entFmt r.b 4) rows)).lateStages r rows

/-- NORM, and what follows it; false where a record that must be complete is not. -/
def State.normStage (s : State) (r : StageRun) (t : Tile) : State × Bool :=
  if !stageOn r.b 4 then (s.lateStages r t, true)
  else if normKind r.b = 4 ∨ (stagePolicy r.b = 3 ∧ normPass1 r.b = false) then
    if s.isComplete r.core (fieldAt r.b 20 4) then
      let s := if normKind r.b = 3 then s.addSums r t else s
      (s.applyNorm r t, true)
    else (s, false)
  else if normPass1 r.b then (s.passOne r t, true)
  else if stagePolicy r.b = 1 then (s.carryNorm r t, true)
  else (s.holdNorm r t, true)

/-! ### The whole epilogue -/

/-- Write TILE back (R144). -/
def State.nextTile (s : State) (core at_ : Nat) (b : List Byte) : State :=
  s.ownWrite core (at_ + 32) (leBytes 4 ((stageTileIdx b + 1) % max 1 (stageTiles b)))

/-- The runs whose outputs a sequence on this tile writes: none before a held row's last tile or in the first of two passes, there every held
tile's (R163, R164). -/
def StageRun.emits (r : StageRun) (held : List StageRun) : List StageRun :=
  if !stageOn r.b 4 then [r]
  else if normPass1 r.b then []
  else if stagePolicy r.b = 2 then (if r.j + 1 = stageTiles r.b then held else [])
  else [r]

/-- Bytes of an element, half bytes in one. -/
def fmtBytes (code : Nat) : Nat := max 1 (fmtHalf code / 2)

/-- Where the outputs of a tile go: destination, tap of a stage from 4 on, and scales; first byte and length. -/
def StageRun.writes (r : StageRun) : List (Nat × Nat) :=
  (r.cells.filterMap fun x => match dstAddr r.b r.j x.1 x.2, stageDst r.b, r.from_ with
    | some (a, _), _, _ => some (spBase r.core + a, fmtBytes (finalFmt r.b))
    | none, 0, some t => some (entryAddr r.core 1 t x.1 x.2, 4)
    | _, _, _ => none) ++
  (if stageOn r.b 5 && isMx (entFmt r.b 5) then
      [(spBase r.core + entF r.b 5 4 4 + 32 * r.j, if (entF r.b 5 1 1).testBit 0 then r.nv else r.mv)] else [])

/-- Where the tap of a tile goes. -/
def StageRun.tapWrites (r : StageRun) : List (Nat × Nat) :=
  let code := entFmt r.b (stageTap r.b)
  r.cells.map fun x =>
    (spBase r.core + (rowMajor code (fieldAt r.b 12 4 + r.j * fieldAt r.b 40 4 + x.1 * fieldAt r.b 16 4) x.2).1, fmtBytes code)

/-- Indices of a reduction on this tile, and the bytes of a record's entry for one. -/
def StageRun.reduceCount (r : StageRun) : Nat := if reduceCols r.b then r.nv else r.mv
def reduceEntry (b : List Byte) : Nat := if reduceOp b = 3 ∨ reduceOp b = 6 then 8 * reduceK b else 16

/-- Where a reduction writes at a row's last tile: its values, and positions (R151). -/
def StageRun.reduceWrites (r : StageRun) : List (Nat × Nat) :=
  let dst := spBase r.core + entF r.b 6 4 4
  let n := r.reduceCount
  match reduceOp r.b with
  | 3 | 6 => [(dst, 4 * reduceK r.b * n), (dst + 128 * reduceK r.b, 4 * reduceK r.b * n)]
  | 2 | 5 => [(dst, 4 * n), (dst + 128, 4 * n)]
  | _ => [(dst, 4 * n)]

/-- Every range that a sequence on this tile writes: the outputs of `held` at a held row's last tile, the tap, the held tile, the carried tiles,
the records and the reduction's results. -/
def StageRun.allWrites (r : StageRun) (held : List StageRun) : List (Nat × Nat) :=
  let out := r.emits held
  let on := stageOn r.b
  out.flatMap StageRun.writes ++
  (if stageTap r.b = 7 then [] else if stageTap r.b ≤ 3 then r.tapWrites else out.flatMap StageRun.tapWrites) ++
  (if on 4 && Nat.beq (stagePolicy r.b) 2 then
      (List.range r.mv).map fun m => (spBase r.core + heldAddr r.b r.j m 0, r.nv * (fmtHalf (heldFmt r.b) / 2)) else []) ++
  (if on 4 && Nat.beq (stagePolicy r.b) 1 && Nat.blt 0 r.j then
      (List.range (entF r.b 4 25 1)).map fun c => (entryAddr r.core 1 ((entF r.b 4 24 1 + c) % 64) 0 0, 128 * r.mv) else []) ++
  (if on 4 then [(spBase r.core + fieldAt r.b 20 4, 576)] else []) ++
  (if on 6 && !out.isEmpty then
      (spBase r.core + reduceRecord r.b, reduceRecordLen r.b) :: (if r.j + 1 = stageTiles r.b then r.reduceWrites else []) else [])

/-- Leave every output of a sequence on this tile undefined (R169). -/
def State.spoilStage (s : State) (r : StageRun) : State :=
  (r.allWrites (s.heldRuns r)).foldl (fun s x => s.leaveUndefined x.1 x.2) s

/-- The ranges that a sequence reads beside its source and its activation table, `held` being its row's held tiles: of every range the words that
its valid rows and columns need. -/
def StageRun.reads (r : StageRun) (held : List StageRun) : List (Nat × Nat) :=
  let sp := spBase r.core
  let on := stageOn r.b
  let rows (f : Nat → Nat × Nat) : List (Nat × Nat) := (List.range r.mv).map f
  let kind := normKind r.b
  let last := Nat.beq (r.j + 1) (stageTiles r.b)
  let second := Nat.beq kind 4 || (Nat.beq (stagePolicy r.b) 3 && !normPass1 r.b)
  let hold := Nat.beq (stagePolicy r.b) 2 && !Nat.beq kind 4
  let w := if normFlag r.b 3 then 2 else 4
  (if on 1 then
      let e := 4 - 2 * (entF r.b 1 1 1 % 2)
      if (entF r.b 1 1 1).testBit 1 then [(sp + entF r.b 1 4 4, r.mv * e)] else [(sp + entF r.b 1 4 4 + 32 * r.j * e, r.nv * e)]
    else []) ++
  (if on 2 && (entF r.b 2 3 1).testBit 0 then rows fun m => (entryAddr r.core 1 (entF r.b 2 4 1) m 0, 4 * r.nv) else []) ++
  (if on 3 then rows fun m => (sp + entF r.b 3 4 4 + r.j * fieldAt r.b 44 4 + m * entF r.b 3 8 4, r.nv * (fmtHalf (entF r.b 3 1 1) / 2)) else []) ++
  (if on 4 then
      (if Nat.ble kind 2 && !normPass1 r.b then
        (r.emits held).flatMap fun q =>
          (sp + entF r.b 4 8 4 + 32 * q.j * w, q.nv * w) :: (if kind = 2 then [(sp + entF r.b 4 12 4 + 32 * q.j * w, q.nv * w)] else [])
       else []) ++
      (if second then [(sp + fieldAt r.b 20 4, 1)] else []) ++
      (if second || Nat.blt 0 r.j then rows fun m => (sp + fieldAt r.b 20 4 + 64 + 16 * m, 16) else []) ++
      (if stagePolicy r.b = 1 ∧ 0 < r.j then
        (List.range (entF r.b 4 25 1)).map fun c => (entryAddr r.core 1 ((entF r.b 4 24 1 + c) % 64) 0 0, 128 * r.mv) else []) ++
      (if hold && last then (held.filter fun q => !Nat.beq q.j r.j).flatMap fun q =>
        (List.range q.mv).map fun m => (sp + heldAddr r.b q.j m 0, q.nv * (fmtHalf (heldFmt r.b) / 2)) else [])
    else []) ++
  (if on 6 && Nat.blt 0 r.j && !(r.emits held).isEmpty && !(on 4 && hold) then
      (List.range r.reduceCount).map fun i => (sp + reduceRecord r.b + 64 + reduceEntry r.b * i, reduceEntry r.b) else [])

/-- The words of the activation table that the values `t` need: the breakpoints from B[1] on, and their segments' coefficients (R148). -/
def State.tableReads (s : State) (r : StageRun) (t : Tile) : List (Nat × Nat) :=
  if stageOn r.b 2 then
    let base := spBase r.core + entF r.b 2 8 4
    let segs := entF r.b 2 1 1 + 1
    let f (o : Nat) : Fp := dec32 (s.rd (base + 4 * o) 4)
    let seg (x : Fp) : Nat := (List.range segs).foldl (fun acc i => if Nat.ble 1 i && (f i).le x then i else acc) 0
    (base + 4, 4 * (segs - 1)) :: ((t.flatMap fun row => row.map seg).eraseDups.map fun g => (base + 4 * (segs + 4 * g), 4 * (entF r.b 2 2 1 + 1)))
  else []

/-- Does a sequence on the values `t` read a poisoned word (R107, R143, R169)? Of its block it reads the header and the entries of enabled stages. -/
def State.stageBad (s : State) (r : StageRun) (at_ : Nat) (t : Tile) : Bool :=
  !s.sram.isEmpty &&
    (s.bad at_ 64 || (List.range 7).any (fun i => Nat.blt 0 i && stageOn r.b i && s.bad (at_ + 0x40 + 0x20 * i) 32) ||
      (r.reads (s.heldRuns r)).any (fun x => s.bad x.1 x.2) ||
      (s.tableReads r (s.elementStage r 1 (s.biasStage r) t).2).any fun x => s.bad x.1 x.2)

/-- Run the epilogue of a stage block at `at_` on a tile of values: the fault code it meets, if one. -/
def State.runEpilogue (s : State) (core at_ mv nv : Nat) (from_ : Option Nat) (srcBad : Bool) (t : Tile) : State × Option Nat :=
  let b := s.rdBytes at_ stageLen
  let r : StageRun := ⟨core, b, stageTileIdx b, mv, nv, from_⟩
  if srcBad || s.stageBad r at_ t then ((s.spoilStage r).nextTile core at_ b, some faultSramUe)
  else
    let (s', t) := s.earlyStages r t
    let (s', ok) := s'.normStage r t
    if ok then (s'.nextTile core at_ b, none) else (s', some faultDescriptor)

/-- The values of an accumulator tile (R141): FP32, or INT32 converted. -/
def State.accTile (s : State) (core tile : Nat) (int : Bool) (mv nv : Nat) : Tile :=
  tileOf mv nv fun m n =>
    let v := s.rd (entryAddr core 1 tile m n) 4
    if int then r32 (.ofInt (toSigned 32 v)) else dec32 v

/-- Does an accumulator tile hold a poisoned word among its valid entries? -/
def State.accBad (s : State) (core tile mv nv : Nat) : Bool := (List.range mv).any fun m => s.bad (entryAddr core 1 tile m 0) (4 * nv)

/-- The epilogue of a product. -/
def State.productEpilogue (s : State) (core : Nat) (p : Product) : State × Option Nat :=
  s.runEpilogue core (spBase core + 32 * p.stage) p.mv p.nv (some p.tile) (s.accBad core p.tile p.mv p.nv)
    (s.accTile core p.tile (!fpMode p.mode) p.mv p.nv)

/-! ### PROLOGUE (R146) -/

/-- An element of a source format at a byte address, `i` elements on. -/
def State.srcElement (s : State) (core fmt a i : Nat) : Fp :=
  let at_ := spBase core + a
  match fmt with
  | 0 => FpFmt.e4m3.decode (s.rd (at_ + i) 1)
  | 1 => FpFmt.e5m2.decode (s.rd (at_ + i) 1)
  | 2 => .ofInt (toSigned 8 (s.rd (at_ + i) 1))
  | 3 => .ofInt (toSigned 4 (s.rd (at_ + i / 2) 1 / 16 ^ (i % 2)))
  | 4 => FpFmt.bf16.decode (s.rd (at_ + 2 * i) 2)
  | _ => FpFmt.fp16.decode (s.rd (at_ + 2 * i) 2)

/-- One element of the operand that the prologue writes: row and column of the operand, source row and reduction step. -/
def State.prologueValue (s : State) (core : Nat) (b : List Byte) (row col k : Nat) : Fp :=
  let fl := entF b 0 1 1
  let i := if fl.testBit 1 then s.word core (entF b 0 20 4 + 4 * row) else row
  let x := s.srcElement core (entF b 0 2 1) (entF b 0 4 4 + i * entF b 0 8 4) col
  let x := if fl.testBit 2 then x.mul32 (dec32 (s.word core (entF b 0 12 4 + 4 * (k / 32)))) else x
  if fl.testBit 3 then x.mul32 (dec32 (s.word core (entF b 0 16 4 + 4 * (if (entF b 0 3 1).testBit 0 then col else row)))) else x

/-- The rows of the operand that the prologue writes, and its columns: A has M_VALID rows of K, B has K rows of N_VALID. -/
def prologueShape (b : List Byte) (p : Product) : Nat × Nat :=
  let depth := p.blocks * (modeShape p.mode).depth
  if (entF b 0 1 1).testBit 0 then (depth, p.nv) else (p.mv, depth)

/-- Bytes of `n` elements of a source format. -/
def srcBytes (fmt n : Nat) : Nat := if fmt ≤ 2 then n else if fmt = 3 then (n + 1) / 2 else 2 * n

/-- The scratchpad ranges that the prologue reads beside its block: index list, source rows, dequantisation scales and factors. -/
def State.prologueReads (s : State) (core : Nat) (b : List Byte) (p : Product) : List (Nat × Nat) :=
  let fl := entF b 0 1 1
  let (rows, cols) := prologueShape b p
  let row (i : Nat) : Nat := if fl.testBit 1 then s.word core (entF b 0 20 4 + 4 * i) else i
  (if fl.testBit 1 then [(entF b 0 20 4, 4 * rows)] else []) ++
  ((List.range rows).map fun i => (entF b 0 4 4 + row i * entF b 0 8 4, srcBytes (entF b 0 2 1) cols)) ++
  (if fl.testBit 2 then [(entF b 0 12 4, p.blocks * (modeShape p.mode).depth / 32 * 4)] else []) ++
  (if fl.testBit 3 then [(entF b 0 16 4, 4 * (if (entF b 0 3 1).testBit 0 then cols else rows))] else [])

/-- Do all of the prologue's reads stay in the core's scratchpad (R94)? -/
def State.prologueFits (s : State) (core : Nat) (b : List Byte) (p : Product) : Bool :=
  (s.prologueReads core b p).all fun x => Nat.ble (x.1 + x.2) 0x200000

/-- R146: the prologue writes A (SIDE 0) or B in the product's layout; the fault it meets, if one. A poisoned word that it reads leaves the operand
undefined (R169). -/
def State.runPrologue (s : State) (core : Nat) (p : Product) : State × Option Nat :=
  let at_ := spBase core + 32 * p.stage
  let b := s.rdBytes at_ stageLen
  let side := (entF b 0 1 1).testBit 0
  let code := entFmt b 0
  let (rows, cols) := prologueShape b p
  let addr (i j : Nat) : Nat := if side then p.bAddr i j else p.aAddr i j
  let each (f : State → Nat → Nat → State) : State := (List.range rows).foldl (fun s i => (List.range cols).foldl (fun s j => f s i j) s) s
  if !s.prologueFits core b p then (s, some faultDescriptor)
  else if !s.sram.isEmpty && (s.bad at_ 96 || (s.prologueReads core b p).any fun x => s.bad (spBase core + x.1) x.2) then
    (each fun t i j => t.leaveUndefined (spBase core + addr i j) (fmtBytes code), some faultSramUe)
  else
    (each fun t i j => t.putPat core code (addr i j) false
      ((fmtOf code).encode ((fmtOf code).round (entSat b 0) (s.prologueValue core b i j (if side then i else j)))), none)

/-! ### The vector operation (R156) -/

/-- One past the last byte of the scratchpad that a sequence on one tile touches; earlier held tiles are taken as whole. -/
def stageEnd (b : List Byte) (mv nv : Nat) : Nat :=
  let r : StageRun := ⟨0, b, stageTileIdx b, mv, nv, none⟩
  let held := (List.range (stageTiles b)).map fun j => if j = r.j then r else { r with j := j, nv := 32 }
  let inSp := ((r.reads held).filter fun x => Nat.blt x.1 (spBase 0 + 0x1000000)).map fun x => x.1 + x.2 - spBase 0
  let corner (q : StageRun) : List Nat :=
    [(match dstAddr b q.j (q.mv - 1) (q.nv - 1) with
      | some (a, _) => a + fmtBytes (finalFmt b)
      | none => 0),
     (if stageOn b 5 && isMx (entFmt b 5) then entF b 5 4 4 + 32 * q.j + (if (entF b 5 1 1).testBit 0 then q.nv else q.mv) else 0)]
  let tap (q : StageRun) : Nat :=
    fieldAt b 12 4 + q.j * fieldAt b 40 4 + (q.mv - 1) * fieldAt b 16 4 + (q.nv * fmtHalf (entFmt b (stageTap b)) + 1) / 2
  let out := r.emits held
  let act := if stageOn b 2 then entF b 2 8 4 + 20 * (entF b 2 1 1 + 1) else 0
  let hold := if stageOn b 4 && Nat.beq (stagePolicy b) 2 then heldAddr b r.j (mv - 1) 0 + nv * (fmtHalf (heldFmt b) / 2) else 0
  let recs := if stageOn b 4 then fieldAt b 20 4 + 576 else 0
  let red := if stageOn b 6 then (reduceRecord b + reduceRecordLen b) ::
      (if r.j + 1 = stageTiles b then r.reduceWrites.map fun x => x.1 + x.2 - spBase 0 else []) else []
  let taps := if stageTap b = 7 then [] else if stageTap b ≤ 3 then [tap r] else out.map tap
  (inSp ++ out.flatMap corner ++ taps ++ red ++ [act, hold, recs]).foldl max 0

/-- A stage block as its user finds it when the slot would fire: the checks of R94, R143 and R165, and its addresses. -/
def stageOk (b : List Byte) (u : StageUser) (mv nv : Nat) : Bool :=
  !stageReserved b && (stageReason b [u] true []).isNone && !(stageOn b 4 && Nat.blt 8 (entF b 4 25 1)) && Nat.ble (stageEnd b mv nv) 0x200000

/-- Fields of the vector operation's block. -/
def vopStage (b : List Byte) : Nat := fieldAt b 14 2
def vopMv (b : List Byte) : Nat := fieldAt b 12 1
def vopNv (b : List Byte) : Nat := fieldAt b 13 1
def vopAcc (b : List Byte) : Bool := Nat.beq (fieldAt b 0 1) 0

/-- The vector operation's own checks. -/
def vopOk (b : List Byte) : Bool :=
  Nat.ble (fieldAt b 0 1) 1 && Nat.ble (fieldAt b 1 1) 63 && Nat.ble (fieldAt b 2 1) 5 && Nat.beq (fieldAt b 3 1) 0 &&
    Nat.ble (fieldAt b 4 4) 0x1FFFFF && Nat.ble (fieldAt b 8 4) 0x1FFFFF && Nat.beq (fieldAt b 16 16) 0 &&
    Nat.ble 1 (vopMv b) && Nat.ble (vopMv b) 32 && Nat.ble 1 (vopNv b) && Nat.ble (vopNv b) 32 &&
    Nat.ble (32 * vopStage b + stageLen) 0x200000 && !(!vopAcc b && Nat.beq (fieldAt b 2 1) 5) &&
    (vopAcc b || Nat.ble (fieldAt b 4 4 + (vopMv b - 1) * fieldAt b 8 4 + vopNv b * (fmtHalf (fieldAt b 2 1) / 2)) 0x200000)

/-- R156: run the vector operation. An accumulator tile is read in its entry format: SRC_FMT 5 as INT32, else as FP32. -/
def State.runVector (s : State) (core : Nat) (b : List Byte) : State × Option Nat :=
  let fmt := fieldAt b 2 1
  let at_ := spBase core + 32 * vopStage b
  if vopAcc b then
    s.runEpilogue core at_ (vopMv b) (vopNv b) (some (fieldAt b 1 1)) (s.accBad core (fieldAt b 1 1) (vopMv b) (vopNv b))
      (s.accTile core (fieldAt b 1 1) (Nat.beq fmt 5) (vopMv b) (vopNv b))
  else
    let a (m : Nat) : Nat := fieldAt b 4 4 + m * fieldAt b 8 4
    s.runEpilogue core at_ (vopMv b) (vopNv b) none
      ((List.range (vopMv b)).any fun m => s.bad (spBase core + a m) (vopNv b * (fmtHalf fmt / 2)))
      (tileOf (vopMv b) (vopNv b) fun m n => s.value core (a m + n * (fmtHalf fmt / 2)) fmt)

end Sys2Proof.Machine
end

