-- ==== Sys2Proof/Machine/Firing.lean ====
section
/-!
DEFINITION. The commands of firing: products, vector operations, routines and copies as they fire, run and complete (R94–R101, R104, R117,
R134, R157, R169, R181), posts that arrive, and the stride timer (R62).
-/
namespace Sys2Proof.Machine

/-! ### Array products (R117, R134, R146, R157) -/

/-- The stage block of a product, if it has one. -/
def Product.staged (p : Product) : Bool := !Nat.beq p.stage 0xFFFF

def State.stageBlock (s : State) (n off : Nat) : List Byte := s.rdBytes (spBase n + 32 * off) stageLen

/-- R120, R142, R165: may the product run? -/
def State.productFits (s : State) (n : Nat) (b : List Byte) : Bool :=
  let p := parseProduct b
  productOk b && (!p.staged ||
    (stageOk (s.stageBlock n p.stage) (.product p.mode p.aFmt p.bFmt) p.mv p.nv &&
      (!stageOn (s.stageBlock n p.stage) 0 || s.prologueFits n (s.stageBlock n p.stage) p)))

/-- A pending prologue runs once the vector engine is free; a poisoned source word faults the job (R92, R146, R169). -/
def State.pumpPrologue (s : State) (n : Nat) : State :=
  let c := s.core n
  match c.array, c.vector with
  | some a, none =>
    if a.prologue && !c.vecHeld then
      let (s, f) := s.runPrologue n (parseProduct a.block)
      let s := s.setCore n { s.core n with array := some { a with prologue := false } }
      match f with
      | some code => s.faultRun n code a.slot
      | none => s
    else s
  | _, _ => s

/-- R94, R95, R117: an array product fires. -/
def arrayProduct (core slot : Nat) (s : State) : State :=
  s.fire core slot 1 64 (s.productFits core) fun s posts b =>
    let p := parseProduct b
    let pro := p.staged && stageOn (s.stageBlock core p.stage) 0
    (s.setCore core { s.core core with array := some (ArrayOp.fresh slot posts b pro), feeders := [] }).pumpPrologue core

def execArrayProduct (core slot : Nat) (s : State) : Answer := .next (arrayProduct core slot s)

/-- The accumulator tiles that a stage sequence reads beside its source: the gate, and the tiles rescaled under carried statistics (R148, R162). -/
def stageTilesRead (b : List Byte) : List Nat :=
  (if stageOn b 2 && (entF b 2 3 1).testBit 0 then [entF b 2 4 1] else []) ++
  (if stageOn b 4 && Nat.beq (stagePolicy b) 1 && Nat.blt 0 (stageTileIdx b) then
    (List.range (entF b 4 25 1)).map fun c => (entF b 4 24 1 + c) % 64 else [])

/-- Is an accumulator tile being read by the vector engine (R169)? -/
def State.tileRead (s : State) (n tile : Nat) : Bool :=
  let c := s.core n
  match c.vector with
  | some (.op _ _ b) => (vopAcc b && Nat.beq (fieldAt b 1 1) tile) || (stageTilesRead (s.stageBlock n (vopStage b))).contains tile
  | some .epilogue => c.tail.any fun a => a.epilogue &&
      (Nat.beq (parseProduct a.block).tile tile || (stageTilesRead (s.stageBlock n (parseProduct a.block).stage)).contains tile)
  | none => false

/-- R117: the occupancy of the product in the array ends once every operand byte has come and every plane is loaded (R104, R514): its tile is written,
the queues of its rows are empty, and the array accepts the next. The tile's last result is visible 72 cycles later, when OPERATION_COMPLETE or
EPILOGUE_START follows. -/
def arrayOccupancyEnd (core : Nat) (s : State) : State :=
  match (s.core core).array with
  | none => s
  | some a =>
    let p := parseProduct a.block
    if a.prologue || !a.whole || s.tileRead core p.tile then s
    else
      let (s, a) := s.loadPlanes core { a with cycles := p.cycles } p.blocks
      let (s, bad) := s.runProduct core a
      let c := s.core core
      let s := s.setCore core { c with array := none, tail := c.tail ++ [a], feeders := [] }
      if bad then s.faultRun core faultSramUe a.slot else s

def execArrayOccupancyEnd (core : Nat) (s : State) : Answer := .next (arrayOccupancyEnd core s)

/-- The entries of 8 bytes in a stretch of memory. -/
def State.entriesAt (s : State) (a n : Nat) : List Word64 := (List.range n).map fun i => BitVec.ofNat 64 (s.rd (a + 8 * i) 8)

/-- R104, R133, R514: a refill reads 64 bytes of a row's feed and writes 8 entries into its queue. It is requested once the queue has 8 free entries,
so that the array first advances as far as that takes, where every row's queue allows it, and until the feed row has been read whole. -/
def feederRefill (core row : Nat) (s : State) : State :=
  let s := s.pumpPrologue core
  match (s.core core).array with
  | none => s
  | some a =>
    let p := parseProduct a.block
    let fed := a.fedOf row
    if a.prologue || !Nat.blt row 32 || Nat.ble p.rowBytes fed then s
    else
      let cyc := max a.cycles ((fed - 64 + rowDraw p.mode - 1) / rowDraw p.mode)
      if a.cycles < cyc ∧ a.reach < cyc then s
      else
        let s := s.stream core a cyc
        let at_ := p.aBase + row * p.aPitch + fed
        let c := s.core core
        let q := c.array.map fun a => { a with
          fed := Assoc.put row (fed + 64) a.fed
          seenA := a.seenA.write (spBase core + at_) (s.rdBytes (spBase core + at_) 64)
          badA := a.badA ++ s.poisonIn core at_ 64 }
        (s.setCore core { c with
          array := q
          feeders := Assoc.upd row [] (fun l => l ++ s.entriesAt (spBase core + at_) 8) c.feeders }).scrubSram (spBase core + at_) 64

def execFeederRefill (core row : Nat) (s : State) : Answer := .next (feederRefill core row s)

/-- R157: the epilogue of the oldest product that waits for one starts once the vector engine is free; a vector routine holds it (R92). -/
def epilogueStart (core : Nat) (s : State) : State :=
  let c := s.core core
  match c.vector with
  | some _ => s
  | none =>
    match c.tail.findIdx? fun a => (parseProduct a.block).staged && !a.epilogue with
    | none => s
    | some i =>
      if c.vecHeld then s
      else s.setCore core { c with
        vector := some .epilogue
        tail := (c.tail.zipIdx).map fun x => if x.2 = i then { x.1 with epilogue := true } else x.1 }

def execEpilogueStart (core : Nat) (s : State) : Answer := .next (epilogueStart core s)

/-! ### Vector operations and routines (R94, R156, R181) -/

/-- R156: may the vector operation run? A scratchpad source with DST_KIND 0 fails, for no accumulator entry is named to write (DESIGN CHOICE, log
entry 220). -/
def State.vectorFits (s : State) (n : Nat) (b : List Byte) : Bool :=
  vopOk b && stageOk (s.stageBlock n (vopStage b)) .vector (vopMv b) (vopNv b) &&
    !(!vopAcc b && Nat.beq (stageDst (s.stageBlock n (vopStage b))) 0)

/-- R94, R156: a vector operation fires. -/
def vectorOperation (core slot : Nat) (s : State) : State :=
  s.fire core slot 2 32 (s.vectorFits core) fun s posts b => s.setCore core { s.core core with vector := some (.op slot posts b) }

def execVectorOperation (core slot : Nat) (s : State) : Answer := .next (vectorOperation core slot s)

/-- R94, R181: a sequencer routine fires; its block names the entry address. -/
def sequencerRoutine (core slot : Nat) (s : State) : State :=
  s.fire core slot 4 32 (fun b => Nat.blt (fieldAt b 0 2) 4096 && Nat.beq (fieldAt b 2 30) 0) fun s posts b =>
    (s.setPc core (fieldAt b 0 2)).setCore core
      { s.core core with routine := some ⟨slot, posts, false⟩, delay := none, calls := [], point := false }

def execSequencerRoutine (core slot : Nat) (s : State) : Answer := .next (sequencerRoutine core slot s)

/-! ### Completion (R97, R117, R157) -/

/-- An operation of slot `slot` has completed, with the fault it met: its posts apply unless its job has faulted. -/
def State.retire (s : State) (n slot : Nat) (posts : List Nat) (fault : Option Nat) : State :=
  match fault with
  | some code => s.faultRun n code slot
  | none => s.applyPosts n slot posts

/-- The vector engine's operation completes. -/
def vectorDone (core : Nat) (s : State) : State :=
  let c := s.core core
  match c.vector with
  | none => s
  | some (.op slot posts b) =>
    let (s, f) := s.runVector core b
    ((s.setCore core { s.core core with vector := none }).pumpPrologue core).retire core slot posts f
  | some .epilogue =>
    match c.tail.find? fun a => a.epilogue with
    | none => s.setCore core { c with vector := none }
    | some a =>
      let (s, f) := s.productEpilogue core (parseProduct a.block)
      let c := s.core core
      ((s.setCore core { c with vector := none, tail := c.tail.filter fun x => !x.epilogue }).pumpPrologue core).retire core a.slot a.posts f

/-- The oldest product without a stage block has written its last result. -/
def productDone (core : Nat) (s : State) : State :=
  let c := s.core core
  match c.tail.findIdx? fun a => !(parseProduct a.block).staged with
  | none => s
  | some i =>
    let s' := s.setCore core { c with tail := c.tail.eraseIdx i }
    match c.tail[i]? with
    | some a => s'.retire core a.slot a.posts none
    | none => s

/-- The routine whose END has issued completes: its results have landed. -/
def routineDone (core : Nat) (s : State) : State :=
  match (s.core core).routine with
  | none => s
  | some r =>
    if r.ended then
      let s := s.landAll core
      ((s.setCore core { s.core core with routine := none, vecHeld := false }).pumpPrologue core).retire core r.slot r.posts none
    else s

/-- R97: the operation of a unit completes: 1 a product without a stage block, 2 the vector engine's operation, 4 the routine. -/
def operationComplete (core unit : Nat) (s : State) : State :=
  match unit with
  | 1 => productDone core s
  | 2 => vectorDone core s
  | 4 => routineDone core s
  | _ => s

def execOperationComplete (core unit : Nat) (s : State) : Answer := .next (operationComplete core unit s)

/-! ### Posts (R97, R101, R305) -/

/-- R12, R97, R101: the oldest post from a core to another arrives once the poster's earlier copies to that core have landed and its packet has passed
the mesh. It applies if the posting cocoon still holds the target and the target is not in handover; else it is discarded, and the posting job, if it
still stands on its core, faults. -/
def postArrival (src core : Nat) (s : State) : State :=
  let s := s.issuePosts
  match s.posts.find? fun p => Nat.beq p.src src && Nat.beq p.dst core with
  | none => s
  | some p =>
    if !s.postFree p then s
    else match s.meshArrive (.post p.id) with
      | (s, false) => s
      | (s, true) =>
        let s := { s with posts := s.posts.erase p }
        if s.holdsCore p.cocoon core && !([1, 5].contains (s.coreState core)) then s.post core p.token p.inc 0
        else if s.fld (coreOwnerFld src) = p.cocoon then s.faultRun src faultAccess p.slot
        else s

def execPostArrival (src core : Nat) (s : State) : Answer := .next (postArrival src core s)

/-! ### Copies (R98–R101, R376, R378) -/

/-- R98: the rules of a copy's parameter block. -/
def copyOk (b : List Byte) : Bool :=
  let len := fieldAt b 16 4
  Nat.ble 64 len && Nat.ble len 16777216 && Nat.beq (len % 64) 0 && Nat.beq (fieldAt b 0 8 % 64) 0 && Nat.beq (fieldAt b 8 8 % 64) 0 &&
    (Nat.blt (fieldAt b 20 2) 2048 || Nat.beq (fieldAt b 20 2) 0xFFFF) && Nat.ble (fieldAt b 22 1) 127 && !Nat.beq (fieldAt b 23 1) 0 &&
    Nat.blt (fieldAt b 24 4) 1024 && Nat.beq (fieldAt b 28 4) 0

/-- A segment of a cocoon, if it is registered and holds [a, a + len) (R377, R378). -/
def State.segmentAt (s : State) (c i a len : Nat) : Option Segment :=
  (Assoc.find i (s.cocoon c).segments).bind fun g => if g.valid && Nat.ble g.base a && Nat.ble (a + len) (g.base + g.len) then some g else none

/-- The end of a copy with an error of a KIND: COPY_ERROR, or nothing for KIND 0x05 (R100, R380). -/
def State.copyErr (s : State) (n slot kind : Nat) : State :=
  let s := s.noteDead kind
  if kind = 5 then s else s.faultRun n faultCopyError slot

/-- A read for a copy, or for a waiting command. -/
def RdWhy.ofCopy (n id : Nat) : RdWhy → Bool
  | .copyData k i _ => Nat.beq k n && Nat.beq i id
  | _ => false
def RdWhy.ofWait (id : Nat) : RdWhy → Bool
  | .cmdData i _ => Nat.beq i id
  | _ => false
def RdWhy.ofBundle : RdWhy → Bool
  | .bundle _ => true
  | _ => false

/-- What travels with a copy's data: CTR_CORE, CTR, INC and STALE (R376, R378). -/
def CopyOp.ctl (x : CopyOp) : List Byte := leBytes 2 x.ctrCore ++ leBytes 1 x.ctr ++ leBytes 1 x.inc ++ leBytes 1 (if x.stale then 1 else 0)

/-- A copy fires: it ends at once where an end may not be reached (KIND 0x03), where a needed GDDR7 slot exists in no row (R340) or where no
route leads to a remote end (KIND 0x02). -/
def State.startCopy (s : State) (n slot : Nat) (posts : List Nat) (b : List Byte) : State :=
  let c := s.core n
  let id := c.nextId
  let src := fieldAt b 0 8
  let dst := fieldAt b 8 8
  let len := fieldAt b 16 4
  let seg := fieldAt b 24 4
  let me := s.deviceId
  let cc := s.fld (coreOwnerFld n)
  let here (a : Nat) : Bool := Nat.beq (deviceOf a) me
  let onHost := here src && Nat.ble hostBase (localOf src)
  let op : CopyOp := ⟨id, slot, posts, src, dst, len, fieldAt b 20 2, fieldAt b 22 1, fieldAt b 23 1, seg,
    (Assoc.find seg (s.cocoon cc).segments).elim 0 (fun g => g.gen), false, [], false, s.deadAt⟩
  let s := s.setCore n { c with nextId := id + 1 }
  if (here src && !s.jobReaches n (localOf src) len) || (here dst && !s.jobWrites n (localOf dst) len) then s.copyErr n slot 3
  else if (here src && !s.jobSlots n (localOf src) len) || (here dst && !s.jobSlots n (localOf dst) len) then s.faultRun n faultAccess slot
  else if here src && !onHost && !Nat.beq seg 0 && (s.segmentAt cc seg (localOf src) len).isNone then s.copyErr n slot 3
  else if (!here src && s.quarantined cc (deviceOf src)) || (!here dst && s.quarantined cc (deviceOf dst)) then s.quarantineEnd n slot
  else if (!here src && !s.routable (deviceOf src)) || (!here dst && !s.routable (deviceOf dst)) then s.copyErr n slot 2
  else
    let s := s.setCore n { s.core n with copies := (s.core n).copies ++ [op] }
    if onHost then
      match s.jobFn n with
      | some fn =>
        match s.readHost fn (.copyData n id) 0 (hostPieces (localOf src) len) with
        | (s, true) => s
        | (s, false) => s.copyErr n slot 3
      | none => s.copyErr n slot 3
    else if here src then s
    else s.emit (.remote (deviceOf src) id 3 (localOf src) len (leBytes 4 seg ++ leBytes 8 dst) op.ctl)

/-- R94, R98: a copy fires. -/
def copyFire (core slot : Nat) (s : State) : State := s.fire core slot 3 32 copyOk fun s posts b => s.startCopy core slot posts b

def execCopyFire (core slot : Nat) (s : State) : Answer := .next (copyFire core slot s)

/-- Change the copy with an id, or drop it. -/
def State.updCopy (s : State) (n id : Nat) (f : CopyOp → CopyOp) : State :=
  s.setCore n { s.core n with copies := (s.core n).copies.map fun x => if x.id = id then f x else x }
def State.dropCopy (s : State) (n id : Nat) : State :=
  s.setCore n { s.core n with copies := (s.core n).copies.filter fun x => !Nat.beq x.id id }

/-- The data of a put leaves for its device; it is signed where the stride is (R431). -/
def State.putData (s : State) (core id : Nat) (x : CopyOp) (d : List Byte) (stale : Bool) : State :=
  (s.signWrite core (localOf x.dst) (fun y => slice d (y - localOf x.dst) 16) x.len).emit
    (.remote (deviceOf x.dst) id 0 (localOf x.dst) x.len d { x with stale := stale }.ctl)

/-- R99: every byte of the source has been read; the copy's posts apply. A local source is read here; a host source must have come whole; a
remote source is reported by its device. A put's data leaves. -/
def copySourceRelease (core id : Nat) (s : State) : State :=
  match (s.core core).copies.find? fun x => Nat.beq x.id id with
  | none => s
  | some x =>
    let me := s.deviceId
    let a := localOf x.src
    if x.released then s
    else if deviceOf x.src ≠ me then
      (s.updCopy core id fun x => { x with released := true }).applyPosts core x.slot x.posts
    else if hostBase ≤ a then
      if ((s.jobFn core).any fun fn => s.reading fn (RdWhy.ofCopy core id)) || Nat.blt x.data.length x.len then s
      else
        let s := (s.updCopy core id fun x => { x with released := true }).issueCopy core x
        let s := if deviceOf x.dst = me then s else s.putData core id x x.data false
        s.applyPosts core x.slot x.posts
    else if !s.jobReaches core a x.len || s.bad a x.len then ((s.scrubRead a x.len).dropCopy core id).copyErr core x.slot (if s.bad a x.len then 4 else 3)
    else if !Nat.beq x.segment 0 && (s.segmentAt (s.fld (coreOwnerFld core)) x.segment a x.len).isNone then (s.dropCopy core id).copyErr core x.slot 3
    else
      let d := s.rdBytes a x.len
      let stale := !Nat.beq x.segment 0 &&
        (s.segmentAt (s.fld (coreOwnerFld core)) x.segment a x.len).any fun g => !Nat.beq g.gen x.gen
      let s := ((s.scrubRead a x.len).updCopy core id fun x => { x with released := true, data := d, stale := stale }).issueCopy core x
      let s := if deviceOf x.dst = me then s else s.putData core id x d stale
      s.applyPosts core x.slot x.posts

def execCopySourceRelease (core id : Nat) (s : State) : Answer := .next (copySourceRelease core id s)

/-- R99: copies of a core with one source window and one destination core land in issue order. -/
def State.sameLane (s : State) (x y : CopyOp) : Bool :=
  let kind (a : Nat) : Nat := match s.region (localOf a) with
    | .gddr => 0 | .scratch _ => 1 | .accum _ => 2 | .cluster _ _ => 3 | .host => 4 | _ => 5
  Nat.beq (deviceOf x.src) (deviceOf y.src) && Nat.beq (kind x.src) (kind y.src) && Nat.beq (deviceOf x.dst) (deviceOf y.dst) &&
    Nat.beq (s.coreAt x.dst) (s.coreAt y.dst) && Nat.blt (s.coreAt x.dst) 2048

/-- The landing of a copy in this device: the data is written and the counter increases; STALE marks it and faults the job (R99–R101). -/
def State.landCopy (s : State) (n : Nat) (x : CopyOp) : State :=
  let a := localOf x.dst
  let t := if x.ctrCore = 0xFFFF then n else x.ctrCore
  let held := Nat.beq t n || (s.holdsCore (s.fld (coreOwnerFld n)) t && ! [1, 5, 6].contains (s.coreState t))
  if !s.jobWrites n a x.len || !held then s.faultRun n faultAccess x.slot
  else
    let fn := (s.jobFn n).getD 0
    let (s, ok) := if hostBase ≤ a then s.hostWrite fn a x.data (x.len / 4096 + 2)
      else
        let (s, _) := s.coreWrite n a x.data
        (if x.data.length < x.len then s.leaveUndefined (a + x.data.length) (x.len - x.data.length) else s, true)
    if !ok then s.copyErr n x.slot 3
    else
      let s := s.arrive t x.ctr x.inc x.stale x.slot
      if x.stale then (s.raiseErr Reg.SILK.ERR.STALE).faultRun n faultStaleInput x.slot else s

/-- R12, R99, R376: a copy lands once its data has passed the mesh. A put's landing is the copy completion of its destination, which increases the counter here for CTR_CORE 0xFFFF. -/
def copyLanding (core id : Nat) (s : State) : State :=
  match (s.core core).copies.find? fun x => Nat.beq x.id id with
  | none => s
  | some x =>
    if !x.released || (s.core core).copies.any (fun y => Nat.blt y.id x.id && s.sameLane y x) then s
    else match s.meshArrive (.copy core id) with
      | (s, false) => s
      | (s, true) =>
        let s := s.dropCopy core id
        (if deviceOf x.dst = s.deviceId then s.landCopy core x
        else
          let s := if x.ctrCore = 0xFFFF then s.arrive core x.ctr x.inc x.stale x.slot else s
          if x.stale then s.faultRun core faultStaleInput x.slot else s).issuePosts

def execCopyLanding (core id : Nat) (s : State) : Answer := .next (copyLanding core id s)

/-! ### Remote operations as they fire (R372) -/

/-- R372: the rules of a remote operation's parameter block. -/
def remoteBlockOk (b : List Byte) : Bool :=
  let op := fieldAt b 8 1
  let size := fieldAt b 9 1
  (Nat.beq op opLoad || Nat.beq op opStore || opAtomic op) &&
    (if opAtomic op then [4, 8].contains size else [4, 8, 16, 32, 64].contains size) &&
    Nat.beq (fieldAt b 0 8 % max 1 size) 0 && Nat.ble (fieldAt b 10 1) 127 && !Nat.beq (fieldAt b 11 1) 0 &&
    Nat.beq (fieldAt b 12 4 % max 1 size) 0 && Nat.ble (fieldAt b 12 4 + size) 0x200000 &&
    Nat.beq (fieldAt b 16 4 % 4) 0 && Nat.ble (fieldAt b 16 4 + 4) 0x200000 && Nat.beq (fieldAt b 20 4) 0 &&
    !(Nat.beq size 4 && Nat.ble 0x10 op && !Nat.beq (fieldAt b 28 4) 0)

/-- The 16 bytes of the signature record at `b` of a remote write of `d` at `a` (R431). -/
def padRecord (a : Nat) (d : List Byte) (b : Nat) : List Byte :=
  (List.range 16).map fun i => if a ≤ b + i ∧ b + i < a + d.length then d.getD (b + i - a) 0 else Config.signPad (b + i)

/-- R20: an operation on the host window, through the tables of the job's function: a store is written; a load or atomic reads its word first, and ends
when it has come. -/
def State.hostOp (s : State) (n : Nat) (r : RemoteOp) (data : List Byte) : State :=
  match s.jobFn n with
  | none => s.remoteErr n r 3
  | some fn =>
    let a := localOf r.addr
    if r.op = opStore then
      match s.hostWrite fn a (slice data 0 r.size) 2 with
      | (s, true) => s.remoteOk n r []
      | (s, false) => s.remoteErr n r 3
    else
      match s.readHost fn (fun _ => .opData n r.tag) 0 [(a, r.size)] with
      | (s, true) => s.setCore n { s.core n with remotes := (s.core n).remotes ++ [r] }
      | (s, false) => s.remoteErr n r 3

/-- The word of a load or atomic in the host window has come; an atomic writes its new value back (R20, R372). The link has no atomic that returns a
value, so the host may write between the two (DESIGN CHOICE, log entry 251). -/
def State.hostWord (s : State) (n : Nat) (r : RemoteOp) (old : List Byte) : State :=
  let s := s.setCore n { s.core n with remotes := (s.core n).remotes.filter fun x => !Nat.beq x.tag r.tag }
  if r.op = opLoad then s.remoteOk n r old
  else
    let v := atomicNew r.op r.size (leNat old) (leNat r.operand) (leNat r.compare)
    match (s.jobFn n).map fun fn => s.hostWrite fn (localOf r.addr) (leBytes r.size v) 2 with
    | some (s, true) => s.remoteOk n r old
    | some (s, false) => s.remoteErr n r 3
    | none => s.remoteErr n r 3

/-- A remote operation starts: on the Y40's own device it is performed at once (R19), where the mesh carries it (R32, R34); else its request leaves, or
ends without a route. -/
def State.startRemote (s : State) (n slot : Nat) (posts : List Nat) (b : List Byte) : State :=
  let c := s.core n
  let addr := fieldAt b 0 8
  let size := fieldAt b 9 1
  let r : RemoteOp := ⟨c.nextId, slot, posts, fieldAt b 8 1, addr, size, deviceOf addr, fieldAt b 10 1, fieldAt b 11 1, fieldAt b 12 4,
    fieldAt b 16 4, s.deadAt, slice b 24 size, s.rdBytes (spBase n + fieldAt b 12 4) size⟩
  let s := s.setCore n { c with nextId := c.nextId + 1 }
  let here := s.rdBytes (spBase n + r.local_) size
  let data := if r.op = opStore then here else slice b 24 size
  if s.bad (spBase n + r.local_) size && (Nat.beq r.op opStore || Nat.beq r.op 0x12) then
    (s.scrubRead (spBase n + r.local_) size).faultRun n faultSramUe slot
  else if deviceOf addr = s.deviceId then
    if !s.jobReaches n (localOf addr) size || !s.jobSlots n (localOf addr) size then s.remoteErr n r 3
    else if hostBase ≤ localOf addr then s.hostOp n r data
    else if !(s.diesAt (localOf addr)).all (s.meshUp (dieOf n)) then s.remoteErr n r 5
    else
      match s.perform (fun s a d => (s.coreWrite n a d).1) r.op (localOf addr) size data here with
      | (s, some d) => s.remoteOk n r d
      | (s, none) => s.remoteErr n r 4
  else if s.quarantined (s.fld (coreOwnerFld n)) (deviceOf addr) then s.remoteErr n r 2
  else if s.routable (deviceOf addr) then
    let s := if r.op = opStore then s.signWrite n (localOf addr) (padRecord (localOf addr) data) size else s
    (s.setCore n { s.core n with remotes := (s.core n).remotes ++ [r] }).emit (.remote (deviceOf addr) r.tag r.op (localOf addr) size data here)
  else s.remoteErr n r 2

/-- A slot with UNIT 5 fires as one of the operations `ops`; a block that breaks R372 faults under any of them. -/
def remoteFire (core slot : Nat) (ops : List Nat) (s : State) : State :=
  let b := s.rdBytes (spBase core + descParam (s.slotDesc core slot)) 32
  if ops.contains (fieldAt b 8 1) || !remoteBlockOk b || Nat.ble 6 (descUnit (s.slotDesc core slot)) then
    s.fire core slot 5 32 (fun b => remoteBlockOk b && !(s.replays core && [0x11, 0x12].contains (fieldAt b 8 1))) fun s posts b => s.startRemote core slot posts b
  else s

def execRemoteLoad (core slot : Nat) (s : State) : Answer := .next (remoteFire core slot [0x01] s)
def execRemoteStore (core slot : Nat) (s : State) : Answer := .next (remoteFire core slot [0x02] s)
def execAtomicAdd (core slot : Nat) (s : State) : Answer := .next (remoteFire core slot [0x10] s)
def execAtomicSwap (core slot : Nat) (s : State) : Answer := .next (remoteFire core slot [0x11] s)
def execAtomicCas (core slot : Nat) (s : State) : Answer := .next (remoteFire core slot [0x12] s)
def execAtomicMin (core slot : Nat) (s : State) : Answer := .next (remoteFire core slot [0x13, 0x15] s)
def execAtomicMax (core slot : Nat) (s : State) : Answer := .next (remoteFire core slot [0x14, 0x16] s)

/-! ### The stride timer (R62, R134, R169) -/

/-- The units of a core stop at once: the tiles under way and the outputs of a running stage sequence are undefined. -/
def State.stopUnits (s : State) (n : Nat) : State :=
  let c := s.core n
  let tiles := (c.array.toList ++ c.tail).map fun a => (parseProduct a.block).tile
  let s := tiles.foldl (fun s t => s.leaveUndefined (entryAddr n 1 t 0 0) 4096) s
  let spoil (s : State) (off mv nv : Nat) (from_ : Option Nat) : State :=
    let b := s.stageBlock n off
    (s.spoilStage ⟨n, b, stageTileIdx b, mv, nv, from_⟩).leaveUndefined (spBase n + 32 * off + 32) 4
  let s := match c.vector with
    | some (.op _ _ b) => spoil s (vopStage b) (vopMv b) (vopNv b) (if vopAcc b then some (fieldAt b 1 1) else none)
    | some .epilogue =>
      match c.tail.find? fun (a : ArrayOp) => a.epilogue with
      | some a =>
        let p := parseProduct a.block
        spoil s p.stage p.mv p.nv (some p.tile)
      | none => s
    | none => s
  s.setCore n { s.core n with
    routine := none, handler := none, array := none, tail := [], vector := none, delay := none, landings := [], feeders := [], vecHeld := false }

/-- R62: the stride timer of a core outside cocoon 0 runs out at s + b + G; the core stops at once, its requests are absorbed and its job
faults; the stride is counted once, however many cores of its group it is stopped on; debt is charged up to the stop (R64). -/
def runaway (core now : Nat) (s : State) : State :=
  let s := s.advanceTo now
  match s.runOn core with
  | none => s
  | some r =>
    match r.stride with
    | none => s
    | some x =>
      if !Nat.beq r.cocoon 0 && s.working core && Nat.ble (x.start + x.bound + s.fld Reg.SEQ.LIVE.GUARD_NS) s.now then
        let s := if x.runaway then s else s.onSeq fun s => (s.raiseErr Reg.SEQ.ERR.RUNAWAY).countSat Reg.SEQ.RUNAWAY_COUNT.COUNT 1
        let s := s.updRun r.id fun r => { r with stride := some { x with runaway := true } }
        let s := s.noteOverrun r.cocoon core s.now
        let s := (if (s.core core).faulted then s else s.faultCore core faultRunaway 0).stopUnits core
        let s := (s.settleCharges r.cocoon core).startWaiting core s.now
        if r.cores.all (fun n => !s.working n) then
          match s.run r.id with
          | some r' => (s.finishStride r' x s.now).1.settle r.id
          | none => s
        else s
      else s

def execRunawayStride (core now : Nat) (s : State) : Answer := .next (runaway core now s)

end Sys2Proof.Machine
end

