-- ==== Sys2Proof/Machine/Inference.lean ====
section
/-!
DEFINITION. Programs, contexts, commands of a function's queues and launches (R170–R191), and ATTEST (R449).
-/
namespace Sys2Proof.Machine

/-! ### The dispatcher (R178, R187, R191) -/

/-- The bytes of a command from byte 2 on that no field of its opcode takes, TAG apart (R187, R449): first and one past last. -/
def cmdReserved (op : Nat) : List (Nat × Nat) :=
  (2, 4) :: match op with
  | 1 => []
  | 2 => [(10, 16), (28, 64)]
  | 3 => [(12, 64)]
  | 4 => [(9, 12), (44, 64)]
  | 5 => [(11, 12), (48, 64)]
  | 6 => [(10, 64)]
  | 7 => [(28, 64)]
  | 9 => [(12, 64)]
  | 10 => [(52, 64)]
  | _ => [(8, 64)]

/-- A reserved opcode, flag or field (R190 reason 0x0166). -/
def cmdBad (b : List Byte) : Bool :=
  let op := fieldAt b 0 1
  Nat.beq op 0 || Nat.blt 10 op || Nat.blt 7 (fieldAt b 1 1) || (cmdReserved op).any fun r => !Nat.beq (fieldAt b r.1 (r.2 - r.1)) 0

/-- The bytes a command reads from GDDR7 of its cocoon; nothing where they lie outside it or are uncorrected. -/
def State.readFor (s : State) (c a len : Nat) : Option (List Byte) :=
  if s.region a = .gddr && s.inExtent c a len && !s.bad a len then some (s.rdBytes a len) else none

/-- Is context `x` of the cocoon open for slot `z` (R182)? -/
def State.ctxOpen (s : State) (c x z : Nat) : Bool :=
  let b := s.rd (s.ctxAddr c x) 1
  b.testBit 0 && Nat.beq (b / 16) z

/-- Does an outstanding invocation of the cocoon name context `x` (R183)? -/
def State.ctxBusy (s : State) (c x : Nat) : Bool := s.runs.any fun r => Nat.beq r.cocoon c && r.outstanding && r.ctxs.contains x

/-- The context list of an INVOKE. -/
def ctxList (b : List Byte) : List Nat := (List.range (b.length / 2)).map fun i => fieldAt b (2 * i) 2

/-- What stands between an INVOKE and its group. -/
inductive InvokeCheck where
  | refused (reason : Nat)
  | waits
  | ready (slot prog : Nat) (p : Program) (ctxs : List Nat)
deriving DecidableEq, Repr

/-- Does a lock-step pair compare the cocoon (R432)? -/
def State.lockStep (s : State) (c : Nat) : Bool := (s.pairOf c).isSome

/-- The checks of an INVOKE (R177, R183, R187, R190, R432). -/
def State.checkInvoke (s : State) (c : Nat) (b : List Byte) : InvokeCheck :=
  let n := fieldAt b 12 2
  let list := fieldAt b 16 8
  if cmdBad b || Nat.beq n 0 || Nat.blt 256 n || !Nat.beq (list % 2) 0 then .refused 0x0166
  else match s.program c (fieldAt b 8 4) with
    | none => .refused 0x0360
    | some (z, p, g) =>
      match s.readFor c list (2 * n) with
      | none => .refused 0x0362
      | some l =>
        let xs := ctxList l
        if !xs.all (fun x => s.ctxOpen c x z) then .refused 0x0361
        else if g.closing || xs.any (s.ctxBusy c) then .waits
        else if xs.any fun x => Nat.blt (s.rd (s.ctxAddr c x + 4) 4) (s.rd (s.ctxAddr c x + 8) 4 + fieldAt b 14 2) then .refused 0x0560
        else if s.lockStep c && !(fieldAt b 1 1).testBit 2 then .refused 0x04E0
        else .ready z p g xs

/-- The dispatch core sets open to a function of a cocoon, in the order in which they opened (R53 KIND 0x02, R178). -/
def State.dispatchSets (s : State) (c fn : Nat) : List (List Nat) :=
  match s.seq.active with
  | none => []
  | some t => s.seq.openWork.filterMap fun i =>
    (t.works[i]?).bind fun w =>
      if Nat.beq w.cocoon c && (Nat.beq (w.handle % 65536) fn || Nat.beq (w.handle % 65536) 0xFFFF) then some (t.coresOf w.coreSet) else none

/-- The lowest free group for a program among open dispatch core sets (R178). -/
def State.freeGroup (s : State) (c fn : Nat) (p : Program) : Option (List Nat) :=
  (s.dispatchSets c fn).findSome? fun cores =>
    (groupsOf cores p.groupCores).find? fun g => s.groupFree g && g.all (fun n => (s.winOn c n).any fun w => !w.ended) && s.heldThrough p c g

/-- Does the dispatcher take commands of the function: its cocoon is ACTIVE and not fenced (R191)? -/
def State.dispatches (s : State) (fn : Nat) : Bool := s.mayRun (s.fnCocoon fn)

/-- Do commands of the queue still run? -/
def State.queueBusy (s : State) (fn q : Nat) : Bool :=
  (s.runs.any fun r => r.cmd.any fun c => Nat.beq c.fn fn && Nat.beq c.queue q) ||
    s.waits.any fun w => Nat.beq w.cmd.fn fn && Nat.beq w.cmd.queue q

/-- Can the head of a queue be taken now? -/
def State.canTake (s : State) (fn q : Nat) : Bool :=
  match (s.queue fn q).cmds with
  | [] => false
  | b :: _ =>
    s.dispatches fn &&
      if cmdBad b then true
      else if fieldAt b 0 1 = 1 then
        match s.checkInvoke (s.fnCocoon fn) b with
        | .refused _ => true
        | .waits => false
        | .ready _ _ p _ => (s.freeGroup (s.fnCocoon fn) fn p).isSome
      else if fieldAt b 0 1 = 8 then !s.queueBusy fn q
      else true

/-- The queues of a cocoon's functions with a command waiting, as fn × 64 + queue. -/
def State.cmdQueues (s : State) (c : Nat) : List Nat :=
  s.fns.flatMap fun f => if s.fnCocoon f.1 = c then (f.2.queues.filter fun q => !q.2.cmds.isEmpty).map fun q => 64 * f.1 + q.1 else []

/-- R178: in round-robin order from the last turn, no other queue comes before this one. -/
def State.itsTurn (s : State) (fn q : Nat) : Bool :=
  let c := s.fnCocoon fn
  let me := 64 * fn + q
  let t := (s.cocoon c).turn
  let after (a : Nat) : Nat := (a + 258 * 64 - t - 1) % (258 * 64)
  (s.cmdQueues c).all fun k => Nat.ble (after me) (after k) || !s.canTake (k / 64) (k % 64)

/-- A command with opcode `op`, or one refused as reserved, is taken from the head of a queue; `k` is given its cocoon and the command. -/
def State.takeCmd (s : State) (fn q op : Nat) (k : State → Nat → Cmd → State) : State :=
  match (s.queue fn q).cmds with
  | [] => s
  | b :: rest =>
    let c := s.fnCocoon fn
    if s.canTake fn q && s.itsTurn fn q && (cmdBad b || Nat.beq (fieldAt b 0 1) op) then
      let cmd : Cmd := ⟨fn, q, b, s.mono⟩
      let s := s.setQueue fn q { s.queue fn q with cmds := rest }
      let s := s.setCocoon c { s.cocoon c with dispatched := (s.cocoon c).dispatched + 1, turn := 64 * fn + q }
      if cmdBad b then s.refuseCmd cmd 0x0166 else k s c cmd
    else s

/-- A command of no lasting effect completes. -/
def State.done (s : State) (c : Cmd) (result : Nat) : State := s.complete c (.plain 0 0 result)

/-! ### INVOKE, IMAGE_STAGING_DONE, LAUNCH, LAUNCH_DONE (R178–R181) -/

/-- R178: an invocation claims its group. -/
def State.startInvoke (s : State) (c : Nat) (cmd : Cmd) : State :=
  match s.checkInvoke c cmd.bytes with
  | .refused r => s.refuseCmd cmd r
  | .waits => s
  | .ready z p g xs =>
    match s.freeGroup c cmd.fn g with
    | none => s
    | some grp =>
      let append := fieldAt cmd.bytes 14 2
      let L := (xs.map fun x => s.rd (s.ctxAddr c x + 8) 4 + append).foldl max 0
      let r := Run.new s.nextRun c .invoke z p (some cmd) (s.cocoon c).dispatched 0 grp xs append L (s.rd (s.ctxAddr c (xs.headD 0) + 24) 8)
      { s with runs := s.runs ++ [{ r with replay := (fieldAt cmd.bytes 1 1).testBit 2 }], nextRun := s.nextRun + 1 }

def invokeStep (fn q : Nat) (s : State) : State := s.takeCmd fn q 1 fun s c cmd => s.startInvoke c cmd

def execInvoke (fn queue : Nat) (s : State) : Answer := .next (invokeStep fn queue s)

/-- Bytes of a core image (R171). -/
def CoreImage.bytes (i : CoreImage) : Nat := 45088 + i.preloadLen

/-- The clusters of a run, each with the images its ranks there use, ascending (R179). -/
def Run.clusters (r : Run) (p : Program) : List (Nat × List Nat) :=
  ((r.cores.map clusterOf).eraseDups).map fun g =>
    (g, (List.range 16).filter fun i => (r.cores.zipIdx).any fun x => Nat.beq (clusterOf x.1) g && Nat.beq (p.rankMap.getD x.2 0) i)

/-- Where an image of a cluster is staged: the images follow one another from IMG_WAY0 on. -/
def Program.stagedAt (p : Program) (g : Nat) (imgs : List Nat) (i : Nat) : Nat :=
  csBase g + 0x100000 * p.way0 + ((imgs.filter fun j => Nat.blt j i).map fun j => (p.images.getD j ⟨0, 0, 0, 0, 0, 0⟩).bytes).sum

/-- R179: why the images of a run cannot be staged. -/
def State.stagingReason (s : State) (r : Run) (p : Program) : Option Nat :=
  let cl := r.clusters p
  if cl.any fun x => Nat.blt (0x100000 * p.ways) ((x.2.map fun i => (p.images.getD i ⟨0, 0, 0, 0, 0, 0⟩).bytes).sum) then some 0x0562
  else if cl.any fun x => (List.range p.ways).any fun w => !Nat.beq (s.wayOwner x.1 (p.way0 + w)) r.cocoon then some 0x0860
  else none

/-- Copy one image from the program area to its place in a cluster. -/
def State.stageImage (s : State) (p : Program) (g : Nat) (imgs : List Nat) (i : Nat) : State :=
  let img := p.images.getD i ⟨0, 0, 0, 0, 0, 0⟩
  let a := p.stagedAt g imgs i
  (s.setMem (s.mem.copy (p.base + img.off) a img.bytes)).healWrite a img.bytes

/-- Where the images of a run are staged in a cluster: first byte and length. -/
def Run.stagedIn (r : Run) (p : Program) : List (Nat × Nat) :=
  (r.clusters p).map fun g =>
    let a := csBase g.1 + 0x100000 * p.way0
    (a, p.stagedAt g.1 g.2 16 - a)

/-- Staging a run's images overwrites those of another run that stand in the same ways, unless it is the same program's with the same images: the
dispatcher stages those again before they are needed (R179). -/
def State.unstageOthers (s : State) (r : Run) (p : Program) : State :=
  let mine := r.stagedIn p
  let hit (x : Run) : Bool := !Nat.beq x.id r.id && x.staged && (s.runProgram x).any fun q =>
    !(Nat.beq x.cocoon r.cocoon && Nat.beq x.slot r.slot && Nat.beq x.prog r.prog && (x.clusters q).all fun g =>
        (r.clusters p).all fun h => !Nat.beq h.1 g.1 || h.2 == g.2) &&
      (x.stagedIn q).any fun a => mine.any fun b => Nat.blt a.1 (b.1 + b.2) && Nat.blt b.1 (a.1 + a.2)
  { s with runs := s.runs.map fun x => if hit x then { x with staged := false } else x }

/-- R179: the images of a run's ranks are staged in every cluster of the group, or the invocation is refused. -/
def stagingDone (run : Nat) (s : State) : State :=
  match s.run run with
  | none => s
  | some r =>
    match s.runProgram r with
    | none => s
    | some p =>
      if r.staged || r.suspended || !s.mayRun r.cocoon || s.bad p.base p.len then s
      else match s.stagingReason r p with
        | some x => s.endRuns 1 x [run]
        | none =>
          let s := (r.clusters p).foldl (fun s g => g.2.foldl (fun s i => s.stageImage p g.1 g.2 i) s) s
          (s.unstageOthers r p).updRun run fun r => { r with staged := true }

def execImageStagingDone (run : Nat) (s : State) : Answer := .next (stagingDone run s)

/-- R180: a launch starts under the stride rule with bound b_L; every core of the group clears. -/
def launchStart (run now : Nat) (s : State) : State :=
  match s.run run with
  | none => s
  | some r =>
    match s.runProgram r with
    | none => s
    | some p =>
      let s := s.advanceTo now
      if r.needLaunch && r.staged && r.stride.isNone && r.fault.isNone && r.ending.isNone && !r.suspended && s.mayRun r.cocoon &&
          s.heldThrough p r.cocoon r.cores && r.cores.all (fun n => s.mayStart r.cocoon n s.now p.bL) then
        let s := s.updRun run fun r => { r with
          stride := some ⟨true, 0xFFFF, 0, s.now, p.bL, s.seq.beat, false⟩, strides := r.strides + 1
          beats := if r.lastBeat = some s.seq.beat then r.beats else r.beats + 1, lastBeat := some s.seq.beat }
        r.cores.foldl (fun s n => (s.clearCore n).setFld (coreStateFld n) 2) s
      else s

def execLaunch (run now : Nat) (s : State) : Answer := .next (launchStart run now s)

/-- The argument block of a rank (R180). -/
def State.argBlock (s : State) (r : Run) (rank : Nat) : List Byte :=
  let b := (r.cmd.map fun c => c.bytes).getD []
  let args := match r.cmd with
    | some _ => slice b 24 24
    | none => leBytes 24 r.arg
  args ++ leBytes 2 r.ctxs.length ++ leBytes 2 r.append ++ leBytes 2 rank ++ leBytes 2 r.cores.length ++ slice b 16 8 ++ slice b 56 8 ++
    leBytes 8 (s.fld (Reg.COCOON.CTX_BASE.BASE r.cocoon) * 0x10000) ++ leBytes 8 r.inv

/-- Load a rank's image from the staged ways and write its argument block (R180); a poisoned word of it is an SRAM_UE fault (R107). -/
def State.loadRank (s : State) (r : Run) (p : Program) (rank n : Nat) : State :=
  let i := p.rankMap.getD rank 0
  let img := p.images.getD i ⟨0, 0, 0, 0, 0, 0⟩
  let imgs := ((r.clusters p).find? fun x => Nat.beq x.1 (clusterOf n)).elim [] fun x => x.2
  let a := p.stagedAt (clusterOf n) imgs i
  if s.bad a img.bytes then s.faultCore n faultSramUe 0
  else
    let m := (s.mem.copy (a + 32) (cwBase n) 45056).copy (a + 45088) (spBase n + img.preloadOff) img.preloadLen
    (s.setMem m).wrBytes (spBase n + img.argsOff) (s.argBlock r rank)

/-- R180: the launch of a run ends. -/
def launchDone (run : Nat) (s : State) : State :=
  match s.run run with
  | none => s
  | some r =>
    match r.stride, s.runProgram r with
    | some x, some p =>
      if x.launch then
        let s := (r.cores.zipIdx).foldl (fun s c => if (s.core c.1).faulted then s else s.loadRank r p c.2 c.1) s
        let s := (s.signStride r x).updRun run fun r => { r with needLaunch := false, ran := Assoc.upd 0xFFFF 0 (· + 1) r.ran }
        match s.run run with
        | none => s
        | some r =>
          let (s, ok) := s.finishStride r x s.now
          if !ok then s.endRuns 1 0x0362 [run] else s.settle run
      else s
    | _, _ => s

def execLaunchDone (run : Nat) (s : State) : Answer := .next (launchDone run s)

/-! ### LOAD_PROGRAM (R170–R176) -/

/-- Offset and count of section `i`. -/
def imgSecOff (b : List Byte) (i : Nat) : Nat := fieldAt b (0x20 + 8 * i) 4
def imgSecCnt (b : List Byte) (i : Nat) : Nat := fieldAt b (0x24 + 8 * i) 4

/-- The core images of a program image: they follow one another from the section's offset. -/
def parseImages (b : List Byte) : Nat → Nat → List CoreImage
  | _, 0 => []
  | off, n + 1 =>
    let e (k : Nat) : Nat := fieldAt b (off + k) 4
    let i : CoreImage := ⟨off, e 0, e 4, e 8, e 12, e 16⟩
    i :: parseImages b (off + i.bytes) n

def parseStride (e : List Byte) : StrideEntry :=
  ⟨fieldAt e 0 4, fieldAt e 4 1, fieldAt e 5 1, fieldAt e 6 2, fieldAt e 8 2, fieldAt e 10 2, fieldAt e 12 4⟩

/-- b_L in ns, rounded up (R175). -/
def launchBound (imgs : List CoreImage) : Nat :=
  let n := (imgs.map fun i => i.bytes).foldl max 0
  (((n + 63) / 64 + 276) * 5 + 1) / 2

/-- A program as its image gives it, placed at `base`. -/
def parseProgram (b : List Byte) (gen base : Nat) : Program :=
  let imgs := parseImages b (imgSecOff b 0) (min 16 (fieldAt b 8 1))
  let strides := (List.range (min 4096 (fieldAt b 0x0C 2))).map fun k => parseStride (slice b (imgSecOff b 2 + 16 * k) 16)
  let bL := launchBound imgs
  { gen := gen, base := base, len := fieldAt b 0x14 4, groupCores := fieldAt b 6 2, way0 := fieldAt b 9 1, ways := fieldAt b 0x0A 1
    continuous := (fieldAt b 0x0B 1).testBit 0, images := imgs
    rankMap := (List.range (min 2048 (imgSecCnt b 1))).map fun k => fieldAt b (imgSecOff b 1 + k) 1
    strides := strides, bP := (strides.map fun e => e.b).foldl max bL, bL := bL, closing := false }

/-- End of section `i`. -/
def imgSecEnd (b : List Byte) (p : Program) (i : Nat) : Nat :=
  match i with
  | 0 => imgSecOff b 0 + (p.images.map fun x => x.bytes).sum
  | 1 => imgSecOff b 1 + imgSecCnt b 1
  | 2 => imgSecOff b 2 + 16 * imgSecCnt b 2
  | _ => imgSecOff b 3 + 4 * imgSecCnt b 3

/-- R173: LOOP_TO beyond its entry, LOOP_DIV 0 where it counts, spans that cross, or more than 4 deep. -/
def loopsBad (l : List StrideEntry) : Bool :=
  let spans := ((l.zipIdx).filter fun x => !Nat.beq x.1.loopN 0).map fun x => (x.1.loopTo, x.2)
  ((l.zipIdx).any fun x => Nat.blt x.2 x.1.loopTo ||
      (Nat.beq x.1.loopN 0xFFFF && (Nat.beq x.1.loopDiv 0 || Nat.blt 4194304 x.1.loopDiv))) ||
    (spans.any fun a => spans.any fun b => Nat.blt a.1 b.1 && Nat.ble b.1 a.2 && Nat.blt a.2 b.2) ||
    (List.range l.length).any fun i => Nat.blt 4 (spans.filter fun a => Nat.ble a.1 i && Nat.ble i a.2).length

/-- Bytes of a rank's scratchpad as its image loads it. -/
def imgSp (b : List Byte) (i : CoreImage) (off len : Nat) : List Byte :=
  (List.range len).map fun k =>
    let a := off + k
    if i.preloadOff ≤ a ∧ a < i.preloadOff + i.preloadLen then b.getD (i.off + 45088 + (a - i.preloadOff)) 0 else 0

/-- The firing-table descriptors of an image for UNIT 1 and 2, each with its parameter block (R94). -/
def imgUsers (b : List Byte) (i : CoreImage) : List (Nat × List Byte) :=
  (List.range 256).filterMap fun k =>
    let d := slice b (i.off + 32 + 0x8000 + 32 * k) 32
    if descUnit d = 1 ∨ descUnit d = 2 then some (descUnit d, imgSp b i (descParam d) 64) else none

/-- The products that use the stage block at `off` (units of 32 bytes). -/
def stageUsers (us : List (Nat × List Byte)) (off : Nat) : List StageUser :=
  us.filterMap fun u =>
    let p := parseProduct u.2
    if u.1 = 1 ∧ p.stage = off then some (.product p.mode (fieldAt u.2 2 1) (fieldAt u.2 3 1)) else none

/-- Does a product or a vector operation name the stage block at `off`? -/
def stageNamed (us : List (Nat × List Byte)) (off : Nat) : Bool :=
  us.any fun u => Nat.beq (if u.1 = 1 then (parseProduct u.2).stage else vopStage u.2) off

/-- The operand formats of the products that read a block's destination as their A (DST_KIND 2) or B (DST_KIND 3). -/
def stageConsumers (us : List (Nat × List Byte)) (b : List Byte) : List (List Nat) :=
  match dstSpan b with
  | none => []
  | some (a, len) =>
    let side := Nat.beq (stageDst b) 3
    us.filterMap fun u =>
      let p := parseProduct u.2
      let at_ := if side then p.bBase else p.aBase
      if u.1 = 1 ∧ a ≤ at_ ∧ at_ < a + len then some (p.operandCodes side) else none

/-- R165: the first failed check of the stage blocks listed in section 3, taken block by block in the order of the list (DESIGN CHOICE, log entry
221). What R165 asks of products is asked of the products that name the block; a vector operation is checked when it fires (R156). -/
def stageListReason (b : List Byte) (p : Program) : Option Nat :=
  let entries := (List.range (imgSecCnt b 3)).map fun k => slice b (imgSecOff b 3 + 4 * k) 4
  entries.findSome? fun e =>
    match p.images[fieldAt e 0 1]? with
    | none => some 0x0162
    | some i =>
      let blk (x : List Byte) : List Byte := imgSp b i (32 * fieldAt x 2 2) 288
      let sb := blk e
      let us := imgUsers b i
      let divided := entries.any fun x => Nat.beq (fieldAt x 0 1) (fieldAt e 0 1) && !Nat.beq (fieldAt x 2 2) (fieldAt e 2 2) &&
        stageOn (blk x) 4 && Nat.beq (normKind (blk x)) 4 && Nat.beq (fieldAt (blk x) 20 4) (fieldAt sb 20 4) && stageNamed us (fieldAt x 2 2)
      (stageReason sb (stageUsers us (fieldAt e 2 2)) divided (stageConsumers us sb)).or (holdReason i.holdOff i.holdLen sb)

/-- R176: the core images take exactly the bytes of section 0, up to the padding before what follows it; else one has not its 45,088 + PRELOAD_LEN
bytes. -/
def imagesBad (b : List Byte) (p : Program) : Bool :=
  let next := ((List.range 4).map (imgSecOff b)).foldl (fun m o => if Nat.blt (imgSecOff b 0) o then min m o else m) p.len
  Nat.blt next (imgSecEnd b p 0) || Nat.ble (imgSecEnd b p 0 + 64) next

/-- The checks of R176 on the image itself, up to MAX_B_NS. -/
def imageReason (b : List Byte) (p : Program) : Option Nat :=
  let n := fieldAt b 8 1
  let last := ((List.range 4).map (imgSecEnd b p)).foldl max 64
  let tests : List (Bool × Nat) := [
    (!Nat.beq (fieldAt b 0 4) 0x454D5047 || !Nat.beq (fieldAt b 4 2) 1 || Nat.blt b.length p.len ||
      !Nat.beq (fieldAt b 0x18 4) (imageCrc (b.take p.len) 0x18) || Nat.blt p.len last || Nat.ble (last + 64) p.len ||
      (List.range 4).any (fun i => !Nat.beq (imgSecOff b i % 64) 0), 0x0260),
    (Nat.beq p.groupCores 0 || Nat.blt 2048 p.groupCores || Nat.beq n 0 || Nat.blt 16 n || Nat.blt 15 p.way0 || Nat.beq p.ways 0 ||
      Nat.blt 8 p.ways || Nat.blt 16 (p.way0 + p.ways) || Nat.beq (fieldAt b 0x0C 2) 0 || Nat.blt 4096 (fieldAt b 0x0C 2) ||
      Nat.blt 4096 (fieldAt b 0x0E 2) || Nat.blt 0x4000000 p.len || !Nat.beq (imgSecCnt b 0) n || !Nat.beq (imgSecCnt b 1) p.groupCores ||
      !Nat.beq (imgSecCnt b 2) (fieldAt b 0x0C 2) || !Nat.beq (imgSecCnt b 3) (fieldAt b 0x0E 2) ||
      p.images.any (fun i => Nat.blt 479232 i.preloadLen || !Nat.beq (i.preloadLen % 64) 0) || imagesBad b p || p.rankMap.any (fun r => Nat.ble n r) ||
      p.strides.any (fun e => Nat.beq e.doneCount 0), 0x0162),
    (p.strides.any fun e => Nat.beq e.b 0 || Nat.blt 24000 e.b, 0x0161),
    (loopsBad p.strides, 0x0163),
    (p.images.any fun i => !Nat.beq (i.preloadOff % 64) 0 || !Nat.beq (i.argsOff % 64) 0 || !Nat.beq (i.holdOff % 64) 0 ||
      Nat.blt 0x200000 (i.preloadOff + i.preloadLen) || Nat.blt 0x200000 (i.holdOff + i.holdLen) || Nat.blt 0x200000 (i.argsOff + 64) ||
      (Nat.blt i.argsOff (i.preloadOff + i.preloadLen) && Nat.blt i.preloadOff (i.argsOff + 64)), 0x0164),
    (!Nat.beq (fieldAt b 0x10 4) p.bP, 0x0261)]
  (tests.find? fun t => t.1).map fun t => t.2

/-- Does an outstanding run use program `p` of slot `z` of the cocoon? A stride that an absorbed invocation left running counts until it ends
(DESIGN CHOICE, log entry 223). -/
def State.progBusy (s : State) (c z p : Nat) : Bool :=
  s.runs.any fun r => Nat.beq r.cocoon c && Nat.beq r.slot z && Nat.beq r.prog p && (r.outstanding || r.stride.isSome)

/-- Where an image fits in a slot's program area: the lowest multiple of 64 clear of the slot's other programs. -/
def Slot.place (z : Slot) (p len : Nat) : Option Nat :=
  let others := (z.programs.filter fun x => !Nat.beq x.1 p).map fun x => x.2
  let starts := sortBy Nat.ble (z.progBase :: others.map fun g => (g.base + g.len + 63) / 64 * 64)
  starts.find? fun a => Nat.ble (a + len) (z.progBase + z.progLen) &&
    others.all fun g => Nat.ble (a + len) g.base || Nat.ble (g.base + g.len) a

/-- R175, R176: the image read for a LOAD_PROGRAM is checked and placed. -/
def State.loadImage (s : State) (c : Nat) (cmd : Cmd) (b : List Byte) : State :=
  let z := fieldAt cmd.bytes 8 1
  let p := fieldAt cmd.bytes 9 1
  let g := parseProgram b 0 0
  match imageReason b g with
  | some r => s.refuseCmd cmd r
  | none =>
    if 15 < z ∨ 7 < p then s.refuseCmd cmd 0x0165
    else if s.progBusy c z p then s.refuseCmd cmd 0x0461
    else match Assoc.find z (s.cocoon c).slots with
      | none => s.refuseCmd cmd 0x0561
      | some sl =>
        match sl.place p g.len with
        | none => s.refuseCmd cmd 0x0561
        | some base =>
          match stageListReason b g with
          | some r => s.refuseCmd cmd r
          | none =>
            if !Nat.beq c 0 && s.seq.active.any fun t => Nat.blt t.guard g.bP then s.refuseCmd cmd 0x0660
            else
              let gen := (sl.loads + 1) % 65536
              let (s, ok) := s.store base (b.take g.len)
              if !ok then s.refuseCmd cmd 0x0362
              else
                let sl := { sl with loads := sl.loads + 1, programs := Assoc.put p { g with gen := gen, base := base } sl.programs }
                (s.setCocoon c { s.cocoon c with slots := Assoc.put z sl (s.cocoon c).slots }).done cmd (gen * 65536 + z * 256 + p)

/-- Does [a, a + len) lie in the host window? -/
def hostRange (a len : Nat) : Bool := Nat.ble hostBase a && Nat.ble (a + len) (2 ^ 48)

/-- The data of a command's source is wanted: read at once from GDDR7 or stores, or asked of the host, after which `k` goes on. -/
def State.wantData (s : State) (c : Nat) (cmd : Cmd) (a len : Nat) (local_ : Option (List Byte)) (w : Wait)
    (k : State → List Byte → State) : State :=
  if hostRange a len then
    let id := s.nextRun
    match s.readHost cmd.fn (.cmdData id) 0 (hostPieces a len) with
    | (s, true) =>
      let s := { s with nextRun := id + 1, waits := s.waits ++ [⟨id, c, cmd, w⟩] }
      if len = 0 then k s [] else s
    | (s, false) => s.refuseCmd cmd 0x0362
  else match local_ with
    | some b => k (s.scrubRead a len) b
    | none => (s.scrubRead a len).refuseCmd cmd 0x0362

/-- R175: LOAD_PROGRAM reads its image. -/
def State.startLoad (s : State) (c : Nat) (cmd : Cmd) : State :=
  let a := fieldAt cmd.bytes 16 8
  let len := fieldAt cmd.bytes 24 4
  if len = 0 then s.refuseCmd cmd 0x0260
  else s.wantData c cmd a len (s.readFor c a len) (.load []) fun s b => s.loadImage c cmd b

def loadProgramStep (fn q : Nat) (s : State) : State := s.takeCmd fn q 2 fun s c cmd => s.startLoad c cmd

def execLoadProgram (fn queue : Nat) (s : State) : Answer := .next (loadProgramStep fn queue s)

/-! ### UNLOAD_PROGRAM (R177) -/

def State.updProgram (s : State) (c z p : Nat) (f : Option Program → Option Program) : State :=
  match Assoc.find z (s.cocoon c).slots with
  | none => s
  | some sl =>
    let l := match f (Assoc.find p sl.programs) with
      | some g => Assoc.put p g sl.programs
      | none => Assoc.del p sl.programs
    s.setCocoon c { s.cocoon c with slots := Assoc.put z { sl with programs := l } (s.cocoon c).slots }

/-- A command begins to wait. -/
def State.await (s : State) (c : Nat) (cmd : Cmd) (w : Wait) : State :=
  { s with nextRun := s.nextRun + 1, waits := s.waits ++ [⟨s.nextRun, c, cmd, w⟩] }

/-- R177: no new invocation of the handle is dispatched. -/
def unloadProgramStep (fn q : Nat) (s : State) : State :=
  s.takeCmd fn q 3 fun s c cmd =>
    match s.program c (fieldAt cmd.bytes 8 4) with
    | none => s.refuseCmd cmd 0x0360
    | some (z, p, _) =>
      (s.updProgram c z p fun g => g.map fun g => { g with closing := true }).await c cmd (.unload (fieldAt cmd.bytes 8 4))

def execUnloadProgram (fn queue : Nat) (s : State) : Answer := .next (unloadProgramStep fn queue s)

/-- Every wait of a cocoon that a test picks completes with OK. -/
def State.endWaits (s : State) (p : WaitCmd → Bool) : State :=
  let l := s.waits.filter p
  l.foldl (fun s w => s.done w.cmd 0) { s with waits := s.waits.filter fun w => !p w }

/-- R177: the handle's outstanding invocations have completed: it is invalid, and the command completes. -/
def unloadDone (cocoon handle : Nat) (s : State) : State :=
  let mine (w : WaitCmd) : Bool := Nat.beq w.cocoon cocoon && w.wait == .unload handle
  if s.waits.any mine then
    match s.program cocoon handle with
    | none => s.endWaits mine
    | some (z, p, _) => if s.progBusy cocoon z p then s else (s.updProgram cocoon z p fun _ => none).endWaits mine
  else s

def execUnloadProgramComplete (cocoon handle : Nat) (s : State) : Answer := .next (unloadDone cocoon handle s)

/-! ### SLOT_SET (R174, R377) -/

/-- R174: a slot's weight range, program area and CTX_BYTES; the weight range becomes segment slot + 1, of whole units of 64 KiB and clear of the
cocoon's other segments (R377, R385; the reason for a part of a unit is a DESIGN CHOICE, log entry 121). -/
def slotSetStep (fn q : Nat) (s : State) : State :=
  s.takeCmd fn q 4 fun s c cmd =>
    let b := cmd.bytes
    let z := fieldAt b 8 1
    let wb := fieldAt b 16 8
    let wl := fieldAt b 24 8
    let pb := fieldAt b 32 8
    let pl := fieldAt b 40 4
    let old := Assoc.find z (s.cocoon c).slots
    let inside (a n : Nat) : Bool := Nat.beq n 0 || (s.region a == .gddr && s.inExtent c a n)
    let overlaps := (s.cocoon c).segments.any fun x => !Nat.beq x.1 (z + 1) && x.2.valid && Nat.blt wb (x.2.base + x.2.len) && Nat.blt x.2.base (wb + wl)
    if !Nat.beq (wl % 65536) 0 || (Nat.blt 0 wl && !Nat.beq (wb % 65536) 0) then s.refuseCmd cmd 0x0166
    else if 15 < z then s.refuseCmd cmd 0x0165
    else if old.any fun sl => !sl.programs.isEmpty then s.refuseCmd cmd 0x0460
    else if !inside wb wl || !inside pb pl then s.refuseCmd cmd 0x0362
    else if 0 < wl && overlaps then s.refuseCmd cmd 0x05C1
    else
      let sl : Slot := ⟨fieldAt b 12 4, wb, wl, pb, pl, old.elim 0 (fun o => o.loads), []⟩
      let k := s.cocoon c
      let gen := (Assoc.find (z + 1) k.segments).elim 0 fun g => g.gen
      (s.setCocoon c { k with slots := Assoc.put z sl k.slots, segments := Assoc.put (z + 1) ⟨Nat.blt 0 wl, wb, wl, gen⟩ k.segments }).done cmd 0

def execSlotSet (fn queue : Nat) (s : State) : Answer := .next (slotSetStep fn queue s)

/-! ### Contexts (R182, R183) -/

/-- R182: a context opens with LEN 0. -/
def contextOpenStep (fn q : Nat) (s : State) : State :=
  s.takeCmd fn q 5 fun s c cmd =>
    let b := cmd.bytes
    let x := fieldAt b 8 2
    let z := fieldAt b 10 1
    let cap := fieldAt b 12 4
    let base := fieldAt b 16 8
    let per := (Assoc.find z (s.cocoon c).slots).elim 0 fun sl => sl.ctxBytes
    let len := (cap * per + 4095) / 4096 * 4096
    if cap = 0 ∨ 4194304 < cap then s.refuseCmd cmd 0x0166
    else if 15 < z then s.refuseCmd cmd 0x0165
    else if (s.rd (s.ctxAddr c x) 1).testBit 0 then s.refuseCmd cmd 0x0462
    else if 0 < len ∧ !(s.region base == .gddr && s.inExtent c base len) then s.refuseCmd cmd 0x0362
    else
      let e := leBytes 4 (1 + 16 * z) ++ leBytes 4 cap ++ leBytes 8 0 ++ leBytes 8 base ++ slice b 24 8 ++ slice b 32 16 ++ leBytes 16 0
      (s.wrBytes (s.ctxAddr c x) e).done cmd 0

def execContextOpen (fn queue : Nat) (s : State) : Answer := .next (contextOpenStep fn queue s)

/-- R183: a context is to close. -/
def contextCloseStep (fn q : Nat) (s : State) : State :=
  s.takeCmd fn q 6 fun s c cmd =>
    let x := fieldAt cmd.bytes 8 2
    if (s.rd (s.ctxAddr c x) 1).testBit 0 then s.await c cmd (.ctxClose x) else s.refuseCmd cmd 0x0361

def execContextClose (fn queue : Nat) (s : State) : Answer := .next (contextCloseStep fn queue s)

/-- R183: no outstanding invocation names the context: it closes. -/
def contextCloseDone (cocoon ctx : Nat) (s : State) : State :=
  let mine (w : WaitCmd) : Bool := Nat.beq w.cocoon cocoon && w.wait == .ctxClose ctx
  if s.waits.any mine && !s.ctxBusy cocoon ctx then
    let a := s.ctxAddr cocoon ctx
    (s.wr a 1 (s.rd a 1 / 2 * 2)).endWaits mine
  else s

def execContextCloseComplete (cocoon ctx : Nat) (s : State) : Answer := .next (contextCloseDone cocoon ctx s)

/-! ### COPY (R98, R187, R388) -/

/-- May a command's copy name [a, a + len): GDDR7 and stores of its cocoon, and for the management function any core-state window (R20, R300)? -/
def State.copyReaches (s : State) (c fn a len : Nat) : Bool :=
  match s.region a with
  | .coreState n => Nat.beq fn 256 && Nat.ble (a + len) (cwBase (n + 1))
  | .host => hostRange a len
  | _ => s.owns c a len && s.open_ a && !Nat.ble (2 ^ 48) a

/-- May it write there (R182)? -/
def State.copyWrites (s : State) (c fn a len : Nat) : Bool := s.copyReaches c fn a len && !s.meetsCtx c a len

/-- R187: the data of a COPY goes to its destination. -/
def State.finishCopy (s : State) (cmd : Cmd) (data : List Byte) : State :=
  let dst := fieldAt cmd.bytes 16 8
  let c := s.fnCocoon cmd.fn
  if !s.copyWrites c cmd.fn dst data.length then s.refuseCmd cmd 0x0362
  else if hostRange dst data.length then
    match s.hostWrite cmd.fn dst data (data.length / 4096 + 2) with
    | (s, true) => s.done cmd 0
    | (s, false) => s.refuseCmd cmd 0x0362
  else
    match s.store dst data with
    | (s, true) => s.done cmd 0
    | (s, false) => s.refuseCmd cmd 0x0362

/-- R98, R187: a COPY moves data. -/
def copyStep (fn q : Nat) (s : State) : State :=
  s.takeCmd fn q 7 fun s c cmd =>
    let src := fieldAt cmd.bytes 8 8
    let dst := fieldAt cmd.bytes 16 8
    let len := fieldAt cmd.bytes 24 4
    if len < 64 ∨ 16777216 < len ∨ len % 64 ≠ 0 ∨ src % 64 ≠ 0 ∨ dst % 64 ≠ 0 then s.refuseCmd cmd 0x0166
    else if !s.copyReaches c fn src len || !s.copyWrites c fn dst len then s.refuseCmd cmd 0x0362
    else s.wantData c cmd src len (if s.bad src len then none else some (s.rdBytes src len)) (.copy []) fun s b => s.finishCopy cmd b

def execCopy (fn queue : Nat) (s : State) : Answer := .next (copyStep fn queue s)

/-- A piece of a waiting command's host source has come, or its read has failed (R389). -/
def State.cmdData (s : State) (id off : Nat) (d : Option (List Byte)) : State :=
  match s.waits.find? fun w => Nat.beq w.id id with
  | none => s
  | some w =>
    let gone := { s with waits := s.waits.filter fun x => !Nat.beq x.id id }
    match d with
    | none => gone.refuseCmd w.cmd 0x0362
    | some b =>
      let keep (x : Wait) : State := { s with waits := s.waits.map fun y => if y.id = id then { y with wait := x } else y }
      let more := s.reading w.cmd.fn (RdWhy.ofWait id)
      match w.wait with
      | .copy l => if more then keep (.copy (placeAt l off b)) else gone.finishCopy w.cmd (placeAt l off b)
      | .load l => if more then keep (.load (placeAt l off b)) else gone.loadImage w.cocoon w.cmd (placeAt l off b)
      | _ => s

/-! ### BARRIER, CORE_RESET, ATTEST (R187, R449) -/

/-- R187: a BARRIER starts, and completes, once every earlier command of its queue has completed. -/
def barrierStep (fn q : Nat) (s : State) : State := s.takeCmd fn q 8 fun s _ cmd => s.done cmd 0

def execBarrier (fn queue : Nat) (s : State) : Answer := .next (barrierStep fn queue s)

/-- Is the core held by the cocoon in the row in force? -/
def State.heldInRow (s : State) (c n : Nat) : Bool :=
  match s.seq.active, s.row with
  | some t, some r => (t.rowWins r).any fun w => Nat.beq w.2.cocoon c && t.hasCore w.2.coreSet n
  | _, _ => false

/-- R187, R457: faulted cores that the cocoon holds are reset. -/
def coreResetStep (fn q : Nat) (s : State) : State :=
  s.takeCmd fn q 9 fun s c cmd =>
    let first := fieldAt cmd.bytes 8 2
    let cores := (List.range (fieldAt cmd.bytes 10 2)).map fun i => first + i
    if cores.isEmpty || !cores.all fun n => Nat.blt n 2048 && s.heldInRow c n && Nat.beq (s.fld (coreOwnerFld n)) c && Nat.beq (s.coreState n) 3 then
      s.refuseCmd cmd 0x0463
    else (cores.foldl (fun s n => s.resetCore n) s).done cmd 0

def execCoreReset (fn queue : Nat) (s : State) : Answer := .next (coreResetStep fn queue s)

/-- COCOON.CFG of a cocoon in effect, as its word (R323). -/
def State.cocoonCfg (s : State) (c : Nat) : Nat :=
  (wordFlds (0x100 + c) (Reg.COCOON.CFG.SEALED c).off).foldl (fun v r => v + 2 ^ r.lo * s.fld ⟨0x100 + c, (Reg.COCOON.CFG.SEALED c).off, r.lo, r.w⟩) 0

/-- The first 512 bytes of an attestation report (R449). -/
def State.report (s : State) (fn c : Nat) (nonce : List Byte) : List Byte :=
  slice (leBytes 4 0x41545331 ++ leBytes 2 s.boot.log.length ++ leBytes 2 (s.fld Reg.ATTEST.LOG_COUNT.LOG_FULL) ++
    leBytes 4 (s.fld Reg.BOOT.VERSION.VERSION) ++ leBytes 4 s.boot.fuses.svn ++ slice nonce 0 32 ++ bvBytes 48 s.boot.digest ++
    leBytes 2 fn ++ leBytes 2 c ++ leBytes 4 (s.cocoonCfg c) ++ leBytes 2 (s.fld Reg.BOOT.EXPOSED.CORES)) 0 512

/-- R449: the signed report followed by the measurement log. -/
def attestStep (fn q : Nat) (s : State) : State :=
  s.takeCmd fn q 10 fun s c cmd =>
    let r := s.report fn c (slice cmd.bytes 8 32)
    if fieldAt cmd.bytes 48 4 < 4096 + 64 * s.boot.log.length then s.refuseCmd cmd 0x0560
    else
      let out := r ++ bvBytes 64 (Config.ed25519Sign s.boot.fuses.secret r) ++ bvBytes 3309 (Config.mldsaSign s.boot.fuses.secret r)
      match s.writeFor c fn (fieldAt cmd.bytes 40 8) (slice out 0 4096 ++ s.boot.log.flatten) with
      | (s, true) => s.done cmd 0
      | (s, false) => s.refuseCmd cmd 0x0362

def execAttest (fn queue : Nat) (s : State) : Answer := .next (attestStep fn queue s)

end Sys2Proof.Machine
end

