-- ==== Sys2Proof/Machine/Package.lean ====
section
/-!
DEFINITION. The commands of the package and its clocks: references, mesh edges, crossings and operating points (R17, R27–R42).
-/
namespace Sys2Proof.Machine

/-- R27: the reference is lost; every generator holds its frequency, REF_HOLD shows on every die page, the Y40 runs on. -/
def refLoss (s : State) : State :=
  (List.range 32).foldl (fun s d => (s.setFld (Reg.DIE.CLK_STATUS.REF_HOLD d) 1).raiseErr (Reg.DIE.ERR.REF_HOLD d)) s

def execReferenceLoss (s : State) : Answer := .next (refLoss s)

/-- R27: the reference returns and REF_HOLD clears. -/
def refReturn (s : State) : State :=
  (List.range 32).foldl (fun s d => s.setFld (Reg.DIE.CLK_STATUS.REF_HOLD d) 0) s

def execReferenceReturn (s : State) : Answer := .next (refReturn s)

/-- R42: a clock generator of a die loses lock. Which of its generators it is, the event does not say: a free choice (log entry 6). -/
def clockUnlockStep (die : Nat) (s : State) : State :=
  let f := if Config.freeBool s.draws then Reg.DIE.CLK_STATUS.CORE_LOCK die else Reg.DIE.CLK_STATUS.MESH_LOCK die
  (s.drawn.setFld f 0).raiseErr (Reg.DIE.ERR.CLK_UNLOCK die)

def execClockUnlock (die : Nat) (s : State) : Answer := .next (clockUnlockStep die s)

/-- R17: an edge goes down while the Y40 is emerged: a fatal device error. Before, training deals with it at instar 2 (R441). -/
def edgeDown (e : Nat) (s : State) : State :=
  if s.fld Reg.BOOT.STATE.INSTAR = 5 then
    ((s.setEdge e false).setCrossing (.edge e) { s.crossing (.edge e) with down := true }).fatalError 0x01
  else s

def execMeshEdgeDown (edge : Nat) (s : State) : Answer := .next (edgeDown edge s)

/-! ### Crossings (R29–R35) -/

/-- The C-dies on whose pages a crossing's errors show (R42). -/
def crossingDies : Crossing → List Nat
  | .edge e => [(edgeEnds e).1, (edgeEnds e).2].filter fun d => Nat.blt d 32
  | .core d => [d]

/-- Does a planned reset cover the crossing (R33): a reset of the whole device, or of a cluster on its die? -/
def State.resetCovers (s : State) (x : Crossing) : Bool :=
  match s.boot.job, x with
  | some .device, _ => true
  | some (.cluster g), .core d => Nat.beq (g / 8) d
  | _, _ => false

/-- Every core of a C-die is lost (R33, R458): failed in the map, no fuse blown; what they have outstanding is absorbed; tenant invocations complete FAULT
or ABORTED, the radio's work there is lost. -/
def State.loseDie (s : State) (d : Nat) : State :=
  let cores := (List.range 64).map fun j => 64 * d + j
  let hit := s.runIds fun r => r.cores.any cores.contains
  let s := (cores.filter s.radioHolds).foldl (fun s n => (s.radioCoreFault n).loseRadioWork) s
  let s := (List.range 64).foldl (fun s j => s.disable d j) s
  let s := cores.foldl (fun s n => s.setCore n { s.core n with copies := [], remotes := [] }) s
  let s := { s with boot := { s.boot with lost := s.boot.lost ++ cores.filter fun n => !s.boot.lost.contains n }
                    posts := s.posts.filter fun p => !(Nat.beq (dieOf p.src) d || Nat.beq (dieOf p.dst) d) }
  let s := (s.sweepMesh.mapChanged d).raiseErr Reg.RESET.ERR.UNIT_LOST
  hit.foldl (fun s id => match s.run id with
    | some r => s.endRuns (if r.fault.isSome then 2 else 6) 0 [id]
    | none => s) s

/-- R32: the side on `die` declares the crossing down; entries on their way through it are absorbed and events dropped. R33 gives the
consequences where no planned reset covers it. -/
def crossingDown (x : Crossing) (die : Nat) (s : State) : State :=
  let k := s.crossing x
  if k.down then s
  else
    let s := s.setCrossing x { k with down := true, events := [] }
    let s := s.absorbPackets fun p => p.left.any fun h => h.x == x
    let s := ((crossingDies x).filter fun d => Nat.beq d die).foldl (fun s d => s.raiseErr (Reg.DIE.ERR.CDC_TIMEOUT d)) s
    if s.resetCovers x then s
    else match x with
      | .edge _ => s.fatalError 0x02
      | .core d => s.loseDie d

def execCdcTimeout (x : Crossing) (die : Nat) (s : State) : Answer := .next (crossingDown x die s)

/-- R30, R35: the requests that a crossing kept are delivered, and acknowledged; one raised again since is then requested once more. -/
def State.deliverEvents (s : State) (l : List EventLine) : State :=
  l.foldl (fun s e =>
    let s := s.signalCore e.core e.mask
    if e.again then s.signalCore e.core e.mask else s) s

/-- R34, R35: the handshake completes; both queues start empty, entries are accepted, kept events are delivered. For a sender that was itself reset the
receiver records a RESYNC event. -/
def resyncDone (x : Crossing) (s : State) : State :=
  let k := s.crossing x
  if k.resync || k.down then
    (s.setCrossing x ⟨false, false, false, [], if k.senderReset then k.resyncEvents + 1 else k.resyncEvents⟩).deliverEvents k.events
  else s

def execCrossingResync (x : Crossing) (s : State) : Answer := .next (resyncDone x s)

/-! ### Neighbouring dies (R36–R41) -/

/-- Lower a die by one point for a gap with `other` (R41 item 1). -/
def State.gapLower (s : State) (d other : Nat) : State :=
  let p := s.point d - 1
  { s.powerAction 0x0003 d p with
    power := { s.power with gapLevels := (⟨d, other, p, none⟩ :: s.power.gapLevels.filter fun g => !(Nat.beq g.die d && Nat.beq g.other other)) } }

/-- The error bits of an action or recorded gap on a pair (R41). -/
def State.gapErr (s : State) (a b : Nat) : State :=
  if 32 ≤ a ∧ 32 ≤ b then s.raiseErr Reg.PWR.ERR.NEIGHBOUR_GAP
  else [a, b].foldl (fun s d => if d < 32 then s.raiseErr (Reg.DIE.ERR.NEIGHBOUR_LIMIT d) else s) s

/-- Leave a pair alone for 1 ms (R41). -/
def State.leavePair (s : State) (e : Nat) : State :=
  { s with power := { s.power with pairWait := Assoc.put e (s.mono + 1000000) s.power.pairWait } }

/-- R41 on a pair whose gap exceeds 20 °C, `h` the hotter die. -/
def State.gapAct (s : State) (e h c : Nat) : State :=
  let block := (cNeighbours h).filter fun n => Nat.blt (s.point h) (s.point n)
  if h < 32 ∧ !s.pinned h ∧ 0 < s.point h ∧ block.all (fun n => !s.pinned n) then
    let s := block.foldl (fun s n => s.gapLower n h) s
    (((s.gapLower h c).pumpPower).gapErr h c).leavePair e
  else if h < 32 ∧ s.hasTenants h then
    let s := if s.power.gapHolds.contains (h, c) then s
      else { s with power := { s.power with gapHolds := (h, c) :: s.power.gapHolds } }.powerAction 0x0007 h 0
    ((s.gapErr h c).leavePair e).refreshPower
  else (s.recordOn h 5 0x004 0x000A h).gapErr h c

/-- One pair of the check of R41: release a hold whose gap is at most 15 °C (240 / 16), note how long a lowered die's gap has stayed
there (R470), and act on a gap above 20 °C (320 / 16). -/
def checkPair (s : State) (e : Nat) : State :=
  let a := (edgeEnds e).1
  let b := (edgeEnds e).2
  let hotFirst := decide (s.dieTemp b ≤ s.dieTemp a)
  let h := if hotFirst then a else b
  let c := if hotFirst then b else a
  let gap := s.dieTemp h - s.dieTemp c
  let pair (x y : Nat) : Bool := (Nat.beq x a && Nat.beq y b) || (Nat.beq x b && Nat.beq y a)
  let s := if gap ≤ 240 then
      let freed := s.power.gapHolds.filter fun g => pair g.1 g.2
      let s := { s with power := { s.power with
          gapHolds := s.power.gapHolds.filter fun g => !pair g.1 g.2
          gapLevels := s.power.gapLevels.map fun g =>
            if pair g.die g.other then { g with coolSince := some (g.coolSince.getD s.mono) } else g } }
      freed.foldl (fun s g => s.powerAction 0x0008 g.1 0) s
    else
      let warm := s.power.gapLevels.map fun g => if pair g.die g.other then { g with coolSince := none } else g
      { s with power := { s.power with gapLevels := warm } }
  if 320 < gap ∧ (Assoc.findD (α := Nat) e 0 s.power.pairWait) ≤ s.mono then s.gapAct e h c else s

/-- R470: a die lowered for a gap goes up one point once the gap has stayed at or below 15 °C for 10 ms, and after each further 1 ms. -/
def raiseCooled (s : State) : State :=
  let ready (g : GapLevel) : Bool := g.coolSince.any fun t => Nat.ble (t + 10000000) s.mono
  let s := (s.power.gapLevels.filter ready).foldl (fun s g => s.powerAction 0x0004 g.die (g.level + 1)) s
  let up := s.power.gapLevels.map fun g => if ready g then { g with level := g.level + 1, coolSince := some (s.mono - 9000000) } else g
  { s with power := { s.power with gapLevels := up.filter fun g => Nat.blt g.level 2 } }

/-- R41: the check of all neighbour pairs. -/
def neighbourCheck (s : State) : State := (raiseCooled (meshEdges.foldl checkPair s)).pumpPower

def execNeighbourTemperatureCheck (s : State) : Answer := .next (neighbourCheck s)

/-- R38: the change of a die completes: a raise with its clock, after its rail; a lowering with its rail, after its clock. The next change may start. -/
def changeDone (die : Nat) (s : State) : State :=
  match s.power.changes.find? fun c => Nat.beq c.1 die with
  | none => s
  | some c =>
    let up := Nat.blt (s.point die) c.2
    let s := { s with power := { s.power with changes := s.power.changes.filter fun x => !Nat.beq x.1 die } }
    (if up then s.setFld (Reg.DIE.OPPOINT.CUR die) c.2 else s.setRail die c.2).pumpPower

def execOperatingPointChangeDone (die : Nat) (s : State) : Answer := .next (changeDone die s)

end Sys2Proof.Machine
end

