-- ==== Sys2Proof/Machine/Restart.lean ====
section
/-!
DEFINITION. Black-box flushes (R478–R480) and the restart of the device at instar 0 (R439, R457).
-/
namespace Sys2Proof.Machine

/-! ### Black-box slots (R476, R478) -/

/-- The 16 bytes of a record (R476). -/
def BbRecord.bytes (r : BbRecord) : List Byte :=
  leBytes 6 r.time ++ leBytes 1 r.die ++ leBytes 1 r.cls ++ leBytes 2 r.page ++ leBytes 2 r.code ++ leBytes 4 r.detail

/-- First address of the black-box region. -/
def State.bbBase (s : State) : Nat := s.fld2 Reg.BBOX.BASE_LO.ADDR Reg.BBOX.BASE_HI.ADDR

/-- Is a die's ring reachable from the K-die over the mesh: no edge of its route is down? -/
def State.reachable (s : State) (d : Nat) : Bool :=
  (route d 39).all fun e => !(s.crossings.any fun c => c.1 == .edge e.1 && c.2.down)

/-- The records of a die's ring at their index in the ring. -/
def ringAt (written : Nat) (l : List BbRecord) : List (Nat × BbRecord) :=
  (l.zipIdx).map fun x => ((written - 1 - x.2) % 4096, x.1)

/-- Write a flush or snapshot to its slot (R478): rings first, then the header and the CRC over the whole slot. -/
def State.writeSlot (s : State) (f : Flush) : State :=
  let a := s.bbBase + f.slot * 0x400000
  let s := s.setMem (s.mem.clear a 0x400000)
  let s := (List.range 40).foldl (fun s d =>
    if s.reachable d then
      (ringAt (Assoc.findD d 0 f.written) (Assoc.findD d [] f.rings)).foldl (fun s x =>
        s.wrBytes (a + 0x1000 + 0x10000 * d + 16 * x.1) x.2.bytes) s
    else s) s
  let word (d : Nat) : Nat :=
    if s.reachable d then
      let w := Assoc.findD (α := Nat) d 0 f.written
      (if w = 0 then 0 else (w - 1) % 4096) + 65536 * min w 4096
    else 0xFFFFFFFF
  let s := (List.range 40).foldl (fun s d => s.wr (a + 0x40 + 4 * d) 4 (word d)) s
  let s := s.wrBytes a (leBytes 4 0x42425831 ++ leBytes 4 (s.bbox.seq + 1) ++ leBytes 8 f.cause ++ leBytes 8 f.time ++ leBytes 8 f.beat ++
    leBytes 4 (s.fld Reg.BOOT.VERSION.VERSION) ++ leBytes 2 (s.fld Reg.SILK.DEVICE_ID.ID))
  let s := s.wr (a + 0xFFC) 4 (crc32 (s.rdBytes a 0x400000)).toNat
  { s with bbox := { s.bbox with seq := s.bbox.seq + 1, newest := some f.slot } }

/-! ### Restart (R439, R457) -/

/-- The registers that show the fuses (R460). -/
def State.showFuses (s : State) : State :=
  let f := s.boot.fuses
  s.setFlds [(Reg.BOOT.SVN.FUSED, f.svn), (Reg.BOOT.SVN.REVOKED0, if f.revoked0 then 1 else 0),
    (Reg.BOOT.SVN.REVOKED1, if f.revoked1 then 1 else 0), (Reg.BOOT.FUSE_USED.COUNT, f.bank.length)]

/-- GDDR7 after a device reset: the black-box region alone is defined, where it is kept; nothing else is (R457). -/
def Memory.restart (m : Memory) (region : Option Nat) (stretch : Nat) : Memory :=
  let fresh : Memory := ⟨[], [⟨0, 0x004000000000, stretch, 0⟩]⟩
  match region with
  | none => fresh
  | some base =>
    { cells := m.cells.filter fun c => Nat.ble base c.1 && Nat.blt c.1 (base + 0x800000)
      undef := m.undef.flatMap (Undef.moved base base 0x800000) ++ (fresh.clear base 0x800000).undef }

/-- The device starts again at instar 0 with everything at its reset value (R455, R457, R459); fuses, the presence input, THERMTRIP_N, TRST_N
and what has left the part stay, and the black-box region with `kept`. -/
def State.restart (s : State) (kept : Bool) : State :=
  let region := if kept then s.bbox.region else none
  let r := { State.reset with
    pending := s.pending
    mem := s.mem.restart region (s.draws + 1)
    boot := { State.reset.boot with fuses := s.boot.fuses, powered := s.boot.powered, railsOn := s.boot.railsOn }
    staido := { State.reset.staido with present := s.staido.present }
    bbox := { State.reset.bbox with seq := if kept then s.bbox.seq else 0, newest := if kept then s.bbox.newest else none, region := region }
    thermTrip := s.thermTrip
    trst := s.trst
    out := s.out
    draws := s.draws + 1 }
  r.showFuses

end Sys2Proof.Machine
end

