-- ==== Sys2Proof/Machine/Power.lean ====
section
/-!
DEFINITION. The power manager's and the black box's commands (R464–R484).
-/
namespace Sys2Proof.Machine

/-! ### Samples (R465, R468, R471, R474) -/

/-- The setting that a rail is compared with: a core rail's own, or the nominal value of the other four, in the order of PWR.RAIL_r (R464, R465). -/
def State.railSetting (s : State) (i : Nat) : Nat := if i < 32 then s.railSet i else [750, 1800, Config.vddqMv, 1800].getD (i - 32) 0

/-- Is a rail reading outside ±5 % of its setting (R465)? -/
def railOutside (set mv : Nat) : Bool := decide (mv * 100 < set * 95) || decide (set * 105 < mv * 100)

/-- One rail's reading (R465): a fault reported, or 100 µs outside ±5 %, sets RAIL_FAULT, and on a core rail is a lost clock domain. -/
def State.railReading (s : State) (i : Nat) (r : RailReading) : State :=
  let s := s.setFlds [(Reg.PWR.RAIL.MV i, r.mv), (Reg.PWR.RAIL.P i, r.decW)]
  let s := if i < 32 then s.setFld (Reg.DIE.RAIL.MV i) r.mv else s
  let since := Assoc.find i s.power.railOut
  let outside := railOutside (s.railSetting i) r.mv
  let bad := r.faulted || (outside && since.any fun t => Nat.ble (t + 100000) s.mono)
  let out := if outside then Assoc.put i (since.getD s.mono) s.power.railOut else Assoc.del i s.power.railOut
  let s := { s with power := { s.power with railOut := out } }
  if bad then
    let s := s.raiseErr Reg.PWR.ERR.RAIL_FAULT
    if i < 32 then crossingDown (.core i) i s else s
  else s

/-- R465, R471: the rails are measured; PKG_POWER is the mean of the last 1 ms of sums. -/
def railSampleStep (readings : List RailReading) (s : State) : State :=
  let s := ((readings.take 36).zipIdx).foldl (fun s x => s.railReading x.2 x.1) s
  let l := (((readings.take 36).map fun r => r.decW).sum :: s.power.readings).take 10
  ({ s with power := { s.power with readings := l } }).setFld Reg.PWR.PKG_POWER.W (l.sum / max 1 l.length)

def execRailSample (readings : List RailReading) (s : State) : Answer := .next (railSampleStep readings s)

/-- One laser input (R468): LOW after 1 ms below the threshold, cleared after 10 ms above it. -/
def State.laserInput (s : State) (i : Nat) (dbm : Int) : State :=
  let s := s.setFld (Reg.PWR.LASER.DBM i) (ofSigned 16 dbm)
  let low := decide (dbm < toSigned 16 (s.fld Reg.PWR.LASER_THR.DBM))
  let f := Reg.PWR.LASER.LOW i
  if low == s.isSet f then { s with power := { s.power with laserSince := Assoc.del i s.power.laserSince } }
  else
    let t := Assoc.findD (α := Nat) i s.mono s.power.laserSince
    if t + (if low then 1000000 else 10000000) ≤ s.mono then
      let s := ({ s with power := { s.power with laserSince := Assoc.del i s.power.laserSince } }).setFld f (if low then 1 else 0)
      if low then s.raiseErr Reg.PWR.ERR.LASER_LOW else s
    else { s with power := { s.power with laserSince := Assoc.put i t s.power.laserSince } }

/-- R467, R468: the eight laser inputs are measured, inputs 0–3 of O-die 0 first. -/
def laserSampleStep (dbm : List Int) (s : State) : State :=
  ((dbm.take 8).zipIdx).foldl (fun s x => s.laserInput x.2 x.1) s

def execLaserSample (dbm : List Int) (s : State) : Answer := .next (laserSampleStep dbm s)

/-- R474: every die is sampled, dies numbered as in R476; 110 °C is a thermal trip. -/
def temperatureStep (temps : List Int) (s : State) : State :=
  ((temps.take 40).zipIdx).foldl (fun s x =>
    let (t, d) := x
    let s := s.setFld (if d < 32 then Reg.DIE.TEMP.DEGC d else Reg.PWR.TEMP.DEGC (d - 32)) (ofSigned 16 t)
    if 1760 ≤ t ∧ !s.power.tripped.contains d then
      ({ s with thermTrip := true, power := { s.power with tripped := d :: s.power.tripped } }).fatalError 4
    else s) s

def execTemperatureSample (temps : List Int) (s : State) : Answer := .next (temperatureStep temps s)

/-! ### The package limit (R471, R472) -/

/-- The cocoons that hold a core of a die in some row of the active table. -/
def State.dieCocoons (s : State) (d : Nat) : List Nat :=
  (List.range 64).filter fun c => s.seq.active.any fun t => t.cocoonOnDie d (Nat.beq c)

/-- The class of a die, plus 1: the highest class among the cocoons that hold its cores; 0 if none does. -/
def State.dieClass (s : State) (d : Nat) : Nat :=
  ((s.dieCocoons d).filter fun c => !Nat.beq c 0).foldl (fun m c => max m (s.throttleClass c + 1)) 0

/-- May the die be lowered by one point for the package limit? -/
def State.canLower (s : State) (d : Nat) : Bool :=
  !s.pinned d && Nat.blt 0 (s.point d) && (cNeighbours d).all fun n => Nat.ble (s.point n) (s.point d)

/-- Is `a` lowered before `b`: lower class, then hotter, then lower index? -/
def State.lowerFirst (s : State) (a b : Nat) : Bool :=
  if s.dieClass a ≠ s.dieClass b then Nat.blt (s.dieClass a) (s.dieClass b)
  else if s.dieTemp a ≠ s.dieTemp b then decide (s.dieTemp b < s.dieTemp a)
  else Nat.blt a b

/-- Is a tenant core of class `k` or above on a pinned die still to be held? -/
def State.canHold (s : State) (k : Nat) : Bool :=
  (List.range 32).any fun d => s.pinned d && (s.dieCocoons d).any fun c => !Nat.beq c 0 && Nat.ble k (s.throttleClass c)

/-- The steps of a state's package limit. -/
def State.setSteps (s : State) (l : List PkgStep) : State := { s with power := { s.power with steps := l } }

/-- One lowering step (R471). -/
def State.limitStep (s : State) : State :=
  let s := s.raiseErr Reg.PWR.ERR.PKG_LIMIT
  let pick := ((List.range 32).filter s.canLower).foldl (fun (acc : Option Nat) d => match acc with
    | none => some d
    | some b => if s.lowerFirst d b then some d else some b) none
  match pick with
  | some d => ((s.powerAction 0x0001 d (s.point d - 1)).setSteps (.lowered d (s.point d - 1) :: s.power.steps)).pumpPower
  | none =>
    let k := (s.power.steps.filter fun x => match x with | .held _ => true | .lowered _ _ => false).length
    if k < 4 ∧ s.canHold k then
      let s := ((List.range 32).filter s.pinned).foldl (fun s d => s.powerAction 0x0007 d 0) s
      (s.setSteps (.held k :: s.power.steps)).refreshPower
    else (s.raiseErr Reg.PWR.ERR.LIMIT_UNMET).recordOn 39 5 0x004 0x0009 39

/-- R472: the most recent step is undone. -/
def State.undoStep (s : State) : State :=
  match s.power.steps with
  | [] => s
  | .lowered _ _ :: r => (s.setSteps r).pumpPower
  | .held _ :: r => (((List.range 32).filter s.pinned).foldl (fun s d => s.powerAction 0x0008 d 0) (s.setSteps r)).refreshPower

/-- R471, R472: package power against LIMIT_W. -/
def limitCheck (s : State) : State :=
  let limit := 10 * s.fld Reg.PWR.LIMIT.LIMIT_W
  let low := limit - 10 * s.fld Reg.PWR.LIMIT.HYST_W
  let mean := s.fld Reg.PWR.PKG_POWER.W
  let due := s.power.lastMean.all fun t => Nat.ble (t + 1000000) s.mono
  let since := if mean ≤ low then some (s.power.lowSince.getD s.mono) else none
  let s := { s with power := { s.power with lowSince := since } }
  if due && Nat.blt limit mean then ({ s with power := { s.power with lastMean := some s.mono } }).limitStep
  else if Nat.blt (limit * 11) (10 * s.power.readings.headD 0) then s.limitStep
  else if since.any (fun t => Nat.ble (t + 10000000) s.mono) && (s.power.lastUndo.all fun t => Nat.ble (t + 1000000) s.mono) then
    ({ s with power := { s.power with lastUndo := some s.mono } }).undoStep
  else s

def execPackageLimitCheck (s : State) : Answer := .next (limitCheck s)

/-! ### Temperature (R473) -/

/-- R473 for one C-die that is not pinned. -/
def State.thermUnpinned (s : State) (d : Nat) (temp thr : Int) : State :=
  let e := (Assoc.find d s.power.thermal).getD ⟨2, false, 0, none⟩
  let falling := decide (thr < temp) || (e.falling && !decide (temp < thr - 80))
  let set (x : ThermLevel) : State := { s with power := { s.power with thermal := Assoc.put d x s.power.thermal } }
  if falling then
    let s := s.raiseErr Reg.PWR.ERR.THERM_THROTTLE
    let lvl := min e.level (s.point d) - 1
    let s := if lvl < e.level then s.powerAction 0x0002 d lvl else s
    { s with power := { s.power with thermal := Assoc.put d ⟨lvl, true, s.mono, none⟩ s.power.thermal } }
  else if e.level = 2 then { s with power := { s.power with thermal := Assoc.del d s.power.thermal } }
  else if temp < thr - 160 then
    let t := e.coolSince.getD s.mono
    if t + 10000000 ≤ s.mono then
      if e.level = 1 then { s with power := { s.power with thermal := Assoc.del d s.power.thermal } }
      else set ⟨e.level + 1, false, s.mono, some s.mono⟩
    else set ⟨e.level, false, e.lastMove, some t⟩
  else set ⟨e.level, false, e.lastMove, none⟩

/-- R473 for one pinned C-die: its tenant cores are held until it falls below THROTTLE_C − 5 °C. -/
def State.thermPinned (s : State) (d : Nat) (temp thr : Int) : State :=
  if thr < temp then
    let s := s.raiseErr Reg.PWR.ERR.THERM_THROTTLE
    if s.power.thermHolds.contains d then s
    else ({ s with power := { s.power with thermHolds := d :: s.power.thermHolds } }).powerAction 0x0007 d 0
  else if s.power.thermHolds.contains d ∧ temp < thr - 80 then
    ({ s with power := { s.power with thermHolds := s.power.thermHolds.filter fun x => !Nat.beq x d } }).powerAction 0x0008 d 0
  else s

/-- R473: the check of every die, once per 1 ms. -/
def thermalCheck (s : State) : State :=
  let thr : Int := 16 * s.fld Reg.PWR.THERM.THROTTLE_C
  let s := (List.range 40).foldl (fun s d =>
    if 32 ≤ d then (if thr < s.dieTemp d then s.raiseErr Reg.PWR.ERR.THERM_THROTTLE else s)
    else if s.pinned d || s.power.thermHolds.contains d then s.thermPinned d (s.dieTemp d) thr
    else s.thermUnpinned d (s.dieTemp d) thr) s
  s.pumpPower

def execThermalLevelCheck (s : State) : Answer := .next (thermalCheck s)

/-! ### Flush and snapshot (R479, R480) -/

/-- R456, R479, R482: host writes already issued complete; after a fatal error the rings are written to the slot and copied to the host, and the warm reset follows; a copy that the loss of
the link cut off shows after it. -/
def flushStep (s : State) : State :=
  match s.bbox.flush with
  | none => s
  | some f =>
    let s := if s.linkUp then s.flushHost else s
    let s := if s.isSet Reg.BBOX.STATUS.ARMED then
        let s := s.writeSlot f
        let h := s.fld2 Reg.BBOX.HOST_LO.ADDR Reg.BBOX.HOST_HI.ADDR
        if h ≠ 0 ∧ (s.fld Reg.STAIDO.STATE.STATE = 2 ∨ s.fld Reg.STAIDO.STATE.STATE = 3) then
          let a := s.bbBase + f.slot * 0x400000
          (List.range 1024).foldl (fun s i => s.emit (.host 256 (.memWr (h + 4096 * i) (s.rdBytes (a + 4096 * i) 4096)))) s
        else s
      else s
    (s.restart true).setFld Reg.BBOX.ERR.HOST_FLUSH_FAIL (if s.bbox.hostCut then 1 else 0)

def execBlackBoxFlush (s : State) : Answer := .next (flushStep s)

/-- R480, R482: BBOX.ACTION.SNAPSHOT. -/
def snapshotStep (s : State) : State :=
  if s.isSet Reg.BBOX.STATUS.FLUSHING then s.refuse 0x005 0x0411 0x110
  else if s.isSet Reg.BBOX.STATUS.ARMED then
    let slot := match s.bbox.newest with | some n => 1 - n | none => 0
    let f : Flush := ⟨0, slot, s.bbox.rings, s.bbox.written, s.now % 2 ^ 48, s.seq.beat⟩
    ({ s with bbox := { s.bbox with snapshot := some f } }).setFld Reg.BBOX.STATUS.FLUSHING 1
  else s

def execSnapshot (s : State) : Answer := .next (snapshotStep s)

/-- R480: the snapshot's write completes. -/
def snapshotDoneStep (s : State) : State :=
  match s.bbox.snapshot with
  | none => s
  | some f =>
    let s := s.writeSlot f
    ({ s with bbox := { s.bbox with snapshot := none } }).setFlds
      [(Reg.BBOX.STATUS.FLUSHING, 0), (Reg.BBOX.FLUSH_COUNT.COUNT, s.bbox.seq)]

def execSnapshotDone (s : State) : Answer := .next (snapshotDoneStep s)

end Sys2Proof.Machine
end

