-- ==== Sys2Proof/Machine/Sched.lean ====
section
/-!
DEFINITION. The egress scheduler of fronthaul interfaces and silk links (R245–R254) and the policer (R255): shaper tables, buckets and the
passes of R248.
-/
namespace Sys2Proof.Machine

/-! ### Shaper tables (R251–R253) -/

def shpNodes (b : List Byte) : Nat := fieldAt b 6 1
def shpSubs (b : List Byte) : Nat := fieldAt b 7 1
def shpServices (b : List Byte) : Nat := fieldAt b 8 1

/-- A node of the table: a port node, a subscriber, or the leaf of a subscriber and service. -/
inductive Node where
  | port (lane : Nat)
  | sub (j : Nat)
  | leaf (j v : Nat)
deriving DecidableEq, Repr

/-- The key of a node in the scheduler's maps. -/
def Node.key : Node → Nat
  | .port l => l
  | .sub j => 16 + j
  | .leaf j v => 128 + 8 * j + v

/-- The 32 bytes of a node's entry; zeros, and so not VALID, where the table holds none. -/
def shpEntry (b : List Byte) (n : Node) : List Byte :=
  let p := shpNodes b
  let z := shpSubs b
  let v := shpServices b
  match n with
  | .port l => if l < p then slice b (0x40 + 32 * l) 32 else List.replicate 32 0
  | .sub j => if j < z then slice b (0x40 + 32 * (p + j)) 32 else List.replicate 32 0
  | .leaf j k => if j < z ∧ k < v then slice b (0x40 + 32 * (p + z + v * j + k)) 32 else List.replicate 32 0

def entCir (e : List Byte) : Nat := fieldAt e 0 4 % 2 ^ 19
def entPir (e : List Byte) : Nat := fieldAt e 4 4 % 2 ^ 19
def entCbs (e : List Byte) : Nat := fieldAt e 8 4 % 2 ^ 24
def entPbs (e : List Byte) : Nat := fieldAt e 12 4 % 2 ^ 24
def entWeight (e : List Byte) : Nat := fieldAt e 16 2 % 2 ^ 11
def entClass (e : List Byte) : Nat := fieldAt e 18 1 % 4
def entLane (e : List Byte) : Nat := fieldAt e 19 1 % 4
def entValid (e : List Byte) : Bool := (fieldAt e 19 1).testBit 7

/-- Every node of a table. -/
def shpAll (b : List Byte) : List Node :=
  (List.range (shpNodes b)).map .port ++ (List.range (shpSubs b)).map .sub ++
    (List.range (shpSubs b)).flatMap fun j => (List.range (shpServices b)).map fun v => .leaf j v

/-- R252, R253: the first failed condition of a table for interfaces of `rate` Mbit/s with `nodes` port nodes; `classes` gives the class that a
service must have, and `inside` says that the image lies where it must. -/
def shaperReason (b : List Byte) (rate nodes : Nat) (classes : List (Nat × Nat)) (inside : Bool) : Option Nat :=
  let valid := (shpAll b).filter fun n => entValid (shpEntry b n)
  let leaves := valid.filterMap fun n => match n with | .leaf j v => some (j, v, shpEntry b n) | _ => none
  let subs := valid.filterMap fun n => match n with | .sub j => some (j, shpEntry b n) | _ => none
  let ports := valid.filterMap fun n => match n with | .port l => some (l, shpEntry b n) | _ => none
  let weighted (n : Node) : Bool := match n with
    | .port _ => false
    | .sub _ => true
    | .leaf _ _ => Nat.beq (entClass (shpEntry b n)) 2
  let onLane (j : Nat) : Nat := if shpNodes b = 1 then 0 else entLane (shpEntry b (.sub j))
  let len := 0x40 + 32 * (shpNodes b + shpSubs b + shpSubs b * shpServices b)
  let tests : List (Bool × Nat) := [
    (!Nat.beq (fieldAt b 0 4) 0x53485031 || !Nat.beq (fieldAt b 4 2) 1 || !Nat.beq (fieldAt b 12 4) len || Nat.blt b.length len ||
      !Nat.beq (fieldAt b 16 4) (imageCrc (b.take len) 16), 0x0281),
    (!(Nat.beq (shpNodes b) 1 || Nat.beq (shpNodes b) 4) || Nat.beq (shpSubs b) 0 || Nat.blt 64 (shpSubs b) || Nat.beq (shpServices b) 0 ||
      Nat.blt 8 (shpServices b) ||
      valid.any (fun n =>
        let e := shpEntry b n
        Nat.beq (entPir e) 0 || Nat.blt rate (entPir e) || Nat.beq (entPbs e) 0 || (match n with | .port _ => false | _ => Nat.blt rate (entCir e)) ||
          (weighted n && (Nat.beq (entWeight e) 0 || Nat.blt 1024 (entWeight e))) ||
          (match n with | .leaf _ _ => Nat.beq (entClass e) 3 | .sub j => Nat.ble (shpNodes b) (onLane j) | .port _ => false)), 0x0180),
    (!Nat.beq (shpNodes b) nodes || valid.any (fun n =>
        match n with
        | .port _ => false
        | _ => Nat.blt (entPir (shpEntry b n)) (entCir (shpEntry b n))) ||
      leaves.any (fun l => classes.any fun c => Nat.beq c.1 l.2.1 && !Nat.beq c.2 (entClass l.2.2)), 0x0280),
    (!inside, 0x0381),
    (ports.any fun p =>
      let strict := ((leaves.filter fun l => Nat.beq (onLane l.1) p.1 && Nat.ble (entClass l.2.2) 1).map fun l => entPir l.2.2).sum
      let committed := ((subs.filter fun x => Nat.beq (onLane x.1) p.1).map fun x => entCir x.2).sum
      Nat.blt (entPir p.2) (strict + committed), 0x0580),
    (subs.any fun x =>
      Nat.blt (entCir x.2) ((leaves.filter fun l => Nat.beq l.1 x.1 && Nat.beq (entClass l.2.2) 2).map fun l => entCir l.2.2).sum, 0x0581)]
  (tests.find? fun t => t.1).map fun t => t.2

/-! ### Buckets (R246, R247) -/

/-- The counted length of a frame (R246). -/
def counted (len : Nat) (overhead : Int) : Nat := max 1 ((len : Int) + overhead).toNat

def SchedPass.fresh : SchedPass := ⟨[], ⟨0, false⟩, []⟩
def Scheduler.fresh : Scheduler := ⟨[], none, [], [], 0, 0, 0, SchedPass.fresh, SchedPass.fresh⟩

/-- The level of a bucket in thousandths of a byte: full where not listed. -/
def bucketLevel (m : Assoc Int) (k size : Nat) : Int := Assoc.findD k (1000 * (size : Int)) m

/-- The entry of the node with a key. -/
def shpByKey (b : List Byte) (k : Nat) : List Byte :=
  if k < 16 then shpEntry b (.port k) else if k < 128 then shpEntry b (.sub (k - 16)) else shpEntry b (.leaf ((k - 128) / 8) ((k - 128) % 8))

/-- Let a set of buckets fill for `d` ticks of 8 ns; a bucket that is full is no longer listed. -/
def fillBuckets (b : List Byte) (rate size : List Byte → Nat) (d : Nat) (m : Assoc Int) : Assoc Int :=
  m.filterMap fun x =>
    let e := shpByKey b x.1
    let v : Int := x.2 + Int.ofNat (rate e * d)
    if 1000 * (size e : Int) ≤ v then none else some (x.1, v)

/-- R247: the buckets up to tick `now`. -/
def Scheduler.fill (k : Scheduler) (now : Nat) : Scheduler :=
  let d := now - k.ticks
  { k with committed := fillBuckets k.image entCir entCbs d k.committed, peak := fillBuckets k.image entPir entPbs d k.peak, ticks := max now k.ticks }

/-- Whole-byte level at least 0. -/
def Scheduler.peakOk (k : Scheduler) (n : Node) : Bool := decide (0 ≤ bucketLevel k.peak n.key (entPbs (shpEntry k.image n)))
def Scheduler.commOk (k : Scheduler) (n : Node) : Bool := decide (0 ≤ bucketLevel k.committed n.key (entCbs (shpEntry k.image n)))

/-- Take a counted length from a peak or a committed bucket. -/
def Scheduler.takePeak (k : Scheduler) (len : Nat) (n : Node) : Scheduler :=
  { k with peak := Assoc.put n.key (bucketLevel k.peak n.key (entPbs (shpEntry k.image n)) - 1000 * (len : Int)) k.peak }
def Scheduler.takeComm (k : Scheduler) (len : Nat) (n : Node) : Scheduler :=
  { k with committed := Assoc.put n.key (bucketLevel k.committed n.key (entCbs (shpEntry k.image n)) - 1000 * (len : Int)) k.committed }

/-! ### Selection (R248, R249) -/

/-- A leaf with a head frame: subscriber, service, counted length. -/
structure Head where
  sub : Nat
  svc : Nat
  len : Nat
deriving DecidableEq, Repr

/-- The port node of a subscriber. -/
def Scheduler.portOf (k : Scheduler) (j : Nat) : Node := .port (if shpNodes k.image = 1 then 0 else entLane (shpEntry k.image (.sub j)))

def Scheduler.leafClass (k : Scheduler) (h : Head) : Nat := entClass (shpEntry k.image (.leaf h.sub h.svc))

/-- R248: peak-eligible and committed-eligible leaves. -/
def Scheduler.peakElig (k : Scheduler) (h : Head) : Bool :=
  entValid (shpEntry k.image (.leaf h.sub h.svc)) && entValid (shpEntry k.image (.sub h.sub)) && entValid (shpEntry k.image (k.portOf h.sub)) &&
    k.peakOk (.leaf h.sub h.svc) && k.peakOk (.sub h.sub) && k.peakOk (k.portOf h.sub)
def Scheduler.commElig (k : Scheduler) (h : Head) : Bool := k.peakElig h && k.commOk (.leaf h.sub h.svc) && k.commOk (.sub h.sub)

/-- Round robin over subscribers: the first eligible head from subscriber `from_` on, its lowest service first. -/
def roundRobin (from_ : Nat) (hs : List Head) : Option Head :=
  hs.foldl (fun (best : Option Head) h =>
    let d (x : Head) : Nat := (x.sub + 64 - from_ % 64) % 64 * 8 + x.svc
    match best with
    | none => some h
    | some b => if Nat.blt (d h) (d b) then some h else some b) none

/-- R249: the weighted round robin over nodes 0 to n − 1, of which `cands` have something eligible (position, length, weight, key): who is served,
with the deficits and the turn. -/
def weighted (n : Nat) (cands : List (Nat × Nat × Nat × Nat)) : Nat → Assoc Nat → Turn → Option (Nat × Assoc Nat × Turn)
  | 0, _, _ => none
  | fuel + 1, deficit, turn =>
    match cands.find? fun c => Nat.beq c.1 turn.at_ with
    | none => weighted n cands fuel deficit ⟨(turn.at_ + 1) % n, false⟩
    | some (p, len, w, key) =>
      let d := Assoc.findD (α := Nat) key 0 deficit
      if len ≤ d then some (p, deficit, turn)
      else if turn.gained then weighted n cands fuel deficit ⟨(p + 1) % n, false⟩
      else
        let d' := d + 1024 * w
        let deficit := Assoc.put key d' deficit
        if len ≤ d' then some (p, deficit, ⟨p, true⟩) else weighted n cands fuel deficit ⟨(p + 1) % n, false⟩

/-- A node with nothing eligible among `hs` loses its deficit (R249). -/
def SchedPass.forget (p : SchedPass) (hs : List Head) : SchedPass :=
  let live := hs.flatMap fun h => [(Node.sub h.sub).key, (Node.leaf h.sub h.svc).key]
  { p with deficit := p.deficit.filter fun x => live.contains x.1 }

/-- Passes 3 and 4 over the eligible heads: the head served and the pass afterwards. -/
def SchedPass.serve (k : Scheduler) (p : SchedPass) (hs : List Head) : Option (Head × SchedPass) :=
  let leafPick (j : Nat) : Option (Head × Assoc Nat × Turn) :=
    let mine := hs.filter fun h => Nat.beq h.sub j
    let c := mine.map fun h => (h.svc, h.len, entWeight (shpEntry k.image (.leaf j h.svc)), (Node.leaf j h.svc).key)
    (weighted 8 c 256 p.deficit (Assoc.findD j ⟨0, false⟩ p.leafTurn)).bind fun r => (mine.find? fun h => Nat.beq h.svc r.1).map fun h => (h, r.2)
  let subs := ((hs.map fun h => h.sub).eraseDups).filterMap fun j =>
    (leafPick j).map fun r => (j, r.1.len, entWeight (shpEntry k.image (.sub j)), (Node.sub j).key)
  if subs.isEmpty then none
  else (weighted 64 subs 2048 p.deficit p.turn).bind fun r =>
    (leafPick r.1).map fun l =>
      let gain := Assoc.findD (α := Nat) (Node.leaf r.1 l.1.svc).key 0 l.2.1
      let leaf := l.2.1.filter fun x => (hs.any fun h => Nat.beq h.sub r.1 && Nat.beq (Node.leaf h.sub h.svc).key x.1)
      let merged := leaf.foldl (fun (m : Assoc Nat) x => Assoc.put x.1 x.2 m) r.2.1
      let subD := Assoc.findD (α := Nat) (Node.sub r.1).key 0 r.2.1
      let d := Assoc.put (Node.leaf r.1 l.1.svc).key (gain - l.1.len) (Assoc.put (Node.sub r.1).key (subD - l.1.len) merged)
      (l.1, ⟨d, r.2.2, Assoc.put r.1 l.2.2 p.leafTurn⟩)

/-- A head frame is sent: the buckets it is taken from. -/
def Scheduler.debit (k : Scheduler) (h : Head) (committed : Bool) : Scheduler :=
  let k := ((k.takePeak h.len (.leaf h.sub h.svc)).takePeak h.len (.sub h.sub)).takePeak h.len (k.portOf h.sub)
  if committed then (k.takeComm h.len (.leaf h.sub h.svc)).takeComm h.len (.sub h.sub) else k

/-- The eligible heads of a class. -/
def Scheduler.ofClass (k : Scheduler) (hs : List Head) (c : Nat) : List Head := hs.filter fun h => Nat.beq (k.leafClass h) c && k.peakElig h

/-- The scheduler at tick `now` with these heads waiting: buckets filled, and the deficits of nodes with nothing eligible gone in both passes. -/
def Scheduler.ready (k : Scheduler) (now : Nat) (hs : List Head) : Scheduler :=
  let k := k.fill now
  let peak := k.ofClass hs 2
  { k with pass3 := k.pass3.forget (peak.filter k.commElig), pass4 := k.pass4.forget peak }

/-- R248: the head that the passes pick at tick `now`, and the scheduler afterwards. -/
def Scheduler.pick (k : Scheduler) (now : Nat) (hs : List Head) : Option Head × Scheduler :=
  let k := k.ready now hs
  match roundRobin k.turn1 (k.ofClass hs 0) with
  | some h => (some h, { k.debit h true with turn1 := (h.sub + 1) % 64 })
  | none =>
    match roundRobin k.turn2 (k.ofClass hs 1) with
    | some h => (some h, { k.debit h true with turn2 := (h.sub + 1) % 64 })
    | none =>
      match k.pass3.serve k ((k.ofClass hs 2).filter k.commElig) with
      | some (h, p) => (some h, { k.debit h true with pass3 := p })
      | none =>
        match k.pass4.serve k (k.ofClass hs 2) with
        | some (h, p) => (some h, { k.debit h false with pass4 := p })
        | none => (none, k)

/-- R254: a table takes effect at tick `now`: nodes whose entries are unchanged keep their buckets and deficits. -/
def Scheduler.install (k : Scheduler) (b : List Byte) (now : Nat) : Scheduler :=
  let k := k.fill now
  let same {α : Type} (x : Nat × α) : Bool := shpByKey k.image x.1 == shpByKey b x.1
  let pass (p : SchedPass) : SchedPass := { p with deficit := p.deficit.filter same }
  { k with image := b, next := none, committed := k.committed.filter same, peak := k.peak.filter same, pass3 := pass k.pass3, pass4 := pass k.pass4 }

/-! ### Policers (R255) -/

/-- The colours of R255. -/
inductive Colour where
  | red | yellow | green
deriving DecidableEq, Repr

/-- A policer of entry `e` with levels (committed, peak, tick) marks a packet of counted length `len` at tick `now`. -/
def police (e : List Byte) (old : Option (Int × Int × Nat)) (len now : Nat) : Colour × (Int × Int × Nat) :=
  let (c0, p0, t) := old.getD (1000 * (entCbs e : Int), 1000 * (entPbs e : Int), now)
  let c := min (1000 * (entCbs e : Int)) (c0 + (entCir e * (now - t) : Nat))
  let p := min (1000 * (entPbs e : Int)) (p0 + (entPir e * (now - t) : Nat))
  let l := 1000 * (len : Int)
  if p / 1000 < (len : Int) then (.red, (c, p, now))
  else if c / 1000 < (len : Int) then (.yellow, (c, p - l, now))
  else (.green, (c - l, p - l, now))

end Sys2Proof.Machine
end

