-- ==== Sys2Proof/Machine/FhOps.lean ====
section
/-!
DEFINITION. The fronthaul as named operations: interfaces (R231, R233), the queueing of frames on leaves (R240, R245) and the RU table (R238).
-/
namespace Sys2Proof.Machine

/-- Interface i is lane i mod 4 of port i / 4. -/
def ifPort (i : Nat) : Nat := i / 4
def ifLane (i : Nat) : Nat := i % 4

def FhIface.fresh : FhIface := ⟨[], none, Scheduler.fresh⟩
def State.iface (s : State) (i : Nat) : FhIface := Assoc.findD i FhIface.fresh s.fh.ifaces
def State.setIface (s : State) (i : Nat) (k : FhIface) : State := { s with fh := { s.fh with ifaces := Assoc.put i k s.fh.ifaces } }

/-- MODE of an interface's port, and whether the interface exists in it (R231): the port is enabled. -/
def State.portMode (s : State) (p : Nat) : Nat := s.fld (Reg.FH_PORT.PORT_CFG.MODE p)
def State.ifExists (s : State) (i : Nat) : Bool :=
  Nat.blt i 64 && s.isSet (ctrlEnable (0x061 + ifPort i)) && ((Nat.beq (s.portMode (ifPort i)) 1 && Nat.beq (ifLane i) 0) || Nat.beq (s.portMode (ifPort i)) 2)

/-- Is the interface's link up? -/
def State.ifUp (s : State) (i : Nat) : Bool := (s.fld (Reg.FH_PORT.LINK.UP (ifPort i))).testBit (ifLane i)

/-- An error bit of a port page is set; FH shows it (R257). -/
def State.portErr (s : State) (f : Fld) : State := (s.raiseErr f).raiseErr Reg.FH.ERR.ANY_PORT

/-- The MAC address of an interface (R233). -/
def State.ifMac (s : State) (i : Nat) : Nat :=
  (s.fld2 (Reg.FH_PORT.MAC_LO.MAC (ifPort i)) (Reg.FH_PORT.MAC_HI.MAC (ifPort i)) + ifLane i) % 2 ^ 48

/-- The IP address of an interface (R233), as a number whose byte 0 is the least significant: the lane is added to that byte without carry. -/
def State.ifIp (s : State) (i : Nat) : Nat :=
  let word (w : Nat) : Nat := s.fld (Reg.FH_PORT.IP_ADDR.IP (ifPort i) w)
  let a := if s.isSet (Reg.FH_PORT.PORT_CFG.IPV6 (ifPort i)) then word 0 + 2 ^ 32 * word 1 + 2 ^ 64 * word 2 + 2 ^ 96 * word 3 else word 0
  putBits a 0 8 ((a + ifLane i) % 256)

/-- Is the S-plane leaf of subscriber 0 of an interface's shaper table valid (R269)? -/
def State.splane (s : State) (i : Nat) : Bool := entValid (shpEntry (s.iface i).sched.image (.leaf 0 0))

/-- Does the leaf of a subscriber and service hold frames of the interface (R251)? -/
def State.leafHolds (s : State) (i sub service : Nat) : Bool :=
  let b := (s.iface i).sched.image
  entValid (shpEntry b (.leaf sub service)) && entValid (shpEntry b (.sub sub)) &&
    Nat.beq (if shpNodes b = 1 then ifLane i else entLane (shpEntry b (.sub sub))) (ifLane i)

/-- A frame joins the frames of an interface, under the next number. -/
def State.queueFrame (s : State) (i : Nat) (f : TxFrame) : State :=
  let k := s.iface i
  let s := s.setIface i { k with frames := k.frames ++ [{ f with id := s.fh.nextFrame }] }
  { s with fh := { s.fh with nextFrame := s.fh.nextFrame + 1 } }

/-- The 64 bytes of an RU entry of a table. -/
def ruEntry (b : List Byte) (r : Nat) : List Byte := slice b (64 * r) 64
def ruValid (e : List Byte) : Bool := (fieldAt e 0 1).testBit 7
/-- The interface of an RU entry. -/
def ruIface (e : List Byte) : Nat := 4 * (fieldAt e 0 1 % 16) + bitsOf (fieldAt e 0 1) 4 2
def ruDlComp (e : List Byte) : Nat := bitsOf (fieldAt e 1 1) 0 3
def ruDynHdr (e : List Byte) : Bool := (fieldAt e 1 1).testBit 3
def ruDlIqw (e : List Byte) : Nat := bitsOf (fieldAt e 2 1) 0 5
def ruUlComp (e : List Byte) : Nat := bitsOf (fieldAt e 3 1) 0 3
def ruUlIqw (e : List Byte) : Nat := bitsOf (fieldAt e 4 1) 0 5
def ruSub (e : List Byte) : Nat := bitsOf (fieldAt e 5 1) 0 6
def ruMac (e : List Byte) : Nat := fieldAt e 6 6
def ruIp (e : List Byte) (v6 : Bool) : Nat := fieldAt e 12 (if v6 then 16 else 4)
def ruEaxc (e : List Byte) : Nat := fieldAt e 28 2
def ruMaxCp (e : List Byte) : Nat := fieldAt e 32 4
def ruMinCp (e : List Byte) : Nat := fieldAt e 36 4
def ruMaxUp (e : List Byte) : Nat := fieldAt e 40 4
def ruMinUp (e : List Byte) : Nat := fieldAt e 44 4
def ruTa4Min (e : List Byte) : Nat := fieldAt e 48 4
def ruTa4Max (e : List Byte) : Nat := fieldAt e 52 4

end Sys2Proof.Machine
end

