-- ==== Sys2Proof/Machine/Framer.lean ====
section
/-!
DEFINITION. The framer (R232, R233, R235–R237, R242–R244): compression, headers, and the cutting of a symbol into frames. The places of fields in
eCPRI, O-RAN, IP and UDP headers are those of the documents the rules name (PRESUMED, log entry 232).
-/
namespace Sys2Proof.Machine

/-- The low `n` bytes of a number, most significant first. -/
def beBytes (n v : Nat) : List Byte := (leBytes n v).reverse

/-- The number that bytes spell, most significant first. -/
def beNat : List Byte → Nat := List.foldl (fun a b => 256 * a + b.toNat) 0

/-! ### Compression (R243, R244) -/

/-- Values of `w` bits packed one after the other, the first in the most significant bits. -/
def packBits (w : Nat) (l : List Int) : List Byte := beBytes (3 * w) (l.foldl (fun a x => 2 ^ w * a + ofSigned w x) 0)

/-- The exponent of block floating point at width `w`: max(0, 16 − w − BEXP). -/
def bfpExp (w : Nat) (x : List Int) : Nat := 16 - w - (x.map (redundant 16)).foldl min 15

/-- A PRB in block floating point: the exponent byte and the mantissas; and how many of them saturated. -/
def bfpPrb (w : Nat) (x : List Int) : List Byte × Nat :=
  let e := bfpExp w x
  let m := x.map fun v => satTo w (rshr v e)
  ([BitVec.ofNat 8 e] ++ packBits w (m.map fun r => r.1), (m.filter fun r => r.2).length)

/-- A compressed PRB back to 24 samples of 16 bits, with how many saturated. -/
def bfpDecode (w : Nat) (b : List Byte) : List Int × Nat :=
  let e := (b.getD 0 0).toNat % 16
  let v := beNat (slice b 1 (3 * w))
  let m := (List.range 24).map fun k => satTo 16 (toSigned w (v / 2 ^ (w * (23 - k))) * 2 ^ e)
  (m.map fun r => r.1, (m.filter fun r => r.2).length)

/-- An uncompressed PRB: 24 samples of 16 bits, most significant byte first. -/
def plainDecode (b : List Byte) : List Int := (List.range 24).map fun k => toSigned 16 (beNat (slice b (2 * k) 2))

/-- How a section's PRBs are compressed: the method code of R238 and the width. -/
structure Comp where
  method : Nat
  width : Nat
deriving DecidableEq, Repr

/-- The 24 values of a downlink PRB. -/
def iqOf (p : DlPrb) : List Int := (List.range 24).map fun k => p.values.getD k 0

/-- A downlink PRB under a compression, with its saturated mantissas. -/
def Comp.prb (c : Comp) (p : DlPrb) : List Byte × Nat :=
  if c.method = 1 then bfpPrb c.width (iqOf p)
  else if c.method = 4 then (packBits c.width ((List.range 24).map fun k => ((p.points.getD k 0 : Nat) : Int)), 0)
  else ((iqOf p).flatMap fun v => beBytes 2 (ofSigned 16 v), 0)

/-- Bytes of a compressed PRB. -/
def Comp.prbLen (c : Comp) : Nat := if c.method = 1 then 3 * c.width + 1 else if c.method = 4 then 3 * c.width else 48

/-- udCompHdr and its reserved byte, where the RU takes them: the width, 16 as code 0, and the method. -/
def Comp.header (c : Comp) (dyn : Bool) : List Byte := if dyn then [BitVec.ofNat 8 (c.width % 16 * 16 + c.method), 0] else []

/-- PRBs in ascending order cut where a third modulation would join a section (R244). -/
def modSets (l : List (Nat × DlPrb)) : List (List (Nat × DlPrb)) :=
  l.foldr (fun x acc =>
    match acc with
    | [] => [[x]]
    | g :: r => if Nat.ble ((x :: g).map fun y => y.2.width).eraseDups.length 2 then (x :: g) :: r else [x] :: g :: r) []

/-- The compression of a section: modulation compression at the largest width of its modulations, in block floating point where that
exceeds DL_IQW (R244). -/
def sectionComp (e : List Byte) (g : List (Nat × DlPrb)) : Comp :=
  let w := (g.map fun y => y.2.width).foldl max 1
  if ruDlComp e = 4 then (if w ≤ ruDlIqw e then ⟨4, w⟩ else ⟨1, ruDlIqw e⟩) else ⟨ruDlComp e, ruDlIqw e⟩

/-! ### Headers (R232, R233, R235, R236) -/

/-- What stands in front of an eCPRI message: addresses, the 802.1Q tag if there is one, and with UDP the IP version, addresses and port. -/
structure FrameHead where
  dst : Nat
  src : Nat
  tag : Option Nat
  udp : Option (Bool × Nat × Nat × Nat)
deriving DecidableEq, Repr

/-- Bytes in front of the eCPRI message. -/
def FrameHead.len (h : FrameHead) : Nat := 14 + (if h.tag.isSome then 4 else 0) + h.udp.elim 0 fun u => if u.1 then 48 else 28

/-- Addresses, tag and EtherType. -/
def FrameHead.ether (h : FrameHead) (etherType : Nat) : List Byte :=
  beBytes 6 h.dst ++ beBytes 6 h.src ++ h.tag.elim [] (fun t => beBytes 2 0x8100 ++ beBytes 2 t) ++ beBytes 2 etherType

/-- The sum of the 16-bit words of bytes. -/
def wordSum : List Byte → Nat
  | a :: b :: r => 256 * a.toNat + b.toNat + wordSum r
  | [a] => 256 * a.toNat
  | [] => 0

/-- The Internet checksum of bytes. -/
def netSum (b : List Byte) : Nat :=
  let n := wordSum b
  65535 - (if n % 65535 = 0 ∧ n ≠ 0 then 65535 else n % 65535)

/-- A frame without its FCS. Fields of the IP and UDP headers that R236 does not state (identification, traffic class and flow label, source
port) are free. -/
def FrameHead.frame (h : FrameHead) (draw : Nat) (msg : List Byte) : List Byte :=
  match h.udp with
  | none => h.ether 0xAEFE ++ msg
  | some (v6, srcIp, dstIp, port) =>
    let n := 8 + msg.length
    let head (sum : Nat) : List Byte := beBytes 2 (Config.freeNat draw) ++ beBytes 2 port ++ beBytes 2 n ++ beBytes 2 sum
    if v6 then
      let pseudo := beBytes 16 srcIp ++ beBytes 16 dstIp ++ beBytes 4 n ++ beBytes 4 17
      let c := netSum (pseudo ++ head 0 ++ msg)
      h.ether 0x86DD ++ beBytes 4 (6 * 2 ^ 28 + Config.freeNat (draw + 1) % 2 ^ 28) ++ beBytes 2 n ++ [17, 64] ++ beBytes 16 srcIp ++ beBytes 16 dstIp ++
        head (if c = 0 then 65535 else c) ++ msg
    else
      let ip (sum : Nat) : List Byte := [0x45, BitVec.ofNat 8 (Config.freeNat (draw + 1))] ++ beBytes 2 (20 + n) ++ beBytes 2 (Config.freeNat (draw + 2)) ++
        beBytes 2 0x4000 ++ [64, 17] ++ beBytes 2 sum ++ beBytes 4 srcIp ++ beBytes 4 dstIp
      h.ether 0x0800 ++ ip (netSum (ip 0)) ++ head 0 ++ msg

/-- An eCPRI message: revision 1, C = 0, type and length; PC_ID; SEQ_ID with E = 1 and subsequence 0. -/
def ecpriMsg (type pcId seq : Nat) (body : List Byte) : List Byte :=
  [0x10, BitVec.ofNat 8 type] ++ beBytes 2 (4 + body.length) ++ beBytes 2 pcId ++ [BitVec.ofNat 8 seq, 0x80] ++ body

/-- The first four bytes of an O-RAN message: direction (1 downlink) and payload version, frame, subframe, slot and symbol. -/
def oranHead (down : Bool) (mu : Nat) (a : SymbolAt) : List Byte :=
  [BitVec.ofNat 8 ((if down then 128 else 0) + 16), BitVec.ofNat 8 a.sfn] ++ beBytes 2 (a.slot / 2 ^ mu * 4096 + a.slot % 2 ^ mu * 64 + a.symbol)

/-- A U-plane section header: section id 0, every resource block used, first PRB and count, 0 where the frame carries the whole carrier. -/
def sectionHead (start count : Nat) : List Byte := beBytes 4 (start % 1024 * 256 + count)

/-- Cut a list into pieces of at most `n`. -/
def pieces {α : Type} (n : Nat) : Nat → List α → List (List α)
  | 0, _ => []
  | _, [] => []
  | fuel + 1, l => l.take n :: pieces n fuel (l.drop n)

/-- The U-plane messages of a symbol of a stream (R242): sections in ascending PRB order, no frame above MAX_FRAME; with the saturations met. -/
def uMessages (room : Nat) (e : List Byte) (mu : Nat) (a : SymbolAt) (prbs : List (Nat × DlPrb)) : List (List Byte) × Nat :=
  let all := prbs.length
  let sets := if ruDlComp e = 4 then modSets prbs else [prbs]
  let out := sets.flatMap fun g =>
    let c := sectionComp e g
    let fixed := 8 + (c.header (ruDynHdr e)).length
    let most := (room - fixed) / max 1 c.prbLen
    let n := if all ≤ most then all else min 255 most
    (pieces (max 1 n) g.length g).map fun part =>
      let enc := part.map fun p => c.prb p.2
      let start := (part.head?.map fun p => p.1).getD 0
      (oranHead true mu a ++ sectionHead start (if part.length = all then 0 else part.length) ++ c.header (ruDynHdr e) ++ enc.flatMap fun x => x.1,
        (enc.map fun x => x.2).sum)
  (out.map fun x => x.1, (out.map fun x => x.2).sum)

/-- Does the Y40 send such a C-plane section (R237): section types 5 and 6 and extensions 1 and 11 for category B, 4 and 5 with modulation
compression? -/
def sectionSent (c : CSection) (catB modComp : Bool) : Bool :=
  (if catB then [0, 1, 3, 5, 6] else [0, 1, 3]).contains c.kind &&
    c.exts.all fun x => Nat.beq x 6 || (catB && (Nat.beq x 1 || Nat.beq x 11)) || (modComp && (Nat.beq x 4 || Nat.beq x 5))

/-- A C-plane message of one section; its beamforming weights go in block floating point at the RU's downlink width, in groups of 24 values. -/
def cMessage (down : Bool) (e : List Byte) (mu : Nat) (a : SymbolAt) (c : CSection) : List Byte :=
  oranHead down mu a ++ [1, BitVec.ofNat 8 c.kind] ++ c.body ++
    (pieces 24 c.weights.length c.weights).flatMap fun g => (bfpPrb (ruDlIqw e) ((List.range 24).map fun k => g.getD k 0)).1

end Sys2Proof.Machine
end

