-- ==== Sys2Proof/Machine/Phy.lean ====
section
/-!
DEFINITION. What the channels of the radio compute (R203–R216), on plain data: logarithmic units, LLRs, CRCs, LDPC, polar and Reed–Muller decoding,
turbo and Viterbi decoding, and PRACH correlation. Tables of the 3GPP documents stand in Config.
-/
namespace Sys2Proof.Machine

/-! ### Logarithmic units (R213–R216) -/

/-- Is 40 × log₁₀(num / den) at least k − ½? -/
def geQuarter (num den : Nat) (k : Int) : Bool :=
  let m := 2 * k - 1
  if 0 ≤ m then Nat.ble (den ^ 80 * 10 ^ m.toNat) (num ^ 80) else Nat.ble (den ^ 80) (num ^ 80 * 10 ^ (-m).toNat)

/-- num / den in units of 0.25 dB, to the nearest; the logarithm of 0 is a value the spec does not state, so it is free. -/
def quarterDb (draw num den : Nat) : Int :=
  if num = 0 ∨ den = 0 then Config.freeInt draw
  else -1200 + (((List.range 2400).filter fun (k : Nat) => geQuarter num den ((k : Int) - 1199)).length : Int)

/-- As `quarterDb`, in the 16 bits of R215. -/
def quarterDb16 (draw num den : Nat) : Nat := satSigned 16 (quarterDb draw num den)

/-! ### LLRs (R207, R208) -/

/-- e as the fraction Σ 60! / k! over 60!, k ≤ 60: it lies below e by less than 10⁻⁸⁰ of it. -/
def eDen : Nat := (List.range 61).foldl (fun a k => a * max 1 k) 1
def eNum : Nat := ((List.range 61).foldl (fun (x : Nat × Nat) k => let f := x.2 / max 1 k; (x.1 + f, f)) (0, eDen)).1

/-- Is ln(p₀ / p₁) × 2^shift at least k − ½? -/
def geLn (p0 p1 shift : Nat) (k : Int) : Bool :=
  let n := 2 ^ (shift + 1)
  let m := 2 * k - 1
  if 0 ≤ m then Nat.ble (p1 ^ n * eNum ^ m.toNat) (p0 ^ n * eDen ^ m.toNat) else Nat.ble (p1 ^ n * eDen ^ (-m).toNat) (p0 ^ n * eNum ^ (-m).toNat)

/-- R207: λ = sat(round(ln(p₀ / p₁) × 2^shift)), saturated to −127 to +127. No ratio of integers is a tie but at 0. -/
def llrOf (shift : Nat) (p : Nat × Nat) : Int :=
  -127 + (((List.range 254).filter fun (k : Nat) => geLn p.1 p.2 shift ((k : Int) - 126)).length : Int)

/-- An LLR saturated to −127 to +127 (R207, R208). -/
def clampLlr (x : Int) : Int := max (-127) (min 127 x)

/-- LLRs of a code block's coded bits added, saturating, to a circular buffer of `n` positions (R208). -/
def addLlrs (pos : Nat → Nat) (buf : List Int) (llrs : List Int) : List Int :=
  (llrs.zipIdx).foldl (fun b x => b.modify (pos x.2) fun y => clampLlr (y + x.1)) buf

/-- The hard decisions of LLRs: 1 where the LLR is negative. -/
def hardBits (l : List Int) : List Bool := l.map fun x => decide (x < 0)

/-! ### CRCs of TS 38.212 and TS 36.212 -/

/-- The remainder of bits under a generator of `n` bits (its leading term left out). -/
def crcOf (n poly : Nat) (bits : List Bool) : Nat :=
  bits.foldl (fun r b =>
    let top := Nat.beq (r / 2 ^ (n - 1) % 2) 1
    (r * 2 % 2 ^ n) ^^^ (if top != b then poly else 0)) 0

def crc24A (b : List Bool) : Bool := Nat.beq (crcOf 24 0x864CFB b) 0
def crc24B (b : List Bool) : Bool := Nat.beq (crcOf 24 0x800063 b) 0
def crc16 (b : List Bool) : Bool := Nat.beq (crcOf 16 0x1021 b) 0
def crc11 (b : List Bool) : Bool := Nat.beq (crcOf 11 0x621 b) 0
def crc6 (b : List Bool) : Bool := Nat.beq (crcOf 6 0x21 b) 0

/-! ### LDPC (R204) -/

/-- Does every parity check hold? -/
def ldpcHolds (layers : List (List Nat)) (bits : List Bool) : Bool :=
  layers.all fun l => !(l.foldl (fun a i => a != bits.getD i false) false)

/-- One iteration of the layered schedule: each layer in turn takes its last messages off the values it reads and puts its new ones on. -/
def ldpcIterate (layers : List (List Nat)) (x : List Int × List (List Int)) : List Int × List (List Int) :=
  (layers.zip x.2).foldl (fun (acc : List Int × List (List Int)) l =>
    let inp := l.1.zipIdx.map fun p => acc.1.getD p.1 0 - l.2.getD p.2 0
    let out := Config.checkNode inp
    let values := l.1.zipIdx.foldl (fun (v : List Int) p => v.set p.1 (inp.getD p.2 0 + out.getD p.2 0)) acc.1
    (values, acc.2 ++ [out])) (x.1, [])

/-- Iterations until every check holds or the limit is reached; the hard decisions, and the iterations taken. -/
def ldpcRun (layers : List (List Nat)) : Nat → List Int × List (List Int) → List Bool × Nat
  | 0, x => (hardBits x.1, 0)
  | n + 1, x =>
    let x := ldpcIterate layers x
    if ldpcHolds layers (hardBits x.1) then (hardBits x.1, 1)
    else
      let r := ldpcRun layers n x
      (r.1, r.2 + 1)

/-- R204: a code block's bits from its circular buffer. The first 2 × lifting-size bits are not in the buffer. -/
def ldpcDecodeBlock (p : PuschPdu) (limit : Nat) (buf : List Int) : List Bool × Nat :=
  let layers := Config.ldpcLayers p.baseGraph p.lifting
  let r := ldpcRun layers limit (List.replicate (2 * p.lifting) 0 ++ buf, layers.map fun l => l.map fun _ => 0)
  (r.1.take p.info, r.2)

/-! ### Turbo and Viterbi decoding (R210) -/

/-- An LLR or metric in INT16, saturated (R125, R210). -/
def sat16 (x : Int) : Int := (satTo 16 x).1

/-- The constituent encoder of TS 36.212 (feedback 13, parity 15, octal) in state s = d₁ + 2d₂ + 4d₃ on a bit: next state and parity. -/
def rscNext (s : Nat) (u : Bool) : Nat × Bool :=
  let d (k : Nat) : Bool := s.testBit k
  let fb := (u != d 1) != d 2
  ((if fb then 1 else 0) + (if d 0 then 2 else 0) + (if d 1 then 4 else 0), (fb != d 0) != d 2)

/-- The branch metric of a bit and its parity: an LLR counts where its bit is 0. -/
def turboBranch (a p : Int) (u : Bool) (par : Bool) : Int := (if u then 0 else a) + (if par then 0 else p)

/-- A forward step over the 8 states: add, compare, select. -/
def turboForward (m : List Int) (x : Int × Int) : List Int :=
  (List.range 8).map fun t =>
    let into := (List.range 8).flatMap fun s => [false, true].filterMap fun u =>
      let r := rscNext s u
      if r.1 = t then some (m.getD s (-32768) + turboBranch x.1 x.2 u r.2) else none
    sat16 (into.foldl max (-65536))

/-- A backward step. -/
def turboBackward (m : List Int) (x : Int × Int) : List Int :=
  (List.range 8).map fun s =>
    sat16 (([false, true].map fun u =>
      let r := rscNext s u
      m.getD r.1 (-32768) + turboBranch x.1 x.2 u r.2).foldl max (-65536))

/-- The metrics before each step, and after the last. -/
def scanSteps {α β : Type} (f : α → β → α) (a : α) : List β → List α
  | [] => [a]
  | x :: r => a :: scanSteps f (f a x) r

/-- The start metrics of a terminated trellis: state 0. -/
def zeroState : List Int := 0 :: List.replicate 7 (-32768)

/-- One constituent decoder by max-log-MAP: a forward and a backward recursion; the extrinsic LLR of each of `k` bits. The lists hold the bits
and their tail. -/
def turboHalf (k : Nat) (sys par apriori : List Int) : List Int :=
  let steps := (sys.zip (apriori ++ List.replicate (sys.length - apriori.length) 0)).zip par |>.map fun x => (x.1.1 + x.1.2, x.2)
  let fwd := scanSteps turboForward zeroState steps
  let bwd := (scanSteps turboBackward zeroState steps.reverse).reverse
  (List.range k).map fun i =>
    let x := steps.getD i (0, 0)
    let best (u : Bool) : Int := ((List.range 8).map fun s =>
      let r := rscNext s u
      (fwd.getD i []).getD s (-32768) + turboBranch x.1 x.2 u r.2 + (bwd.getD (i + 1) []).getD r.1 (-32768)).foldl max (-131072)
    sat16 (best false - best true - x.1)

/-- Turbo iterations until `ok` holds of the decided bits or the limit is reached: systematic, both parities, and the interleaved systematic tail. -/
def turboRun (k : Nat) (sys par1 par2 sys2 : List Int) (ok : List Bool → Bool) : Nat → List Int → List Bool
  | 0, ap => hardBits ((sys.take k).zip ap |>.map fun x => x.1 + x.2)
  | n + 1, ap =>
    let e1 := turboHalf k sys par1 ap
    let inter := (List.range k).map fun i => e1.getD (Config.turboPos k i) 0
    let e2i := turboHalf k sys2 par2 inter
    let e2 := (List.range k).foldl (fun (l : List Int) i => l.set (Config.turboPos k i) (e2i.getD i 0)) (List.replicate k 0)
    let bits := hardBits ((List.range k).map fun i => sys.getD i 0 + e1.getD i 0 + e2.getD i 0)
    if ok bits then bits else turboRun k sys par1 par2 sys2 ok n e2

/-- R210: a code block of the LTE turbo code from its circular buffer: the systematic bits with their tail, then the two parity streams by
turns, as the buffer of TS 36.212 holds them before its interleavers, which `Config.ratePos` undoes. -/
def turboDecodeBlock (p : PuschPdu) (limit : Nat) (ok : List Bool → Bool) (buf : List Int) : List Bool :=
  let k := p.info
  let b := buf.map sat16
  let stream (i : Nat) : List Int := (b.drop ((k + 4) * i)).take (k + 4)
  let sys := (stream 0).take k
  let tail := (stream 0).drop k ++ (stream 1).drop k ++ (stream 2).drop k
  let t (i : Nat) : Int := tail.getD i 0
  turboRun k (sys ++ [t 0, t 2, t 4]) ((stream 1).take k ++ [t 1, t 3, t 5])
    ((stream 2).take k ++ [t 7, t 9, t 11]) ((List.range k).map (fun i => sys.getD (Config.turboPos k i) 0) ++ [t 6, t 8, t 10]) ok limit (List.replicate k 0)

/-- The three coded bits of the tail-biting code of TS 36.212 (133, 171, 165 octal) for a register of the last seven bits, the newest in bit 6. -/
def convBits (r : Nat) : List Bool :=
  [0o133, 0o171, 0o165].map fun g => (List.range 7).foldl (fun a k => a != (g.testBit k && r.testBit k)) false

/-- A step of the Viterbi search over 64 states, each with its metric and the bits decided on the way to it, newest first. -/
def viterbiStep (m : List (Int × List Bool)) (l : List Int) : List (Int × List Bool) :=
  (List.range 64).map fun t =>
    let u := t.testBit 5
    let from_ (s : Nat) : Int × List Bool :=
      let x := m.getD s (0, [])
      let c := convBits (s + if u then 64 else 0)
      (sat16 (x.1 + ((l.zip c).map fun y => if y.2 then -y.1 else y.1).sum), u :: x.2)
    let a := from_ (2 * t % 64)
    let b := from_ (2 * t % 64 + 1)
    if a.1 < b.1 then b else a

/-- R210: a tail-biting block of `k` bits: the search runs twice around the trellis, and the bits of the second turn of the best path count. -/
def viterbiDecode (k : Nat) (llrs : List Int) : List Bool :=
  let step (i : Nat) : List Int := (List.range 3).map fun j => llrs.getD (j * k + i) 0
  let once := (List.range k).map step
  let m := (once ++ once).foldl viterbiStep (List.replicate 64 (0, []))
  let best := m.foldl (fun (b : Int × List Bool) x => if b.1 < x.1 then x else b) (m.getD 0 (0, []))
  (best.2.take k).reverse

/-! ### Polar and Reed–Muller codes (R206) -/

/-- Polar encoding of a block whose length is a power of 2. -/
def polarEncode : Nat → List Bool → List Bool
  | 0, u => u
  | n + 1, u =>
    let h := u.length / 2
    let a := polarEncode n (u.take h)
    let b := polarEncode n (u.drop h)
    (a.zip b).map (fun x => x.1 != x.2) ++ b

/-- The LLR of bit `i` given the bits before it, over a block of 2^n LLRs: the check and the bit rule of successive cancellation. -/
def polarLlr : Nat → List Int → List Bool → Nat → Int
  | 0, l, _, _ => l.headD 0
  | n + 1, l, u, i =>
    let h := 2 ^ n
    let ab := (l.take h).zip (l.drop h)
    if i < h then
      polarLlr n (ab.map fun x => (if (decide (x.1 < 0)) != (decide (x.2 < 0)) then -1 else 1) * (min x.1.natAbs x.2.natAbs : Nat)) u i
    else
      let left := polarEncode n (u.take h)
      polarLlr n ((ab.zip left).map fun x => x.1.2 + if x.2 then -x.1.1 else x.1.1) (u.drop h) (i - h)

/-- A step of the list: every path goes on with the bits position `i` may have, and the eight of least metric stay. -/
def polarStep (n : Nat) (llrs : List Int) (info : Nat → Bool) (paths : List (Nat × List Bool)) (i : Nat) : List (Nat × List Bool) :=
  let next := paths.flatMap fun p =>
    let l := polarLlr n llrs p.2 i
    let go (b : Bool) : Nat × List Bool := (p.1 + (if decide (l < 0) == b then 0 else l.natAbs), p.2 ++ [b])
    if info i then [go false, go true] else [go false]
  (sortBy (fun a b => Nat.ble a.1 b.1) next).take 8

/-- R206: CRC-aided successive-cancellation list decoding, list size 8: the first path whose information bits pass the CRC; with none, the path of
least metric, which fails. -/
def polarDecode (n k : Nat) (ok : List Bool → Bool) (llrs : List Int) : List Bool × Bool :=
  let info := Config.polarInfo (2 ^ n) k
  let paths := (List.range (2 ^ n)).foldl (polarStep n llrs info.contains) [(0, [])]
  let words := paths.map fun p => info.map fun i => p.2.getD i false
  match words.find? ok with
  | some w => (w, true)
  | none => (words.headD [], false)

/-- The bits of a number, the most significant of `k` first. -/
def bitsMsb (k v : Nat) : List Bool := (List.range k).map fun i => v.testBit (k - 1 - i)

/-- The correlation of LLRs with the codeword of a payload under a basis. -/
def correlate (basis : Nat → Nat → Bool) (payload : List Bool) (llrs : List Int) : Int :=
  (llrs.zipIdx.map fun x =>
    let c := payload.zipIdx.foldl (fun a b => a != (b.1 && basis (x.2 % 32) b.2)) false
    if c then -x.1 else x.1).sum

/-- Maximum likelihood over all 2^k payloads (R206). -/
def mlDecode (basis : Nat → Nat → Bool) (k : Nat) (llrs : List Int) : List Bool :=
  let all := (List.range (2 ^ k)).map (bitsMsb k)
  all.foldl (fun b w => if correlate basis b llrs < correlate basis w llrs then w else b) (all.headD [])

/-- Mother code length for a polar code of `e` coded bits: the power of 2 that takes them, at most 1,024; as its exponent. -/
def polarExp (e : Nat) : Nat := min 10 (Nat.log2 (max 1 (e - 1)) + 1)

/-- R206, R210: a UCI payload of `k` bits: 1 and 2 bits decided on the cores, 3 to 11 by Reed–Muller correlation, longer ones by the polar decoders
with a CRC of 6 bits up to 19 and of 11 bits above, for LTE by the Viterbi search; and whether it is valid. -/
def uciDecode (lte : Bool) (k : Nat) (llrs : List Int) : List Bool × Bool :=
  if k ≤ 2 then (mlDecode (Config.smallBit k) k llrs, true)
  else if k ≤ 11 then (mlDecode Config.basisBit k llrs, true)
  else if lte then (viterbiDecode k llrs, true)
  else
    let n := polarExp llrs.length
    let rec_ := addLlrs (Config.polarPos (2 ^ n) llrs.length) (List.replicate (2 ^ n) 0) llrs
    let crc := if k < 20 then 6 else 11
    let r := polarDecode n (k + crc) (if k < 20 then crc6 else crc11) rec_
    (r.1.take k, r.2)

/-! ### PRACH (R211–R213) -/

/-- n_rep by format: 0–3 the long formats, then A1, A2, A3, B1, B2, B3, B4, C0, C2 (R211). -/
def prachReps (format : Nat) : Nat := [1, 2, 4, 4, 2, 4, 6, 2, 4, 6, 12, 1, 4].getD format 1

/-- The correlation energy of a repetition with a preamble at delay `d`. -/
def corrEnergy (samples : List (List Int)) (entry p5 : List Byte) (p : PrachPdu) (index r d : Nat) : Nat :=
  let z := (List.range (Config.prachLen p)).foldl (fun (acc : Int × Int) n =>
    let y := Config.prachSample samples p r (n + d)
    let x := Config.prachSeq entry p5 p index n
    (acc.1 + y.1 * x.1 + y.2 * x.2, acc.2 + y.2 * x.1 - y.1 * x.2)) (0, 0)
  z.1.natAbs ^ 2 + z.2.natAbs ^ 2

/-- What the correlation of a preamble gives: its energies at the strongest delay per repetition, each repetition's own peak and its sum over the
window, the delay in samples, and the window's length. -/
structure Corr where
  strongest : List Nat
  peaks : List Nat
  sums : List Nat
  delay : Nat
  window : Nat
deriving DecidableEq, Repr

/-- R211, R213: a preamble searched in its zero-correlation window; the strongest delay, ties to the shorter. -/
def prachCorrelate (samples : List (List Int)) (entry p5 : List Byte) (p : PrachPdu) (index : Nat) : Corr :=
  let (d0, w) := Config.prachWindow entry p5 p index
  let reps := List.range (prachReps p.format)
  let at_ (r d : Nat) : Nat := corrEnergy samples entry p5 p index r (d0 + d)
  let total (d : Nat) : Nat := (reps.map fun r => at_ r d).sum
  let best := (List.range w).foldl (fun b d => if total b < total d then d else b) 0
  ⟨reps.map fun r => at_ r best, reps.map fun r => ((List.range w).map (at_ r)).foldl max 0, reps.map fun r => ((List.range w).map (at_ r)).sum, best, w⟩

/-- R212: the energy test: sum > n_rep × N × W × 10^(E / 40), with N the fraction `nf`. -/
def energyPasses (sum nRep : Nat) (nf : Frac) (w thr : Nat) : Bool := Nat.blt ((nRep * nf.num * w) ^ 40 * 10 ^ thr) ((sum * nf.den) ^ 40)

/-- R213: one repetition's peak over its mean exceeds 10^(PAR / 40): the mean is `sum` over the window's `w` samples. -/
def ratioPasses (peak sum w thr : Nat) : Bool := Nat.blt (sum ^ 40 * 10 ^ thr) ((peak * w) ^ 40)

/-- Timing advance of a delay in T_c: round(delay × 2^μ / 1,024); a tie goes a free way (R213). -/
def timingAdvance (draw delay mu : Nat) : Nat :=
  let n := delay * 2 ^ mu
  if n % 1024 = 512 then n / 1024 + (if Config.freeBool draw = true then 1 else 0) else (n + 512) / 1024

/-! ### Noise floors (R215) -/

/-- NF + (x − NF) × 2^−k, exactly. -/
def Frac.towards (nf x : Frac) (k : Nat) : Frac := ⟨x.num * nf.den + (2 ^ k - 1) * nf.num * x.den, nf.den * x.den * 2 ^ k⟩

/-- The mean of fractions. -/
def Frac.mean (l : List Frac) : Frac :=
  let s := l.foldl (fun (a : Frac) x => ⟨a.num * x.den + x.num * a.den, a.den * x.den⟩) ⟨0, 1⟩
  ⟨s.num, s.den * max 1 l.length⟩

end Sys2Proof.Machine
end

