-- ==== Sys2Proof/Machine/Time.lean ====
section
/-!
DEFINITION. The time unit: PTP roles and messages, the servo, the compare units, 1PPS, SyncE and the legacy frame counter (R260–R291).
Timestamps are in 2⁻¹⁶ ns; a raw capture is device time.
-/
namespace Sys2Proof.Machine

/-! ### Roles and timestamps (R265, R266) -/

/-- The role in effect of interface `i`: 0 none, 1 slave, 2 master, 3 transparent; none where the interface is off (R286). -/
def State.role (s : State) (i : Nat) : Nat := if s.ifExists i then bitsOf (s.fld (Reg.TIME.ROLE.ROLE (i / 16))) (2 * (i % 16)) 2 else 0

/-- The slave interface, if there is one. -/
def State.slaveIface (s : State) : Option Nat := (List.range 64).find? fun i => Nat.beq (s.role i) 1

/-- The transparent interfaces. -/
def State.transparents (s : State) : List Nat := (List.range 64).filter fun i => Nat.beq (s.role i) 3

def State.ingAsym (s : State) (i : Nat) : Int := toSigned 32 (s.fld (Reg.TIME_PORT.ING_ASYM.ASYM (i / 4) (i % 4)))
def State.egAsym (s : State) (i : Nat) : Int := toSigned 32 (s.fld (Reg.TIME_PORT.EG_ASYM.ASYM (i / 4) (i % 4)))

/-- EPOCH_OFS in effect, in 2⁻¹⁶ ns. -/
def State.epochOfs (s : State) : Int :=
  (s.fld2 Reg.TIME.EPOCH_OFS_LO.OFS Reg.TIME.EPOCH_OFS_HI.OFS : Int) * 1000000000 * 65536

/-- Adjusted timestamps on device time plus EPOCH_OFS (R265, R272). -/
def State.ingress (s : State) (i raw : Nat) : Int := (raw : Int) - s.ingAsym i + s.epochOfs
def State.egress (s : State) (i raw : Nat) : Int := (raw : Int) + s.egAsym i + s.epochOfs

/-- The residence counter at a raw capture (R271). -/
def State.resAt (s : State) (raw : Nat) : Int := (raw : Int) - s.time.t + s.time.res

/-- Device time has run on to a raw capture. -/
def State.at (s : State) (raw : Nat) : State := s.advanceTo (raw / 65536)

def State.setTime (s : State) (t : TimeUnit) : State := { s with time := t }

/-- The clockIdentity of the Y40, and the port identity of an interface: the clock and port number i + 1 (R267). -/
def State.clockId (s : State) : Nat := s.fld2 Reg.TIME.CLOCK_ID_LO.ID Reg.TIME.CLOCK_ID_HI.ID
def State.portId (s : State) (i : Nat) : Nat := 65536 * s.clockId + (i + 1)

/-- DOMAIN in effect, and the destination address that DA selects (R267). -/
def State.ptpDomain (s : State) : Nat := s.fld Reg.TIME.PTP_CFG.DOMAIN
def State.ptpDst (s : State) : Nat := if s.isSet Reg.TIME.PTP_CFG.DA then 0x0180C200000E else 0x011B19000000

/-- A message of the Y40's own on an interface, or one it passes on with its source. -/
def State.ownPtp (s : State) (i : Nat) (b : PtpBody) : PtpOut := ⟨i, s.ptpDst, s.ptpDomain, s.portId i, b⟩
def State.passPtp (s : State) (i source : Nat) (b : PtpBody) : PtpOut := ⟨i, s.ptpDst, s.ptpDomain, source, b⟩

/-- The length of a PTP frame, from destination address through FCS, at least 64 bytes: IEEE 1588-2019's message lengths. -/
def TxBody.ptpLen : TxBody → Nat
  | .ptp ⟨_, _, _, _, .announce _⟩ => 82
  | .ptp ⟨_, _, _, _, .delayResp _ _ _ _⟩ => 72
  | _ => 64

/-- A PTP frame is queued on the S-plane leaf of subscriber 0; without that leaf it is discarded with NO_SPLANE, with the link down it is
discarded (R234, R269). -/
def State.sendPtp (s : State) (i : Nat) (m : TxBody) : State :=
  if !s.splane i then s.raiseErr Reg.TIME.ERR.NO_SPLANE
  else if !s.ifUp i then s
  else s.queueFrame i ⟨0, 0, 0, m.ptpLen, none, m⟩

/-- The correctionField with residence time `r` added (R271). -/
def addResidence (c r : Int) : Int :=
  if c = 2 ^ 63 - 1 ∨ 2 ^ 63 - 1 < c + r ∨ c + r < -(2 ^ 63 : Int) then 2 ^ 63 - 1 else c + r

/-! ### The servo (R272–R277) -/

/-- ō × 16 × 2¹⁷ in ns units: the sum of the window. -/
def State.windowSum (s : State) : Int := s.time.samples.sum

/-- Is |ō| at most `ns`, over a window of 16? -/
def State.meanWithin (s : State) (ns : Nat) : Bool := decide (s.windowSum.natAbs ≤ ns * 16 * 131072)

def State.windowFull (s : State) : Bool := Nat.ble 16 s.time.samples.length

/-- ō as a signed 32-bit count of ns, saturated. -/
def State.meanNs (s : State) : Nat :=
  satSigned 32 (roundFree s.draws s.windowSum (131072 * max 1 s.time.samples.length))

/-- Identity of the selected master: grandmaster and parent port (R277). -/
def Master.ident (m : Master) : Nat × Nat := (m.msg.gmId, m.msg.source)

/-- The window empties (R272). -/
def State.emptyWindow (s : State) : State := s.setTime { s.time with samples := [], goodRun := 0 }

/-- A step requested and not applied is discarded (R277, R286). -/
def State.discardStep (s : State) : State :=
  ((s.setTime { s.time with stepRequested := false }).setFld Reg.TIME.STATUS.STEP_PENDING 0).setFld Reg.SEQ.STATUS.STEP_WAIT 0

/-- Enter HOLDOVER, by a refused jump or not; the mean adjustment of the last 16 s is held (R273, R284). -/
def State.holdover (s : State) (refused : Bool) : State :=
  let recent := (s.time.adjs.filter fun a => Nat.ble s.mono (a.1 + 16000000000)).map fun a => a.2
  let s := if recent.isEmpty then s
    else (s.setFld Reg.TIME.FREQ_ADJ.ADJ (ofSigned 32 (roundFree s.draws recent.sum recent.length))).drawn
  let s := s.setTime { s.time with refused := refused, goodRun := 0, holdoverFrom := s.mono }
  (s.setFld Reg.LFC.LFC_STATUS.JUMP_REFUSED (if refused then 1 else 0)).enter Reg.TIME.STATE.STATE 3

/-- Enter LOCKED; the first entry sets ACQUIRED and ends the STEP_ARM of reset (R273, R274). -/
def State.lock (s : State) : State :=
  let first := !s.isSet Reg.TIME.STATUS.ACQUIRED
  let s := if first && s.time.rearmLeft.isNone then s.setFld Reg.TIME.STATUS.STEP_ARM 0 else s
  let s := s.setTime { s.time with refused := false, lockedTo := match s.time.master with
                                                     | some m => some m.ident
                                                     | none => s.time.lockedTo }
  ((s.setFld Reg.TIME.STATUS.ACQUIRED 1).setFld Reg.LFC.LFC_STATUS.JUMP_REFUSED 0).enter Reg.TIME.STATE.STATE 2

/-- Request a step of −ō and clear STEP_ARM; it waits under R48 while the sequencer is enabled (R274). -/
def State.requestStep (s : State) : State :=
  let s := (s.setTime { s.time with stepRequested := true, rearmLeft := none }).setFld Reg.TIME.STATUS.STEP_ARM 0
  if s.isSet (ctrlEnable 0x010) then
    let s := s.setFld Reg.TIME.STATUS.STEP_PENDING 1
    if [1, 2, 3].contains (s.fld Reg.SEQ.STATE.STATE) then s.setFld Reg.SEQ.STATUS.STEP_WAIT 1 else s
  else s

/-- A required jump is refused (R276). -/
def State.refuseJump (s : State) : State :=
  ((s.raiseErr Reg.TIME.ERR.JUMP_REFUSED).setFld Reg.TIME.REFUSED_NS.OFS s.meanNs).drawn.holdover true

/-- The frequency adjustment after a sample: the loop's coefficients are not stated, so it is free within ±50 ppm (R275). -/
def State.adjust (s : State) : State :=
  let a := max (-3276800) (min 3276800 (Config.freeInt s.draws))
  let s := s.drawn.setFld Reg.TIME.FREQ_ADJ.ADJ (ofSigned 32 a)
  s.setTime { s.time with adjs := (s.mono, a) :: s.time.adjs.filter fun x => Nat.ble s.mono (x.1 + 16000000000) }

/-- REARM holds STEP_ARM for 16 samples; if no step came of them it clears (R274). -/
def State.rearmSample (s : State) : State :=
  match s.time.rearmLeft with
  | some 1 => (s.setTime { s.time with rearmLeft := none }).setFld Reg.TIME.STATUS.STEP_ARM 0
  | some n => s.setTime { s.time with rearmLeft := some (n - 1) }
  | none => s

/-- What the servo does with its window after a sample (R273–R276). -/
def State.servo (s : State) (o : Int) : State :=
  let jump := s.fld Reg.TIME.SERVO_CFG.JUMP_NS
  let arm := s.isSet Reg.TIME.STATUS.STEP_ARM
  let st := s.fld Reg.TIME.STATE.STATE
  if st = 3 then
    let good := if o.natAbs ≤ jump * 131072 then s.time.goodRun + 1 else 0
    let s := s.setTime { s.time with goodRun := good }
    if 16 ≤ good then s.lock
    else if arm && s.windowFull && !s.meanWithin 100 then s.requestStep
    else s
  else if !s.windowFull then s.adjust
  else if st = 1 ∧ s.meanWithin 100 then s.adjust.lock
  else if arm && !s.meanWithin 100 && !s.time.stepRequested then s.requestStep
  else if !arm && !s.meanWithin jump && !s.time.stepRequested then s.refuseJump
  else s.adjust

/-- One sample enters the window (R272), in 2⁻¹⁷ ns. -/
def State.sample (s : State) (o : Int) : State :=
  let s := s.setTime { s.time with samples := (o :: s.time.samples).take 16 }
  let s := (s.setFld Reg.TIME.OFFSET_NS.OFS s.meanNs).drawn
  (s.servo o).rearmSample

/-- The master is lost: by an Announce timeout, the slave link or a missing 1PPS (R272, R273, R280, R286). -/
def State.masterLost (s : State) : State :=
  let s := (s.emptyWindow.discardStep.setTime { s.emptyWindow.discardStep.time with master := none, sync := none, delayReq := none }).setFld
    Reg.TIME.STATUS.MASTER_VALID 0
  if s.isSet Reg.TIME.STATUS.ACQUIRED then
    if s.fld Reg.TIME.STATE.STATE = 3 then s else s.holdover false
  else s.enter Reg.TIME.STATE.STATE 0

/-! ### PTP messages (R267–R272, R277) -/

/-- Is a message from the selected master? -/
def State.fromMaster (s : State) (source : Nat) : Bool := s.time.master.any fun m => Nat.beq m.msg.source source

/-- A PTP message received on an interface whose link is up: with role none it is counted in RX_UNKNOWN, of another domain it is discarded, and
`k` says what it does on an interface with a role (R266, R267). -/
def State.ptpIn (s : State) (i domain : Nat) (k : State → State) : State :=
  if !s.ifUp i then s
  else
    let s := s.countSat (Reg.FH_PORT.RX_FRAMES.COUNT (ifPort i)) 1
    if s.role i = 0 then s.countSat (Reg.FH_PORT.RX_UNKNOWN.COUNT (ifPort i)) 1
    else if domain = s.ptpDomain then k s else s

/-- R270, R272: a Sync on the slave interface. -/
def syncStep (i raw : Nat) (m : PtpMsg) (s : State) : State :=
  (s.at raw).ptpIn i m.domain fun s =>
    if s.role i = 1 && s.fromMaster m.source then
      let s := s.setTime { s.time with sync := some ⟨m.source, m.seqId, m.origin, m.correction, s.ingress i raw, !m.twoStep⟩ }
      s.transparents.foldl (fun s t => s.sendPtp t (.relay true (s.resAt raw - s.ingAsym i) m)) s
    else s

def execSync (i raw : Nat) (m : PtpMsg) (s : State) : Answer := .next (syncStep i raw m s)

/-- R270, R272: a Follow_Up completes a two-step Sync and passes unchanged. -/
def followUpStep (i : Nat) (m : PtpMsg) (s : State) : State :=
  s.ptpIn i m.domain fun s =>
    if s.role i = 1 && s.fromMaster m.source then
      let s := match s.time.sync with
        | some y =>
          if y.source = m.source ∧ y.seq = m.seqId ∧ !y.complete then
            s.setTime { s.time with sync := some { y with t1 := m.origin, corr := y.corr + m.correction, complete := true } }
          else s
        | none => s
      s.transparents.foldl (fun s t => s.sendPtp t (.ptp (s.passPtp t m.source (.followUp m.seqId m.origin m.correction)))) s
    else s

def execFollowUp (i : Nat) (m : PtpMsg) (s : State) : Answer := .next (followUpStep i m s)

/-- R267, R270: a Delay_Req on a master port is answered; on a transparent interface it is sent out of the slave interface. -/
def delayReqStep (i raw : Nat) (m : PtpMsg) (s : State) : State :=
  (s.at raw).ptpIn i m.domain fun s =>
    if s.role i = 2 then s.sendPtp i (.ptp (s.ownPtp i (.delayResp m.seqId (s.ingress i raw) m.correction m.source)))
    else if s.role i = 3 then
      match s.slaveIface with
      | some sl => s.sendPtp sl (.relay false (s.resAt raw - s.ingAsym i) m)
      | none => s
    else s

def execDelayReq (i raw : Nat) (m : PtpMsg) (s : State) : Answer := .next (delayReqStep i raw m s)

/-- R272: a Delay_Resp to the slave interface's own Delay_Req completes the exchange; every one passes unchanged to transparent interfaces. -/
def delayRespStep (i : Nat) (m : PtpMsg) (s : State) : State :=
  s.ptpIn i m.domain fun s =>
    if s.role i = 1 && s.fromMaster m.source then
      let s := s.transparents.foldl (fun s t =>
        s.sendPtp t (.ptp (s.passPtp t m.source (.delayResp m.seqId m.origin m.correction m.requesting)))) s
      match s.time.sync, s.time.delayReq with
      | some y, some (t3, q) =>
        if y.complete && Nat.beq q m.seqId && Nat.beq m.requesting (s.portId i) && Nat.beq y.source m.source then
          (s.setTime { s.time with delayReq := none }).sample ((y.t2 - y.t1 - y.corr) - (m.origin - t3 - m.correction))
        else s
      | _, _ => s
    else s

def execDelayResp (i : Nat) (m : PtpMsg) (s : State) : Answer := .next (delayRespStep i m s)

/-- The comparison of the alternate best master choice, on the fields an Announce carries (R267): does `a` win over `b`? -/
def announceBetter (a b : AnnounceMsg) : Bool :=
  if a.clockClass ≠ b.clockClass then Nat.blt a.clockClass b.clockClass
  else if a.accuracy ≠ b.accuracy then Nat.blt a.accuracy b.accuracy
  else if a.variance ≠ b.variance then Nat.blt a.variance b.variance
  else if a.priority2 ≠ b.priority2 then Nat.blt a.priority2 b.priority2
  else if a.localPriority ≠ b.localPriority then Nat.blt a.localPriority b.localPriority
  else if 127 < a.clockClass ∧ a.gmId ≠ b.gmId then Nat.blt a.gmId b.gmId
  else if a.stepsRemoved ≠ b.stepsRemoved then Nat.blt a.stepsRemoved b.stepsRemoved
  else Nat.blt a.source b.source

/-- Is an Announce accepted: none is selected, or it comes from the selected master, or it wins over it (R267)? -/
def State.accepts (s : State) (m : AnnounceMsg) : Bool :=
  match s.time.master with
  | none => true
  | some x => Nat.beq x.msg.source m.source || announceBetter m x.msg

/-- R277: an Announce is received and takes part in master selection. -/
def announceStep (i : Nat) (m : AnnounceMsg) (s : State) : State :=
  s.ptpIn i m.domain fun s =>
  if s.role i = 1 && s.accepts m then
    let old := s.time.master.map Master.ident
    let new := (⟨m⟩ : Master)
    let s := if old = some new.ident then s
      else
        let s := s.emptyWindow.discardStep
        match s.time.lockedTo with
        | some x =>
          if x = new.ident then s
          else ((s.setTime { s.time with rearmLeft := none }).setFld Reg.TIME.STATUS.STEP_ARM 0).raiseErr Reg.TIME.ERR.MASTER_CHANGE
        | none => s
    let s := s.setTime { s.time with master := some new }
    let s := (s.setFld2 Reg.TIME.GM_ID_LO.ID Reg.TIME.GM_ID_HI.ID m.gmId).setFlds
      [(Reg.TIME.UTC_OFFSET.S, m.utcOffset), (Reg.TIME.STATUS.MASTER_VALID, 1)]
    let s := s.transparents.foldl (fun s t => s.sendPtp t (.ptp (s.passPtp t m.source (.announce m)))) s
    if s.fld Reg.TIME.STATE.STATE = 0 then s.enter Reg.TIME.STATE.STATE 1 else s
  else s

def execAnnounce (i : Nat) (m : AnnounceMsg) (s : State) : Answer := .next (announceStep i m s)

/-- R273: the master's Announces lapse. -/
def announceTimeoutStep (s : State) : State :=
  if s.time.master.isSome then (s.raiseErr Reg.TIME.ERR.ANNOUNCE_TIMEOUT).masterLost else s

def execAnnounceTimeout (s : State) : Answer := .next (announceTimeoutStep s)

/-- R234, R272, R273: the slave interface's link goes down: the master is lost. -/
def State.slaveDown (s : State) (i : Nat) : State :=
  if s.slaveIface == some i then
    (if s.time.master.isSome then s.raiseErr Reg.TIME.ERR.ANNOUNCE_TIMEOUT else s).masterLost
  else s

/-- R267: a master port sends a one-step Sync; its origin timestamp is that of its leaving. -/
def syncTransmitStep (i : Nat) (s : State) : State :=
  if s.role i = 2 then
    (s.setTime { s.time with syncSeq := (s.time.syncSeq + 1) % 65536 }).sendPtp i (.ownSync s.time.syncSeq)
  else s

def execSyncTransmit (i : Nat) (s : State) : Answer := .next (syncTransmitStep i s)

/-- R267, R272: the slave interface sends its Delay_Req. -/
def delayReqTransmitStep (s : State) : State :=
  match s.slaveIface with
  | none => s
  | some i => (s.setTime { s.time with delaySeq := (s.time.delaySeq + 1) % 65536 }).sendPtp i (.ownDelayReq s.time.delaySeq)

def execDelayReqTransmit (s : State) : Answer := .next (delayReqTransmitStep s)

/-- A frame leaves an interface, its timestamp point at capture `raw` (R265): a PTP event message is completed with its egress timestamp, a
relayed one with its residence time (R270, R271); t3 of the own Delay_Req is noted (R272). -/
def State.leave (s : State) (i raw : Nat) (f : TxFrame) : State :=
  match f.body with
  | .bytes _ => s.emit (.frame i f)
  | .ptp m => s.emit (.ptp m)
  | .ownSync seq =>
    let s := s.at raw
    s.emit (.ptp (s.ownPtp i (.sync seq (s.egress i raw) 0 false)))
  | .ownDelayReq seq =>
    let s := s.at raw
    (s.setTime { s.time with delayReq := some (s.egress i raw, seq) }).emit (.ptp (s.ownPtp i (.delayReq seq 0)))
  | .relay isSync ingress m =>
    let s := s.at raw
    let c := addResidence m.correction (s.resAt raw + s.egAsym i - ingress)
    s.emit (.ptp (s.passPtp i m.source (if isSync then .sync m.seqId m.origin c m.twoStep else .delayReq m.seqId c)))

/-- What an Announce of a master port carries (R268): in LOCKED the master's fields with stepsRemoved one more; in FREE_RUN and ACQUIRING
clockClass 248 and the Y40 as grandmaster. Fields the spec does not state are free. -/
def State.announceOut (s : State) (i : Nat) : AnnounceMsg :=
  let free (k : Nat) : Nat := Config.freeNat (s.draws + k)
  let rest : AnnounceMsg :=
    ⟨s.ptpDomain, free 0, s.portId i, free 1, free 2, free 3, free 4, free 5, free 6, s.fld Reg.TIME.UTC_OFFSET.S⟩
  match s.fld Reg.TIME.STATE.STATE, s.time.master with
  | 2, some m => { m.msg with source := s.portId i, stepsRemoved := m.msg.stepsRemoved + 1 }
  | 2, none => rest
  | 3, _ => { rest with clockClass := if s.mono < s.time.holdoverFrom + s.fld Reg.TIME.HOLD_CLASS_S.S * 1000000000 then 135 else 165 }
  | _, _ => { rest with clockClass := 248, gmId := s.clockId, stepsRemoved := 0 }

/-- R268: a master port sends an Announce. -/
def announceTransmitStep (i : Nat) (s : State) : State :=
  if s.role i = 2 then
    { s with draws := s.draws + 7 }.sendPtp i (.ptp (s.ownPtp i (.announce (s.announceOut i))))
  else s

def execAnnounceTransmit (i : Nat) (s : State) : Answer := .next (announceTransmitStep i s)

/-! ### Compare units (R263, R264) -/

/-- d of R263: N[47:0] − T as a signed 48-bit value. -/
def cmpDiff (now t : Nat) : Int := toSigned 48 (now % 2 ^ 48 + 2 ^ 48 - t % 2 ^ 48)

/-- R263: ARM rises and the unit latches its target. -/
def armUnit (u : Nat) (s : State) : State :=
  if s.isSet (Reg.TIME_CMP.CTRL.ARM u) then s
  else
    let t := s.fld2 (Reg.TIME_CMP.TARGET_LO.T u) (Reg.TIME_CMP.TARGET_HI.T u)
    (s.setFld (Reg.TIME_CMP.CTRL.ARM u) 1).setTime { s.time with cmp := Assoc.put u t s.time.cmp }

def execCompareArm (u : Nat) (s : State) : Answer := .next (armUnit u s)

/-- R263: an armed unit whose d is 0 or more fires. -/
def fireUnit (u : Nat) (s : State) : State :=
  let t := Assoc.findD (α := Nat) u 0 s.time.cmp
  let d := cmpDiff s.now t
  let p := s.fld (Reg.TIME_CMP.PERIOD_NS.NS u)
  if s.isSet (Reg.TIME_CMP.CTRL.ARM u) && decide (0 ≤ d) then
    let s := s.raiseErr ⟨0x041, 0x20, u, 1⟩
    let s := if s.isSet (Reg.TIME_CMP.CTRL.SIG u) then s.raisePage 0x041 else s
    if s.isSet (Reg.TIME_CMP.CTRL.PERIODIC u) then
      let j := if (p : Int) ≤ d then d.toNat / p + 1 else 1
      let s := if (p : Int) ≤ d then s.raiseErr ⟨0x041, 0x20, 16 + u, 1⟩ else s
      s.setTime { s.time with cmp := Assoc.put u ((t + j * p) % 2 ^ 48) s.time.cmp }
    else s.setFld (Reg.TIME_CMP.CTRL.ARM u) 0
  else s

def execCompareFire (u : Nat) (s : State) : Answer := .next (fireUnit u s)

/-! ### REARM, 1PPS, frequency sources and ESMC (R274, R278–R281) -/

/-- R274: STEP_ARM for the next 16 samples. -/
def rearmStep (s : State) : State :=
  (s.setFld Reg.TIME.STATUS.STEP_ARM 1).setTime { s.time with rearmLeft := some 16 }

def execRearm (s : State) : Answer := .next (rearmStep s)

/-- The offset of an instant from the nearest second, or before time is acquired from the second TOD_SEC names, in 2⁻¹⁷ ns (R280). -/
def State.ppsOffset (s : State) : Int :=
  let sec : Int := 1000000000 * 65536
  if s.isSet Reg.TIME.STATUS.ACQUIRED then
    let r := (s.time.t : Int) % sec
    2 * (if r ≤ sec / 2 then r else r - sec)
  else 2 * ((s.time.t : Int) - s.fld Reg.TIME.TOD_SEC.SEC * sec)

/-- R280: an edge at the 1PPS input; its timestamp lies within ±2 ns, free in that bound. -/
def ppsEdgeStep (s : State) : State :=
  let n := s.now + Config.freeNat s.draws % 5 - 2
  let s := s.drawn.setFlds [(Reg.TIME.PPS_IN_NS.NS, n % 1000000000), (Reg.TIME.PPS_IN_SEC.SEC, n / 1000000000)]
  if s.isSet Reg.TIME.SERVO_CFG.PHASE_SRC && s.slaveIface.isNone then
    let s := if s.fld Reg.TIME.STATE.STATE = 0 then s.enter Reg.TIME.STATE.STATE 1 else s
    s.sample s.ppsOffset
  else s

def execPpsInEdge (s : State) : Answer := .next (ppsEdgeStep s)

/-- R280: an edge 2 s late counts as an Announce timeout. -/
def ppsMissingStep (s : State) : State :=
  if s.isSet Reg.TIME.SERVO_CFG.PHASE_SRC && s.slaveIface.isNone then
    ((s.raiseErr Reg.TIME.ERR.PPS_IN_MISSING).raiseErr Reg.TIME.ERR.ANNOUNCE_TIMEOUT).masterLost
  else s.raiseErr Reg.TIME.ERR.PPS_IN_MISSING

def execPpsInMissing (s : State) : Answer := .next (ppsMissingStep s)

/-- R281: the output rises for a whole second of device time plus PPS_OUT_COMP, once for each. -/
def ppsOutStep (s : State) : State :=
  let k := ((s.now : Int) - toSigned 32 (s.fld Reg.TIME.PPS_OUT_COMP.NS)) / 1000000000
  let on := s.isSet Reg.TIME.PPS_OUT.FORCE || (s.isSet Reg.TIME.PPS_OUT.EN && s.isSet Reg.TIME.STATUS.ACQUIRED)
  if on && !(s.time.ppsMarked == some k) then
    (s.setTime { s.time with ppsMarked := some k }).emit (.pps (s.fld Reg.TIME.PPS_OUT.WIDTH_MS))
  else s

def execPpsOutPulse (s : State) : Answer := .next (ppsOutStep s)

/-- R278: the selected frequency source is lost; the servo takes frequency from PTP. -/
def sourceLost (x : FreqSource) (s : State) : State :=
  match x with
  | .syncE =>
    let s := s.setFld Reg.TIME.STATUS.SYNCE_LOCK 0
    if s.fld Reg.TIME.SERVO_CFG.FREQ_SRC = 1 then s.raiseErr Reg.TIME.ERR.SYNCE_LOST else s
  | .ref10 =>
    let s := s.setFld Reg.TIME.STATUS.REF10_LOCK 0
    if s.fld Reg.TIME.SERVO_CFG.FREQ_SRC = 2 then s.raiseErr Reg.TIME.ERR.REF10_LOST else s

def execFrequencySourceLost (x : FreqSource) (s : State) : Answer := .next (sourceLost x s)

/-- R278: after 10 s of valid signal the source is used again. -/
def sourceRestored (x : FreqSource) (s : State) : State :=
  match x with
  | .syncE => s.setFld Reg.TIME.STATUS.SYNCE_LOCK 1
  | .ref10 => s.setFld Reg.TIME.STATUS.REF10_LOCK 1

def execFrequencySourceRestored (x : FreqSource) (s : State) : Answer := .next (sourceRestored x s)

/-- R279: the QL received on the slave interface. -/
def esmcReceiveStep (ql : Nat) (s : State) : State :=
  if s.slaveIface.isSome then s.setFld Reg.TIME.SYNCE.RX_QL ql else s

def execEsmcReceive (ql : Nat) (s : State) : Answer := .next (esmcReceiveStep ql s)

def State.txSyncE (s : State) (i : Nat) : Bool := s.isSet (Reg.TIME_PORT.CFG.TX_SYNCE (i / 4) (i % 4))

/-- R279: the information PDU, once per second. -/
def esmcInfoStep (i : Nat) (s : State) : State :=
  if s.txSyncE i then s.emit (.esmc i (s.fld Reg.TIME.SYNCE.TX_QL) false) else s

def execEsmcInformationPdu (i : Nat) (s : State) : Answer := .next (esmcInfoStep i s)

/-- R279: the event PDU owed since TX_QL changed. -/
def esmcEventStep (i : Nat) (s : State) : State :=
  if s.txSyncE i && s.time.qlPending.contains i then
    (s.setTime { s.time with qlPending := s.time.qlPending.filter fun x => !Nat.beq x i }).emit
      (.esmc i (s.fld Reg.TIME.SYNCE.TX_QL) true)
  else s

def execEsmcEventPdu (i : Nat) (s : State) : Answer := .next (esmcEventStep i s)

/-- A write of TX_QL: every TX_SYNCE interface owes an event PDU if the value changes (R279). -/
def State.writeTxQl (s : State) (v : Nat) : State :=
  if s.fld Reg.TIME.SYNCE.TX_QL = v % 16 then s
  else (s.setFld Reg.TIME.SYNCE.TX_QL v).setTime { s.time with qlPending := (List.range 64).filter s.txSyncE }

/-! ### The legacy frame counter (R282–R285) -/

/-- LFC_LO and LFC_HI without LATCHED (R283). -/
def State.lfcLo (s : State) : Nat :=
  (s.lfcHeld % 30720).toNat + 65536 * (s.lfcHeld / 30720 % 10).toNat
def State.lfcHi (s : State) : Nat :=
  (s.lfcHeld / 307200 % 1024).toNat + 65536 * (s.lfcHeld / 314572800 % 1024).toNat

/-- R283: a read of LFC_LO latches the high word. -/
def lfcLoStep (who : Issuer) (s : State) : State :=
  s.access who 0x042 true fun s => (s.latch who 0x042 0x104 s.lfcHi).answer who s.lfcLo

def execLfcLoRead (who : Issuer) (s : State) : Answer := .next (lfcLoStep who s)

/-- R283: a read of LFC_HI in the same beat returns the latch with LATCHED = 1; else the live word, and the latch is discarded. -/
def lfcHiStep (who : Issuer) (s : State) : State :=
  s.access who 0x042 true fun s =>
    let live := s.lfcHi
    match s.latched who 0x042 0x104 with
    | some l =>
      let s := s.unlatch who 0x042 0x104
      if l.beat = s.now / s.L then s.answer who (l.val.toNat + 2 ^ 31) else s.answer who live
    | none => s.answer who live

def execLfcHiRead (who : Issuer) (s : State) : Answer := .next (lfcHiStep who s)

/-- R285: LFC_OFFSET can be written only while the radio function is disabled. -/
def lfcOffsetStep (who : Issuer) (w : Word) (s : State) : State :=
  s.access who 0x042 false fun s =>
    if s.fld Reg.RADIO.STATUS.RSTATE = 0 then s.setFld Reg.LFC.LFC_OFFSET.TS w.toNat
    else s.raiseErr Reg.LFC.ERR.OFFSET_IGNORED

def execLfcOffsetWrite (who : Issuer) (w : Word) (s : State) : Answer := .next (lfcOffsetStep who w s)

/-! ### Latched reads of time and beat (R45, R262, R280, R410, R489) -/

/-- R262: a read of NOW_FRAC latches NOW_NS, NOW_SEC_LO and NOW_SEC_HI for its issuer. -/
def nowFracStep (who : Issuer) (s : State) : State :=
  s.access who 0x040 true fun s =>
    let sec := s.now / 1000000000
    let s := ((s.latch who 0x040 0x104 (s.now % 1000000000)).latch who 0x040 0x108 (sec % 2 ^ 32)).latch who 0x040 0x10C (sec / 2 ^ 32 % 2 ^ 16)
    s.answer who (s.time.t % 65536)

def execNowFracRead (who : Issuer) (s : State) : Answer := .next (nowFracStep who s)

/-- N[47:0] and the beat counter, low and high words. -/
def State.now48Lo (s : State) : Nat := s.now % 2 ^ 32
def State.now48Hi (s : State) : Nat := s.now / 2 ^ 32 % 2 ^ 16
def State.beatLo (s : State) : Nat := s.seq.beat % 2 ^ 32
def State.beatHi (s : State) : Nat := s.seq.beat / 2 ^ 32 % 2 ^ 32

/-- The pairs a read of whose low word latches the high word (R489): low value, offset of the high word and its value. -/
def State.latchPair (s : State) (page off : Nat) : Option (Nat × Nat × Nat) :=
  if page = 0x010 ∧ off = 0x110 then some (s.beatLo, 0x114, s.beatHi)
  else if page = 0x040 ∧ off = 0x110 then some (s.now48Lo, 0x114, s.now48Hi)
  else if page = 0x040 ∧ off = 0x170 then some (s.fld Reg.TIME.PPS_IN_NS.NS, 0x174, s.fld Reg.TIME.PPS_IN_SEC.SEC)
  else if isFnPage page = true ∧ off = 0x1A0 then some (s.beatLo, 0x1A4, s.beatHi)
  else if isFnPage page = true ∧ off = 0x1A8 then some (s.now48Lo, 0x1AC, s.now48Hi)
  else none

/-- R489: a read of a latching word. -/
def latchReadStep (who : Issuer) (page off : Nat) (s : State) : State :=
  match s.latchPair page off with
  | none => s
  | some (_, ho, _) =>
    s.access who page true fun s =>
      match s.latchPair page off with
      | some (lo, _, hi) => (s.latch who page ho hi).answer who lo
      | none => s

def execLatchRead (who : Issuer) (page off : Nat) (s : State) : Answer := .next (latchReadStep who page off s)

/-- R489: a read of a latched high word, named by its own offset, four bytes after its low word. -/
def latchedHighStep (who : Issuer) (page off : Nat) (s : State) : State :=
  match s.latchPair page (off - 4) with
  | none => s
  | some (_, _, hi) => s.access who page true fun s => s.readLatched who page off hi

def execLatchedHighRead (who : Issuer) (page off : Nat) (s : State) : Answer := .next (latchedHighStep who page off s)

end Sys2Proof.Machine
end

