-- ==== Sys2Proof/Machine/Fronthaul.lean ====
section
/-!
DEFINITION. The fronthaul's commands (R231–R259): links, egress frames and their scheduler, received frames and symbols, the delay responder; and
the checks of the RU and shaper tables.
-/
namespace Sys2Proof.Machine

/-! ### Links (R234) -/

/-- R234: an interface loses its link: the frame in transmission is cut off, queued frames are discarded. Uplink symbols due through it can no
longer arrive, and so stay incomplete for R214. -/
def linkLost (i : Nat) (s : State) : State :=
  if s.ifUp i then
    let k := s.iface i
    let p := ifPort i
    let s := s.setIface i { k with frames := [], sending := none }
    let s := s.countSat (Reg.FH_PORT.LINK_DROP.COUNT p) k.frames.length
    let up := s.fld (Reg.FH_PORT.LINK.UP p)
    (s.setFld (Reg.FH_PORT.LINK.UP p) (putBits up (ifLane i) 1 0)).portErr (Reg.FH_PORT.ERR.LINK_DOWN p)
  else s

/-- R234, R272: an interface's link goes down; with it, on the slave interface, the master. -/
def ifaceDown (i : Nat) (s : State) : State := if s.ifUp i then (linkLost i s).slaveDown i else s

def execInterfaceLinkDown (i : Nat) (s : State) : Answer := .next (ifaceDown i s)

/-- R234: an interface's link comes up. -/
def linkRaised (i : Nat) (s : State) : State :=
  if s.ifExists i then
    let f := Reg.FH_PORT.LINK.UP (ifPort i)
    s.setFld f (putBits (s.fld f) (ifLane i) 1 1)
  else s

def execInterfaceLinkUp (i : Nat) (s : State) : Answer := .next (linkRaised i s)

/-! ### Egress (R240, R245–R249) -/

/-- What stands in front of the eCPRI messages of an interface to an RU, for a service of R245 (R232, R233, R236). -/
def State.frameHead (s : State) (i : Nat) (e : List Byte) (service : Nat) : FrameHead :=
  let p := ifPort i
  let pcp := s.fld (match service with
    | 0 => Reg.FH_PORT.PCP.S p | 1 => Reg.FH_PORT.PCP.C p | 2 => Reg.FH_PORT.PCP.U p | _ => Reg.FH_PORT.PCP.M p)
  let v6 := s.isSet (Reg.FH_PORT.PORT_CFG.IPV6 p)
  { dst := ruMac e, src := s.ifMac i
    tag := if s.isSet (Reg.FH_PORT.PORT_CFG.VLAN p) then some (8192 * pcp + s.fld (Reg.FH_PORT.VID.VID p)) else none
    udp := if s.isSet (Reg.FH_PORT.PORT_CFG.UDP p) then some (v6, s.ifIp i, ruIp e v6, s.fld (Reg.FH_PORT.UDP_PORT.PORT p)) else none }

/-- A frame is queued on the leaf of its RU's SUB and its service; a leaf that holds nothing discards it into LINK_DROP (R245, R251, R254). -/
def State.queueRu (s : State) (i : Nat) (e : List Byte) (service : Nat) (limit : Option Nat) (b : List Byte) : State :=
  if s.leafHolds i (ruSub e) service then s.queueFrame i ⟨0, ruSub e, service, max 64 (b.length + 4), limit, .bytes b⟩
  else s.countSat (Reg.FH_PORT.LINK_DROP.COUNT (ifPort i)) 1

/-- One eCPRI message of an RU's stream goes out under the next SEQ_ID of its eAxC (R235). -/
def State.queueMsg (s : State) (i ru stream : Nat) (e : List Byte) (service type limit : Nat) (msg : List Byte) : State :=
  let pcId := (ruEaxc e + stream) % 65536
  let key := 65536 * ru + pcId
  let q := Assoc.findD (α := Nat) key 0 s.fh.seqTx
  let frame := (s.frameHead i e service).frame s.draws (ecpriMsg type pcId q msg)
  let s := { s with draws := s.draws + 3, fh := { s.fh with seqTx := Assoc.put key ((q + 1) % 256) s.fh.seqTx } }
  s.queueRu i e service (some limit) frame

/-- Where a symbol of a cell stands. -/
def symbolAt (e : List Byte) (start symbol : Nat) : SymbolAt := ⟨sfnOf start, slotOf e start, symbol⟩

/-- The messages of a plane for a symbol of a stream, and the mantissas that saturated (R237, R242–R244). A slot that transmits nothing, and one
without uplink, has none. -/
def State.messages (s : State) (cell stream start symbol : Nat) (plane : Plane) (i : Nat) (e : List Byte) : List (List Byte) × Nat :=
  let c := cellEntry s.radio.image cell
  let p5 := cellP5 s.radio.image c
  let at_ := symbolAt c start symbol
  let tx := s.slotTx cell start
  let up := s.ulPdus cell start
  let room (service : Nat) : Nat := s.fld Reg.FH.MAX_FRAME.BYTES - (s.frameHead i e service).len - 12
  let control (down : Bool) (pdus : List Pdu) : List (List Byte) :=
    if pdus.isEmpty then []
    else (((Config.cSections c p5 (!down) pdus at_ stream).filter fun x => sectionSent x (cellCatB c) (Nat.beq (ruDlComp e) 4)).map
      (cMessage down e (cellMu c) at_)).filter fun m => Nat.ble m.length (room 1)
  match plane with
  | .cDown => (control true tx.pdus, 0)
  | .cUp => (control false up, 0)
  | .uDown =>
    if tx.pdus.isEmpty then ([], 0)
    else uMessages (room 2) e (cellMu c) at_ ((List.range (cellPrbs c)).map fun k => (k, Config.dlPrb c p5 tx at_ stream k))
  | .mPlane _ => ([], 0)

/-- The service of a plane (R245), and its eCPRI message type (R235). -/
def planeService : Plane → Nat
  | .cDown => 1 | .cUp => 1 | .uDown => 2 | .mPlane _ => 3
def planeType : Plane → Nat
  | .uDown => 0 | _ => 2

/-- An M-plane frame of the host with the tag of its port (R232, R237). -/
def FrameHead.tagged (h : FrameHead) (b : List Byte) : List Byte :=
  b.take 12 ++ h.tag.elim [] (fun t => beBytes 2 0x8100 ++ beBytes 2 t) ++ b.drop 12

/-- R240: the frames of a symbol of a stream reach their first instant and are queued. A cell without a valid RU entry transmits nothing (R239), nor
does an interface whose link is down (R234). -/
def frameReady (cell stream : Nat) (plane : Plane) (start symbol : Nat) (s : State) : State :=
  let c := cellEntry s.radio.image cell
  let ru := cellRu c
  let e := ruEntry s.fh.ru ru
  let i := ruIface e
  if !s.radioOn || !Nat.blt cell (cellCount s.radio.image) || !ruValid e || !Nat.beq (start % slotNs c) 0 || !Nat.blt symbol 14 ||
      !Nat.blt stream (s.ruStreams ru) then s
  else
    let t := airTime c start symbol
    let (first, last) := match plane with
      | .uDown => (t - ruMaxUp e, t - ruMinUp e)
      | .mPlane _ => (0, 0)
      | _ => (t - ruMaxCp e, t - ruMinCp e)
    let s := s.advanceTo first
    if !s.ifUp i then s
    else match plane with
      | .mPlane b =>
        let b := (s.frameHead i e 3).tagged b
        if Nat.ble (b.length + 4) (s.fld Reg.FH.MAX_FRAME.BYTES) then s.queueRu i e 3 none b else s
      | plane =>
        let (msgs, sat) := s.messages cell stream start symbol plane i e
        let s := if sat = 0 then s
          else (s.countSat (Reg.FH_PORT.BFP_SAT.COUNT (ifPort i)) sat).portErr (Reg.FH_PORT.ERR.BFP_SAT (ifPort i))
        msgs.foldl (fun s m => s.queueMsg i ru stream e (planeService plane) (planeType plane) last m) s

def execFrameEligible (cell stream : Nat) (plane : Plane) (start symbol : Nat) (s : State) : Answer :=
  .next (frameReady cell stream plane start symbol s)

/-- Discard the frames at the heads of their leaves whose start limit has passed: at `now` itself too if `hit` (R240). -/
def lateHeads (now : Nat) (hit : Bool) : List TxFrame → List (Nat × Nat) → List TxFrame × Nat
  | [], _ => ([], 0)
  | f :: r, blocked =>
    let late := f.limit.any fun l => Nat.blt l now || (hit && Nat.beq l now)
    if late && !blocked.contains (f.sub, f.service) then
      let x := lateHeads now hit r blocked
      (x.1, x.2 + 1)
    else
      let x := lateHeads now hit r ((f.sub, f.service) :: blocked)
      (f :: x.1, x.2)

/-- R240: late frames leave an interface's queues. -/
def State.dropLate (s : State) (i : Nat) (hit : Bool) : State :=
  let k := s.iface i
  let (left, n) := lateHeads s.now hit k.frames []
  if n = 0 then s
  else ((s.setIface i { k with frames := left }).countSat (Reg.FH_PORT.DL_LATE.COUNT (ifPort i)) n).portErr (Reg.FH_PORT.ERR.DL_LATE (ifPort i))

/-- R240: a queued frame reaches its start limit. -/
def startLimit (i id : Nat) (s : State) : State :=
  match (s.iface i).frames.find? fun f => Nat.beq f.id id with
  | none => s
  | some f => f.limit.elim s fun l => (s.advanceTo l).dropLate i true

def execFrameStartLimit (i id : Nat) (s : State) : Answer := .next (startLimit i id s)

/-- OVERHEAD of a port, signed (R246). -/
def State.overhead (s : State) (p : Nat) : Int := toSigned 9 (s.fld (Reg.FH_PORT.OVERHEAD.BYTES p))

/-- The heads of an interface's leaves, oldest frame of each (R242, R245). -/
def headFrames : List TxFrame → List (Nat × Nat) → List TxFrame
  | [], _ => []
  | f :: r, seen => if seen.contains (f.sub, f.service) then headFrames r seen else f :: headFrames r ((f.sub, f.service) :: seen)

/-- R248: the interface can start a frame: the head that the passes pick leaves; deficits are reset though none is picked (R249). -/
def frameSend (i raw : Nat) (s : State) : State :=
  if !s.ifUp i then s
  else
    let s := s.dropLate i false
    let k := s.iface i
    let heads := headFrames k.frames []
    let hs := heads.map fun f => (⟨f.sub, f.service, counted f.length (s.overhead (ifPort i))⟩ : Head)
    let r := k.sched.pick (s.mono / 8) hs
    match r.1.bind fun h => heads.find? fun f => Nat.beq f.sub h.sub && Nat.beq f.service h.svc with
    | none => s.setIface i { k with sched := r.2 }
    | some f =>
      let s := s.setIface i { k with frames := k.frames.erase f, sending := some f, sched := r.2 }
      (s.countSat (Reg.FH_PORT.TX_FRAMES.COUNT (ifPort i)) 1).leave i raw f

def execFrameTransmit (i raw : Nat) (s : State) : Answer := .next (frameSend i raw s)

/-! ### Ingress (R232, R233, R235, R236, R241, R243) -/

/-- A destination address the interface takes: its own, or for PTP one of the two of R266. -/
def State.takesDst (s : State) (i : Nat) (f : RxFrame) : Bool :=
  Nat.beq f.dst (s.ifMac i) || (f.ptp && (Nat.beq f.dst 0x011B19000000 || Nat.beq f.dst 0x0180C200000E))

/-- Is the frame's transport what the port uses (R235, R236)? -/
def State.transportOk (s : State) (i : Nat) (f : RxFrame) : Bool :=
  let p := ifPort i
  (f.udp == s.isSet (Reg.FH_PORT.PORT_CFG.UDP p)) &&
    (!f.udp || ((f.ipv6 == s.isSet (Reg.FH_PORT.PORT_CFG.IPV6 p)) && Nat.beq f.udpPort (s.fld (Reg.FH_PORT.UDP_PORT.PORT p)) &&
      (if f.ipv6 then f.udpSumOk else !f.fragment)))

/-- The RU of a received frame, with its entry (R241). -/
def State.matchRu (s : State) (i : Nat) (f : RxFrame) : Option (Nat × List Byte) :=
  ((List.range 256).map fun r => (r, ruEntry s.fh.ru r)).find? fun x =>
    ruValid x.2 && Nat.beq (ruIface x.2) i &&
      (if f.udp then Nat.beq (ruIp x.2 f.ipv6) f.srcIp else Nat.beq (ruMac x.2) f.srcMac) &&
      Nat.ble (ruEaxc x.2) f.eaxc && Nat.blt f.eaxc (ruEaxc x.2 + s.ruStreams x.1)

/-- The frame nearest to `t` whose number modulo 256 is `id`, as the device time of its start. -/
def frameNear (t id : Nat) : Nat :=
  let f := t / 10000000
  let d := (id + 256 - f % 256) % 256
  (if d < 128 then f + d else f + d - 256) * 10000000

/-- The slot start of a received symbol of a cell. -/
def rxStart (f : RxFrame) (e : List Byte) : Nat := frameNear f.arrival f.frameId + f.slot * slotNs e

/-- Has every PRB of a symbol arrived on every antenna of the cell (R241)? -/
def State.symbolWhole (s : State) (cell start symbol : Nat) : Bool :=
  let e := cellEntry s.radio.image cell
  let streams := if cellCatB e then cellUl e else cellAnt e
  let have_ := s.fh.received.filter fun r => Nat.beq r.cell cell && Nat.beq r.start start && Nat.beq r.symbol symbol
  (List.range streams).all fun a => (List.range (cellPrbs e)).all fun k => have_.any fun r => Nat.beq r.stream a && Nat.beq r.prb k

/-- Mean energy per resource element over the resource elements that a test picks, of a symbol on every antenna: sum and count. -/
def State.energy (s : State) (cell start : Nat) (pick : Nat → Nat → Nat → Bool) : Nat × Nat :=
  (s.fh.received.filter fun r => Nat.beq r.cell cell && Nat.beq r.start start).foldl (fun acc r =>
    let es := ((List.range 12).filter fun k => pick r.symbol r.prb k).map fun k =>
      (r.samples.getD (2 * k) 0).natAbs ^ 2 + (r.samples.getD (2 * k + 1) 0).natAbs ^ 2
    (acc.1 + es.sum, acc.2 + es.length)) (0, 0)

/-- R214: when the first DMRS symbol of an allocation has been received, its mean energy per resource element is latched, once. -/
def State.latchPower (s : State) (cell start symbol : Nat) : State :=
  if !s.symbolWhole cell start symbol then s
  else (s.ulPdus cell start).foldl (fun s p =>
    match p with
    | .pusch p =>
      if p.dmrsSymbol = symbol ∧ !s.radio.latched.any fun l => Nat.beq l.cell cell && Nat.beq l.start start && Nat.beq l.rnti p.rnti then
        let m := s.energy cell start fun y b k => Nat.beq y symbol && Nat.ble p.prb0 b && Nat.blt b (p.prb0 + p.prbs) && p.dmrsMask.testBit k
        let v := quarterDb s.draws m.1 (m.2 * 2 ^ 30)
        { s.drawn with radio := { s.radio with latched := s.radio.latched ++ [⟨cell, start, p.rnti, v⟩] } }
      else s
    | _ => s) s

/-- R241, R243: a U-plane frame matched to an RU is accepted within its window, decompressed, and its PRBs are kept for their symbol. -/
def State.takeIq (s : State) (i : Nat) (f : RxFrame) (ru : Nat) (e : List Byte) : State :=
  let p := ifPort i
  let key := 65536 * ru + f.eaxc
  let gap := (Assoc.find key s.fh.seqRx).any fun q => !Nat.beq q f.seqId
  let s := { s with fh := { s.fh with seqRx := Assoc.put key ((f.seqId + 1) % 256) s.fh.seqRx } }
  let s := if gap then s.countSat (Reg.FH_PORT.RX_UNKNOWN.COUNT p) 1 else s
  let cells := s.cellsIn.filter fun x => Nat.beq (cellRu x.2) ru
  let t := (cells.head?.map fun x => airTime x.2 (rxStart f x.2) f.symbol).getD 0
  if f.arrival < t + ruTa4Min e ∨ t + ruTa4Max e < f.arrival then
    (s.countSat (Reg.FH_PORT.UL_LATE.COUNT p) 1).portErr (Reg.FH_PORT.ERR.UL_LATE p)
  else
    let dec : List (List Int × Nat) := f.prbs.map fun b => if ruUlComp e = 1 then bfpDecode (ruUlIqw e) b else (plainDecode b, 0)
    let sat : Nat := (dec.map fun x => x.2).sum
    let s := if sat = 0 then s else (s.countSat (Reg.FH_PORT.BFP_SAT.COUNT p) sat).portErr (Reg.FH_PORT.ERR.BFP_SAT p)
    cells.foldl (fun s c =>
      let start := rxStart f c.2
      let new := dec.zipIdx.map fun x => (⟨c.1, start, f.symbol, f.eaxc - ruEaxc e, f.startPrb + x.2, x.1.1⟩ : RxPrb)
      ({ s with fh := { s.fh with received := s.fh.received ++ new } }).latchPower c.1 start f.symbol) s

/-- A frame is received. The PTP messages that have a command of their own come by that command alone; another PTP frame is discarded, and counted
where the interface has no role (R266, R267). An M-plane frame goes to the host (R237). -/
def frameArrive (i : Nat) (f : RxFrame) (s : State) : State :=
  let p := ifPort i
  let s := s.advanceTo f.arrival
  let unknown (s : State) : State := s.countSat (Reg.FH_PORT.RX_UNKNOWN.COUNT p) 1
  if !s.ifUp i then s
  else if !f.fecOk then (s.countSat (Reg.FH_PORT.FEC_UNCORR.COUNT p) 1).portErr (Reg.FH_PORT.ERR.FEC_UNCORR p)
  else
    let s := s.countSat (Reg.FH_PORT.RX_FRAMES.COUNT p) 1
    if !f.fcsOk then s.countSat (Reg.FH_PORT.RX_FCS_ERR.COUNT p) 1
    else if f.length < 64 ∨ s.fld Reg.FH.MAX_FRAME.BYTES < f.length ∨ f.pause ∨ !s.takesDst i f then unknown s
    else if f.ptp then (if s.role i = 0 then unknown s else s)
    else if f.mPlane then s.emit (.mPlane i f.content)
    else if (f.tagged != s.isSet (Reg.FH_PORT.PORT_CFG.VLAN p)) || !s.transportOk i f || f.concat || !f.eBit then unknown s
    else if f.msgType = 5 then s
    else if f.msgType ≠ 0 then unknown s
    else match s.matchRu i f with
      | none => unknown s
      | some (ru, e) => s.takeIq i f ru e

def execFrameReceive (i : Nat) (f : RxFrame) (s : State) : Answer := .next (frameArrive i f s)

/-- R235: a one-way delay measurement request is answered. -/
def delayAnswer (i id t1 correction : Nat) (s : State) : State := if s.ifUp i then s.emit (.ecpri i id t1 s.now correction) else s

def execEcpriDelayRequest (i id t1 correction : Nat) (s : State) : Answer := .next (delayAnswer i id t1 correction s)

/-! ### The checks of RU and shaper tables (R239, R244, R252, R256) -/

/-- The bytes of the RU table that the shadow names. -/
def State.ruImage (s : State) (a : Nat) : List Byte := s.rdBytes a 16384

/-- Is [a, a + len) in the GDDR7 region of a cocoon? -/
def State.inRegion (s : State) (c a len : Nat) : Bool := s.region a == .gddr && s.inExtent c a len

/-- The first failed condition of an RU table (R239, R244, R256, R259). -/
def State.ruReason (s : State) (a : Nat) (b : List Byte) : Option Nat :=
  let es := ((List.range 256).map fun r => (r, ruEntry b r)).filter fun x => ruValid x.2
  let cells := s.cellsIn ++ s.radio.next.elim [] fun i => (List.range (cellCount i)).map fun c => (c, cellEntry i c)
  let tests : List (Bool × Nat) := [
    (es.any fun x =>
      ! [0, 1, 4].contains (ruDlComp x.2) || ! [0, 1, 4].contains (ruUlComp x.2) || Nat.beq (ruDlIqw x.2) 0 || Nat.blt 16 (ruDlIqw x.2) ||
        Nat.beq (ruUlIqw x.2) 0 || Nat.blt 16 (ruUlIqw x.2), 0x0180),
    (es.any fun x => Nat.beq (ruUlComp x.2) 4 ||
      (Nat.beq (ruDlComp x.2) 4 && cells.any fun c => Nat.beq (cellRu c.2) x.1 && !cellCatB c.2), 0x0282),
    (s.radioOn && cells.any fun c => ruValid (ruEntry s.fh.ru (cellRu c.2)) && !ruValid (ruEntry b (cellRu c.2)), 0x0380),
    (!s.inRegion 1 a 16384, 0x0381),
    (es.any fun x => !s.ifExists (ruIface x.2), 0x0880)]
  (tests.find? fun t => t.1).map fun t => t.2

/-- The bytes of a shaper table at an address, as far as its counts and IMAGE_LEN can go. -/
def State.shpImage (s : State) (a : Nat) : List Byte := s.rdBytes a (max 64 (min 0x220000 (s.rd (a + 12) 4)))

/-- The shaper check of a port page, with MODE as it will be (R252, R253). -/
def State.portReason (s : State) (mode a : Nat) (b : List Byte) : Option Nat :=
  shaperReason b (if mode = 1 then 400000 else 100000) (if mode = 2 then 4 else 1) [(0, 0), (1, 1)] (s.inRegion 1 a (max 64 (fieldAt b 12 4)))

/-- R254: a shaper table takes effect on an interface; frames of nodes that hold nothing any more are discarded into LINK_DROP. -/
def State.installShaper (s : State) (i : Nat) (b : List Byte) : State :=
  let k := s.iface i
  let s := s.setIface i { k with sched := k.sched.install b (s.mono / 8) }
  let keep := k.frames.filter fun f => s.leafHolds i f.sub f.service
  let gone := k.frames.length - keep.length
  if gone = 0 then s else (s.setIface i { s.iface i with frames := keep }).countSat (Reg.FH_PORT.LINK_DROP.COUNT (ifPort i)) gone

/-- Some cell in force has an RU without a valid entry in the table in force (R239). -/
def State.noRu (s : State) : State :=
  if s.radioOn && s.cellsIn.any fun c => !ruValid (ruEntry s.fh.ru (cellRu c.2)) then s.raiseErr Reg.FH.ERR.NO_RU else s

end Sys2Proof.Machine
end

