-- ==== Sys2Proof/Machine/Silk.lean ====
section
/-!
DEFINITION. The commands of the silk links (R351–R382): wavelengths and spares, training, flits with retry and credits, remote requests and
responses, segments; and the check of a fabric image (R365).
-/
namespace Sys2Proof.Machine

def SilkLink.fresh : SilkLink := ⟨Retry.fresh, [], [], [], [], 0, Scheduler.fresh, [], [], [], false, false, 0⟩
def State.silkLink (s : State) (l : Nat) : SilkLink := Assoc.findD l SilkLink.fresh s.silk.links
def State.setSilkLink (s : State) (l : Nat) (k : SilkLink) : State := { s with silk := { s.silk with links := Assoc.put l k s.silk.links } }

def State.linkState (s : State) (l : Nat) : Nat := s.fld (Reg.SILK_LINK.STATE.STATE l)

/-- Do flits move on the link: ACTIVE, DEGRADED or MISWIRED, with no switch to a spare fibre pair under way (R354, R355)? -/
def State.linkMoves (s : State) (l : Nat) : Bool := [2, 3, 4].contains (s.linkState l) && !(s.silkLink l).switching

/-! ### Ends of operations at their issuer (R374, R380) -/

/-- End the remote operation with a tag by `f`, if it is outstanding. -/
def State.endRemote (s : State) (n tag : Nat) (f : State → RemoteOp → State) : State :=
  match (s.core n).remotes.find? fun r => Nat.beq r.tag tag with
  | none => s
  | some r => f (s.setCore n { s.core n with remotes := (s.core n).remotes.filter fun x => !Nat.beq x.tag tag }) r

/-- End the copy with an id with an error KIND, if it is outstanding. -/
def State.endCopy (s : State) (n id kind : Nat) : State :=
  match (s.core n).copies.find? fun x => Nat.beq x.id id with
  | none => s
  | some x => (s.dropCopy n id).copyErr n x.slot kind

/-- The operations outstanding to devices that satisfy `p`: core, tag, and whether it is a copy. -/
def State.outstanding (s : State) (p : Nat → Bool) : List (Nat × Nat × Bool) :=
  let me := s.deviceId
  let far (a : Nat) : Bool := !Nat.beq (deviceOf a) me && p (deviceOf a)
  s.cores.flatMap fun c => ((c.2.remotes.filter fun r => p r.dst).map fun r => (c.1, r.tag, false)) ++
    (c.2.copies.filter fun x => far x.src || far x.dst).map fun x => (c.1, x.id, true)

/-- End one of them with an error KIND. -/
def State.endOp (s : State) (x : Nat × Nat × Bool) (kind : Nat) : State :=
  if x.2.2 then s.endCopy x.1 x.2.1 kind else s.endRemote x.1 x.2.1 fun s r => s.remoteErr x.1 r kind

/-! ### A link goes down (R360) -/

/-- Requests whose flits a replay buffer that is absorbed held end with KIND 0x02; which of those under way that way it held is free. -/
def State.absorbLink (s : State) (l : Nat) : State :=
  if (s.silkLink l).retry.unacked = 0 then s
  else (s.outstanding fun d => (s.usableLinks d).contains l).foldl (fun s x =>
    let b := Config.freeBool s.draws
    if b then s.drawn.endOp x 2 else s.drawn) s

/-- Has the link no working engine: its own failed, and it is on no spare? -/
def State.noEngine (s : State) (l : Nat) : Bool := (s.silkLink l).engineBad && !s.isSet (Reg.SILK_LINK.LAMBDA.FIBRE_SPARE l)

/-- R360: the link goes DOWN; it retrains while enabled, and without an engine it is FAILED. -/
def State.downLink (s : State) (l : Nat) : State :=
  let n := s.fld (Reg.SILK_LINK.NEIGHBOUR.ID l)
  let k := s.silkLink l
  let s := (s.absorbLink l).setSilkLink l { SilkLink.fresh with sched := k.sched, engineBad := k.engineBad, beats := k.beats }
  let s := s.setFlds [(Reg.SILK_LINK.LAMBDA.TX l, 0), (Reg.SILK_LINK.LAMBDA.RX l, 0), (Reg.SILK_LINK.RATE.GBPS l, 0)]
  let s := ((s.enter (Reg.SILK_LINK.STATE.STATE l) 0).raiseErr (Reg.SILK_LINK.ERR.LINK_DOWN l)).scoreDown n 64
  if s.noEngine l then s.enter (Reg.SILK_LINK.STATE.STATE l) 5
  else if s.isSet (Reg.SILK_LINK.CFG.EN l) then s.enter (Reg.SILK_LINK.STATE.STATE l) 1
  else s

/-- LINK_DOWN: loss of light. -/
def linkDown (l : Nat) (s : State) : State := if [1, 2, 3, 4].contains (s.linkState l) then s.downLink l else s

def execLinkDown (link : Nat) (s : State) : Answer := .next (linkDown link s)

/-! ### Wavelengths (R353) -/

/-- LAMBDA of a direction, and the wavelengths of it that have failed. -/
def lambdaFld (l : Nat) (rx : Bool) : Fld := if rx then Reg.SILK_LINK.LAMBDA.RX l else Reg.SILK_LINK.LAMBDA.TX l
def SilkLink.bad (k : SilkLink) (rx : Bool) : List Nat := if rx then k.badRx else k.badTx

/-- The wavelengths that carry traffic in a direction, and the working ones that do not. -/
def State.carriers (s : State) (l : Nat) (rx : Bool) : List Nat := [0, 1, 2].filter (s.fld (lambdaFld l rx)).testBit
def State.spares (s : State) (l : Nat) (rx : Bool) : List Nat :=
  [0, 1, 2].filter fun w => !(s.fld (lambdaFld l rx)).testBit w && !((s.silkLink l).bad rx).contains w

/-- Keep one wavelength of a direction in use; where two work, which one is free. -/
def State.keepOne (s : State) (l : Nat) (rx : Bool) : State :=
  match (s.carriers l rx).filter fun w => !((s.silkLink l).bad rx).contains w with
  | a :: b :: _ =>
    let w := if Config.freeBool s.draws then a else b
    s.drawn.setFld (lambdaFld l rx) (2 ^ w)
  | [a] => s.setFld (lambdaFld l rx) (2 ^ a)
  | [] => s

/-- R353: a wavelength that carries traffic fails. -/
def wavelengthFail (l : Nat) (rx : Bool) (w : Nat) (s : State) : State :=
  if ! [2, 3, 4].contains (s.linkState l) || !(s.carriers l rx).contains w || ((s.silkLink l).bad rx).contains w then s
  else
    let k := s.silkLink l
    let s := s.setSilkLink l (if rx then { k with badRx := w :: k.badRx } else { k with badTx := w :: k.badTx })
    let lock := s.fld (Reg.SILK_LINK.RING.LOCK l)
    let held := if Config.freeBool s.draws then 1 else 0
    let s := if rx then s.drawn.setFld (Reg.SILK_LINK.RING.LOCK l) (putBits lock w 1 held) else s
    if !(s.spares l rx).isEmpty then s
    else if (s.carriers l rx).all fun x => ((s.silkLink l).bad rx).contains x then s.downLink l
    else
      let s := ((s.keepOne l true).keepOne l false).setFld (Reg.SILK_LINK.RATE.GBPS l) 400
      let s := if s.linkState l = 4 then s else s.enter (Reg.SILK_LINK.STATE.STATE l) 3
      s.raiseErr (Reg.SILK_LINK.ERR.DEGRADED l)

def execWavelengthFail (link : Nat) (rx : Bool) (lambda : Nat) (s : State) : Answer := .next (wavelengthFail link rx lambda s)

/-- R353: the move of a failed wavelength's share to the spare completes. -/
def spareSwitchDone (l : Nat) (rx : Bool) (s : State) : State :=
  match (s.carriers l rx).filter fun w => ((s.silkLink l).bad rx).contains w, s.spares l rx with
  | w :: _, v :: _ =>
    let m := s.fld (lambdaFld l rx)
    let s := s.setFld (lambdaFld l rx) (putBits (putBits m w 1 0) v 1 1)
    (s.countMod (Reg.SILK_LINK.SPARE_SWITCHES.COUNT l) 1).raiseErr (Reg.SILK_LINK.ERR.SPARE_USED l)
  | _, _ => s

def execSpareSwitchDone (link : Nat) (rx : Bool) (s : State) : Answer := .next (spareSwitchDone link rx s)

/-! ### Spare fibre pairs (R354) -/

/-- The optical engines of O-die d: links 0–31 of it by engine 36d to 36d + 31, its spare fibre pair k by 36d + 32 + k. -/
def linkEngine (l : Nat) : Nat := 36 * (l / 32) + l % 32
def spareEngine (d k : Nat) : Nat := 36 * d + 32 + k

/-- The spare fibre pairs of a link's O-die that work and serve no link. -/
def State.freePairs (s : State) (l : Nat) : List Nat :=
  let d := l / 32
  (List.range 4).filter fun k => !s.boot.defects.contains (Defect.optical (spareEngine d k)) &&
    !(List.range 32).any fun j =>
      let x := 32 * d + j
      (s.isSet (Reg.SILK_LINK.LAMBDA.FIBRE_SPARE x) || (s.silkLink x).switching) && Nat.beq (s.fld (Reg.SILK_LINK.LAMBDA.SPARE_INDEX x)) k

/-- R354: a link's optical engine fails. -/
def opticalEngineFail (l : Nat) (s : State) : State :=
  if ! [1, 2, 3, 4].contains (s.linkState l) || (s.silkLink l).switching then s
  else
    let used := s.isSet (Reg.SILK_LINK.LAMBDA.FIBRE_SPARE l)
    let unit := if used then spareEngine (l / 32) (s.fld (Reg.SILK_LINK.LAMBDA.SPARE_INDEX l)) else linkEngine l
    let s := { s with boot := { s.boot with defects := s.boot.defects ++ [Defect.optical unit] } }
    let s := s.setSilkLink l { s.silkLink l with engineBad := true }
    let s := s.setFld (Reg.SILK_LINK.LAMBDA.FIBRE_SPARE l) 0
    match s.isSet (Reg.SILK_LINK.CFG.SPARE_FIBRE l), s.freePairs l with
    | true, k :: _ => (s.setFld (Reg.SILK_LINK.LAMBDA.SPARE_INDEX l) k).setSilkLink l { s.silkLink l with switching := true }
    | true, [] => (s.raiseErr (Reg.SILK_LINK.ERR.NO_SPARE l)).downLink l
    | false, [] => (s.raiseErr (Reg.SILK_LINK.ERR.NO_SPARE l)).downLink l
    | false, _ => s.downLink l

def execOpticalEngineFail (link : Nat) (s : State) : Answer := .next (opticalEngineFail link s)

/-- R354: the switch to a spare fibre pair completes; flits not acknowledged are replayed (R358). -/
def spareFibreSwitchDone (l : Nat) (s : State) : State :=
  let k := s.silkLink l
  if !k.switching then s
  else
    let s := s.setSilkLink l { k with switching := false, badTx := [], badRx := [] }
    let s := s.setFld (Reg.SILK_LINK.LAMBDA.FIBRE_SPARE l) 1
    let s := if k.retry.unacked = 0 then s else s.countSat (Reg.SILK_LINK.RETRIES.COUNT l) 1
    (s.countMod (Reg.SILK_LINK.SPARE_SWITCHES.COUNT l) 1).raiseErr (Reg.SILK_LINK.ERR.SPARE_USED l)

def execSpareFibreSwitchDone (link : Nat) (s : State) : Answer := .next (spareFibreSwitchDone link s)

/-! ### Training (R355, R363) -/

/-- NEIGHBOUR of the link's group in the image in force. -/
def State.expected (s : State) (l : Nat) : Option Nat :=
  (((List.range 64).map fun g => fabOff s.silk.fabric 1 + 16 * g).find? fun a =>
    (fieldAt s.silk.fabric (a + 10) 1).testBit 0 && (fieldAt s.silk.fabric a 8).testBit l).map fun a => fieldAt s.silk.fabric (a + 8) 2

/-- Training ends well: which two wavelengths of each direction carry traffic is free. -/
def State.linkUpTrained (s : State) (l nb far rtt : Nat) : State :=
  let a := Config.freeNat s.draws % 3
  let b := Config.freeNat (s.draws + 1) % 3
  let s := s.drawn.drawn.setFlds [(Reg.SILK_LINK.NEIGHBOUR.ID l, nb), (Reg.SILK_LINK.NEIGHBOUR.LINK l, far), (Reg.SILK_LINK.RTT_NS.NS l, rtt),
    (Reg.SILK_LINK.LAMBDA.TX l, putBits 7 a 1 0), (Reg.SILK_LINK.LAMBDA.RX l, putBits 7 b 1 0), (Reg.SILK_LINK.RING.LOCK l, 7),
    (Reg.SILK_LINK.RATE.GBPS l, 800)]
  let k := s.silkLink l
  let s := s.setSilkLink l { k with badTx := [], badRx := [], retry := { k.retry with naks := 0 } }
  let wrong := (s.expected l).any fun x => !Nat.beq x nb
  let same := Nat.beq nb s.deviceId
  let s := s.enter (Reg.SILK_LINK.STATE.STATE l) (if wrong || same then 4 else 2)
  let s := if wrong then s.raiseErr (Reg.SILK_LINK.ERR.MISWIRED l) else s
  if same then s.raiseErr Reg.SILK.ERR.ID_CONFLICT else s

/-- R355: training ends. One that fails, or meets an RTT beyond 100,000 ns, leaves the link DOWN; at instar 4 it stays so (R441). -/
def linkTrainingDone (l : Nat) (ok : Bool) (nb far rtt : Nat) (s : State) : State :=
  if s.linkState l ≠ 1 then s
  else if ok && Nat.ble rtt 100000 then s.linkUpTrained l nb far rtt
  else if s.fld Reg.BOOT.STATE.INSTAR < 5 then s.enter (Reg.SILK_LINK.STATE.STATE l) 0
  else s.downLink l

def execLinkTrainingDone (link : Nat) (ok : Bool) (neighbour farLink rtt : Nat) (s : State) : Answer :=
  .next (linkTrainingDone link ok neighbour farLink rtt s)

/-! ### Share sets (R364, R368–R370, R382) -/

/-- The share set in force: that of the row in force, or set 0 where the image holds none of that number. -/
def State.shareSet (s : State) : Nat :=
  let n := (s.row.map fun r => r.silkSet).getD 0
  if n < fabCnt s.silk.fabric 2 then n else 0

/-- The shaper table of a link in share set `set` of a fabric image. -/
def fabShaper (b : List Byte) (set l : Nat) : List Byte :=
  slice b (fabOff b 3 + 12288 * fieldAt b (fabOff b 2 + 256 * set + 4 * l) 1) 12288
def shareFixed (e : List Byte) : Bool := (fieldAt e 2 1).testBit 0
def sharePolice (e : List Byte) : Bool := (fieldAt e 2 1).testBit 1
def shareMask (e : List Byte) : Nat := fieldAt e 8 8

/-- The entry of a share on a link in force. -/
def State.shareEntry (s : State) (l share : Nat) : List Byte := fabShare s.silk.fabric s.shareSet l share

/-- The share to which flit position `p` of a link is reserved (R370). -/
def State.reservedTo (s : State) (l p : Nat) : Option Nat := (List.range 64).find? fun x => (shareMask (s.shareEntry l x)).testBit p

/-! ### Flits sent (R361, R370) -/

/-- The credit that a flit takes: the reserve of its VC for services 0 and 1 if one is free, else its share's quota; nothing: it waits. -/
def State.creditFor (s : State) (l service vc share : Nat) : Option Bool :=
  let k := s.silkLink l
  if service < 2 ∧ Assoc.findD (α := Nat) vc 0 k.reserveUsed < 16 then some false
  else if Assoc.findD (α := Nat) share 0 k.quotaUsed < shareQuota (s.shareEntry l share) then some true
  else none

/-- May a flit of the share go at the link's present position (R370)? -/
def State.slotFor (s : State) (l share : Nat) : Bool :=
  match s.reservedTo l (s.silkLink l).pos with
  | some x => Nat.beq x share
  | none => !shareFixed (s.shareEntry l share)

/-- The scheduler of the link after it sends a flit of the share and service; a reserved position needs none. -/
def State.silkPick (s : State) (l service share : Nat) : Option Scheduler :=
  let k := (s.silkLink l).sched
  if s.silk.fabric.isEmpty || (s.reservedTo l (s.silkLink l).pos).isSome then some k
  else
    let r := k.pick (s.mono / 8) [⟨share, service, counted 256 Config.silkOverhead⟩]
    r.1.map fun _ => r.2

/-- The credits that a flit returns: RET_SHARE and RET_COUNT, and RET_VC. -/
def SilkLink.returns (k : SilkLink) : (Nat × Nat) × Nat :=
  let q := (k.owedQuota.find? fun x => Nat.blt 0 x.2).elim (0, 0) fun x => (x.1, min x.2 1023)
  (q, (k.owedReserve.filter fun x => Nat.blt 0 x.2).foldl (fun m x => m + 2 ^ (x.1 % 8)) 0)

/-- The link after those credits have left. -/
def SilkLink.returned (k : SilkLink) : SilkLink :=
  let r := k.returns
  { k with owedQuota := (k.owedQuota.map fun x => if x.1 = r.1.1 then (x.1, x.2 - r.1.2) else x).filter fun x => Nat.blt 0 x.2
           owedReserve := (k.owedReserve.map fun x => (x.1, x.2 - 1)).filter fun x => Nat.blt 0 x.2 }

/-- R361, R370: a flit position of a link comes: the flit of the share and service is sent if the position may carry it, its share or VC holds
a credit and the replay buffer has room; else the position carries an idle flit. Its dateline bit is the packet's own (free here). -/
def flitTransmit (l service share : Nat) (s : State) : State :=
  if !s.linkMoves l || ((Nat.beq (s.linkState l) 4 || s.toExpelled l) && !Nat.beq service 0) || Nat.ble 4 service || Nat.ble 64 share then s
  else
    let vc := 2 * service + (if Config.freeBool s.draws then 1 else 0)
    let s := s.drawn
    let k := s.silkLink l
    let next := (k.pos + 1) % 64
    match s.creditFor l service vc share, s.silkPick l service share with
    | some pool, some sched =>
      if s.slotFor l share && Nat.blt k.retry.unacked 8192 then
        let r := k.returns
        let k := { k.returned with
          pos := next, sched := sched, retry := k.retry.sent 1
          quotaUsed := if pool then Assoc.upd share 0 (· + 1) k.quotaUsed else k.quotaUsed
          reserveUsed := if pool then k.reserveUsed else Assoc.upd vc 0 (· + 1) k.reserveUsed }
        (s.setSilkLink l k).emit (.flit l vc share pool r.1.1 r.1.2 r.2)
      else s.setSilkLink l { k with pos := next }
    | _, _ => s.setSilkLink l { k with pos := next }

def execFlitTransmit (link service share : Nat) (s : State) : Answer := .next (flitTransmit link service share s)

/-! ### Flits received (R358–R361, R371) -/

/-- Credits that a flit returns to this sender. -/
def SilkLink.credit (k : SilkLink) (f : Flit) : SilkLink :=
  { k with quotaUsed := Assoc.upd f.retShare 0 (· - f.retCount) k.quotaUsed
           reserveUsed := k.reserveUsed.map fun x => if f.retVc.toNat.testBit x.1 then (x.1, x.2 - 1) else x }

/-- The packet headers in the body of a KIND 2 flit: source device and tag of each (R357). -/
def bodyHeaders (b : List Byte) : List (Nat × Nat) :=
  ((List.range 8).map fun i => slice b (32 * i) 32).filterMap fun h => if fieldAt h 12 1 = 0 then none else some (fieldAt h 8 2, fieldAt h 10 2)

/-- R371: the packets of a policed share are marked; a red request is answered with KIND 0x06. -/
def State.policeFlit (s : State) (l : Nat) (f : Flit) : State :=
  let e := s.shareEntry l f.share
  if !sharePolice e || !(f.kind = 1 || f.kind = 2) then s
  else
    let k := s.silkLink l
    let (c, lv) := police (slice e 16 16) (Assoc.find f.share k.police) (counted 256 Config.silkOverhead) (s.mono / 8)
    let s := s.setSilkLink l { k with police := Assoc.put f.share lv k.police }
    match c with
    | .green => s
    | .yellow => s.countSat (Reg.SILK_LINK.POLICE_YELLOW.COUNT l) 1
    | .red =>
      let s := s.countSat (Reg.SILK_LINK.POLICE_RED.COUNT l) 1
      if f.vc / 2 = 2 then
        (if f.kind = 1 then [(f.header.src, f.header.tag)] else bodyHeaders f.body).foldl (fun s h => s.emit (.remoteResp h.1 h.2 ⟨[], false, some 6⟩)) s
      else s

/-- R358: a flit arrives. -/
def flitArrive (l : Nat) (fecOk crcOk : Bool) (f : Flit) (s : State) : State :=
  if !s.linkMoves l then s
  else
    let s := if fecOk then (s.countSat (Reg.SILK_LINK.FEC_CORR.COUNT l) (Config.freeNat s.draws)).drawn
      else s.countSat (Reg.SILK_LINK.FEC_UNCORR.COUNT l) 1
    let s := if fecOk && !crcOk then s.countSat (Reg.SILK_LINK.CRC_ERR.COUNT l) 1 else s
    let k := s.silkLink l
    let (r, e) := k.retry.receive fecOk crcOk f.seq f.ack f.nak
    let s := s.setSilkLink l { k with retry := r }
    let s := if e.replayed then s.countSat (Reg.SILK_LINK.RETRIES.COUNT l) 1 else s
    let s := if e.taken then
        let k := (s.silkLink l).credit f
        let packet := Nat.beq f.kind 1 || Nat.beq f.kind 2
        let k := if !packet then k
          else if f.pool then { k with owedQuota := Assoc.upd f.share 0 (· + 1) k.owedQuota }
          else { k with owedReserve := Assoc.upd f.vc 0 (· + 1) k.owedReserve }
        (s.setSilkLink l k).policeFlit l f
      else s
    if e.failed then
      ((s.raiseErr (Reg.SILK_LINK.ERR.RETRY_FAIL l)).scoreDown (s.fld (Reg.SILK_LINK.NEIGHBOUR.ID l)) 32).enter (Reg.SILK_LINK.STATE.STATE l) 1
    else s

def execFlitReceive (link : Nat) (fecOk crcOk : Bool) (f : Flit) (s : State) : Answer := .next (flitArrive link fecOk crcOk f s)

/-! ### Requests at their target (R372, R373, R376) -/

/-- The local cocoon that lets a request from device `d` with share id `x` reach [a, a + len) (R373). -/
def State.target (s : State) (d x a len : Nat) : Option Nat :=
  if s.open_ a then (List.range 64).find? fun c => s.owns c a len && s.isPeer c d x else none

/-- The local cocoon that lets it write there: no context table is written so (R182). -/
def State.targetWrite (s : State) (d x a len : Nat) : Option Nat := (s.target d x a len).filter fun c => !s.meetsCtx c a len

/-- The GDDR7 slots that the range needs are in some row (R340). -/
def State.targetSlots (s : State) (c a len : Nat) : Bool := s.region a != .gddr || s.slotsFor c a len

def State.respond (s : State) (d tag : Nat) (r : RemoteResp) : State := s.emit (.remoteResp d tag r)

/-- Copy data arrives: it is written, and the arrival counter at CTR_CORE on this device increases (R99, R376, R378). -/
def State.landRemote (s : State) (c : Nat) (r : RemoteReq) : State :=
  let n := fieldAt r.compare 0 2
  let stale := (fieldAt r.compare 4 1).testBit 0
  if n ≠ 0xFFFF ∧ !(s.holdsCore c n && ! [1, 5, 6].contains (s.coreState n)) then s.respond r.src r.tag ⟨[], false, some 3⟩
  else
    let s := (s.store r.addr (slice r.data 0 r.size)).1
    let s := if n = 0xFFFF then s else s.arrive n (fieldAt r.compare 2 1 % 128) (fieldAt r.compare 3 1) stale 0
    let s := if stale then s.raiseErr Reg.SILK.ERR.STALE else s
    s.respond r.src r.tag ⟨[], stale, none⟩

/-- R373: a remote request, or the data of a copy (OP 0), reaches its target. -/
def remoteRequestArrival (r : RemoteReq) (s : State) : State :=
  if !(r.op = 0 || r.op = opLoad || r.op = opStore || opAtomic r.op) then s
  else match (if r.op = opLoad then s.target r.src r.share r.addr r.size else s.targetWrite r.src r.share r.addr r.size) with
    | none => s.respond r.src r.tag ⟨[], false, some 3⟩
    | some c =>
      if !s.targetSlots c r.addr r.size then s.respond r.src r.tag ⟨[], false, some 3⟩
      else if r.op = 0 then s.landRemote c r
      else match s.perform (fun s a d => (s.store a d).1) r.op r.addr r.size r.data r.compare with
        | (s, some d) => s.respond r.src r.tag ⟨d, false, none⟩
        | (s, none) => s.respond r.src r.tag ⟨[], false, some 4⟩

def execRemoteRequestArrival (r : RemoteReq) (s : State) : Answer := .next (remoteRequestArrival r s)

/-- R376, R378: a get request reaches the source device. The read is one moment here, so the generation cannot change within it. -/
def getRequest (src share tag addr len segment dst : Nat) (s : State) : State :=
  match s.target src share addr len with
  | none => s.respond src tag ⟨[], false, some 3⟩
  | some c =>
    if !s.targetSlots c addr len then s.respond src tag ⟨[], false, some 3⟩
    else if !Nat.beq segment 0 && (s.segmentAt c segment addr len).isNone then s.respond src tag ⟨[], false, some 3⟩
    else if s.bad addr len then (s.scrubRead addr len).respond src tag ⟨[], false, some 4⟩
    else
      let d := s.rdBytes addr len
      let s := s.scrubRead addr len
      if deviceOf dst = s.deviceId then
        match s.targetWrite src share (localOf dst) len with
        | none => s.respond src tag ⟨[], false, some 3⟩
        | some _ => (s.store (localOf dst) d).1.respond src tag ⟨[], false, none⟩
      else if deviceOf dst = src then s.respond src tag ⟨d, false, none⟩
      else if s.routable (deviceOf dst) then
        (s.emit (.remote (deviceOf dst) tag 0 (localOf dst) len d [])).respond src tag ⟨[], false, none⟩
      else s.respond src tag ⟨[], false, some 2⟩

def execGetRequest (src share tag addr len segment dst : Nat) (s : State) : Answer := .next (getRequest src share tag addr len segment dst s)

/-! ### Responses and the dead-target bound (R374, R378–R380) -/

/-- A response of a copy: its data and STALE, or its end with an error. -/
def State.copyResponse (s : State) (n id : Nat) (r : RemoteResp) : State :=
  match r.err with
  | some k => s.endCopy n id k
  | none => s.updCopy n id fun x => { x with data := if r.data.isEmpty then x.data else r.data, stale := x.stale || r.stale }

/-- R374: a response arrives at its issuer; one that nothing waits for is counted in LATE_RESP (R379). -/
def remoteResponseArrival (n tag : Nat) (r : RemoteResp) (s : State) : State :=
  if (s.core n).remotes.any fun x => Nat.beq x.tag tag && !Nat.beq x.dst s.deviceId then
    s.endRemote n tag fun s x => match r.err with
      | some k => s.remoteErr n x k
      | none => s.remoteOk n x r.data
  else if (s.core n).copies.any fun x => Nat.beq x.id tag then s.copyResponse n tag r
  else s.countSat Reg.SILK.LATE_RESP.COUNT 1

def execRemoteResponseArrival (core tag : Nat) (r : RemoteResp) (s : State) : Answer := .next (remoteResponseArrival core tag r s)

/-- R379: the dead-target bound of an operation or copy with another device runs out. -/
def deadTargetTimeout (n tag : Nat) (s : State) : State :=
  match (s.core n).remotes.find? fun x => Nat.beq x.tag tag with
  | some x => if x.dst = s.deviceId then s else (s.advanceMono x.at_).endOp (n, tag, false) 1
  | none =>
    match (s.core n).copies.find? fun x => Nat.beq x.id tag with
    | some x =>
      if Nat.beq (deviceOf x.src) s.deviceId && Nat.beq (deviceOf x.dst) s.deviceId then s else (s.advanceMono x.at_).endOp (n, tag, true) 1
    | none => s

def execDeadTargetTimeout (core tag : Nat) (s : State) : Answer := .next (deadTargetTimeout core tag s)

/-! ### Segments (R377, R385) -/

/-- The page of the device-wide silk registers. -/
def silkPage : Nat := 0x0C0

/-- The first failed condition of SEG_CTRL.SET, with the register's offset. -/
def State.segmentReason (s : State) : Option (Nat × Nat) :=
  let c := s.fld Reg.SILK.SEG_SEL.COCOON
  let i := s.fld Reg.SILK.SEG_SEL.INDEX
  let base := s.fld Reg.SILK.SEG_BASE.BASE * 65536
  let len := s.fld Reg.SILK.SEG_LEN.LEN * 65536
  let overlaps := (s.cocoon c).segments.any fun x => !Nat.beq x.1 i && x.2.valid && Nat.blt base (x.2.base + x.2.len) && Nat.blt x.2.base (base + len)
  if i < 17 then some (0x01C0, 0x818)
  else if len = 0 then some (0x01C0, 0x820)
  else if s.cocoonState c = 0 then some (0x03C0, 0x818)
  else if !s.inExtent c base len then some (0x03C0, 0x81C)
  else if overlaps then some (0x05C1, 0x81C)
  else none

/-- The segment of a cocoon with an index; never registered, its generation 0. -/
def State.segment (s : State) (c i : Nat) : Segment := Assoc.findD i ⟨false, 0, 0, 0⟩ (s.cocoon c).segments
def State.setSegment (s : State) (c i : Nat) (g : Segment) : State :=
  s.setCocoon c { s.cocoon c with segments := Assoc.put i g (s.cocoon c).segments }

/-- R377: SEG_CTRL.SET. -/
def segmentSet (s : State) : State :=
  match s.segmentReason with
  | some (r, off) => s.refuse silkPage r off
  | none =>
    let c := s.fld Reg.SILK.SEG_SEL.COCOON
    let i := s.fld Reg.SILK.SEG_SEL.INDEX
    let base := s.fld Reg.SILK.SEG_BASE.BASE * 65536
    let len := s.fld Reg.SILK.SEG_LEN.LEN * 65536
    (s.setSegment c i { s.segment c i with valid := true, base := base, len := len }).passed silkPage

def execSegmentSet (s : State) : Answer := .next (segmentSet s)

/-- R377: SEG_CTRL.CLEAR. -/
def segmentClear (s : State) : State :=
  let c := s.fld Reg.SILK.SEG_SEL.COCOON
  let i := s.fld Reg.SILK.SEG_SEL.INDEX
  if i < 17 then s.refuse silkPage 0x01C0 0x818
  else (s.setSegment c i { s.segment c i with valid := false }).passed silkPage

def execSegmentClear (s : State) : Answer := .next (segmentClear s)

/-! ### The fabric image (R364, R365) -/

/-- Entry sizes of the sections of a fabric image. -/
def fabSize : List Nat := [4, 16, 256, 12288, 2048, 1024]

/-- The fabric image at an address, as far as its IMAGE_LEN can go. -/
def State.fabImage (s : State) (a : Nat) : List Byte := s.rdBytes a (max 64 (min 0x400000 (s.rd (a + 8) 4)))

/-- The first failed condition of a fabric image at address `a` (R365). -/
def State.fabricReason (s : State) (a : Nat) (b : List Byte) : Option Nat :=
  let len := fieldAt b 8 4
  let inRange (i lo hi : Nat) : Bool := Nat.ble lo (fabCnt b i) && Nat.ble (fabCnt b i) hi
  let sets := List.range (fabCnt b 2)
  let links := List.range 64
  let shapers := (List.range (fabCnt b 3)).map fun i => slice b (fabOff b 3 + 12288 * i) 12288
  let shares := (List.range (fabCnt b 4)).map fun i => (List.range 64).map fun x => slice b (fabOff b 4 + 2048 * i + 32 * x) 32
  let wide (t : List Byte) : Bool := (shpAll t).any fun n =>
    entValid (shpEntry t n) && (match n with
      | .leaf _ v => (Nat.beq v 0 && !Nat.beq (entClass (shpEntry t n)) 0) || (Nat.beq v 1 && !Nat.beq (entClass (shpEntry t n)) 1)
      | _ => false)
  let shaper (t : List Byte) : Option Nat :=
    match shaperReason t 400000 1 [] true with
    | some r => some r
    | none => if !Nat.beq (shpServices t) 4 then some 0x0180 else if wide t then some 0x02C1 else none
  let policers := (shares.flatten.filter sharePolice).map fun e => slice e 16 16
  let policer : Option Nat :=
    if policers.any fun e => Nat.beq (entPir e) 0 || Nat.beq (entPbs e) 0 || Nat.blt 400000 (max (entPir e) (entCir e)) then some 0x0180
    else if policers.any fun e => Nat.blt (entPir e) (entCir e) then some 0x0280 else none
  let poor (e : List Byte) : Bool := sharePolice e &&
    (Nat.blt (entCbs (slice e 16 16)) (counted 256 Config.silkOverhead) || Nat.blt (entPbs (slice e 16 16)) (counted 256 Config.silkOverhead))
  let clash (l : List (List Byte)) : Bool := (l.foldl (fun (acc : Nat × Bool) e =>
    (acc.1 ||| shareMask e, acc.2 || !Nat.beq (acc.1 &&& shareMask e) 0)) (0, false)).2
  let sealedLeaf := sets.any fun z => links.any fun l =>
    let t := fabShaper b z l
    (List.range 64).any fun c => s.sealed c && s.created c && (List.range 4).any fun v => entValid (shpEntry t (.leaf c v))
  let needs := [s.seq.active, s.seq.armed].any fun t => t.any fun (t : SchedTable) => t.rows.any fun r => Nat.ble (fabCnt b 2) r.silkSet
  let tests : List (Bool × Nat) := [
    (!Nat.beq (fieldAt b 0 4) 0x534C4B31 || !Nat.beq (fieldAt b 4 2) 1 || Nat.blt 0x400000 len || Nat.blt len 64 ||
      !Nat.beq (fieldAt b 12 4) (imageCrc (b.take len) 12) ||
      (List.range 6).any (fun i => Nat.blt len (fabOff b i + fabCnt b i * fabSize.getD i 0)), 0x02C0),
    (!(inRange 0 65536 65536 && inRange 1 64 64 && inRange 2 1 64 && inRange 3 1 128 && inRange 4 1 128 && inRange 5 64 64) ||
      sets.any (fun z => links.any fun l => Nat.ble (fabCnt b 3) (fieldAt b (fabOff b 2 + 256 * z + 4 * l) 1) ||
        Nat.ble (fabCnt b 4) (fieldAt b (fabOff b 2 + 256 * z + 4 * l + 1) 1)), 0x01C1)]
  let later : List (Bool × Nat) := [
    (shares.any (fun l => l.any poor), 0x0280),
    (shares.any (fun l => Nat.blt 8064 (l.map shareQuota).sum), 0x05C0),
    (shares.any clash || sealedLeaf, 0x02C2),
    (!s.inRegion 1 a (max 64 len), 0x03C1),
    (needs, 0x04C2),
    (s.silk.next.isSome, 0x04C1)]
  match tests.find? fun t => t.1 with
  | some t => some t.2
  | none =>
    match (shapers.findSome? shaper).or policer with
    | some r => some r
    | none => (later.find? fun t => t.1).map fun t => t.2

end Sys2Proof.Machine
end

