-- ==== Sys2Proof/Machine/Bringup.lean ====
section
/-!
DEFINITION. Start-up, firmware bundle, defects, retests and resets (R439–R463), power rails (R464, R507) and what host memory reads bring
back (R389).
-/
namespace Sys2Proof.Machine

/-! ### Power and cold reset (R455, R464, R507, R508) -/

/-- R455: RESET_N restarts the device at once; a flush in progress is cut off (R512). -/
def coldResetStep (s : State) : State := if s.boot.powered then s.restart true else s

def execColdReset (s : State) : Answer := .next (coldResetStep s)

/-- R507: the rails rise and reset is released. Out of order it is not defined whether start-up goes on: a free choice. -/
def railsOnStep (inOrder : Bool) (s : State) : State :=
  if Nat.beq s.boot.railsOn 0 then
    let ok := inOrder || Config.freeBool s.draws
    ({ s with boot := { s.boot with powered := ok, railsOn := 5 } }.restart false).drawn
  else s

def execRailPowerOn (inOrder : Bool) (s : State) : Answer := .next (railsOnStep inOrder s)

/-- R464, R466, R474: the rails fall; nothing but the fuses is kept, and THERMTRIP_N is released. -/
def railsOffStep (s : State) : State :=
  { s with thermTrip := false, boot := { s.boot with powered := false, railsOn := 0 } }.restart false

def execRailPowerOff (s : State) : Answer := .next (railsOffStep s)

/-! ### Loading the bundle (R439–R442) -/

/-- Start-up stops with a code until a device reset (R441). -/
def State.halt (s : State) (code : Nat) : State := s.setFlds [(Reg.BOOT.STATE.FAIL, code), (Reg.BOOT.STATE.HALTED, 1)]

/-- Is start-up in an instar and not halted? -/
def State.inInstar (s : State) (n : Nat) : Bool :=
  s.boot.powered && Nat.beq (s.fld Reg.BOOT.STATE.INSTAR) n && !s.isSet Reg.BOOT.STATE.HALTED

/-- R439: at instar 0 the Staido lanes train, with the host adapter present. -/
def lanesTrainedStep (s : State) : State :=
  if s.inInstar 0 && s.staido.present && Nat.ble (s.fld Reg.STAIDO.STATE.STATE) 1 then
    { s.attached with boot := { s.boot with lanesTrained := true } }
  else s

def execBootLanesTrained (s : State) : Answer := .next (lanesTrainedStep s)

/-- The boot memory: 48 MiB (R442). -/
def bootBytes : Nat := 48 * 2 ^ 20

/-- R442: BOOT.ACTION.LOAD; ignored outside instar 0. No byte is to be read where BUNDLE_LEN is 0. -/
def bundleLoad (s : State) : State :=
  if s.inInstar 0 && s.linkUp && s.boot.loading.isNone then
    let a := s.fld2 Reg.BOOT.BUNDLE_LO.ADDR Reg.BOOT.BUNDLE_HI.ADDR
    let n := min bootBytes (s.fld Reg.BOOT.BUNDLE_LEN.BYTES)
    if n = 0 then { s with boot := { s.boot with bundle := [] } }.setFld Reg.BOOT.STATE.INSTAR 1
    else
      let s := { s with boot := { s.boot with loading := some [] } }
      (s.readHost 256 .bundle 0 ((hostPieces a n).map fun x => (x.1 + hostBase, x.2))).1
  else s

def execBundleLoad (s : State) : Answer := .next (bundleLoad s)

/-- A piece of the bundle, or the end of the load with FAIL 0x02 (R442). -/
def State.bundlePiece (s : State) (off : Nat) (d : Option (List Byte)) : State :=
  match s.boot.loading, d with
  | none, _ => s
  | some _, none =>
    let k := s.fn 256
    let s := s.setFn 256 { k with reads := k.reads.filter fun x => !x.why.ofBundle }
    { s with boot := { s.boot with loading := none } }.setFld Reg.BOOT.STATE.FAIL 0x02
  | some l, some b =>
    let l := placeAt l off b
    if s.reading 256 RdWhy.ofBundle then { s with boot := { s.boot with loading := some l } }
    else { s with boot := { s.boot with loading := none, bundle := l } }.setFld Reg.BOOT.STATE.INSTAR 1

/-- R389: the host adapter answers a MEM_RD: the data goes to what asked for it. -/
def memRdCompletion (fn tag : Nat) (d : HostData) (s : State) : State :=
  if !s.linkUp then s
  else match ((s.fn fn).reads.take 64).find? fun x => Nat.beq x.tag tag with
    | none => s
    | some x =>
      let b : Option (List Byte) := match d with
        | .data b => some (slice b 0 x.len)
        | .error => none
      match x.why with
      | .sqEntry q => sqEntryReadStep fn q (match b with | some b => .data b | none => .error) s
      | .bundle off => (s.dropRead fn tag).bundlePiece off b
      | .cmdData w off => (s.dropRead fn tag).cmdData w off b
      | .copyData n id off =>
        let s := s.dropRead fn tag
        match b, (s.core n).copies.find? fun c => Nat.beq c.id id with
        | some b, _ => s.updCopy n id fun c => { c with data := placeAt c.data off b }
        | none, some c => (s.dropCopy n id).copyErr n c.slot 3
        | none, none => s
      | .opData n op =>
        let s := s.dropRead fn tag
        match b, (s.core n).remotes.find? fun r => Nat.beq r.tag op with
        | some b, some r => s.hostWord n r b
        | none, some r => (s.setCore n { s.core n with remotes := (s.core n).remotes.filter fun x => !Nat.beq x.tag op }).remoteErr n r 3
        | _, none => s
      | .fapi num off => (s.dropRead fn tag).fapiPiece num off b
      | .other => s.dropRead fn tag

def execMemRdCompletion (fn tag : Nat) (d : HostData) (s : State) : Answer := .next (memRdCompletion fn tag d s)

/-! ### Verification (R443–R445, R447) -/

/-- Offset and length of section `i` of a bundle. -/
def bundleSec (b : List Byte) (i : Nat) : Nat × Nat := (fieldAt b (0x48 + 16 * i - 4) 4, fieldAt b (0x48 + 16 * i) 4)

/-- Check 1: header and section table are well formed, and every section lies below SIG_OFF (R443, R444). -/
def bundleFormed (b : List Byte) (len : Nat) : Bool :=
  let sig := fieldAt b 0x14 4
  let n := fieldAt b 0x18 2
  Nat.beq (fieldAt b 0 4) 0x44424C31 && Nat.beq (fieldAt b 4 2) 1 && Nat.blt (fieldAt b 6 1) 2 && Nat.blt (fieldAt b 7 1) 8 &&
    Nat.ble (fieldAt b 0x0C 1) 64 && Nat.beq (fieldAt b 0x0D 3) 0 && Nat.beq (fieldAt b 0x1A 38) 0 &&
    Nat.ble (fieldAt b 0x10 4) bootBytes && Nat.beq (fieldAt b 0x10 4) len && Nat.beq (sig % 64) 0 && Nat.beq len (sig + 5357) &&
    Nat.blt 0 n && Nat.ble n 32 && Nat.ble (0x40 + 16 * n) sig &&
    (List.range n).all fun i => Nat.beq (fieldAt b (0x42 + 16 * i) 2) 0 && Nat.beq (fieldAt b (0x4C + 16 * i) 4) 0 &&
      Nat.ble ((bundleSec b i).1 + (bundleSec b i).2) sig

/-- The first check of R444 that fails, as its code of R445. -/
def State.bundleFail (s : State) (b : List Byte) : Option Nat :=
  let f := s.boot.fuses
  let sig := fieldAt b 0x14 4
  let one := Nat.beq (fieldAt b 6 1) 1
  let ed := slice b sig 32
  let ml := slice b (sig + 32) 1952
  let m := slice b 0 sig
  if !bundleFormed b (s.fld Reg.BOOT.BUNDLE_LEN.BYTES) then some 0x01
  else if (if one then f.revoked1 else f.revoked0) then some 0x03
  else if Config.sha384 ed ≠ (if one then f.edHash1 else f.edHash0) ∨ Config.sha384 ml ≠ (if one then f.mldsaHash1 else f.mldsaHash0) then
    some 0x04
  else if !Config.ed25519Verify ed m (slice b (sig + 1984) 64) then some 0x05
  else if !Config.mldsaVerify ml m (slice b (sig + 2048) 3309) then some 0x06
  else if fieldAt b 0x0C 1 < f.svn then some 0x07
  else none

/-- The fuse state as measured. -/
def Fuses.bytes (f : Fuses) : List Byte :=
  (f.bank.flatMap fun w => bvBytes 4 w) ++ leBytes 1 f.svn ++ [if f.revoked0 then 1 else 0, if f.revoked1 then 1 else 0] ++ bvBytes 48 f.edHash0 ++
    bvBytes 48 f.edHash1 ++ bvBytes 48 f.mldsaHash0 ++ bvBytes 48 f.mldsaHash1

/-- R444: the checks of instar 1; all passed, the measurements are logged, slot 0 is revoked where asked, and instar 2 begins. -/
def verifyStep (s : State) : State :=
  if !s.inInstar 1 then s
  else
    let b := s.boot.bundle
    match s.bundleFail b with
    | some code => (s.setFlds [(Reg.BOOT.STATE.FAIL, code), (Reg.BOOT.STATE.INSTAR, 0)]).countMod Reg.BOOT.ATTEMPTS.COUNT 1
    | none =>
      let fl := fieldAt b 7 1
      let h : BundleHdr := ⟨fieldAt b 6 1, fl.testBit 0, fl.testBit 1, fl.testBit 2, fieldAt b 8 4, fieldAt b 0x0C 1⟩
      let s := (s.measure 1 0 (Config.sha384 s.boot.fuses.bytes)).measure 2 0 (Config.sha384 (slice b 0 64))
      let s := (List.range (fieldAt b 0x18 2)).foldl (fun s i =>
        s.measure 3 i (Config.sha384 (slice b (bundleSec b i).1 (bundleSec b i).2))) s
      let fuses := { s.boot.fuses with revoked0 := s.boot.fuses.revoked0 || (h.revokePrev && Nat.beq h.keyIdx 1) }
      { s with boot := { s.boot with hdr := some h, fuses := fuses } }.showFuses.setFld Reg.BOOT.STATE.INSTAR 2

def execBundleVerification (s : State) : Answer := .next (verifyStep s)

/-! ### Fuse entries (R452) -/

/-- The number of ones in the low `n` bits. -/
def onesIn (w : Nat) : Nat → Nat
  | 0 => 0
  | n + 1 => (if w.testBit n then 1 else 0) + onesIn w n

/-- The defect a fuse entry names; nothing for an unused entry, an invalid TYPE or a CHECK that does not match. -/
def fuseDefect (e : Word) : Option Defect :=
  let w := e.toNat
  let die := bitsOf w 4 5
  let pos := bitsOf w 9 7
  if bitsOf w 28 4 ≠ onesIn w 28 % 16 then none
  else match bitsOf w 0 4 with
    | 1 => some (Defect.position die pos)
    | 2 => some (Defect.arrayRow die pos (bitsOf w 16 5) (bitsOf w 21 1))
    | 3 => some (Defect.arrayCol die pos (bitsOf w 16 5) (bitsOf w 21 1))
    | 4 => some (Defect.engine die pos)
    | 5 => some (Defect.optical pos)
    | 6 => some (Defect.cluster die pos)
    | _ => none

/-- The fuse entry of a defect. -/
def defectFuse (d : Defect) : Word :=
  let w := match d with
    | .position die pos => 1 + 16 * die + 512 * pos
    | .arrayRow die pos line sp => 2 + 16 * die + 512 * pos + 65536 * line + 2 ^ 21 * sp
    | .arrayCol die pos line sp => 3 + 16 * die + 512 * pos + 65536 * line + 2 ^ 21 * sp
    | .engine cls i => 4 + 16 * cls + 512 * i
    | .optical i => 5 + 512 * i
    | .cluster die g => 6 + 16 * die + 512 * g
    | .arrayCell _ _ _ _ => 0
  BitVec.ofNat 32 (w + 2 ^ 28 * (onesIn w 28 % 16))

/-- The defects the fuses name, in fuse-bank order. -/
def State.fused (s : State) : List Defect := s.boot.fuses.bank.filterMap fuseDefect

/-- Append a defect to the fuse bank, where the bundle's FUSE_DEFECTS asks for it; a full bank sets FUSE_FULL. -/
def State.appendFuse (s : State) (d : Defect) : State :=
  if !(s.boot.hdr.any fun h => h.fuseDefects) then s
  else if 512 ≤ s.boot.fuses.bank.length then s.raiseErr Reg.BOOT.ERR.FUSE_FULL
  else
    let s := { s with boot := { s.boot with fuses := { s.boot.fuses with bank := s.boot.fuses.bank ++ [defectFuse d] } } }
    s.setFld Reg.BOOT.FUSE_USED.COUNT s.boot.fuses.bank.length

/-! ### The disabled-unit map (R135, R137, R450, R451) -/

/-- The position a defect takes away on a die. -/
def Defect.failedOn (d : Nat) : Defect → Option Nat
  | .position die p => if die = d then some p else none
  | _ => none

/-- Is a logical core of a die without its cluster store? -/
def State.storeFailed (s : State) (d j : Nat) : Bool := s.boot.defects.contains (Defect.cluster d (j / 8))

/-- A failed logical core takes the lowest spare that works and is free; else it is disabled (R24, R451). -/
def State.giveSpare (s : State) (d j : Nat) : State :=
  let free := [64, 65].filter fun p => !(s.sparesUsed d).contains p && !s.boot.defects.contains (Defect.position d p)
  match free with
  | p :: _ => s.implement d j p
  | [] => s.disable d j

/-- The map of a die: fused positions in fuse-bank order, then those found by the test in ascending order; a cluster without its store takes
no spare (R450, R451). -/
def State.buildMap (s : State) (d : Nat) : State :=
  let s := (List.range 64).foldl (fun s j => if s.storeFailed d j then s.disable d j else s.implement d j j) s
  let fusedPos := s.fused.filterMap (Defect.failedOn d)
  let rest := (s.boot.defects.filterMap (Defect.failedOn d)).filter fun p => !fusedPos.contains p
  let order := fusedPos.eraseDups ++ sortBy Nat.ble rest.eraseDups
  order.foldl (fun s p => if Nat.blt p 64 && !s.storeFailed d p then s.giveSpare d p else s) (s.setFld (Reg.DIE.DIE_INFO.DIE d) d)

/-- The logical core that a position of a die implements. -/
def State.coreOf (s : State) (d p : Nat) : Option Nat := (List.range 64).find? fun j => s.position d j == some p

/-- A repair's place: die, position, whether a row, line replaced, spare. -/
def Defect.repair : Defect → Option (Nat × Nat × Bool × Nat × Nat)
  | .arrayRow d p l z => some (d, p, true, l, z)
  | .arrayCol d p l z => some (d, p, false, l, z)
  | _ => none

/-- The array repairs of a position: whether a row, line replaced, spare. -/
def State.repairsOf (s : State) (d p : Nat) : List (Bool × Nat × Nat) :=
  (s.boot.defects.filterMap Defect.repair).filterMap fun x => if x.1 = d ∧ x.2.1 = p then some x.2.2 else none

/-- Word ARRAY_k of a logical core shows the repairs of the position that implements it (R137). -/
def State.showArray (s : State) (d j : Nat) : State :=
  let g := 8 * d + j / 8
  let k := j % 8
  let l := (s.position d j).elim [] (s.repairsOf d)
  let at_ (row : Bool) (z : Nat) (for_ on : Fld) : List (Fld × Nat) :=
    match l.find? fun x => x.1 == row && Nat.beq x.2.2 z with
    | some x => [(for_, x.2.1), (on, 1)]
    | none => [(for_, 0), (on, 0)]
  let byTest := s.boot.defects.any fun x => !s.fused.contains x && (Defect.repair x).any fun y => Nat.beq y.1 d && s.position d j == some y.2.1
  s.setFlds (at_ true 0 (Reg.CLUSTER.ARRAY.SROW0_FOR g k) (Reg.CLUSTER.ARRAY.SROW0_ON g k) ++
    at_ true 1 (Reg.CLUSTER.ARRAY.SROW1_FOR g k) (Reg.CLUSTER.ARRAY.SROW1_ON g k) ++
    at_ false 0 (Reg.CLUSTER.ARRAY.SCOL0_FOR g k) (Reg.CLUSTER.ARRAY.SCOL0_ON g k) ++
    at_ false 1 (Reg.CLUSTER.ARRAY.SCOL1_FOR g k) (Reg.CLUSTER.ARRAY.SCOL1_ON g k) ++
    [(Reg.CLUSTER.ARRAY.BY_TEST g k, if byTest then 1 else 0)])

/-- The arrays of the cores that positions with a repair implement. -/
def State.showRepairs (s : State) : State :=
  ((s.boot.defects.filterMap Defect.repair).map fun x => (x.1, x.2.1)).eraseDups.foldl (fun s x =>
    (s.coreOf x.1 x.2).elim s fun j => s.showArray x.1 j) s

/-- At most `nr` rows and `nc` columns that hold every cell (R135): as few rows as do, the first such rows in rising order (DESIGN CHOICE, log entry
252). -/
def coverOf (cells : List (Nat × Nat)) (nr nc : Nat) : Option (List Nat × List Nat) :=
  let rows := sortBy Nat.ble (cells.map fun c => c.1).eraseDups
  let pairs := rows.flatMap fun a => (rows.filter fun b => Nat.blt a b).map fun b => [a, b]
  (([] :: rows.map fun a => [a]) ++ pairs).findSome? fun r =>
    let c := sortBy Nat.ble ((cells.filter fun x => !r.contains x.1).map fun x => x.2).eraseDups
    if r.length ≤ nr ∧ c.length ≤ nc then some (r, c) else none

/-- The repairs of newly found faulty cells with the spare rows and columns that remain; nothing where no cover exists (R135). -/
def State.arrayRepairs (s : State) (d p : Nat) (cells : List (Nat × Nat)) : Option (List Defect) :=
  let mine := s.repairsOf d p
  let free (row : Bool) : List Nat := [0, 1].filter fun z => !mine.any fun x => x.1 == row && Nat.beq x.2.2 z
  let left := cells.filter fun c => !mine.any fun x => Nat.beq x.2.1 (if x.1 then c.1 else c.2)
  (coverOf left (free true).length (free false).length).map fun x =>
    ((x.1.zip (free true)).map fun y => Defect.arrayRow d p y.1 y.2) ++ (x.2.zip (free false)).map fun y => Defect.arrayCol d p y.1 y.2

/-- What a list of faults found leads to: faulty cells of an array become its repairs, or take its position away (R135, R450). -/
def State.judge (s : State) (found : List Defect) : List Defect :=
  let cell : Defect → Option (Nat × Nat × Nat × Nat)
    | .arrayCell d p r c => some (d, p, r, c)
    | _ => none
  let cells := found.filterMap cell
  let plain := found.filter fun x => (Defect.repair x).isNone && (cell x).isNone
  plain ++ ((cells.map fun x => (x.1, x.2.1)).eraseDups.filter fun x => !plain.contains (Defect.position x.1 x.2)).flatMap fun x =>
    (s.arrayRepairs x.1 x.2 ((cells.filter fun y => Nat.beq y.1 x.1 && Nat.beq y.2.1 x.2).map fun y => y.2.2)).getD [Defect.position x.1 x.2]

/-- The words of RADIO_ENG: all engines but those with a defect are up (R450). -/
def State.showEngines (s : State) : State :=
  let up (cls n : Nat) : Nat := (List.range n).foldl (fun m i => if s.boot.defects.contains (Defect.engine cls i) then m else m + 2 ^ i) 0
  s.setFlds [(Reg.RADIO_ENG.DEC_UP_LO.UP, up 0 48 % 2 ^ 32), (Reg.RADIO_ENG.DEC_UP_HI.UP, up 0 48 / 2 ^ 32), (Reg.RADIO_ENG.ENC_UP.UP, up 1 16),
    (Reg.RADIO_ENG.POLAR_UP.UP, up 2 24), (Reg.RADIO_ENG.FFT_UP.UP, up 3 8)]

/-- A link whose own optical engine has a defect takes a spare fibre pair of its O-die (R354, R450). -/
def State.fitOptics (s : State) (l : Nat) : State :=
  if s.boot.defects.contains (Defect.optical (linkEngine l)) then
    let s := s.setSilkLink l { s.silkLink l with engineBad := true }
    match s.freePairs l with
    | k :: _ => s.setFlds [(Reg.SILK_LINK.LAMBDA.FIBRE_SPARE l, 1), (Reg.SILK_LINK.LAMBDA.SPARE_INDEX l, k)]
    | [] => s
  else s

/-- Positions found are taken in ascending order, and other defects after them as they were found (R451, R452). -/
def sortFound (l : List Defect) : List Defect :=
  let key : Defect → Nat
    | .position d p => 128 * d + p
    | _ => 4096
  sortBy (fun a b => Nat.ble (key a) (key b)) l

/-- R450–R452: instar 2 completes: fuse entries are applied, the units found bad are recorded, the map is built and logged. -/
def dieBringUp (found : List Defect) (s : State) : State :=
  let fused := s.fused
  let s := { s with boot := { s.boot with defects := fused } }
  let fresh := (sortFound (s.judge found)).eraseDups.filter fun x => !fused.contains x
  let s := { s with boot := { s.boot with defects := fused ++ fresh } }
  let s := (List.range 32).foldl (fun s d => s.buildMap d) s
  let s := fresh.foldl (fun s x => s.appendFuse x) s
  let s := s.showRepairs
  let s := (List.range 64).foldl (fun s l => s.fitOptics l) s.showEngines
  let s := if fresh.isEmpty then s else s.raiseErr Reg.BOOT.ERR.NEW_DEFECT
  let s := (List.range 80).foldl (fun s e => s.setEdge e true) s
  let s := (List.range 32).foldl (fun s d =>
    ((s.setFlds [(Reg.DIE.CLK_STATUS.CORE_LOCK d, 1), (Reg.DIE.CLK_STATUS.MESH_LOCK d, 1), (Reg.DIE.DIE_INFO.MAP_GEN d, 0)]).recount d).measure
      4 d (Config.sha384 (s.mapBytes d))) s
  s.setFld Reg.BOOT.STATE.INSTAR 3

/-- R439, R441: the end of instar 2. -/
def dieBringUpDone (result : BringUp) (found : List Defect) (s : State) : State :=
  if !s.inInstar 2 then s
  else match result with
    | .ok => dieBringUp found s
    | .edgeFailed => s.halt 0x10
    | .clockUnlocked => s.halt 0x11
    | .kdieFailed => s.halt 0x12

def execDieBringUpDone (result : BringUp) (found : List Defect) (s : State) : Answer := .next (dieBringUpDone result found s)

/-! ### Memory (R348, R350, R441) -/

/-- The values of the bundle's configuration for every writable field of a page, in effect and in the shadow (R443). -/
def State.configure (s : State) (page : Nat) (offs : List Nat) : State :=
  offs.foldl (fun s off =>
    ((wordFlds page off).filter fun r => r.acc == .rw || r.acc == .rws).foldl (fun s r =>
      let f : Fld := ⟨page, off, r.lo, r.w⟩
      s.setBoth f (Config.bundleValue s.boot.bundle f.key)) s) s

/-- The shadow's valid groups: number, channels, MIRROR. -/
def State.shGroups (s : State) : List (Nat × List Nat × Bool) :=
  ((List.range 24).filter fun g => Nat.beq (s.shd (Reg.MEM.GROUP.VALID g)) 1).map fun g =>
    (g, maskChannels (s.shd (Reg.MEM.GROUP.CHANNELS g)), Nat.beq (s.shd (Reg.MEM.GROUP.MIRROR g)) 1)

/-- Does a mirror group's halves fail R336: an odd or empty count, or a pair on one M-die? -/
def mirrorBad (ch : List Nat) : Bool :=
  let m := ch.length / 2
  Nat.beq ch.length 0 || Nat.beq (ch.length % 2) 1 || (List.range m).any fun i => Nat.beq (ch.getD i 0 / 6) (ch.getD (i + m) 0 / 6)

/-- Do CFG, POPULATED or the groups of the shadow differ from the values in effect (R350)? -/
def State.memChanged (s : State) : Bool :=
  ([Reg.MEM.CFG.RATE, Reg.MEM.CFG.CLAMSHELL, Reg.MEM.CFG.DENSITY, Reg.MEM.POPULATED.CH] ++ (List.range 24).flatMap fun g =>
    [Reg.MEM.GROUP.CHANNELS g, Reg.MEM.GROUP.MIRROR g, Reg.MEM.GROUP.VALID g]).any fun f => !Nat.beq (s.shd f) (s.fld f)

/-- The check of page MEM: reason and offset of the first failed condition (R350). -/
def State.checkMem (s : State) : Option (Nat × Nat) :=
  let gs := s.shGroups
  let off (g : Nat) : Nat := 0x110 + 4 * g
  let pop := s.shd Reg.MEM.POPULATED.CH
  let down := s.fld Reg.MEM.STATUS.DOWN
  let find (r : Nat) (p : Nat × List Nat × Bool → Bool) : Option (Nat × Nat) := (gs.find? p).map fun g => (r, off g.1)
  let tests : List (Option (Nat × Nat)) := [
    if 8 < s.shd Reg.MEM.CFG.RATE then some (0x01B0, 0x100) else none,
    find 0x01B0 fun g => g.2.1.any fun c => !pop.testBit c,
    if s.shd Reg.MEM.SCRUB.PERIOD_H < 1 ∨ 168 < s.shd Reg.MEM.SCRUB.PERIOD_H then some (0x01B1, 0x188) else none,
    if s.shd Reg.MEM.RETRAIN_CFG.TEMP_DELTA < 2 ∨ 30 < s.shd Reg.MEM.RETRAIN_CFG.TEMP_DELTA ∨ s.shd Reg.MEM.RETRAIN_CFG.EDC_THRESH < 1 then
      some (0x01B1, 0x18C) else none,
    find 0x02B0 fun g => gs.any fun h => Nat.blt h.1 g.1 && h.2.1.any g.2.1.contains,
    find 0x02B1 fun g => g.2.2 && mirrorBad g.2.1,
    if (Nat.beq (s.shd Reg.MEM.CFG.CLAMSHELL) 1) != s.gddr.clamshell || (Nat.beq (s.shd Reg.MEM.CFG.DENSITY) 1) != s.gddr.density then
      some (0x02B2, 0x100) else none,
    if s.isSet (ctrlEnable 0x0A0) && s.memChanged then some (0x04B0, 0x100) else none,
    find 0x08B0 fun g => g.2.1.any down.testBit]
  tests.findSome? id

/-- The capacities that follow from the groups in effect (R334, R348). -/
def State.showMem (s : State) : State :=
  s.setFlds [(Reg.MEM.USABLE.UNITS, s.usable / 65536), (Reg.MEM.CH_UNITS.UNITS, s.chUnits)]

/-- Offsets of the words of page MEM that the bundle writes. -/
def memOffs : List Nat := [0x100, 0x104, 0x188, 0x18C] ++ (List.range 24).map fun g => 0x110 + 4 * g

/-- Links with EN train; one whose engine failed and that has no spare pair is FAILED (R354, R355, R439). -/
def State.startLink (s : State) (l : Nat) : State :=
  let s := s.configure (0x0C0 + l) [0x100]
  if !s.isSet (Reg.SILK_LINK.CFG.EN l) then s
  else if s.noEngine l then s.enter (Reg.SILK_LINK.STATE.STATE l) 5
  else s.enter (Reg.SILK_LINK.STATE.STATE l) 1

/-- MEM with the bundle's values, and the channels populated serving or DOWN (R345, R443). -/
def State.memoryConfigured (s : State) (t : MemTraining) : State :=
  let s := { s with gddr := { s.gddr with clamshell := t.clamshell, density := t.density } }.configure 0x0A0 memOffs
  (maskChannels (s.fld Reg.MEM.POPULATED.CH)).foldl (fun s ch =>
    if t.failed.contains ch then s.channelDown ch else s.enter (chState ch) 2) s

/-- R439, R441, R345: instar 3 completes: the channels populated serve or are DOWN, MEM takes the bundle's values, and the links of instar 4
begin to train. -/
def memoryTrainingDone (t : MemTraining) (s : State) : State :=
  if !s.inInstar 3 then s
  else
    let s := s.memoryConfigured t
    match s.checkMem with
    | some (r, off) => (s.refuse 0x0A0 r off).halt 0x20
    | none =>
      if s.memGroups.isEmpty then s.halt 0x20
      else
        let s := ((s.passed 0x0A0).setFld (ctrlEnable 0x0A0) 1).showMem
        ((List.range 64).foldl (fun s l => s.startLink l) s).setFld Reg.BOOT.STATE.INSTAR 4

def execMemoryTrainingDone (t : MemTraining) (s : State) : Answer := .next (memoryTrainingDone t s)

/-! ### Emergence (R439, R446, R478) -/

/-- Is a black-box region acceptable: 8 MiB, aligned, in an extent of cocoon 1 and in a mirror group (R478, R484, R485)? -/
def State.regionOk (s : State) (base : Nat) : Bool :=
  Nat.beq (base % 0x800000) 0 && s.inExtent 1 base 0x800000 &&
    s.memGroups.any fun g => !g.mirror.isEmpty && Nat.ble g.base base && Nat.ble (base + 0x800000) (g.base + g.size)

/-- The rings are armed over a region; a region other than the last holds no flush (R476, R478). -/
def State.arm (s : State) (base : Nat) : State :=
  let s := if s.bbox.region = some base then s
    else { s with bbox := { s.bbox with region := some base, seq := 0, newest := none } }
  s.setFlds [(Reg.BBOX.STATUS.ARMED, 1), (Reg.BBOX.FLUSH_COUNT.COUNT, s.bbox.seq)]

/-- The black box takes the region the bundle names; one refused leaves the rings unarmed (R484). -/
def State.armBox (s : State) : State :=
  let s := s.configure 0x005 [0x100, 0x104]
  if s.regionOk s.bbBase then s.arm s.bbBase else (s.refuse 0x005 0x0311 0x100).raiseErr Reg.BBOX.ERR.REGION_INVALID

/-- Offsets of the words of a COCOON page that the bundle may write: configuration, extents, areas and key words. -/
def cocoonOffs : List Nat := [0x100, 0x104, 0x150, 0x154, 0x158, 0x15C] ++ (List.range 16).map fun i => 0x110 + 4 * i

/-- Cocoon 0 or 1 takes the bundle's values; with ENC set, its key too (R292, R443). -/
def State.bundleCocoon (s : State) (c : Nat) : State :=
  let s := s.configure (cocoonPage c) cocoonOffs
  if s.isSet (Reg.COCOON.CFG.ENC c) then
    let key (i : Nat) : Word := BitVec.ofNat 32 (Config.bundleValue s.boot.bundle (Fld.key ⟨cocoonPage c, 0x170 + 4 * i, 0, 32⟩))
    keyLoad c (s.setCocoon c { s.cocoon c with keyWords := (List.range 16).map fun i => (i, key i) })
  else s

/-- A bundle has emerged: its header shows, and the fused SVN rises where it asks for it (R446). -/
def State.bundleEmerged (s : State) : State :=
  match s.boot.hdr with
  | none => s
  | some h =>
    let f := s.boot.fuses
    let s := { s with boot := { s.boot with fuses := { f with svn := if h.advanceSvn then max f.svn h.svn else f.svn } } }
    s.showFuses.setFlds [(Reg.BOOT.VERSION.VERSION, h.version), (Reg.BOOT.SVN.BUNDLE, h.svn)]

/-- The functions of cocoons 1 and 0 (R298, R440). -/
def State.bindOwn (s : State) : State :=
  let st := if s.linkUp then 1 else 3
  s.setFlds [(Reg.FN.FN_STATUS.STATE 256, st), (Reg.FN.FN_STATUS.COCOON 256, 1), (Reg.FN.FN_STATUS.STATE 257, st), (Reg.FN.FN_STATUS.COCOON 257, 0)]

/-- R439, R446, R469: instar 4 completes and the Y40 emerges. -/
def emergeStep (s : State) : State :=
  if !s.inInstar 4 then s
  else
    let s := (List.range 64).foldl (fun s l => if s.linkState l = 1 then s.enter (Reg.SILK_LINK.STATE.STATE l) 0 else s) s
    let s := s.setFld Reg.BOOT.STATE.INSTAR 5
    let s := (s.bundleCocoon 0).enableCocoon 0
    if !s.isSet (ctrlEnable (cocoonPage 0)) then s.halt 0x21
    else
      let s := (s.bundleCocoon 1).enableCocoon 1
      if !s.isSet (ctrlEnable (cocoonPage 1)) then s.halt 0x21
      else
        let s := ((s.bundleEmerged).bindOwn).armBox
        { s with power := { s.power with emerging := List.range 32 } }.pumpPower

def execEmerge (s : State) : Answer := .next (emergeStep s)

/-! ### Retests (R453) -/

/-- Page RESET, and the offset of its ACTION word. -/
def State.refuseAction (s : State) (reason : Nat) : State := s.refuse 0x002 reason 0x108

/-- A reset or retest is under way. -/
def State.startJob (s : State) (j : ResetJob) : State := { s with boot := { s.boot with job := some j } }.setFld Reg.RESET.STATUS.BUSY 1
def State.endJob (s : State) : State := { s with boot := { s.boot with job := none } }.setFld Reg.RESET.STATUS.BUSY 0

/-- Does a window entry of the active or the armed table name the core? -/
def State.tablesHold (s : State) (n : Nat) : Bool :=
  let has (t : SchedTable) : Bool := t.windows.any fun w => t.hasCore w.coreSet n
  s.seq.active.any has || s.seq.armed.any has

/-- Die and physical position that a retest of index `n` tests: the position of a logical core, its own if it is disabled, or a spare. -/
def State.retestTarget (s : State) (n : Nat) : Option (Nat × Nat) :=
  if n < 2048 then some (n / 64, (s.position (n / 64) (n % 64)).getD (n % 64))
  else if 0xF000 ≤ n ∧ n < 0xF040 then
    let d := (n - 0xF000) / 2
    let p := 64 + n % 2
    if (s.sparesUsed d).contains p then none else some (d, p)
  else none

/-- R453: RESET.ACTION.RETEST. -/
def retestStep (s : State) : State :=
  let n := s.fld Reg.RESET.RETEST.CORE
  match s.retestTarget n with
  | none => s.refuseAction 0x01F0
  | some (d, p) =>
    if n < 2048 ∧ s.tablesHold n then s.refuseAction 0x04F0
    else if s.isSet Reg.RESET.STATUS.BUSY then s.refuseAction 0x04F3
    else if (Nat.ble 2048 n || s.coreDisabled n) && s.fused.contains (Defect.position d p) then s.refuseAction 0x08F0
    else s.startJob (.retest n)

def execRetest (s : State) : Answer := .next (retestStep s)

/-- A defect found by a retest: recorded, and blown under FUSE_DEFECTS. -/
def State.newDefect (s : State) (x : Defect) : State :=
  if s.boot.defects.contains x then s.raiseErr Reg.BOOT.ERR.NEW_DEFECT
  else ({ s with boot := { s.boot with defects := s.boot.defects ++ [x] } }.appendFuse x).raiseErr Reg.BOOT.ERR.NEW_DEFECT

/-- A defect that a retest has disproved. -/
def State.dropDefect (s : State) (x : Defect) : State :=
  { s with boot := { s.boot with defects := s.boot.defects.filter fun y => !(y == x) } }

/-- R135, R453 step 4: the retest ends. Faulty cells of the array are repaired with the spares that remain; without a cover the position fails. -/
def retestDone (pass : Bool) (cells : List (Nat × Nat)) (s : State) : State :=
  match s.boot.job with
  | some (.retest n) =>
    match s.retestTarget n with
    | none => s.endJob
    | some (d, p) =>
      let cover := if pass then s.arrayRepairs d p cells else none
      let repairs := cover.getD []
      let s := s.endJob.setFld Reg.RESET.STATUS.RETEST_FAIL (if cover.isSome then 0 else 1)
      let j := n % 64
      let off := s.coreDisabled n
      if cover.isSome then
        let back := Nat.ble 2048 n || off
        let s := if back then s.dropDefect (Defect.position d p) else s
        let s := repairs.foldl (fun s x => s.newDefect x) s
        if 2048 ≤ n then (if repairs.isEmpty then s.recount d else s.mapChanged d)
        else
          let s := if off then s.implement d j j else s
          let s := { s with boot := { s.boot with lost := s.boot.lost.filter fun x => !Nat.beq x n } }
          if off || !repairs.isEmpty then (s.showArray d j).mapChanged d else s
      else
        let s := s.newDefect (Defect.position d p)
        if 2048 ≤ n then s.recount d else if off then s else ((s.giveSpare d j).showArray d j).mapChanged d
  | _ => s

def execRetestDone (pass : Bool) (cells : List (Nat × Nat)) (s : State) : Answer := .next (retestDone pass cells s)

/-! ### Resets (R455–R457) -/

/-- What the cores of a list have outstanding, and posts on their way to them, is absorbed (R456). -/
def State.absorbCores (s : State) (l : List Nat) : State :=
  let s := l.foldl (fun s n => s.setCore n { s.core n with copies := [], remotes := [] }) s
  { s with posts := s.posts.filter fun p => !(l.contains p.src || l.contains p.dst) }

/-- The cores of a cluster. -/
def clusterCores (g : Nat) : List Nat := (List.range 8).map fun k => 8 * g + k

/-- The cores on which a cocoon acts: those it holds now and those of its groups. -/
def State.coresOfCocoon (s : State) (c : Nat) : List Nat :=
  (((s.seq.openWins.filter fun w => Nat.beq w.cocoon c && !w.waiting && !w.ended).map fun w => w.core) ++
    (s.runs.filter fun r => Nat.beq r.cocoon c).flatMap fun r => r.cores.filter fun n => Nat.blt n 2048).eraseDups

/-- R455: RESET.ACTION.CORE. -/
def resetCoreAction (s : State) : State :=
  let n := s.fld Reg.RESET.TARGET.INDEX
  if 2048 ≤ n then s.refuseAction 0x01F0
  else if s.isSet Reg.RESET.STATUS.BUSY then s.refuseAction 0x04F3
  else (s.absorbCores [n]).startJob (.core n)

def execResetActionCore (s : State) : Answer := .next (resetCoreAction s)

/-- Does cocoon 0 hold a core or way of a cluster in a table? -/
def SchedTable.radioIn (t : SchedTable) (g : Nat) : Bool :=
  t.windows.any (fun w => Nat.beq w.cocoon 0 && (clusterCores g).any fun n => t.hasCore w.coreSet n) ||
    t.rows.any fun r => ((t.wayMaps.getD r.wayMap []).drop (16 * g)).take 16 |>.contains 0

/-- R455: RESET.ACTION.CLUSTER. -/
def resetClusterAction (s : State) : State :=
  let g := s.fld Reg.RESET.TARGET.INDEX
  if 256 ≤ g then s.refuseAction 0x01F0
  else if s.seq.active.any (fun t => t.radioIn g) || s.seq.armed.any fun t => t.radioIn g then s.refuseAction 0x04F1
  else if s.isSet Reg.RESET.STATUS.BUSY then s.refuseAction 0x04F3
  else (s.absorbCores (clusterCores g)).startJob (.cluster g)

def execResetActionCluster (s : State) : Answer := .next (resetClusterAction s)

/-- R455: RESET.ACTION.COCOON. -/
def resetCocoonAction (s : State) : State :=
  let c := s.fld Reg.RESET.TARGET.INDEX
  if 64 ≤ c then s.refuseAction 0x01F0
  else if c < 2 ∨ s.cocoonState c = 0 then s.refuseAction 0x04F2
  else if s.isSet Reg.RESET.STATUS.BUSY then s.refuseAction 0x04F3
  else (s.absorbCores (s.coresOfCocoon c)).startJob (.cocoon c)

def execResetActionCocoon (s : State) : Answer := .next (resetCocoonAction s)

/-- R455, R477: RESET.ACTION.DEVICE: a fatal device error of cause 0x06, whose flush the warm reset follows. -/
def resetDeviceAction (s : State) : State :=
  if s.isSet Reg.RESET.STATUS.BUSY then s.refuseAction 0x04F3 else (s.startJob .device).fatalError 0x06

def execResetActionDevice (s : State) : Answer := .next (resetDeviceAction s)

/-- Runs that a test picks end ABORTED at once, their strides stopped. -/
def State.abortRuns (s : State) (p : Run → Bool) : State :=
  let ids := s.runIds p
  let runs := s.runs.map fun (r : Run) => if p r then { r with stride := none } else r
  { s with runs := runs }.endRuns 6 0 ids

/-- Is cargo on its way from or to a store or core of a cluster? -/
def State.cargoAt (s : State) (c : Cargo) (g : Nat) : Bool :=
  let in_ (a : Nat) : Bool := match s.region (localOf a) with
    | .scratch n => Nat.beq (n / 8) g
    | .accum n => Nat.beq (n / 8) g
    | .cluster k _ => Nat.beq k g
    | _ => false
  match c with
  | .post id => s.posts.any fun p => Nat.beq p.id id && (Nat.beq (p.src / 8) g || Nat.beq (p.dst / 8) g)
  | .copy n id => (s.core n).copies.any fun x => Nat.beq x.id id && (in_ x.src || in_ x.dst)

/-- R457: a cluster reset: its cores and ways are cleared, invocations with a core in it complete ABORTED, and its crossing resynchronises. -/
def State.resetCluster (s : State) (g : Nat) : State :=
  let cores := clusterCores g
  let s := (s.absorbCores cores).abortRuns fun r => r.cores.any cores.contains
  let s := cores.foldl (fun s n => s.resetCore n) s
  let s := (s.setMem (s.mem.clear (csBase g) 0x1000000)).healSram (csBase g) 0x1000000
  let s := s.absorbPackets fun p => p.left.any (fun h => h.x == .core (g / 8)) && s.cargoAt p.cargo g
  s.setCrossing (.core (g / 8)) { s.crossing (.core (g / 8)) with resync := true, senderReset := true }

/-- R457: a cocoon reset. A group whose save is in progress or done resumes to complete ABORTED (R459). -/
def State.resetCocoon (s : State) (c : Nat) : State :=
  let saved (r : Run) : Bool := r.suspended && r.cores.any fun n => Nat.ble 2048 n || s.draining n
  let cores := (s.coresOfCocoon c).filter fun n => !s.draining n
  let s := (s.absorbCores cores).abortRuns fun r => Nat.beq r.cocoon c && !saved r
  let runs := s.runs.map fun (r : Run) => if Nat.beq r.cocoon c then { r with ending := some (r.ending.getD (6, 0)) } else r
  let s := { s with runs := runs }
  let s := cores.foldl (fun s n => s.resetCore n) s
  let ws := s.waits.filter fun w => Nat.beq w.cocoon c
  let s := ws.foldl (fun s w => s.complete w.cmd (.plain 6 0 0)) { s with waits := s.waits.filter fun w => !Nat.beq w.cocoon c }
  (s.fence c).setFld (Reg.SEQ_DEBT.DEBT.DEBT_NS c) 0

/-- R457: a core, cluster or cocoon reset completes. -/
def resetDoneStep (s : State) : State :=
  match s.boot.job with
  | some (.core n) => ((s.absorbCores [n]).resetCore n).endJob
  | some (.cluster g) => (s.resetCluster g).endJob
  | some (.cocoon c) => (s.resetCocoon c).endJob
  | _ => s

def execResetDone (s : State) : Answer := .next (resetDoneStep s)

end Sys2Proof.Machine
end

