-- ==== Sys2Proof/Machine/Pod.lean ====
section
/-!
DEFINITION. The pod's commands (R413–R434): heartbeats and scores, votes, verdicts and signed records, quarantine, progress marks, lock-step
signatures; and the checks of pages POD and LSTEP.
-/
namespace Sys2Proof.Machine

/-! ### Heartbeats (R414, R415) -/

/-- R414: a heartbeat is sent on a live link. -/
def heartbeatSend (l : Nat) (s : State) : State :=
  if [2, 3, 4].contains (s.linkState l) then
    let k := s.silkLink l
    (s.setSilkLink l { k with beats := (k.beats + 1) % 65536 }).sendPod (some (s.fld (Reg.SILK_LINK.NEIGHBOUR.ID l)))
      (.heartbeat l s.selfScore k.beats (s.seq.beat % 2 ^ 32) (s.fld Reg.POD.STATE.STATE))
  else s

def execHeartbeatTransmit (link : Nat) (s : State) : Answer := .next (heartbeatSend link s)

/-- Is a device a neighbour of this one in the map in force? -/
def State.isNeighbour (s : State) (n : Nat) : Bool := (s.podNeighbours s.deviceId).contains n

/-- R415: a heartbeat arrives from a neighbour, on any link. -/
def heartbeatReceive (l n self : Nat) (s : State) : State :=
  if [2, 3, 4].contains (s.linkState l) && s.isNeighbour n then
    s.score n fun p => { p with link := Assoc.put n (min 255 (Assoc.findD n 255 p.link + 1)) p.link
                                reported := Assoc.put n (min 255 self) p.reported }
  else s

def execHeartbeat (link from_ self _seq _beat _state : Nat) (s : State) : Answer := .next (heartbeatReceive link from_ self s)

/-- R415: a neighbour's heartbeat is missing. -/
def heartbeatMissing (n : Nat) (s : State) : State := s.scoreDown n 16

def execHeartbeatMissing (n : Nat) (s : State) : Answer := .next (heartbeatMissing n s)

/-! ### Verdicts (R418–R420, R422) -/

/-- The live neighbours of a device (R418). -/
def State.liveNeighbours (s : State) (x : Nat) : List Nat := (s.podNeighbours x).filter fun n => !Nat.beq n x && !s.pod.expelled.contains n

/-- This device's own place: expelled, held, a member, or without a map. -/
def State.podState (s : State) : Nat :=
  let me := s.deviceId
  if s.pod.map.isEmpty then 3 else if s.pod.expelled.contains me then 1 else if s.pod.held.contains me then 2 else 0

/-- POD.STATE and KEEPER follow the pod's lists. -/
def State.showPod (s : State) : State :=
  (s.enter Reg.POD.STATE.STATE s.podState).setFld Reg.POD.KEEPER.ID (s.podLive.headD 0)

/-- A verdict on a suspect ends this device's votes on it. -/
def PodUnit.settled (p : PodUnit) (x : Nat) : PodUnit :=
  { p with yesSince := Assoc.del x p.yesSince, moved := Assoc.del x p.moved, votes := p.votes.filter fun v => !Nat.beq v.suspect x }

/-- R419: EXPEL for a device; one already expelled is ignored. -/
def State.applyExpel (s : State) (x : Nat) : State :=
  if s.pod.expelled.contains x then s
  else
    let s := { s with pod := { s.pod.settled x with expelled := x :: s.pod.expelled, held := s.pod.held.filter fun y => !Nat.beq y x } }
    let s := s.showPod
    if x = s.deviceId then s.raiseErr Reg.POD.ERR.SELF_EXPELLED
    else (s.countMod Reg.POD.EXPELLED_COUNT.COUNT 1).raiseErr Reg.POD.ERR.PEER_EXPELLED

/-- R420: HOLD for a device. -/
def State.applyHold (s : State) (x : Nat) : State :=
  if s.pod.expelled.contains x || s.pod.held.contains x then s
  else { s with pod := { s.pod with held := x :: s.pod.held } }.showPod

/-- R422: READMIT for a device: it is a member again, its routing entries as in the image in force. -/
def State.applyReadmit (s : State) (x : Nat) : State :=
  { s with pod := { s.pod.settled x with expelled := s.pod.expelled.filter (fun y => !Nat.beq y x), held := s.pod.held.filter fun y => !Nat.beq y x } }.showPod

/-- Expulsions of this keeper in the budget window (R420). -/
def State.inWindow (s : State) : List Nat := s.pod.spent.filter fun t => Nat.blt s.now (t + s.fld Reg.POD.WINDOW.S * 1000000000)

/-- The live neighbours of a suspect whose latest vote is a YES of the last 300 µs (R418). -/
def State.yesVoters (s : State) (x : Nat) : List Nat :=
  (s.pod.votes.filter fun v => Nat.beq v.suspect x && v.yes && (s.liveNeighbours x).contains v.voter && Nat.ble s.mono (v.at_ + 300000)).map
    fun v => v.voter

/-- Do the YES votes exceed half the live neighbours of a suspect (R418)? -/
def State.majority (s : State) (x : Nat) : Bool := Nat.blt (s.liveNeighbours x).length (2 * (s.yesVoters x).length)

/-- The keeper expels a device: the message goes to every device and the budget counts it. -/
def State.decideExpel (s : State) (x : Nat) : State :=
  let voters := s.yesVoters x
  let s := { s with pod := { s.pod with spent := s.now :: s.inWindow } }
  ((s.setFld Reg.POD.BUDGET_USED.COUNT s.pod.spent.length).sendPod none (.expel x voters)).applyExpel x

/-- R418, R420: the keeper's decision on a suspect with a majority. -/
def State.reachVerdict (s : State) (x : Nat) : State :=
  if s.pod.expelled.contains x || !s.majority x then s
  else if s.inWindow.length < s.fld Reg.POD.CFG.BUDGET_E then s.decideExpel x
  else if s.pod.held.contains x then s
  else ((s.sendPod none (.hold x)).applyHold x).raiseErr Reg.POD.ERR.BUDGET_SPENT

/-- R418: the keeper counts a vote. -/
def voteReceive (voter x : Nat) (yes : Bool) (s : State) : State :=
  if !s.podHardware || s.pod.expelled.contains x || !(s.liveNeighbours x).contains voter then s
  else
    let rest := s.pod.votes.filter fun v => !(Nat.beq v.voter voter && Nat.beq v.suspect x)
    { s with pod := { s.pod with votes := ⟨voter, x, yes, s.mono⟩ :: rest } }.reachVerdict x

def execVoteReceive (voter x : Nat) (yes : Bool) (s : State) : Answer := .next (voteReceive voter x yes s)

/-- R418: this device votes on a suspect neighbour. -/
def voteSend (x : Nat) (s : State) : State :=
  if !s.podHardware || !s.isNeighbour x || !s.suspect x || s.pod.expelled.contains x || Nat.beq x s.deviceId then s
  else
    let yes := Nat.ble (s.health x) (s.fld Reg.POD.CFG.EXPEL_THR)
    let since := if yes then Assoc.upd x s.mono id s.pod.yesSince else Assoc.del x s.pod.yesSince
    let s := { s with pod := { s.pod with yesSince := since } }
    match s.voteDest x with
    | none => s
    | some k => if k = s.deviceId then voteReceive k x yes s else s.sendPod (some k) (.vote x yes)

def execVoteSend (x : Nat) (s : State) : Answer := .next (voteSend x s)

/-- R418: after 1 ms of YES without a verdict the votes go to the next lowest id. -/
def voteRedirect (x : Nat) (s : State) : State :=
  match Assoc.find x s.pod.yesSince with
  | none => s
  | some t =>
    let s := s.advanceMono (t + 1000000)
    { s with pod := { s.pod with moved := Assoc.upd x 0 (· + 1) s.pod.moved, yesSince := Assoc.put x s.mono s.pod.yesSince } }

def execVoteRedirect (x : Nat) (s : State) : Answer := .next (voteRedirect x s)

/-- An EXPEL message, in the mode that takes it (R434). -/
def expelMessage (x : Nat) (s : State) : State := if s.podHardware then s.applyExpel x else s

def execExpel (x : Nat) (_voters : List Nat) (s : State) : Answer := .next (expelMessage x s)

def holdMessage (x : Nat) (s : State) : State := if s.podHardware then s.applyHold x else s

def execHold (x : Nat) (s : State) : Answer := .next (holdMessage x s)

def readmitMessage (x : Nat) (s : State) : State := if s.podHardware then s.applyReadmit x else s

def execReadmitMessage (x : Nat) (s : State) : Answer := .next (readmitMessage x s)

/-- A held device when the budget frees: expelled while its majority holds and the budget allows, else a member again (R420). -/
def State.reviewHeld (s : State) (x : Nat) : State :=
  if !s.majority x then (s.sendPod none (.readmit x)).applyReadmit x
  else if s.inWindow.length < s.fld Reg.POD.CFG.BUDGET_E then s.decideExpel x
  else s

/-- R420: an expulsion leaves the budget window. -/
def budgetRelease (s : State) : State :=
  match s.pod.spent.getLast? with
  | none => s
  | some t =>
    let s := s.advanceTo (t + s.fld Reg.POD.WINDOW.S * 1000000000)
    let s := { s with pod := { s.pod with spent := s.inWindow } }
    let s := s.setFld Reg.POD.BUDGET_USED.COUNT s.pod.spent.length
    s.pod.held.reverse.foldl State.reviewHeld s

def execBudgetRelease (s : State) : Answer := .next (budgetRelease s)

/-! ### Signed records (R421, R422) -/

/-- A record from its 128 bytes, and the bytes its signature covers. -/
def parseVote (b : List Byte) : VoteRec := ⟨fieldAt b 0 2, fieldAt b 2 1, fieldAt b 3 1, fieldAt b 4 4, fieldAt b 8 8, slice b 64 64⟩
def voteSigned (v : VoteRec) : List Byte :=
  leBytes 2 v.target ++ leBytes 1 v.verdict ++ leBytes 1 v.manager ++ leBytes 4 v.seq ++ leBytes 8 v.notAfter ++ List.replicate 48 0

/-- Why a record is refused: its signature, or its time or sequence. -/
def State.voteReason (s : State) (v : VoteRec) : Option Nat :=
  if !(Nat.blt v.manager (podManagers s.pod.map) && Config.ed25519Verify (podKey s.pod.map v.manager) (voteSigned v) v.sig) then some 0x07E0
  else if v.notAfter < s.now / 1000000000 ∨ (Assoc.find v.target s.pod.applied).any (fun q => Nat.ble v.seq q) then some 0x07E1
  else none

/-- A valid record is held; at a quorum of distinct managers its verdict is applied and the records are flooded. -/
def State.takeVote (s : State) (v : VoteRec) : State :=
  let same (r : VoteRec) : Bool := Nat.beq r.target v.target && Nat.beq r.verdict v.verdict && Nat.beq r.seq v.seq
  let held := if s.pod.records.any (fun r => same r && Nat.beq r.manager v.manager) then s.pod.records else s.pod.records ++ [v]
  let s := { s with pod := { s.pod with records := held } }
  let agree := held.filter same
  if agree.length < podQuorum s.pod.map ∨ !(v.verdict = 1 ∨ v.verdict = 2) then s
  else
    let s := { s with pod := { s.pod with applied := Assoc.put v.target v.seq s.pod.applied
                                          records := held.filter fun r => !(Nat.beq r.target v.target && Nat.ble r.seq v.seq) } }
    let s := s.sendPod none (.records agree)
    if v.verdict = 1 then s.applyExpel v.target else s.applyReadmit v.target

/-- R421: POD.ACTION.VOTE. -/
def vote (s : State) : State :=
  let a := s.fld2 Reg.POD.VOTE_LO.ADDR Reg.POD.VOTE_HI.ADDR
  let v := parseVote (s.rdBytes a 128)
  if s.podHardware then s.refuse 0x008 0x04E2 0x130
  else if !s.inRegion 1 a 128 then s.refuse 0x008 0x03E0 0x128
  else match s.voteReason v with
    | some r => (if r = 0x07E0 then s.raiseErr Reg.POD.ERR.VOTE_BAD else s).refuse 0x008 r 0x128
    | none =>
      if v.verdict = 2 ∧ !s.pod.expelled.contains v.target then s.refuse 0x008 0x04E1 0x128
      else (s.takeVote v).passed 0x008

def execVote (s : State) : Answer := .next (vote s)

/-- R421: flooded records are verified again. -/
def voteFlood (l : List VoteRec) (s : State) : State :=
  if s.podHardware then s
  else l.foldl (fun s v => match s.voteReason v with
    | some r => if r = 0x07E0 then s.raiseErr Reg.POD.ERR.VOTE_BAD else s
    | none => s.takeVote v) s

def execVoteRecordsFlood (records : List VoteRec) (s : State) : Answer := .next (voteFlood records s)

/-- R422: POD.ACTION.READMIT: the keeper is asked, or, being the keeper, decides. What the other live neighbours hold, and what a device that is
no neighbour reports, this device cannot see: that part is free. -/
def readmit (s : State) : State :=
  let x := s.fld Reg.POD.HSEL.DEVICE
  if !s.pod.expelled.contains x then s.refuse 0x008 0x04E1 0x114
  else if !s.podHardware then s
  else match s.podLive.head? with
    | none => s
    | some k =>
      let s := s.passed 0x008
      if k ≠ s.deviceId then s.sendPod (some k) (.askReadmit x)
      else
        let thr := s.fld Reg.POD.CFG.SUSPECT_THR
        let ok := Config.freeBool s.draws && (!s.isNeighbour x || Nat.blt thr (s.reportedScore x))
        if ok then (s.drawn.sendPod none (.readmit x)).applyReadmit x else s.drawn

def execReadmit (s : State) : Answer := .next (readmit s)

/-! ### Quarantine (R424) -/

/-- Is the tenant function bound? -/
def State.tenantBound (s : State) (f : Nat) : Bool := Nat.blt f 256 && !Nat.beq (s.fld (Reg.FN.FN_STATUS.STATE f)) 0

/-- R424: a write to QUAR_REQ: every request and copy of the cocoon to the device ends at once, those under way too. -/
def quarantine (f d : Nat) (s : State) : State :=
  if !s.tenantBound f then s
  else
    let c := s.fnCocoon f
    let k := s.cocoon c
    if k.quar.contains d then s
    else if 16 ≤ k.quar.length then s.refuse (0x140 + f) 0x05E0 0x1B4
    else
      let s := (s.setCocoon c { k with quar := k.quar ++ [d] }).raiseErr Reg.POD.ERR.QUARANTINE
      let mine := (s.outstanding (Nat.beq d)).filter fun x => Nat.beq (s.fld (coreOwnerFld x.1)) c
      mine.foldl (fun s x =>
        if x.2.2 then
          match (s.core x.1).copies.find? fun y => Nat.beq y.id x.2.1 with
          | some y => (s.dropCopy x.1 y.id).quarantineEnd x.1 y.slot
          | none => s
        else s.endOp x 2) s

def execQuarantine (fn device : Nat) (s : State) : Answer := .next (quarantine fn device s)

/-- R424: the quarantine of a device ends. -/
def quarantineClear (f d : Nat) (s : State) : State :=
  if !s.tenantBound f then s
  else
    let c := s.fnCocoon f
    s.setCocoon c { s.cocoon c with quar := (s.cocoon c).quar.filter fun x => !Nat.beq x d }

def execQuarantineClear (fn device : Nat) (s : State) : Answer := .next (quarantineClear fn device s)

/-! ### Progress marks (R425) -/

/-- A mark changes the course of the bound cocoon, or, out of order, is ignored and sets MARK_BAD. -/
def State.progMark (s : State) (f : Nat) (k : Progress → Nat → Option Progress) : State :=
  if !s.tenantBound f then s
  else
    let c := s.fnCocoon f
    match k (s.cocoon c).prog s.now with
    | some p => s.setCocoon c { s.cocoon c with prog := p }
    | none => s.setFld (Reg.FN.PROG_STATUS.MARK_BAD f) 1

def Progress.resume (p : Progress) (now : Nat) : Option Progress :=
  match p.course with
  | .none => some { p with course := .running, since := now, first := now }
  | .rolledBack => some { p with course := .running, since := now, lost := p.lost + p.open_ now }
  | _ => none

def Progress.start (p : Progress) (now : Nat) : Option Progress :=
  match p.course with
  | .running => some { p with course := .checkpoint, since := now, pending := p.pendingNow now }
  | _ => none

def Progress.done (p : Progress) (now : Nat) : Option Progress :=
  match p.course with
  | .checkpoint => some { p with course := .running, since := now, useful := p.useful + p.pending, pending := 0, overhead := p.overhead + p.open_ now }
  | _ => none

def Progress.rollback (p : Progress) (now : Nat) : Option Progress :=
  match p.course with
  | .none => none
  | .running => some { p with course := .rolledBack, since := now, lost := p.lost + p.pendingNow now, pending := 0 }
  | .checkpoint => some { p with course := .rolledBack, since := now, lost := p.lost + p.pending + p.open_ now, pending := 0 }
  | .rolledBack => some p

def resume (f : Nat) (s : State) : State := s.progMark f Progress.resume
def ckptStart (f : Nat) (s : State) : State := s.progMark f Progress.start
def ckptDone (f : Nat) (s : State) : State := s.progMark f Progress.done
def rollback (f : Nat) (s : State) : State := s.progMark f Progress.rollback

def execResume (fn : Nat) (s : State) : Answer := .next (resume fn s)
def execCkptStart (fn : Nat) (s : State) : Answer := .next (ckptStart fn s)
def execCkptDone (fn : Nat) (s : State) : Answer := .next (ckptDone fn s)
def execRollback (fn : Nat) (s : State) : Answer := .next (rollback fn s)

/-! ### Lock-step signatures (R432, R433) -/

/-- Is the pair comparing? -/
def State.comparing (s : State) (i : Nat) : Bool := Nat.blt i 4 && s.isSet (Reg.LSTEP.CFG.EN i) && !(s.pair i).stopped

/-- R433: a mismatch of a cause (0 signature, 1 timeout, 2 overflow). The first is latched; what one side does not hold of it is free. -/
def State.mismatch (s : State) (i : Nat) (tag : SigTag) (own theirs : Option SigRec) (cause : Nat) : State :=
  let s := s.countSat (Reg.LSTEP.MISMATCHES.COUNT i) 1
  let bit := (s.fld Reg.LSTEP.ERR.MISMATCH).testBit i
  if s.fld (Reg.LSTEP.STATUS.STATE i) ≠ 1 then s
  else
    let beat := own.elim (Config.freeNat s.draws) fun r => r.beat
    let core := own.elim (Config.freeNat (s.draws + 1)) fun r => r.core
    let far := theirs.elim (Config.freeNat (s.draws + 2)) fun r => r.core
    let s := s.drawn.drawn.drawn.setFlds [(Reg.LSTEP.FIRST_INV.INV i, tag.inv), (Reg.LSTEP.FIRST_ENTRY.ENTRY i, tag.entry),
      (Reg.LSTEP.FIRST_PASS.PASS i, tag.pass), (Reg.LSTEP.FIRST_BEAT_LO.BEAT i, beat), (Reg.LSTEP.FIRST_BEAT_HI.BEAT i, beat / 2 ^ 32),
      (Reg.LSTEP.FIRST_CORE.RANK i, tag.rank), (Reg.LSTEP.FIRST_CORE.LOCAL i, core), (Reg.LSTEP.FIRST_PARTNER.CORE i, far),
      (Reg.LSTEP.FIRST_PARTNER.CAUSE i, cause), (Reg.LSTEP.STATUS.STATE i, 2)]
    let s := if bit then s else s.raiseErr ⟨0x009, 0x20, i, 1⟩
    if s.isSet (Reg.LSTEP.CFG.POLICY i) then s.fence (s.fld (Reg.LSTEP.CFG.COCOON i)) else s

/-- Compare one signature of the partner with this device's, or of this device with the partner's (`mine`). -/
def State.matchSig (s : State) (i : Nat) (mine : Bool) (r : SigRec) : State :=
  let k := s.pair i
  if k.stopped then s
  else
    let others := if mine then k.theirs else k.own
    match others.find? fun x => x.tag == r.tag with
    | some x =>
      let s := s.setPair i (if mine then { k with theirs := k.theirs.erase x } else { k with own := k.own.erase x })
      let s := s.countSat (Reg.LSTEP.COMPARED.COUNT i) 1
      if x.sig = r.sig then s
      else if mine then s.mismatch i r.tag (some r) (some x) 0 else s.mismatch i r.tag (some x) (some r) 0
    | none =>
      if 4096 ≤ k.own.length + k.theirs.length then
        let s := s.mismatch i r.tag (if mine then some r else none) (if mine then none else some r) 2
        (s.setPair i { s.pair i with stopped := true }).setFld (Reg.LSTEP.STATUS.STATE i) 3
      else s.setPair i (if mine then { k with own := k.own ++ [r] } else { k with theirs := k.theirs ++ [r] })

/-- R432: a partner's signatures arrive. -/
def signatureReceive (i : Nat) (l : List SigRec) (s : State) : State :=
  if s.comparing i then l.foldl (fun s r => s.matchSig i false r) s else s

def execSignatureReceive (pair : Nat) (sigs : List SigRec) (s : State) : Answer := .next (signatureReceive pair sigs s)

/-- R432: a signature has found no match within LAG.BEATS. -/
def signatureTimeout (i : Nat) (tag : SigTag) (s : State) : State :=
  let k := s.pair i
  if !s.comparing i then s
  else match k.own.find? fun x => x.tag == tag with
    | some r => (s.setPair i { k with own := k.own.erase r }).mismatch i tag (some r) none 1
    | none =>
      match k.theirs.find? fun x => x.tag == tag with
      | some r => (s.setPair i { k with theirs := k.theirs.erase r }).mismatch i tag none (some r) 1
      | none => s

def execSignatureTimeout (pair : Nat) (tag : SigTag) (s : State) : Answer := .next (signatureTimeout pair tag s)

/-- Send the signatures of one pair, in ascending rank, and compare them with what has come. -/
def State.exchangePair (s : State) (i : Nat) : State :=
  let k := s.pair i
  let l := sortBy (fun (a b : SigRec) => Nat.ble a.tag.rank b.tag.rank) k.fresh
  let s := s.setPair i { k with fresh := [] }
  if !s.comparing i || l.isEmpty then s else l.foldl (fun s r => s.matchSig i true r) (s.emit (.signatures i l))

/-- R432: at a beat boundary each pair exchanges the signatures of the strides that ended. -/
def State.exchangeSignatures (s : State) : State := (List.range 4).foldl (fun s i => s.exchangePair i) s

/-! ### The checks of POD and LSTEP (R413, R435, R437, R438) -/

/-- The pod map at an address, as far as its IMAGE_LEN can go. -/
def State.podImage (s : State) (a : Nat) : List Byte := s.rdBytes a (max 0x140 (min 0x85000 (s.rd (a + 12) 4)))

/-- Is every neighbour named named back, and are the ids rising? -/
def podSymmetric (b : List Byte) : Bool :=
  let es := (List.range (podDevices b)).map fun d => (podId b d, podList b d)
  (es.all fun e => e.2.all fun n => es.any fun x => Nat.beq x.1 n && x.2.contains e.1) && (es.zip es.tail).all fun p => Nat.blt p.1.1 p.2.1

/-- The first failed condition of a pod commit, with its offset, on the values `v` of the fields (the shadow) and the map at address `a`. -/
def State.podReason (s : State) (v : Fld → Nat) (a : Nat) (b : List Byte) : Option (Nat × Nat) :=
  let len := fieldAt b 12 4
  let sus := v Reg.POD.CFG.SUSPECT_THR
  let exp := v Reg.POD.CFG.EXPEL_THR
  let tests : List (Bool × Nat × Nat) := [
    (Nat.beq sus 0 || Nat.beq sus 255 || Nat.blt 253 exp || Nat.beq (v Reg.POD.CFG.BUDGET_E) 0, 0x01E0, 0x100),
    (Nat.blt (v Reg.POD.WINDOW.S) 60, 0x01E0, 0x104),
    (!Nat.beq (fieldAt b 0 4) 0x504F4431 || !Nat.beq (fieldAt b 4 2) 1 || Nat.blt 4096 (podDevices b) || Nat.blt 8 (podManagers b) ||
      !Nat.beq len (0x140 + 132 * podDevices b) || !Nat.beq (fieldAt b 16 4) (imageCrc (b.take len) 16) ||
      (List.range (podDevices b)).any (fun d => Nat.blt 64 (fieldAt b (0x142 + 132 * d) 2)) || !podSymmetric b, 0x02E0, 0x108),
    (Nat.ble sus exp, 0x02E1, 0x100),
    ((Nat.beq (v Reg.POD.CFG.MODE) 0 && Nat.beq (podDevices b) 0) ||
      (!Nat.beq (podManagers b) 0 && (Nat.beq (podQuorum b) 0 || Nat.blt (podManagers b) (podQuorum b))), 0x02E2, 0x108),
    (!s.inRegion 1 a (max 0x140 len), 0x03E0, 0x108)]
  (tests.find? fun t => t.1).map fun t => t.2

/-- A pod map takes effect: HOLD stands and the keeper is chosen again (R434). -/
def State.installPod (s : State) (b : List Byte) : State := { s with pod := { s.pod with map := b } }.showPod

/-- The first failed condition of an LSTEP commit, on the values `v` of its fields. -/
def State.lstepReason (s : State) (v : Fld → Nat) : Option (Nat × Nat) :=
  (List.range 4).findSome? fun i =>
    let c := v (Reg.LSTEP.CFG.COCOON i)
    if v (Reg.LSTEP.LAG.BEATS i) < 8 then some (0x01E0, 0x104 + 0x40 * i)
    else if v (Reg.LSTEP.CFG.EN i) = 0 then none
    else if c < 2 then some (0x01E0, 0x100 + 0x40 * i)
    else if !s.created c then some (0x03E0, 0x100 + 0x40 * i)
    else none

/-- A pair's EN changed at a commit: setting it starts comparing afresh, clearing it ends it (R432). -/
def State.restartPair (s : State) (i : Nat) (was : Bool) : State :=
  let on := s.isSet (Reg.LSTEP.CFG.EN i)
  if on && !was then (s.setPair i LockPair.fresh_).setFld (Reg.LSTEP.STATUS.STATE i) 1
  else if !on && was then (s.setPair i LockPair.fresh_).setFld (Reg.LSTEP.STATUS.STATE i) 0
  else s

end Sys2Proof.Machine
end

