-- ==== Sys2Proof/Machine/Radio.lean ====
section
/-!
DEFINITION. The radio's commands (R192–R228): FAPI requests and indications, HARQ and LDPC decoding, PRACH detection, cell configurations,
fallback, and what a beat boundary does for the radio.
-/
namespace Sys2Proof.Machine

def State.setRadio (s : State) (r : RadioUnit) : State := { s with radio := r }

/-! ### Requests (R218–R221, R225, R226) -/

/-- Device time at which the pending configuration takes effect, if one is pending (R200). -/
def State.cfgTime (s : State) : Option Nat :=
  if s.radio.next.isSome then some (s.fld2 Reg.RADIO.CFG_BEAT_LO.BEAT Reg.RADIO.CFG_BEAT_HI.BEAT * s.L) else none

/-- SFN and slot that a request's body names: its first two words for NR, SFN × 16 + subframe in its first word for LTE. -/
def bodySlot (lte : Bool) (b : List Byte) : Nat × Nat :=
  if lte then (fieldAt b 0 2 / 16, fieldAt b 0 2 % 16) else (fieldAt b 0 2, fieldAt b 2 2)

/-- The next start, at or after the frame in progress at `n`, of the slot that a SFN and slot number name. -/
def slotAfter (n : Nat) (e : List Byte) (sfn slot : Nat) : Nat :=
  let f := n / 10000000
  (f + (sfn + 1024 - f % 1024) % 1024) * 10000000 + slot * slotNs e

/-- The entry of a cell for the slot a request of doorbell time `n` names: of the configuration that is in force when the slot starts, and that
start, which lies within 10 ms of the doorbell (R219, R227). -/
def State.cellFor (s : State) (cell sfn slot n : Nat) : Option (List Byte × Nat) :=
  let entry (img : List Byte) : Option (List Byte × Nat) :=
    if cell < cellCount img then
      let e := cellEntry img cell
      let t := slotAfter n e sfn slot
      if Nat.blt (slot * slotNs e) 10000000 && Nat.blt n t && Nat.ble t (n + 10000000) then some (e, t) else none
    else none
  match s.cfgTime, s.radio.next with
  | some b, some img =>
    match entry img with
    | some (e, t) => if b ≤ t then some (e, t) else (entry s.radio.image).filter fun x => Nat.blt x.2 b
    | none => (entry s.radio.image).filter fun x => Nat.blt x.2 b
  | _, _ => entry s.radio.image

/-- Do R192 and R193 support a PDU: its layers per UE, its modulation and its format? -/
def pduOk (lte : Bool) : Pdu → Bool
  | .pdsch _ _ layers qm _ => if lte then Nat.ble layers 4 && Nat.ble qm 8 else Nat.ble layers 8 && Nat.ble qm 10
  | .pusch p => Nat.ble p.layers 4 && Nat.ble p.qm 8
  | .pucch p => Nat.ble p.format (if lte then 6 else 4)
  | .prach p => Nat.ble p.format (if lte then 3 else 12)
  | .unsupported _ => false
  | _ => true

/-- Is a PDU one that the broadcast cache keeps (R225)? -/
def cached : Pdu → Bool
  | .ssb _ => true
  | .pdcch si _ => si
  | .pdsch si _ _ _ _ => si
  | _ => false

/-- R225: the broadcast content of a slot's on-time requests is cached, its SI blocks in whichever order the requests came; content of the cell
older than 160 ms leaves. -/
def State.cacheSlot (s : State) (cell start : Nat) : State :=
  let pdus := ((s.slotReqs cell start idDl true).flatMap fun r => r.pdus).filter cached
  let si (b : TxBlock) : Bool := pdus.any fun p => match p with | .pdsch _ tb _ _ _ => Nat.beq tb b.tb | _ => false
  let blocks := (s.txBlocks cell start).filter si
  let keep (c : CacheEntry) : Bool := !Nat.beq c.cell cell || (Nat.blt start (c.start + 160000000) && !Nat.beq c.start start)
  if pdus.isEmpty then s else s.setRadio { s.radio with cache := s.radio.cache.filter keep ++ [⟨cell, start, pdus, blocks⟩] }

/-- R226: a cell that does not serve will from the first slot for which an on-time request arrives. -/
def State.serveCell (s : State) (cell start : Nat) : State :=
  if Assoc.find cell s.radio.cells == some 1 || !s.radio.cells.any fun c => Nat.beq c.1 cell then s
  else
    let t := match Assoc.find cell s.radio.serveAt with
      | some x => min x start
      | none => start
    s.setRadio { s.radio with serveAt := Assoc.put cell t s.radio.serveAt }

/-- RSTATE as the cells stand: SERVING when all serve, FALLBACK while any is in it, else SILENT (R224–R226). -/
def State.showRstate (s : State) : State :=
  let v := s.radio.cells.map fun c => c.2
  let r := if v.all fun x => Nat.beq x 1 then 1 else if v.contains 2 then 2 else 3
  if !s.radioOn || Nat.beq (s.fld Reg.RADIO.STATUS.RSTATE) r then s else s.enter Reg.RADIO.STATUS.RSTATE r

/-- The cells whose slot of return begins serve again (R226). -/
def State.serveEffect (s : State) : State :=
  let due := (s.radio.serveAt.filter fun x => Nat.ble x.2 s.now).map fun x => x.1
  if due.isEmpty then s
  else
    let keep (c : Nat) : Bool := !due.contains c
    (s.setRadio { s.radio with
      cells := s.radio.cells.map fun c => (c.1, if due.contains c.1 then 1 else c.2)
      serveAt := s.radio.serveAt.filter fun x => keep x.1
      fallbackAt := s.radio.fallbackAt.filter fun x => keep x.1
      silentDue := s.radio.silentDue.filter keep }).showRstate

/-- Is a cell LTE, in the configuration in force or, if it is not there, the pending one? -/
def State.lteCell (s : State) (c : Nat) : Bool :=
  let img := if Nat.blt c (cellCount s.radio.image) then s.radio.image else s.radio.next.getD []
  Nat.blt c (cellCount img) && cellIsLte (cellEntry img c)

def RdWhy.ofFapi (num : Nat) : RdWhy → Bool
  | .fapi n _ => Nat.beq n num
  | _ => false

/-- A request whose slot is known is judged: late, duplicate, or kept with the PDUs the Y40 supports (R219–R221). -/
def State.takeRequest (s : State) (id : Nat) (q : FapiEntry) (e : List Byte) (t sfn slot : Nat) : State :=
  let lte := cellIsLte e
  let old := s.radio.reqs.filter fun x => Nat.blt s.now (x.start + 20000000)
  if (t / s.L - 2) * s.L ≤ q.bell then
    let s := s.setRadio { s.radio with reqs := old ++ [⟨id, q.cell, t, false, [], []⟩] }
    ((s.countSat Reg.RADIO.LATE_COUNT.COUNT 1).raiseErr Reg.RADIO.ERR.LATE).errRing q.cell sfn slot 0x01 id
  else if [idDl, idUl, idDci].contains id && !(s.slotReqs q.cell t id true).isEmpty then s.errRing q.cell sfn slot 0x02 id
  else
    let pdus := if id = idTx then [] else Config.fapiPdus lte id q.body
    let blocks := if id = idTx then Config.fapiBlocks lte q.body else []
    let s := s.setRadio { s.radio with reqs := old ++ [⟨id, q.cell, t, true, pdus.filter (pduOk lte), blocks⟩] }
    let s := (pdus.filter fun p => !pduOk lte p).foldl (fun s _ => s.errRing q.cell sfn slot 0x04 id) s
    let s := if id = idDl ∨ id = idTx then s.cacheSlot q.cell t else s
    s.serveCell q.cell t

/-- A request of a message and radio access technology, at the front of the inbox with its body read, is taken (R218–R221). -/
def fapiRequest (id : Nat) (lte : Bool) (s : State) : State :=
  match s.radio.inbox with
  | [] => s
  | q :: rest =>
    if !Nat.beq q.id id || s.lteCell q.cell != lte || s.reading 257 (RdWhy.ofFapi q.num) then s
    else
      let s := s.setRadio { s.radio with inbox := rest }
      if q.failed || !s.radioOn || !s.linkUp then s
      else
        let (sfn, slot) := bodySlot lte q.body
        match s.cellFor q.cell sfn slot q.bell with
        | none => s.errRing q.cell sfn slot 0x05 id
        | some (e, t) => s.takeRequest id q e t sfn slot

def execDlTtiRequest (s : State) : Answer := .next (fapiRequest idDl false s)
def execUlTtiRequest (s : State) : Answer := .next (fapiRequest idUl false s)
def execUlDciRequest (s : State) : Answer := .next (fapiRequest idDci false s)
def execTxDataRequest (s : State) : Answer := .next (fapiRequest idTx false s)
def execDlConfigRequest (s : State) : Answer := .next (fapiRequest idDl true s)
def execUlConfigRequest (s : State) : Answer := .next (fapiRequest idUl true s)
def execHiDci0Request (s : State) : Answer := .next (fapiRequest idDci true s)
def execTxRequest (s : State) : Answer := .next (fapiRequest idTx true s)

/-! ### Received slots (R203, R214–R216) -/

/-- The last start, at or before now, of the slot that a SFN and slot number name. -/
def State.slotPast (s : State) (e : List Byte) (sfn slot : Nat) : Nat :=
  let f := s.now / 10000000
  (f - (f % 1024 + 1024 - sfn % 1024) % 1024) * 10000000 + slot * slotNs e

/-- The start of the slot an indication or a decoding stage is for. -/
def State.refStart (s : State) (i : SlotRef) : Nat := s.slotPast (cellEntry s.radio.image i.cell) i.sfn i.slot

/-- What has been received of a slot: symbol, stream and PRB, then the samples. -/
def State.slotSamples (s : State) (cell start : Nat) : List (List Int) :=
  (s.fh.received.filter fun r => Nat.beq r.cell cell && Nat.beq r.start start).map fun r =>
    (r.symbol : Int) :: (r.stream : Int) :: (r.prb : Int) :: r.samples

/-- The PRB groups that PRBs span. -/
def prbGroups (prb0 prbs : Nat) : List Nat := (List.range ((prb0 + prbs + 11) / 12 - prb0 / 12)).map fun k => prb0 / 12 + k

/-- The floor of a group; before its first sample none is stated, so its value is free. -/
def State.floorOf (s : State) (cell g : Nat) : Frac :=
  match Assoc.find (64 * cell + g) s.radio.nf with
  | some v => v
  | none => ⟨Config.freeNat (s.draws + g), 1⟩

/-- The mean floor over PRBs (R212, R216). -/
def State.floorMean (s : State) (cell prb0 prbs : Nat) : Frac := Frac.mean ((prbGroups prb0 prbs).map (s.floorOf cell))

/-- Post-equalisation SINR of an allocation in 0.25 dB, measured against the noise floor (R216). -/
def State.sinrOf (s : State) (cell start prb0 prbs : Nat) : Int :=
  let x := Config.eqEnergy (s.slotSamples cell start) prb0 prbs
  let nf := s.floorMean cell prb0 prbs
  quarterDb s.draws (x.1 * nf.den) (x.2 * nf.num)

/-- The link-adaptation entry for a SINR in 0.25 dB (R216). -/
def State.laEntry (s : State) (cell : Nat) (sinr : Int) : Nat :=
  let b := s.radio.image
  let e := cellEntry b cell
  let i := (min 255 (max 0 (sinr + 40))).toNat
  fieldAt b (fieldAt b 0x18 4 + 1024 * fieldAt e 14 1 + 4 * i) 4

/-- Its fields: LLR_SHIFT, the correction of the SINR reported, and the MMSE regularisation. -/
def laShift (v : Nat) : Nat := bitsOf v 0 4
def laCorrection (v : Nat) : Int := toSigned 8 (v / 256)
def laReg (v : Nat) : Int := toSigned 8 (v / 65536)

/-- The SINR reported: the table's correction is added (R216). -/
def State.reportSinr (s : State) (cell : Nat) (sinr : Int) : Int := sinr + laCorrection (s.laEntry cell sinr)

/-- The value that stands for "invalid" in a power report. -/
def invalidPower : Int := -2147483648

/-- The power reported in 0.01 dB: RX_GAIN is added to the value latched; "invalid" where none was (R214). -/
def State.reportPower (s : State) (cell start rnti : Nat) : Int :=
  match s.radio.latched.find? fun l => Nat.beq l.cell cell && Nat.beq l.start start && Nat.beq l.rnti rnti with
  | some l => 25 * l.value + toSigned 32 (fieldAt (cellEntry s.radio.image cell) 20 4)
  | none => invalidPower

/-- Engine memories meet errors, which are corrected and counted: how many is free (R229). -/
def State.countEngine (s : State) : State := s.drawn.countSat Reg.RADIO_ENG.ENG_CE.COUNT (Config.freeNat s.draws)

/-! ### HARQ and decoding (R204, R207–R210) -/

/-- HARQ_BUFS and HARQ_BUF_BYTES of a cell; the address of a place of its pool, which stays where it was laid while the cell is unchanged (R200). -/
def harqBufs (e : List Byte) : Nat := fieldAt e 24 4
def harqBytes (e : List Byte) : Nat := fieldAt e 28 4
def State.harqAddr (s : State) (cell place : Nat) : Nat :=
  Assoc.findD (α := Nat) cell 0 s.radio.pools + place * harqBytes (cellEntry s.radio.image cell)

/-- Where an image lays a cell's pool: after those of the cells before it. -/
def poolBase (b : List Byte) (cell : Nat) : Nat :=
  fieldAt b 0x20 8 + ((List.range cell).map fun c => harqBufs (cellEntry b c) * harqBytes (cellEntry b c)).sum

/-- The LLRs of a code block's coded bits, by the demapper (R207): LLR_SHIFT and the regularisation come from the table's entry. -/
def State.blockLlrs (s : State) (cell start : Nat) (p : PuschPdu) (block : Nat) : List Int :=
  let la := s.laEntry cell (s.sinrOf cell start p.prb0 p.prbs)
  let x := s.slotSamples cell start
  (List.range p.coded).map fun n => llrOf (laShift la) (Config.bitProb x p (laReg la) block n)

/-- The part of a buffer that holds a code block: its address, and as many positions as HARQ_BUF_BYTES leaves it. -/
def State.harqPart (s : State) (h : HarqBuf) (p : PuschPdu) (block : Nat) : Nat × Nat :=
  (s.harqAddr h.cell h.place + block * p.ncb, min p.ncb (harqBytes (cellEntry s.radio.image h.cell) - block * p.ncb))

/-- Write a code block's LLRs into a buffer, which is now the one written last. -/
def State.writeHarq (s : State) (h : HarqBuf) (p : PuschPdu) (block : Nat) (l : List Int) : State :=
  let x := s.harqPart h p block
  let s := (s.store x.1 ((l.take x.2).map fun v => BitVec.ofInt 8 v)).1
  let same (y : HarqBuf) : Bool := Nat.beq y.cell h.cell && Nat.beq y.place h.place
  s.setRadio { s.radio with harq := (s.radio.harq.filter fun y => !same y) ++ [h] }

/-- Every line of a buffer is cleared (R209). -/
def State.clearHarq (s : State) (h : HarqBuf) : State :=
  let a := s.harqAddr h.cell h.place
  let n := harqBytes (cellEntry s.radio.image h.cell)
  (s.wrBytes a (List.replicate n 0)).healWrite (a / 64 * 64) ((a + n + 63) / 64 * 64 - a / 64 * 64)

/-- Take a free buffer of the cell, or evict the one written least recently (R208). -/
def State.allocHarq (s : State) (cell rnti process start : Nat) : State × HarqBuf :=
  let mine := s.radio.harq.filter fun h => Nat.beq h.cell cell
  let n := harqBufs (cellEntry s.radio.image cell)
  match (List.range n).find? fun p => !mine.any fun h => Nat.beq h.place p with
  | some p => (s, ⟨cell, rnti, process, p, start⟩)
  | none =>
    match mine with
    | h :: _ => ((s.setRadio { s.radio with harq := s.radio.harq.erase h }).countSat Reg.RADIO.HARQ_EVICT.COUNT 1, ⟨cell, rnti, process, h.place, start⟩)
    | [] => (s, ⟨cell, rnti, process, 0, start⟩)

/-- The buffer of a key. -/
def State.harqOf (s : State) (cell rnti process : Nat) : Option HarqBuf :=
  s.radio.harq.find? fun h => Nat.beq h.cell cell && Nat.beq h.rnti rnti && Nat.beq h.process process

/-- R208, R209: the buffer that a PUSCH of a slot combines with: its own, one overwritten by new data or after a loss, or a new one. A buffer whose
`since` is this slot takes the slot's LLRs as a first transmission. -/
def State.harqFor (s : State) (cell start : Nat) (p : PuschPdu) : State × HarqBuf :=
  match s.harqOf cell p.rnti p.process with
  | some h =>
    let n := harqBytes (cellEntry s.radio.image cell)
    let a := s.harqAddr cell h.place
    if h.since = start then (s, h)
    else if p.newData then (s, { h with since := start })
    else if s.bad a n then
      ((((s.scrubRead a n).countSat Reg.RADIO.HARQ_LOST.COUNT 1).raiseErr Reg.RADIO.ERR.HARQ_LOST).clearHarq h, { h with since := start })
    else (s.scrubRead a n, h)
  | none =>
    let e := cellEntry s.radio.image cell
    let s := if p.newData then s else s.errRing cell (sfnOf start) (slotOf e start) 0x07 0
    s.allocHarq cell p.rnti p.process start

/-- R208: a code block's LLRs combined with its buffer: the state, and the circular buffer to decode. -/
def State.harqCombine (s : State) (cell start : Nat) (p : PuschPdu) (block : Nat) (llrs : List Int) : State × List Int :=
  let lte := cellIsLte (cellEntry s.radio.image cell)
  let (s, h) := s.harqFor cell start p
  let x := s.harqPart h p block
  let old := if h.since = start then List.replicate p.ncb 0
    else ((s.rdBytes x.1 x.2).map fun b => clampLlr (toSigned 8 b.toNat)) ++ List.replicate (p.ncb - x.2) 0
  let l := addLlrs (Config.ratePos p lte block) old llrs
  (s.writeHarq h p block l, l)

/-- The CRC of a transport block of one code block, or of a code block among several: CRC24B; alone CRC24A, and CRC16 for NR blocks of at most
3,824 bits (TS 38.212, TS 36.212). -/
def blockCrc (lte : Bool) (p : PuschPdu) (bits : List Bool) : Bool :=
  if 1 < p.blocks then crc24B bits else if !lte && Nat.ble bits.length 3840 then crc16 bits else crc24A bits

/-- The bits of a transport block decoded so far, block after block, without the CRCs of several code blocks; nothing while one is missing. -/
def State.tbBits (s : State) (cell start : Nat) (p : PuschPdu) : Option (List Bool) :=
  let of (b : Nat) : Option (List Bool) := (s.radio.decoded.find? fun d =>
    Nat.beq d.cell cell && Nat.beq d.start start && Nat.beq d.rnti p.rnti && Nat.beq d.block b).map fun d => d.bits
  (List.range p.blocks).foldl (fun acc b => acc.bind fun l => (of b).map fun x => l ++ if 1 < p.blocks then x.take (x.length - 24) else x) (some [])

/-- R204, R210: does the transport block of a PUSCH pass: every code block is decoded, and its CRC holds, with several also that of each? -/
def State.tbPass (s : State) (cell start : Nat) (p : PuschPdu) : Bool :=
  let lte := s.lteCell cell
  match s.tbBits cell start p with
  | none => false
  | some bits =>
    !(s.radio.lost.contains (cell, start)) &&
      (if 1 < p.blocks then
        crc24A bits && !(s.radio.decoded.any fun d => Nat.beq d.cell cell && Nat.beq d.start start && Nat.beq d.rnti p.rnti && !d.pass)
      else blockCrc lte p bits)

/-- A code block is decoded: combined, decoded until its checks hold or the cell's limit (R204), for LTE until its CRC passes (R210). A transport block
that passes releases its buffer (R208). -/
def State.decodeBlock (s : State) (cell start : Nat) (p : PuschPdu) (block : Nat) : State :=
  let e := cellEntry s.radio.image cell
  let lte := cellIsLte e
  let lim := fieldAt e 12 1
  let (s, buf) := s.harqCombine cell start p block (s.blockLlrs cell start p block)
  let bits := if lte then turboDecodeBlock p lim (blockCrc lte p) buf else (ldpcDecodeBlock p lim buf).1
  let s := (s.setRadio { s.radio with
    decoded := s.radio.decoded ++ [⟨cell, start, p.rnti, block, bits, blockCrc lte p bits⟩] }).countEngine
  if s.tbPass cell start p then
    s.setRadio { s.radio with harq := s.radio.harq.filter fun h => !(Nat.beq h.cell cell && Nat.beq h.rnti p.rnti && Nat.beq h.process p.process) }
  else s

/-- Has a code block of a slot been decoded? -/
def State.isDecoded (s : State) (cell start rnti block : Nat) : Bool :=
  s.radio.decoded.any fun d => Nat.beq d.cell cell && Nat.beq d.start start && Nat.beq d.rnti rnti && Nat.beq d.block block

/-- The PUSCH PDUs of a slot. -/
def State.puschs (s : State) (cell start : Nat) : List PuschPdu :=
  (s.ulPdus cell start).filterMap fun p => match p with | .pusch p => some p | _ => none

/-- Is an LDPC decoder in service? -/
def State.decoderUp (s : State) (d : Nat) : Bool :=
  Nat.blt d 48 && (if d < 32 then (s.fld Reg.RADIO_ENG.DEC_UP_LO.UP).testBit d else (s.fld Reg.RADIO_ENG.DEC_UP_HI.UP).testBit (d - 32))

/-- R204: an LDPC decoder in service finishes a code block of an NR cell's slot. -/
def ldpcDecode (decoder : Nat) (i : SlotRef) (rnti block : Nat) (s : State) : State :=
  let start := s.refStart i
  match (s.puschs i.cell start).find? fun p => Nat.beq p.rnti rnti with
  | none => s
  | some p =>
    if s.decoderUp decoder && !s.lteCell i.cell && Nat.blt block p.blocks && !s.isDecoded i.cell start rnti block then s.decodeBlock i.cell start p block
    else s

def execLdpcDecode (decoder : Nat) (i : SlotRef) (rnti block : Nat) (s : State) : Answer := .next (ldpcDecode decoder i rnti block s)

/-- R210: the code blocks of an LTE slot that are not decoded yet, on the cores. -/
def State.decodeLte (s : State) (cell start : Nat) : State :=
  if s.lteCell cell then
    (s.puschs cell start).foldl (fun s p => (List.range p.blocks).foldl (fun s b =>
      if s.isDecoded cell start p.rnti b then s else s.decodeBlock cell start p b) s) s
  else s

/-! ### Indications (R213, R214, R216, R217, R222, R396) -/

/-- Where a body of `len` bytes goes in a ring's body area: the next 64-byte boundary, or the start when it would pass the end; nothing while a
body not released stands there (R396). -/
def State.bodyPlace (s : State) (r len : Nat) : Option Nat :=
  let k := s.ring 257 r
  let size := s.fld (Reg.FN.RBODY_LEN.LEN 257 r)
  let off := (k.bodyPos + 63) / 64 * 64
  let off := if size < off + len then 0 else off
  if size < len ∨ k.bodies.any (fun b => Nat.blt b.2.1 (off + max 1 len) && Nat.blt off b.2.2) then none else some off

/-- R396: an indication is written to its ring, its body first; without room it is discarded with RING_FULL. -/
def State.indicate (s : State) (id : Nat) (i : SlotRef) (body : List Byte) : State :=
  let rings := (List.range 16).filter fun r => s.cqOn 257 r
  match rings[i.cell % max 1 rings.length]? with
  | none => s.errRing i.cell i.sfn i.slot 0x09 id
  | some r =>
    match s.bodyPlace r body.length with
    | none => s.errRing i.cell i.sfn i.slot 0x09 id
    | some off =>
      if s.ringRoom 257 r = 0 then s.errRing i.cell i.sfn i.slot 0x09 id
      else if !s.serves 257 || !Nat.beq (s.fld (Reg.FN.FN_STATUS.STATE 257)) 1 then s
      else
        let a := s.fld2 (Reg.FN.RBODY_BASE_LO.BASE 257 r) (Reg.FN.RBODY_BASE_HI.BASE 257 r) + off
        match s.hostWrite 257 a body (body.length / 4096 + 2) with
        | (s, false) => s.fnError 257
        | (s, true) =>
          let k := s.ring 257 r
          let s := s.setRing 257 r { k with bodyPos := off + body.length, bodies := k.bodies ++ [(k.written, off, off + max 1 body.length)] }
          let word := body.length % 2 ^ 31 + 2 ^ 31 * s.ringPhase 257 r
          s.ringWrite 257 r (leBytes 2 i.cell ++ leBytes 2 id ++ leBytes 4 word ++ leBytes 8 a) false

/-- An indication of a slot's uplink, with the values it reports and the data it carries; of a slot whose uplink is not processed there is none. -/
def indication (id : Nat) (i : SlotRef) (values : List Int) (data : List Byte) (s : State) : State :=
  if s.uplinkOn i.cell (s.refStart i) then
    (if values.isEmpty then s else s.emit (.radio id i.cell values)).indicate id i (Config.fapiBody id i.cell values data)
  else s

/-- Do `k` for a cell of a radio access technology (R217). -/
def State.ofRat (s : State) (lte : Bool) (i : SlotRef) (k : State → State) : State := if s.lteCell i.cell == lte then k s else s

/-- Bits as bytes, the first bit the most significant. -/
def packBytes : List Bool → List Byte
  | a :: b :: c :: d :: e :: f :: g :: h :: r =>
    BitVec.ofNat 8 ([a, b, c, d, e, f, g, h].foldl (fun n x => 2 * n + if x then 1 else 0) 0) :: packBytes r
  | _ => []

/-- The bytes of the transport blocks of a slot that passed. -/
def State.passedData (s : State) (cell start : Nat) : List Byte :=
  (s.puschs cell start).flatMap fun p => if s.tbPass cell start p then packBytes ((s.tbBits cell start p).getD []) else []

def execRxDataIndication (i : SlotRef) (s : State) : Answer :=
  .next (s.ofRat false i fun s => indication 0x85 i [] (s.passedData i.cell (s.refStart i)) s)

/-- R214, R216: CRC.indication: each PUSCH's RNTI, outcome, received power and corrected SINR. -/
def crcIndication (i : SlotRef) (s : State) : State :=
  let start := s.refStart i
  let s := s.decodeLte i.cell start
  let values := (s.puschs i.cell start).flatMap fun p =>
    [(p.rnti : Int), if s.tbPass i.cell start p then 1 else 0, s.reportPower i.cell start p.rnti,
      s.reportSinr i.cell (s.sinrOf i.cell start p.prb0 p.prbs)]
  indication 0x86 i values [] s.drawn

def execCrcIndication (i : SlotRef) (s : State) : Answer := .next (crcIndication i s)

/-- The UCI of a PUCCH: formats 0 and 1 by sequence detection, the others by their code (R203, R206). For LTE the formats are 1, 1a, 1b, 2, 2a, 2b, 3
by turns, of which the first three are detected. -/
def State.pucchBits (s : State) (cell start : Nat) (p : PucchPdu) : List Bool × Bool :=
  let lte := s.lteCell cell
  let x := s.slotSamples cell start
  if p.format < (if lte then 3 else 2) then (Config.pucchDetect x p, true)
  else
    let sh := laShift (s.laEntry cell (s.sinrOf cell start p.prb0 p.prbs))
    uciDecode lte p.bits ((List.range p.coded).map fun n => llrOf sh (Config.pucchProb x p n))

/-- The UCI multiplexed on a PUSCH. -/
def State.puschUci (s : State) (cell start : Nat) (p : PuschPdu) : List Bool × Bool :=
  let sh := laShift (s.laEntry cell (s.sinrOf cell start p.prb0 p.prbs))
  uciDecode (s.lteCell cell) p.uciBits ((List.range p.uciCoded).map fun n => llrOf sh (Config.uciProb (s.slotSamples cell start) p n))

/-- What a UCI report says: RNTI, corrected SINR, whether it is valid, and the bits. -/
def uciValues (rnti : Nat) (sinr : Int) (r : List Bool × Bool) : List Int :=
  [(rnti : Int), sinr, if r.2 then 1 else 0] ++ r.1.map fun b => if b then 1 else 0

/-- The UCI reports of a slot: of the PUCCHs of some formats, and of the PUSCHs that carry UCI if asked. A cell's polar decoders must be in service
for what they decode (R206). -/
def State.uciReports (s : State) (i : SlotRef) (formats : List Nat) (pusch : Bool) : List Int :=
  let start := s.refStart i
  let ok (bits : Nat) : Bool := Nat.ble bits 2 || s.lteCell i.cell || !Nat.beq (s.fld Reg.RADIO_ENG.POLAR_UP.UP) 0
  (s.ulPdus i.cell start).flatMap fun p =>
    match p with
    | .pucch p =>
      if formats.contains p.format && ok p.bits then
        uciValues p.rnti (s.reportSinr i.cell (s.sinrOf i.cell start p.prb0 p.prbs)) (s.pucchBits i.cell start p)
      else []
    | .pusch p =>
      if pusch && Nat.blt 0 p.uciBits && ok p.uciBits then
        uciValues p.rnti (s.reportSinr i.cell (s.sinrOf i.cell start p.prb0 p.prbs)) (s.puschUci i.cell start p)
      else []
    | _ => []

/-- A UCI, HARQ, SR or CQI indication. -/
def uciIndication (id : Nat) (lte : Bool) (formats : List Nat) (pusch : Bool) (i : SlotRef) (s : State) : State :=
  s.ofRat lte i fun s => indication id i (s.uciReports i formats pusch) [] s.countEngine

def execUciIndication (i : SlotRef) (s : State) : Answer := .next (uciIndication 0x87 false [0, 1, 2, 3, 4] true i s)

/-- SRS.indication: the channel reports of the slot's SRS (R203). -/
def srsIndication (i : SlotRef) (s : State) : State :=
  let start := s.refStart i
  let values := (s.ulPdus i.cell start).flatMap fun p => match p with
    | .srs _ _ body => Config.srsReport (s.slotSamples i.cell start) body
    | _ => []
  indication (if s.lteCell i.cell then 0x89 else 0x88) i values [] s

def execSrsIndication (i : SlotRef) (s : State) : Answer := .next (srsIndication i s)

/-- R213: RACH.indication reports each detected preamble of its slot once. -/
def rachIndication (i : SlotRef) (s : State) : State :=
  let mine (h : PrachHit) : Bool := Nat.beq h.cell i.cell && Nat.beq h.sfn i.sfn && Nat.beq h.slot i.slot
  let l := s.radio.hits.filter mine
  let id := if s.lteCell i.cell then 0x88 else 0x89
  indication id i (l.flatMap fun h => [(h.index : Int), (h.advance : Int), h.energy]) []
    (s.setRadio { s.radio with hits := s.radio.hits.filter fun h => !mine h })

def execRachIndication (i : SlotRef) (s : State) : Answer := .next (rachIndication i s)

/-- RX_ULSCH.indication of an LTE subframe. -/
def rxUlschIndication (i : SlotRef) (s : State) : State :=
  s.ofRat true i fun s =>
    let s := s.decodeLte i.cell (s.refStart i)
    indication 0x87 i [] (s.passedData i.cell (s.refStart i)) s

def execRxUlschIndication (i : SlotRef) (s : State) : Answer := .next (rxUlschIndication i s)
def execHarqIndication (i : SlotRef) (s : State) : Answer := .next (uciIndication 0x85 true [1, 2, 4, 5, 6] true i s)
def execRxSrIndication (i : SlotRef) (s : State) : Answer := .next (uciIndication 0x8A true [0] false i s)
def execRxCqiIndication (i : SlotRef) (s : State) : Answer := .next (uciIndication 0x8B true [3, 4, 5] true i s)

/-! ### PRACH (R211–R213) -/

/-- The PRACH occasions of a slot: an NR cell's request names them, an LTE cell's P5 block places them. -/
def State.occasions (s : State) (cell start : Nat) : List PrachPdu :=
  let e := cellEntry s.radio.image cell
  if cellIsLte e then
    if s.uplinkOn cell start then (Config.lteOccasion e (cellP5 s.radio.image e) (sfnOf start) (slotOf e start)).toList else []
  else (s.ulPdus cell start).filterMap fun p => match p with | .prach p => some p | _ => none

/-- The reference energy of a preamble's sequence. -/
def seqEnergy (e p5 : List Byte) (p : PrachPdu) (index : Nat) : Nat :=
  ((List.range (Config.prachLen p)).map fun n =>
    let x := Config.prachSeq e p5 p index n
    x.1.natAbs ^ 2 + x.2.natAbs ^ 2).sum

/-- One preamble: rejected by the energy test, rejected by the qualifier, or detected. -/
def State.tryPreamble (s : State) (i : SlotRef) (p : PrachPdu) (x : List (List Int)) (index : Nat) : State :=
  let e := cellEntry s.radio.image i.cell
  let p5 := cellP5 s.radio.image e
  let n := prachReps p.format
  let c := prachCorrelate x e p5 p index
  if energyPasses c.strongest.sum n (s.floorMean i.cell p.prb0 p.prbs) c.window (fieldAt e 16 2) then
    let good := (c.peaks.zip c.sums).filter fun y => ratioPasses y.1 y.2 c.window (fieldAt e 18 2)
    if min 2 n ≤ good.length then
      let delay := ((Config.prachWindow e p5 p index).1 + c.delay) * Config.prachUnit e p
      let energy := quarterDb s.draws c.strongest.sum (2 ^ 30 * seqEnergy e p5 p index)
      s.drawn.setRadio { s.radio with hits := s.radio.hits ++ [⟨i.cell, i.sfn, i.slot, index, timingAdvance s.draws delay (cellMu e), energy⟩] }
    else s.countSat Reg.RADIO.PRACH_QREJ.COUNT 1
  else s

/-- R211–R213: the end of the PRACH occasions of a slot, each searched for the 64 preambles of its cell; a cell that does not serve detects none
(R225). -/
def prachDetection (i : SlotRef) (s : State) : State :=
  let start := s.refStart i
  if Nat.blt 0 (s.fld Reg.RADIO_ENG.FFT_UP.UP) then
    let x := s.slotSamples i.cell start
    ((s.occasions i.cell start).foldl (fun s p => (List.range 64).foldl (fun s k => s.tryPreamble i p x k) s) s).countEngine
  else s

def execPrachDetection (i : SlotRef) (s : State) : Answer := .next (prachDetection i s)

/-! ### Cell configurations (R195–R201, R227, R230) -/

/-- Load of a cell in eighths of an RLU (R195). -/
def cellLoad (e : List Byte) : Nat :=
  if cellIsLte e then 4
  else
    let a := match cellAnt e with
      | 4 => 2 | 8 => 4 | 16 => 6 | 32 => 10 | 64 => 16 | _ => 1
    (4 * cellPrbs e * 2 ^ cellMu e * a + 545) / 546

/-- The largest layer counts of an antenna count (R195). -/
def layerLimit (ant : Nat) : Nat × Nat :=
  if ant ≤ 2 then (2, 2) else if ant = 4 then (4, 4) else if ant ≤ 16 then (8, 4) else (16, 8)

/-- A field of a cell entry out of range (R198). -/
def cellBad (e : List Byte) (la len : Nat) : Bool :=
  let lte := cellIsLte e
  let most := if lte then 100 else match cellMu e with | 0 => 270 | 1 => 273 | _ => 264
  let ants := if lte then [1, 2, 4] else [1, 2, 4, 8, 16, 32, 64]
  let lim := layerLimit (cellAnt e)
  !(if lte then [0] else [0, 1, 3]).contains (cellMu e) || Nat.beq (cellPrbs e) 0 || Nat.blt most (cellPrbs e) || !ants.contains (cellAnt e) ||
    Nat.beq (cellDl e) 0 || Nat.blt lim.1 (cellDl e) || Nat.beq (cellUl e) 0 || Nat.blt lim.2 (cellUl e) ||
    Nat.beq (fieldAt e 12 1) 0 || Nat.blt (if lte then 8 else 16) (fieldAt e 12 1) || Nat.blt 10 (fieldAt e 13 1) || Nat.ble la (fieldAt e 14 1) ||
    Nat.blt 160 (fieldAt e 16 2) || Nat.blt 120 (fieldAt e 18 2) || Nat.beq (harqBufs e) 0 || Nat.blt 4096 (harqBufs e) ||
    Nat.beq (harqBytes e) 0 || !Nat.beq (harqBytes e % 64) 0 || Nat.blt len (fieldAt e 32 4 + fieldAt e 36 2)

/-- LDPC decoders in service. -/
def State.decodersUp (s : State) : Nat :=
  ((List.range 48).filter fun i => if i < 32 then (s.fld Reg.RADIO_ENG.DEC_UP_LO.UP).testBit i else (s.fld Reg.RADIO_ENG.DEC_UP_HI.UP).testBit (i - 32)).length

/-- The first failed check of a cell image at an address (R194, R196–R201, R227). -/
def State.cellReason (s : State) (a : Nat) (b : List Byte) : Option Nat :=
  let n := cellCount b
  let len := fieldAt b 8 4
  let cells := (List.range n).map (cellEntry b)
  let la := fieldAt b 0x16 2
  let load := (cells.map cellLoad).sum
  let ldpc := (cells.map fun e => fieldAt e 8 4 * fieldAt e 12 1).sum
  let pool := (cells.map fun e => harqBufs e * harqBytes e).sum
  let cacheLen := (n + 63) / 64 * 0x1400000
  let demand := parseDemand b
  let inside (x l : Nat) : Bool := Nat.beq l 0 || (s.region x == .gddr && s.inExtent 0 x l)
  let p5 := cells.findSome? fun e => let r := Config.p5Reason e (cellP5 b e); if r = 0x0172 ∨ r = 0x0270 then some r else none
  let tests : List (Bool × Nat) := [
    (!Nat.beq (fieldAt b 0 4) 0x52434C31 || !Nat.beq (fieldAt b 4 2) 1 ||
      (Nat.ble len 0x1000000 && !Nat.beq (fieldAt b 0x0C 4) (imageCrc (b.take len) 0x0C)), 0x0272),
    (Nat.blt 1024 n || Nat.beq la 0 || Nat.blt 64 la || Nat.blt 0x1000000 len || Nat.blt len (64 + 128 * n) ||
      Nat.blt len (fieldAt b 0x18 4 + 1024 * la) || Nat.blt len (fieldAt b 0x10 4 + 8 * fieldAt b 0x14 2), 0x0171),
    (!inside a len || !inside (fieldAt b 0x20 8) (fieldAt b 0x28 8) || !inside (fieldAt b 0x30 8) (min 1 n) || !inside (fieldAt b 0x38 8) (64 * n), 0x0370),
    (cells.any fun e => cellBad e la len, 0x0170),
    (p5.isSome, p5.getD 0),
    (!Nat.beq (fieldAt b 0x14 2) s.F, 0x0271),
    (Nat.blt 4096 load, 0x0570),
    (Nat.blt 5120000 ldpc, 0x0571),
    (Nat.blt (fieldAt b 0x28 8) pool || !inside (fieldAt b 0x30 8) cacheLen, 0x0572),
    (s.seq.active.any (fun t => (t.fits s.L s.F demand (fun c => !s.coreDisabled c) fun _ _ => true).isSome) ||
      s.seq.armed.any fun t => (t.fits s.L s.F demand (fun c => !s.coreDisabled c) s.followsOwn).isSome, 0x0573),
    (cells.any fun e => Nat.blt (slotNs e) s.L, 0x0670),
    (Nat.blt (5120000 * s.decodersUp) (ldpc * 48) || (!cells.isEmpty && (Nat.beq (s.fld Reg.RADIO_ENG.ENC_UP.UP) 0 ||
      Nat.beq (s.fld Reg.RADIO_ENG.POLAR_UP.UP) 0 || Nat.beq (s.fld Reg.RADIO_ENG.FFT_UP.UP) 0)), 0x0870)]
  (tests.find? fun t => t.1).map fun t => t.2

/-- R200: the checks of a cell image start, on ENABLE or COMMIT of page RADIO. -/
def State.startCells (s : State) (enable : Bool) : State :=
  let a := s.shd2 Reg.RADIO.CELL_TBL_LO.ADDR_LO Reg.RADIO.CELL_TBL_HI.ADDR_HI
  let b := s.rdBytes a (max 64 (min 0x1000000 (s.rd (a + 8) 4)))
  s.setRadio { s.radio with checking := some (a, b, enable), taken := s.pages.file.shadow }

/-- R200: the checks of a cell image end: CFG_PENDING with the frame boundary at which it takes effect, or a refusal. -/
def cellCheckDone (s : State) : State :=
  match s.radio.checking with
  | none => s
  | some (a, b, enable) =>
    let settle (s : State) : State := { s with pages := { s.pages with commits := s.pages.commits.filter fun p => !Nat.beq p 0x080 } }
    match s.cellReason a b with
    | some r => settle ((s.setRadio { s.radio with checking := none }).refuse 0x080 r 0x100)
    | none =>
      let n := ((s.now + s.L - 1) / s.L + 2 + s.F - 1) / s.F * s.F
      let s := settle ((s.setRadio { s.radio with checking := none, next := some b }).passed 0x080)
      let s := if enable then s.setFld (ctrlEnable 0x080) 1 else s
      (s.setFld Reg.RADIO.STATUS.CFG_PENDING 1).setFld2 Reg.RADIO.CFG_BEAT_LO.BEAT Reg.RADIO.CFG_BEAT_HI.BEAT n

def execCellConfigCheckDone (s : State) : Answer := .next (cellCheckDone s)

/-- Is cell `c` the same in both images (R200 step 6)? -/
def sameCell (x y : List Byte) (c : Nat) : Bool :=
  Nat.blt c (cellCount x) && Nat.blt c (cellCount y) && cellEntry x c == cellEntry y c && cellP5 x (cellEntry x c) == cellP5 y (cellEntry y c)

/-- R200 step 6: the pending configuration takes effect: new cells start, removed ones stop, changed ones restart with empty HARQ pools. -/
def State.cellsEffect (s : State) : State :=
  match s.radio.next with
  | none => s
  | some b =>
    let old := s.radio.image
    let same := sameCell old b
    let down := !s.linkUp
    let cells := (List.range (cellCount b)).map fun c =>
      (c, match Assoc.find c s.radio.cells with
        | some v => if same c then v else if down then v else 1
        | none => if down && !Nat.beq (s.fld Reg.RADIO.STATUS.RSTATE) 0 then s.fld Reg.RADIO.STATUS.RSTATE else 1)
    let taken := s.radio.taken
    let s := s.setRadio { s.radio with
      image := b, next := none, cells := cells, harq := s.radio.harq.filter fun h => same h.cell
      pools := (List.range (cellCount b)).map fun c => (c, match Assoc.find c s.radio.pools with
        | some a => if same c then a else poolBase b c
        | none => poolBase b c)
      serveAt := s.radio.serveAt.filter fun x => same x.1, fallbackAt := s.radio.fallbackAt.filter fun x => same x.1
      silentDue := s.radio.silentDue.filter same, latched := s.radio.latched.filter fun x => same x.cell
      decoded := s.radio.decoded.filter fun x => same x.cell
      cache := s.radio.cache.filter fun c => same c.cell, nf := s.radio.nf.filter fun x => same (x.1 / 64) }
    let s := { s with fh := { s.fh with received := s.fh.received.filter fun r => same r.cell } }
    let s := { s with demand := parseDemand b }
    let take (s : State) (f : Fld) : State := match Assoc.find f.key taken with | some v => s.setFld f v | none => s
    let s := [Reg.RADIO.CELL_TBL_LO.ADDR_LO, Reg.RADIO.CELL_TBL_HI.ADDR_HI, Reg.RADIO.FALLBACK.HOLD_S, Reg.RADIO.ERR_RING_LO.ADDR,
      Reg.RADIO.ERR_RING_HI.ADDR, Reg.RADIO.ERR_RING_LEN.ENTRIES].foldl take s
    let s := s.setFlds [(Reg.RADIO.STATUS.CFG_PENDING, 0), (Reg.RADIO.CFG_BEAT_LO.BEAT, 0xFFFFFFFF), (Reg.RADIO.CFG_BEAT_HI.BEAT, 0xFFFFFFFF),
      (Reg.RADIO.RLU_USED.EIGHTHS, ((cells.map fun c => cellLoad (cellEntry b c.1)).sum))]
    (if s.radioOn then s else s.enter Reg.RADIO.STATUS.RSTATE 1).noRu

/-! ### Fallback (R224–R226) and engines (R227) -/

/-- R224: a slot boundary of a cell with the host link lost: the cell enters FALLBACK, if it serves or is about to. -/
def radioFallback (cell : Nat) (s : State) : State :=
  if !Nat.beq (s.fld Reg.STAIDO.STATE.STATE) 0 || !(Assoc.find cell s.radio.cells == some 1) then s
  else
    ((s.setRadio { s.radio with
      cells := Assoc.put cell 2 s.radio.cells, fallbackAt := Assoc.put cell s.mono s.radio.fallbackAt
      hits := s.radio.hits.filter fun h => !Nat.beq h.cell cell }).raiseErr Reg.RADIO.ERR.HOST_LOSS).showRstate

def execRadioFallback (cell : Nat) (s : State) : Answer := .next (radioFallback cell s)

/-- R226: HOLD_S has passed since the oldest FALLBACK began: those cells stop at the next frame boundary. -/
def fallbackExpiry (s : State) : State :=
  let open_ := s.radio.fallbackAt.filter fun x => Assoc.find x.1 s.radio.cells == some 2 && !s.radio.silentDue.contains x.1
  match open_ with
  | [] => s
  | x :: r =>
    let t := r.foldl (fun a y => min a y.2) x.2 + 1000000000 * s.fld Reg.RADIO.FALLBACK.HOLD_S
    let s := s.advanceMono t
    let due := open_.filter fun y => Nat.ble (y.2 + 1000000000 * s.fld Reg.RADIO.FALLBACK.HOLD_S) s.mono
    s.setRadio { s.radio with silentDue := s.radio.silentDue ++ due.map fun y => y.1 }

def execFallbackExpiry (s : State) : Answer := .next (fallbackExpiry s)

/-- R226: a frame boundary after HOLD_S: the cells whose FALLBACK has passed are SILENT. -/
def State.silence (s : State) : State :=
  let due := s.radio.silentDue
  if due.isEmpty then s
  else
    (s.setRadio { s.radio with
      silentDue := [], fallbackAt := s.radio.fallbackAt.filter fun x => !due.contains x.1
      cells := s.radio.cells.map fun c => (c.1, if due.contains c.1 && Nat.beq c.2 2 then 3 else c.2) }).showRstate

/-- The UP field of an engine class: 0 LDPC decoders, 1 LDPC encoders, 2 polar decoders, 3 correlation FFT engines (R229). -/
def engineFld (cls index : Nat) : Option Fld :=
  match cls with
  | 0 => if index < 32 then some Reg.RADIO_ENG.DEC_UP_LO.UP else if index < 48 then some Reg.RADIO_ENG.DEC_UP_HI.UP else none
  | 1 => if index < 16 then some Reg.RADIO_ENG.ENC_UP.UP else none
  | 2 => if index < 24 then some Reg.RADIO_ENG.POLAR_UP.UP else none
  | 3 => if index < 8 then some Reg.RADIO_ENG.FFT_UP.UP else none
  | _ => none

/-- R227: an engine fails its self-check and is marked down. -/
def engineFail (cls index : Nat) (s : State) : State :=
  match engineFld cls index with
  | none => s
  | some f =>
    let bit := if cls = 0 ∧ 32 ≤ index then index - 32 else index
    (s.setFld f (putBits (s.fld f) bit 1 0)).raiseErr Reg.RADIO.ERR.ENGINE

def execEngineSelfCheckFail (cls index : Nat) (s : State) : Answer := .next (engineFail cls index s)

/-! ### What a beat boundary does (R215, R221, R227) -/

/-- R221: at the deadline of a slot, the PDSCH PDUs whose transport block has no on-time TX request. -/
def State.noTxData (s : State) (boundary : Nat) : State :=
  let due := s.radio.reqs.filter fun r => Nat.beq r.id idDl && r.onTime && Nat.beq ((r.start / s.L - 2) * s.L) boundary
  due.foldl (fun s r =>
    let have_ (tb : Nat) : Bool := s.radio.reqs.any fun x => Nat.beq x.id idTx && x.onTime && Nat.beq x.cell r.cell && Nat.beq x.start r.start &&
      x.blocks.any fun b => Nat.beq b.tb tb
    let miss := r.pdus.filter fun p => match p with | .pdsch _ tb _ _ _ => !have_ tb | _ => false
    miss.foldl (fun s _ => s.errRing r.cell (sfnOf r.start) (slotOf (cellEntry s.radio.image r.cell) r.start) 0x03 r.id) s) s

/-- The PRBs a PDU schedules in the uplink. -/
def ulPrbs : Pdu → Nat × Nat
  | .pusch p => (p.prb0, p.prbs)
  | .pucch p => (p.prb0, p.prbs)
  | .srs a n _ => (a, n)
  | .prach p => (p.prb0, p.prbs)
  | _ => (0, 0)

/-- Does a PDU schedule a PRB? -/
def inPdu (k : Nat) (p : Pdu) : Bool := let x := ulPrbs p; Nat.ble x.1 k && Nat.blt k (x.1 + x.2)

/-- R215: the sample of a PRB group in a slot: the mean energy of the resource elements that carry nothing scheduled; with none, the mean DMRS
residual over the group's allocations; with neither, none. -/
def State.floorSample (s : State) (cell start g : Nat) : Option Frac :=
  let pdus := s.ulPdus cell start
  let free := s.energy cell start fun _ b _ => Nat.beq (b / 12) g && !pdus.any (inPdu b)
  let dmrs := pdus.any fun p => match p with
    | .pusch _ => (prbGroups (ulPrbs p).1 (ulPrbs p).2).contains g
    | .pucch _ => (prbGroups (ulPrbs p).1 (ulPrbs p).2).contains g
    | _ => false
  if 0 < free.2 then some ⟨free.1, free.2⟩
  else if dmrs && s.fh.received.any (fun r => Nat.beq r.cell cell && Nat.beq r.start start) then
    let x := Config.dmrsResidual (s.slotSamples cell start) g
    some ⟨x.1, max 1 x.2⟩
  else none

/-- R215: at the end of each uplink slot of a cell its floors are updated: the first sample sets NF, later ones move it by 2^−NF_SHIFT. -/
def State.updateFloors (s : State) (boundary : Nat) : State :=
  s.cellsIn.foldl (fun s c =>
    let len := slotNs c.2
    if Nat.beq (boundary % len) 0 && Nat.ble len boundary && s.uplinkOn c.1 (boundary - len) then
      let nf := (List.range ((cellPrbs c.2 + 11) / 12)).foldl (fun (m : Assoc Frac) g =>
        match s.floorSample c.1 (boundary - len) g with
        | none => m
        | some x => Assoc.put (64 * c.1 + g) (match Assoc.find (64 * c.1 + g) m with
          | none => x
          | some f => f.towards x (fieldAt c.2 13 1)) m) s.radio.nf
      { s with radio := { s.radio with nf := nf } }
    else s) s

/-- R215: each frame the floors are written at NF_BASE in 0.25 dB dBFS, 0x8000 for unused entries. -/
def State.writeFloors (s : State) : State :=
  let base := fieldAt s.radio.image 0x38 8
  s.cellsIn.foldl (fun s c =>
    let v (g : Nat) : Nat := match Assoc.find (64 * c.1 + g) s.radio.nf with
      | some f => if g < (cellPrbs c.2 + 11) / 12 then quarterDb16 (s.draws + g) f.num (f.den * 2 ^ 30) else 0x8000
      | none => 0x8000
    let s' := (s.store (base + 64 * c.1) ((List.range 32).flatMap fun g => leBytes 2 (v g))).1
    { s' with draws := s'.draws + 32 }) s

/-- R227: the K-die resets the faulted cores of cocoon 0, whose work is lost. -/
def State.resetRadioCores (s : State) : State :=
  let bad := (List.range 2048).filter fun n => Nat.beq (s.coreState n) 3 && s.radioHolds n
  bad.foldl (fun s n => s.loseRadioWork.resetCore n) s

end Sys2Proof.Machine
end

