-- ==== Sys2Proof/Machine/Commits.lean ====
section
/-!
DEFINITION. ENABLE, COMMIT and BLOCK_RESET of a page: the checks, what takes effect, and when (R494–R498; the codes of R230, R259, R291, R325, R350,
R385, R438, R484).
-/
namespace Sys2Proof.Machine

/-! ### Shadows taken by the check of an image (R495) -/

/-- The entries of a register map that belong to a page. -/
def onPage (page : Nat) (m : Assoc Nat) : Assoc Nat := m.filter fun e => Nat.beq (e.1 / 131072) page

/-- The check of a page's image takes the whole shadow of the page as it stands. -/
def State.take (s : State) (page : Nat) : State :=
  { s with pages := { s.pages with taken := Assoc.put page (onPage page s.pages.file.shadow) s.pages.taken } }

/-- The shadow a page's check took comes into effect, together with its image. -/
def State.applyTaken (s : State) (page : Nat) : State :=
  match Assoc.find page s.pages.taken with
  | none => s
  | some m =>
    let s := { s with pages := { s.pages with taken := Assoc.del page s.pages.taken } }
    s.withLive (m.foldl (fun l e => Assoc.put e.1 e.2 l) s.pages.file.live)

/-- The first boundary of a radio frame at least two beats after now (R200, R239). -/
def State.frameAfter (s : State) : Nat := ((s.now + s.L - 1) / s.L + 2 + s.F - 1) / s.F * s.F

/-! ### RU table and shaper tables (R239, R251–R254, R259) -/

/-- COMMIT of page FH (R239). -/
def State.commitRu (s : State) : State :=
  let a := s.shd2 Reg.FH.RU_TBL_LO.ADDR_LO Reg.FH.RU_TBL_HI.ADDR_HI
  let b := s.ruImage a
  if s.fh.ruNext.isSome then s.refuse 0x060 0x0481 0x010
  else if a % 256 ≠ 0 then s.refuse 0x060 0x0121 0x100
  else if s.shd Reg.FH.MAX_FRAME.BYTES < 1518 ∨ 9216 < s.shd Reg.FH.MAX_FRAME.BYTES then s.refuse 0x060 0x0180 0x108
  else match s.ruReason a b with
    | some r => s.refuse 0x060 r 0x100
    | none =>
      let s := (s.take 0x060).passed 0x060
      { s with fh := { s.fh with ruNext := some (s.frameAfter, b) } }.setFld Reg.FH.STATUS.RU_PENDING 1

/-- The pending RU table takes effect at its frame boundary. -/
def State.ruEffect (s : State) (beat : Nat) : State :=
  match s.fh.ruNext with
  | none => s
  | some (n, b) =>
    if n ≤ beat then
      (({ s with fh := { s.fh with ru := b, ruNext := none } }.applyTaken 0x060).setFld Reg.FH.STATUS.RU_PENDING 0).noRu
    else s

/-- The check of a port page on its shadow: reason, offset. A COMMIT may not change MODE (R252, R259). -/
def State.checkPort (s : State) (p : Nat) (commit : Bool) : Option (Nat × Nat) :=
  let a := s.shd2 (Reg.FH_PORT.SCHED_LO.ADDR p) (Reg.FH_PORT.SCHED_HI.ADDR p)
  let mode := s.shd (Reg.FH_PORT.PORT_CFG.MODE p)
  if a % 256 ≠ 0 then some (0x0121, 0x12C)
  else if 3 ≤ mode then some (0x0120, 0x100)
  else if commit && !Nat.beq mode (s.portMode p) then some (0x0480, 0x100)
  else if toSigned 9 (s.shd (Reg.FH_PORT.OVERHEAD.BYTES p)) < -32 then some (0x0120, 0x128)
  else if mode = 0 then none
  else (s.portReason mode a (s.shpImage a)).map fun r => (r, 0x12C)

/-- The interfaces of a port. -/
def portIfaces (p : Nat) : List Nat := (List.range 4).map fun k => 4 * p + k

/-- What an interface of a port that goes off loses: its link, and if it was the PTP slave, its master (R234, R286). -/
def State.portOff (s : State) (p : Nat) : State :=
  let slave := s.slaveIface.any fun i => Nat.beq (ifPort i) p
  let s := (portIfaces p).foldl (fun s i => linkLost i s) s
  if slave then announceTimeoutStep s else s

/-- ENABLE of page FH_PORT rises: its table is in force at once. -/
def State.enablePort (s : State) (p : Nat) : State :=
  let page := 0x061 + p
  match s.checkPort p false with
  | some (r, off) => s.refuse page r off
  | none =>
    let b := s.shpImage (s.shd2 (Reg.FH_PORT.SCHED_LO.ADDR p) (Reg.FH_PORT.SCHED_HI.ADDR p))
    let s := ((s.takeShadow page).setFld (ctrlEnable page) 1).passed page
    (portIfaces p).foldl (fun s i => if s.ifExists i then s.installShaper i b else s) s

/-- COMMIT of page FH_PORT: a table that passes takes effect at the next beat boundary (R254). -/
def State.commitPort (s : State) (p : Nat) : State :=
  let page := 0x061 + p
  match s.checkPort p true with
  | some (r, off) => s.refuse page r off
  | none =>
    let b := s.shpImage (s.shd2 (Reg.FH_PORT.SCHED_LO.ADDR p) (Reg.FH_PORT.SCHED_HI.ADDR p))
    let s := (s.take page).passed page
    (portIfaces p).foldl (fun s i =>
      if s.ifExists i then
        let k := s.iface i
        let sched := { k.sched with next := some b }
        s.setIface i { k with sched := sched }
      else s) s

/-- The pending shaper tables of every port take effect. -/
def State.shapersEffect (s : State) : State :=
  (List.range 16).foldl (fun s p =>
    let s := s.applyTaken (0x061 + p)
    (portIfaces p).foldl (fun s i => match (s.iface i).sched.next with
      | some b => s.installShaper i b
      | none => s) s) s

/-! ### The radio (R200, R226, R228) -/

/-- The check of page RADIO that precedes that of its image. -/
def State.checkRadio (s : State) : Option (Nat × Nat) :=
  if s.shd Reg.RADIO.CELL_TBL_LO.ADDR_LO % 256 ≠ 0 then some (0x0121, 0x100)
  else if s.shd Reg.RADIO.ERR_RING_LO.ADDR % 64 ≠ 0 then some (0x0121, 0x110)
  else if 30 < s.shd Reg.RADIO.FALLBACK.HOLD_S then some (0x0120, 0x108)
  else if s.shd Reg.RADIO.ERR_RING_LEN.ENTRIES < 64 then some (0x0120, 0x118)
  else none

/-- ENABLE of page RADIO rises (R228). -/
def State.enableRadio (s : State) : State :=
  if s.radio.checking.isSome then s
  else if s.fld Reg.SEQ.STATE.STATE ≠ 4 ∨ s.fld Reg.SEQ.BEAT_CFG.FREE_RUN = 1 then s.refuse 0x080 0x0470 0x010
  else match s.checkRadio with
    | some (r, off) => s.refuse 0x080 r off
    | none => s.startCells true

/-- COMMIT of page RADIO: one at a time (R200). -/
def State.commitRadio (s : State) : State :=
  if s.radio.checking.isSome ∨ s.radio.next.isSome then s.refuse 0x080 0x0471 0x010
  else match s.checkRadio with
    | some (r, off) => s.refuse 0x080 r off
    | none => { s with pages := { s.pages with commits := 0x080 :: s.pages.commits } }.startCells false

/-- ENABLE of page RADIO is cleared: the radio function is disabled. -/
def State.disableRadio (s : State) : State :=
  let s := s.setRadio { s.radio with
    cells := [], next := none, checking := none, serveAt := [], reqs := [], hits := [], fallbackAt := [], silentDue := []
    decoded := [], latched := [], lost := [] }
  let s := { s with demand := [], pages := { s.pages with commits := s.pages.commits.filter fun p => !Nat.beq p 0x080 } }
  (s.setFlds [(ctrlEnable 0x080, 0), (Reg.RADIO.STATUS.CFG_PENDING, 0), (Reg.RADIO.RLU_USED.EIGHTHS, 0),
    (Reg.RADIO.CFG_BEAT_LO.BEAT, 0xFFFFFFFF), (Reg.RADIO.CFG_BEAT_HI.BEAT, 0xFFFFFFFF)]).enter Reg.RADIO.STATUS.RSTATE 0

/-! ### Silk (R354, R360, R363, R364, R385) -/

/-- EN of a link whose engine failed, with no spare fibre pair free (0x08C0). -/
def State.noFibre (s : State) (l : Nat) : Bool :=
  Nat.beq (s.shd (Reg.SILK_LINK.CFG.EN l)) 1 && !s.isSet (Reg.SILK_LINK.CFG.EN l) && s.noEngine l && (s.freePairs l).isEmpty

/-- A link's EN in effect has changed: it trains, on a spare fibre pair where its own engine failed, or goes DOWN. -/
def State.linkEn (s : State) (l : Nat) (was : Bool) : State :=
  let on := s.isSet (Reg.SILK_LINK.CFG.EN l)
  if on && !was then
    if s.noEngine l then
      match s.freePairs l with
      | k :: _ => (s.setFlds [(Reg.SILK_LINK.LAMBDA.FIBRE_SPARE l, 1), (Reg.SILK_LINK.LAMBDA.SPARE_INDEX l, k)]).enter (Reg.SILK_LINK.STATE.STATE l) 1
      | [] => s.enter (Reg.SILK_LINK.STATE.STATE l) 5
    else s.enter (Reg.SILK_LINK.STATE.STATE l) 1
  else if was && !on && [1, 2, 3, 4].contains (s.linkState l) then s.downLink l
  else s

/-- COMMIT of page 0x0C0: the device-wide registers with the fabric image, and CFG of link 0. An address that nothing has written is a
free value, on which the check acts (R513). -/
def State.commitSilk (s : State) : State :=
  let a := s.shd2 Reg.SILK.FAB_ADDR_LO.ADDR Reg.SILK.FAB_ADDR_HI.ADDR
  let b := s.fabImage a
  let idNew := !Nat.beq (s.shd Reg.SILK.DEVICE_ID.ID) s.deviceId
  if (Assoc.find 0x0C0 s.pages.taken).isSome then s.refuse 0x0C0 0x04C1 0x010
  else if a % 256 ≠ 0 then s.refuse 0x0C0 0x0121 0x808
  else if s.shd Reg.SILK.DEAD_US.US < 10 ∨ 10000 < s.shd Reg.SILK.DEAD_US.US then s.refuse 0x0C0 0x01C0 0x804
  else if idNew && (List.range 64).any fun l => [2, 3, 4].contains (s.linkState l) then s.refuse 0x0C0 0x04C0 0x800
  else if s.noFibre 0 then s.refuse 0x0C0 0x08C0 0x100
  else match s.fabricReason a b with
    | some r => s.refuse 0x0C0 r 0x808
    | none =>
      let s := (s.take 0x0C0).passed 0x0C0
      { s with silk := { s.silk with next := some b } }.setFld Reg.SILK.FAB_STATUS.PENDING 1

/-- What a COMMIT of page 0x0C0 left for the boundary takes effect. -/
def State.silkEffect (s : State) : State :=
  let was := s.isSet (Reg.SILK_LINK.CFG.EN 0)
  let s := (s.applyTaken 0x0C0).linkEn 0 was
  match s.silk.next with
  | none => s
  | some b =>
    { s with silk := { s.silk with fabric := b, next := none } }.setFlds [(Reg.SILK.FAB_STATUS.SETS, fabCnt b 2), (Reg.SILK.FAB_STATUS.PENDING, 0)]

/-! ### Time (R261, R291, R516) -/

/-- A role in the shadow. -/
def State.shRole (s : State) (i : Nat) : Nat := bitsOf (s.shd (Reg.TIME.ROLE.ROLE (i / 16))) (2 * (i % 16)) 2

/-- Offset of the role register of an interface, the highest of a list. -/
def roleOff (l : List Nat) : Nat := 0x158 + 4 * (l.foldl max 0 / 16)

/-- Is the sequencer or the radio function enabled? -/
def State.timeBusy (s : State) : Bool := s.isSet (ctrlEnable 0x010) || s.radioOn

/-- The check of page TIME (R291). -/
def State.checkTime (s : State) : Option (Nat × Nat) :=
  let slaves := (List.range 64).filter fun i => Nat.beq (s.shRole i) 1
  let trans := (List.range 64).filter fun i => Nat.beq (s.shRole i) 3
  let gone := (List.range 64).find? fun i => !Nat.beq (s.shRole i) 0 && !s.ifExists i
  let moved (f : Fld) : Bool := !Nat.beq (s.shd f) (s.fld f)
  let tests : List (Bool × Nat × Nat) := [
    (Nat.blt (s.shd Reg.TIME.PTP_CFG.DOMAIN) 24 || Nat.blt 43 (s.shd Reg.TIME.PTP_CFG.DOMAIN), 0x0190, 0x120),
    (Nat.blt (s.shd Reg.TIME.SERVO_CFG.JUMP_NS) 100 || Nat.blt 1000000 (s.shd Reg.TIME.SERVO_CFG.JUMP_NS) || Nat.blt 4 (s.shd Reg.TIME.SERVO_CFG.BW) ||
      Nat.beq (s.shd Reg.TIME.SERVO_CFG.FREQ_SRC) 3, 0x0190, 0x12C),
    (Nat.beq (s.shd Reg.TIME.PPS_OUT.WIDTH_MS) 0 || Nat.blt 500 (s.shd Reg.TIME.PPS_OUT.WIDTH_MS), 0x0190, 0x168),
    (Nat.blt 1 slaves.length, 0x0290, roleOff slaves),
    (!trans.isEmpty && slaves.isEmpty, 0x0291, roleOff trans),
    (Nat.beq (s.shd Reg.TIME.SERVO_CFG.PHASE_SRC) 1 && !slaves.isEmpty, 0x0292, roleOff slaves),
    (s.timeBusy && moved Reg.TIME.EPOCH_OFS_LO.OFS, 0x0490, 0x118),
    (s.timeBusy && moved Reg.TIME.EPOCH_OFS_HI.OFS, 0x0490, 0x11C),
    (gone.isSome, 0x0890, roleOff gone.toList)]
  (tests.find? fun t => t.1).map fun t => t.2

/-- The registers of page TIME change by `f`: a change of EPOCH_OFS moves device time once it is acquired (R516), and a slave interface that has
its role no longer has lost its master. -/
def State.retime (s : State) (f : State → State) : State :=
  let ofs (s : State) : Int := s.fld2 Reg.TIME.EPOCH_OFS_LO.OFS Reg.TIME.EPOCH_OFS_HI.OFS
  let old := ofs s
  let slave := s.slaveIface
  let s := f s
  let s := if ofs s ≠ old ∧ s.isSet Reg.TIME.STATUS.ACQUIRED then (s.jumpTime ((old - ofs s) * 1000000000 * 65536)).renumber else s
  if slave.isSome && s.slaveIface != slave && s.time.master.isSome then s.masterLost else s

/-! ### Checks at a beat boundary (R495) -/

/-- The check of page PWR (R484). -/
def State.checkPwr (s : State) : Option (Nat × Nat) :=
  let out (f : Fld) (lo hi : Nat) : Bool := Nat.blt (s.shd f) lo || Nat.blt hi (s.shd f)
  if out Reg.PWR.LIMIT.LIMIT_W 600 1500 || out Reg.PWR.LIMIT.HYST_W 10 200 then some (0x0110, 0x100)
  else if out Reg.PWR.THERM.THROTTLE_C 70 105 then some (0x0110, 0x104)
  else none

/-- The check of page BBOX (R478, R484). -/
def State.checkBox (s : State) : Option (Nat × Nat) :=
  let a := s.shd2 Reg.BBOX.BASE_LO.ADDR Reg.BBOX.BASE_HI.ADDR
  if a % 0x800000 ≠ 0 then some (0x0121, 0x100)
  else if s.regionOk a then none else some (0x0311, 0x100)

/-- The check of page POD (R435, R438). -/
def State.checkPod (s : State) : Option (Nat × Nat) :=
  let a := s.shd2 Reg.POD.MAP_LO.ADDR Reg.POD.MAP_HI.ADDR
  if a % 256 ≠ 0 then some (0x0121, 0x108) else s.podReason s.shd a (s.podImage a)

/-- The field that a key of the register file names. -/
def keyFld (k : Nat) : Option Fld :=
  ((wordFlds (k / 131072) (k / 32 % 4096)).find? fun r => Nat.beq r.lo (k % 32)).map fun r => ⟨k / 131072, k / 32 % 4096, r.lo, r.w⟩

/-- The check of a COCOON page whose ENABLE is 1: CFG, extents and areas may not change (R323, R325). -/
def State.checkSame (s : State) (page : Nat) : Option (Nat × Nat) :=
  (s.pages.file.shadow.find? fun e => Nat.beq (e.1 / 131072) page && (keyFld e.1).any fun f => !Nat.beq (s.shd f) (s.fld f)).map
    fun e => (0x04A0, e.1 / 32 % 4096)

/-- The check of a page whose COMMIT waits for the boundary. -/
def State.checkPage (s : State) (page : Nat) : Option (Nat × Nat) :=
  if page = 0x004 then s.checkPwr
  else if page = 0x005 then s.checkBox
  else if page = 0x008 then s.checkPod
  else if page = 0x009 then s.lstepReason s.shd
  else if page = 0x040 then s.checkTime
  else if page = 0x0A0 then s.checkMem
  else if 0x0C1 ≤ page ∧ page < 0x100 then if s.noFibre (page - 0x0C0) then some (0x08C0, 0x100) else none
  else if 0x100 ≤ page ∧ page < 0x140 then s.checkSame page
  else none

/-- The values of a page that passed its check take effect. -/
def State.applyPage (s : State) (page : Nat) : State :=
  let t := s.takeShadow page
  if page = 0x005 then t.arm t.bbBase
  else if page = 0x008 then t.installPod (s.podImage (s.shd2 Reg.POD.MAP_LO.ADDR Reg.POD.MAP_HI.ADDR))
  else if page = 0x009 then (List.range 4).foldl (fun t i => t.restartPair i (s.isSet (Reg.LSTEP.CFG.EN i))) t
  else if page = 0x040 then s.retime fun s => s.takeShadow 0x040
  else if page = 0x0A0 then t.showMem
  else if 0x0C1 ≤ page ∧ page < 0x100 then t.linkEn (page - 0x0C0) (s.isSet (Reg.SILK_LINK.CFG.EN (page - 0x0C0)))
  else t

/-- A page's check runs (R495, R496): COMMIT reads 0 again. -/
def State.runCheck (s : State) (page : Nat) : State :=
  let s := s.commitOver page
  match s.checkPage page with
  | some (r, off) =>
    let s := s.refuse page r off
    if page = 0x005 then s.raiseErr Reg.BBOX.ERR.REGION_INVALID else s
  | none => (s.applyPage page).passed page

/-- Pages whose check is not that of the boundary. -/
def ownCheck (page : Nat) : Bool := Nat.beq page 0x010 || Nat.beq page 0x080

/-- The checks that fall on a beat boundary, in ascending page number. -/
def State.runChecks (s : State) : State :=
  let due := sortBy Nat.ble (s.pages.commits.filter fun p => !ownCheck p)
  due.foldl (fun s p => s.runCheck p) s

/-! ### The actions of CTRL (R494, R495, R497) -/

/-- ENABLE rises on a page whose ENABLE is 0. -/
def State.enablePage (s : State) (page : Nat) : State :=
  if page = 0x010 then s.enableSeq
  else if page = 0x080 then s.enableRadio
  else if 0x061 ≤ page ∧ page ≤ 0x070 then s.enablePort (page - 0x061)
  else if page = 0x0A0 then
    match s.checkMem with
    | some (r, off) => s.refuse page r off
    | none => (((s.takeShadow page).setFld (ctrlEnable page) 1).passed page).showMem
  else if 0x100 ≤ page ∧ page < 0x140 then s.enableCocoon (page - 0x100)
  else s

/-- ENABLE is cleared on a page whose ENABLE is 1. -/
def State.disablePage (s : State) (page : Nat) : State :=
  if page = 0x010 then s.disableSeq
  else if page = 0x080 then s.disableRadio
  else if 0x061 ≤ page ∧ page ≤ 0x070 then (s.portOff (page - 0x061)).setFld (ctrlEnable page) 0
  else if 0x100 ≤ page ∧ page < 0x140 then s.destroyCocoon (page - 0x100)
  else (s.setFld (ctrlEnable page) 0).commitOver page

/-- COMMIT of a page that implements it. -/
def State.commitPage (s : State) (page : Nat) : State :=
  match pageRun page with
  | none => s
  | some r =>
    if !r.hasC then s
    else if page = 0x010 then s.commitSeq
    else if r.hasE && !s.isSet (ctrlEnable page) then s.refuse page 0x0421 0x010
    else if page = 0x080 then s.commitRadio
    else if page = 0x060 then s.commitRu
    else if page = 0x0C0 then s.commitSilk
    else if 0x061 ≤ page ∧ page ≤ 0x070 then s.commitPort (page - 0x061)
    else if s.pages.commits.contains page then s.refuse page 0x0422 0x010
    else { s with pages := { s.pages with commits := page :: s.pages.commits } }

/-- The offsets of a register word or words. -/
def RegWord.offs (r : RegWord) : List Nat := if r.count = 1 then [r.base] else (List.range r.count).map fun i => r.base + r.stride * i

/-- Every field of a page, with its access code. -/
def pageFlds (page : Nat) : List (Fld × RegFld) :=
  match pageRun page with
  | none => []
  | some r => (layout r.type (page - r.first)).flatMap fun w => w.offs.flatMap fun off => w.flds.map fun x => (⟨page, off, x.lo, x.w⟩, x)

/-- The common words that BLOCK_RESET clears. -/
def commonFlds (page : Nat) : List Fld :=
  [errWord page, errFirstBit page, errFirstValid page, errTime page, refusalReason page, refusalOffset page, errMask page, signalVec page, signalEn page]

/-- R497: RW and RWS fields go back to their reset values and the counters to 0, but for POD.BUDGET_USED; the common words clear; any check in
progress ends. -/
def State.resetPage (s : State) (page : Nat) : State :=
  let s := (pageFlds page).foldl (fun s x =>
    match x.2.acc with
    | .rw => s.resetFld x.1
    | .rws => s.resetFld x.1
    | .ro => if x.2.cnt && !(x.1 == Reg.POD.BUDGET_USED.COUNT) then s.setFld x.1 0 else s
    | _ => s) s
  let s := (s.setFlds ((commonFlds page).map fun f => (f, 0))).commitOver page
  if page = 0x080 then s.setRadio { s.radio with checking := none } else s

/-- BLOCK_RESET of a page: what its registers drive follows them; in HALTED page SEQ ignores it (R75). -/
def State.blockResetPage (s : State) (page : Nat) : State :=
  match pageRun page with
  | none => s
  | some r =>
    if !r.hasB then s
    else if page = 0x010 ∧ s.seqHalted then s
    else if r.hasE && s.isSet (ctrlEnable page) then s.refuse page 0x0420 0x010
    else if page = 0x040 then
      if s.timeBusy then s.refuse page 0x0490 0x010 else s.retime fun s => s.resetPage page
    else if page = 0x009 then (List.range 4).foldl (fun t i => t.restartPair i (s.isSet (Reg.LSTEP.CFG.EN i))) (s.resetPage page)
    else if 0x0C0 ≤ page ∧ page < 0x100 then (s.resetPage page).linkEn (page - 0x0C0) (s.isSet (Reg.SILK_LINK.CFG.EN (page - 0x0C0)))
    else s.resetPage page

/-- A write of CTRL: bits ENABLE, COMMIT and BLOCK_RESET that the page implements (R494). -/
def State.ctrlWrite (s : State) (page w : Nat) : State :=
  match pageRun page with
  | none => s
  | some r =>
    let e := w.testBit 0
    let c := r.hasC && w.testBit 1
    let b := r.hasB && w.testBit 2
    let cur := s.isSet (ctrlEnable page)
    let change := r.hasE && (e != cur)
    if (b && (c || change)) || (c && change && cur) then s.refuse page 0x0423 0x010
    else if change then if e then s.enablePage page else s.disablePage page
    else if c then s.commitPage page
    else if b then s.blockResetPage page
    else s

end Sys2Proof.Machine
end

