-- ==== Sys2Proof/Machine/Pages.lean ====
section
/-!
DEFINITION. Register reads and writes of every page (R6–R9, R486–R493), the actions of the register tables, ENABLE, COMMIT, BLOCK_RESET and ERR as
commands of their own, and the test port (R481, R510, R512).
-/
namespace Sys2Proof.Machine

/-! ### What a word reads as -/

/-- The function whose page this is. -/
def pageFn (p : Nat) : Option Nat :=
  if 0x140 ≤ p ∧ p ≤ 0x23F then some (p - 0x140) else if p = 0x241 then some 256 else if p = 0x242 then some 257 else none

/-- What a field reads as (R6): a write-only field 0, an RWS field its shadow, any other its value in effect. -/
def State.fieldShown (s : State) (page off : Nat) (x : RegFld) : Nat :=
  let f : Fld := ⟨page, off, x.lo, x.w⟩
  match x.acc with
  | .wo => 0
  | .woM => 0
  | .rws => s.shd f
  | _ => s.fld f

/-- A word of a block's register table, from its fields; a reserved offset reads 0 (R487). -/
def State.tableWord (s : State) (page off : Nat) : Nat :=
  ((wordFlds page off).map fun x => s.fieldShown page off x * 2 ^ x.lo).sum

/-- The common words of R492, but for STATE. -/
def State.commonWord (s : State) (page off : Nat) (r : PageRun) : Nat :=
  let bit (b : Bool) : Nat := if b then 1 else 0
  match off with
  | 0x000 => page - r.first + 65536 * (0x8000 + r.first)
  | 0x004 => 0x0100
  | 0x008 => bit r.hasE + 2 * bit r.hasC + 4 * bit r.hasB + 8 + 65536 * r.units
  | 0x010 => s.fld (ctrlEnable page) + 2 * bit (s.pages.commits.contains page)
  | 0x018 => s.fld (refusalReason page) + 65536 * s.fld (refusalOffset page)
  | 0x020 => s.fld (errWord page)
  | 0x024 => s.fld (errMask page)
  | 0x028 => s.fld (errFirstBit page) + 2 ^ 31 * s.fld (errFirstValid page)
  | 0x02C => s.fld (errTime page)
  | 0x030 => s.fld (signalVec page) + 2 ^ 31 * s.fld (signalEn page)
  | _ => 0

/-- Does ERR of an implemented page hold a bit that is not masked? -/
def State.needsCare (s : State) (page : Nat) : Bool :=
  (pageRun page).isSome && (List.range 32).any fun b => (s.fld (errWord page)).testBit b && !(s.fld (errMask page)).testBit b

/-- The registers of page INDEX (R490). -/
def State.indexWord (s : State) (off : Nat) : Nat :=
  let word (i : Nat) (p : Nat → Bool) : Nat := (List.range 32).foldl (fun m j => if p (32 * i + j) then m + 2 ^ j else m) 0
  if 0x100 ≤ off ∧ off < 0x180 then word ((off - 0x100) / 4) fun p => (pageRun p).isSome
  else if 0x180 ≤ off ∧ off < 0x200 then word ((off - 0x180) / 4) s.needsCare
  else if off = 0x200 then pageRuns.length
  else if 0x210 ≤ off ∧ off < 0x210 + 8 * pageRuns.length then
    match pageRuns[(off - 0x210) / 8]? with
    | some r => if (off - 0x210) % 8 = 0 then r.first + 65536 * r.count else 0x8000 + r.first + 65536 * 0x0100
    | none => 0
  else 0

/-- PSTATE of a device (R435). -/
def State.podShown (s : State) (x : Nat) : Nat :=
  if !(s.isNeighbour x) then 4
  else if s.pod.expelled.contains x then 3
  else if s.pod.held.contains x then 2
  else if s.suspect x then 1 else 0

/-- The totals of R318 and R425 that a tenant function page shows of the cocoon it is bound to. -/
def State.totalWord (s : State) (fn off : Nat) : Nat :=
  let c := s.fnCocoon fn
  let p := (s.cocoon c).prog
  let half (v : Nat) : Nat := if (off / 4) % 2 = 0 then v % 2 ^ 32 else v / 2 ^ 32 % 2 ^ 32
  if s.fld (Reg.FN.FN_STATUS.STATE fn) = 0 then 0
  else match off with
  | 0x180 => s.fld (Reg.COCOON.STRIDE_NS_LO.NS c)
  | 0x184 => s.fld (Reg.COCOON.STRIDE_NS_HI.NS c)
  | 0x188 => s.fld (Reg.COCOON.STRIDES.COUNT c)
  | 0x18C => s.fld (Reg.COCOON.BEATS.COUNT c)
  | 0x190 => s.fld (Reg.COCOON.OVERRUN_NS_LO.NS c)
  | 0x194 => s.fld (Reg.COCOON.OVERRUN_NS_HI.NS c)
  | 0x198 => s.fld (Reg.COCOON.COMMANDS.COUNT c)
  | 0x1B8 => s.fld (Reg.FN.PROG_STATUS.MARK_BAD fn) + 65536 * (s.cocoon c).quar.length
  | _ =>
    if 0x1C0 ≤ off ∧ off < 0x1C8 then half (p.wall s.now)
    else if 0x1C8 ≤ off ∧ off < 0x1D0 then half p.useful
    else if 0x1D0 ≤ off ∧ off < 0x1D8 then half (p.lost + if p.course = .rolledBack then p.open_ s.now else 0)
    else if 0x1D8 ≤ off ∧ off < 0x1E0 then half (p.overhead + if p.course = .checkpoint then p.open_ s.now else 0)
    else half (p.pendingNow s.now)

/-- Offsets of a function page that `totalWord` shows. -/
def totalOff (fn off : Nat) : Bool :=
  (Nat.ble 0x180 off && Nat.ble off 0x198 && Nat.blt fn 257) || ((Nat.beq off 0x1B8 || (Nat.ble 0x1C0 off && Nat.blt off 0x1E8)) && Nat.blt fn 256)

/-- The words that show state held elsewhere than in a register field. -/
def State.shownWord (s : State) (page off : Nat) : Nat :=
  match pageRun page with
  | none => 0
  | some r =>
    let seg := s.segment (s.fld Reg.SILK.SEG_SEL.COCOON) (s.fld Reg.SILK.SEG_SEL.INDEX)
    let x := s.fld Reg.POD.HSEL.DEVICE
    if off % 4 ≠ 0 then 0
    else if off < 0x100 ∧ off ≠ 0x014 then s.commonWord page off r
    else if page = 0x000 then s.indexWord off
    else if page = 0x010 ∧ off = 0x11C then (s.seq.active.elim 0 s.rowIndex) + 65536 * (s.seq.beat % s.F)
    else if 0x300 ≤ page ∧ page < 0x400 ∧ 0x200 ≤ off ∧ off < 0x210 then
      ((List.range 4).map fun k => s.wayOwner (page - 0x300) (off - 0x200 + k) * 256 ^ k).sum
    else if page = 0x040 ∧ off = 0x148 then
      if s.fld Reg.TIME.STATE.STATE = 3 then (s.mono - s.time.holdoverFrom) / 1000000000 % 2 ^ 32 else 0
    else if page = 0x0C0 ∧ off = 0x828 then seg.gen % 2 ^ 32
    else if page = 0x0C0 ∧ off = 0x82C then (if seg.valid then 1 else 0)
    else if page = 0x008 ∧ off = 0x110 then s.selfScore + 256 * s.fld Reg.POD.SELF.PENALTY
    else if page = 0x008 ∧ off = 0x118 then s.health x + 256 * s.linkScore x + 65536 * s.reportedScore x + 2 ^ 24 * s.podShown x
    else if page = 0x009 ∧ off % 64 = 8 ∧ 0x108 ≤ off ∧ off < 0x200 then
      let i := (off - 0x108) / 64
      s.fld (Reg.LSTEP.STATUS.STATE i) + 65536 * ((s.pair i).own.length + (s.pair i).theirs.length)
    else match pageFn page with
      | some fn =>
        if totalOff fn off then s.totalWord fn off
        else if off = 0x104 ∧ s.fld (Reg.FN.FN_CTRL.ERR_VEC fn) < s.fld (Reg.FN.FN_CFG.SV_COUNT fn) then s.tableWord page off + 2 ^ 17
        else s.tableWord page off
      | none => s.tableWord page off

/-! ### Reads (R486, R487, R489) -/

/-- An access of a control core that is not an aligned word has no effect but an ACCESS fault in its fault status (R486). -/
def State.aligned (s : State) (who : Issuer) (off : Nat) (k : State → State) : State :=
  match who with
  | .core n =>
    if off % 4 = 0 then k s
    else if s.pages.ctlFaults.contains n then s
    else { s with pages := { s.pages with ctlFaults := s.pages.ctlFaults ++ [n] } }
  | _ => k s

/-- A register read. A field that still reads "—" need not read the same again (R513). NOW_NS and NOW_SEC keep what their issuer's last read of
NOW_FRAC latched (R262), 0 before the first. -/
def regRdStep (who : Issuer) (page off : Nat) (s : State) : State :=
  State.drawn <| s.aligned who off fun s =>
    if page = 0x040 ∧ off = 0x100 then nowFracStep who s
    else if page = 0x042 ∧ off = 0x100 then lfcLoStep who s
    else if page = 0x042 ∧ off = 0x104 then lfcHiStep who s
    else if (s.latchPair page off).isSome then latchReadStep who page off s
    else if 4 ≤ off && (s.latchPair page (off - 4)).isSome then latchedHighStep who page off s
    else if page = 0x040 ∧ (off = 0x104 ∨ off = 0x108 ∨ off = 0x10C) then
      s.access who page true fun s => s.answer who ((s.latched who page off).elim 0 fun l => l.val.toNat)
    else s.access who page true fun s => s.answer who (s.shownWord page off)

def execRegRd (who : Issuer) (page off : Nat) (s : State) : Answer := .next (regRdStep who page off s)

/-! ### Writes -/

/-- A field of a written word (R6, R410). -/
def State.fieldWrite (s : State) (who : Issuer) (page off w : Nat) (x : RegFld) : State :=
  let f : Fld := ⟨page, off, x.lo, x.w⟩
  let v := bitsOf w x.lo x.w
  match x.acc with
  | .rw => s.setFld f v
  | .rws => s.setShd f v
  | .w1c => s.setFld f (s.fld f - (s.fld f &&& v))
  | .rwM => if managesPages who then s.setFld f v else s
  | _ => s

/-- A word written field by field. -/
def State.tableWrite (s : State) (who : Issuer) (page off w : Nat) : State :=
  (wordFlds page off).foldl (fun s x => s.fieldWrite who page off w x) s

/-- Run the actions of a word whose bits are 1, from the lowest bit. -/
def State.actions (s : State) (w : Nat) (l : List (State → State)) : State :=
  (l.zipIdx).foldl (fun s x => if w.testBit x.2 then x.1 s else s) s

/-- The C-dies whose request a neighbour holds down (R39). -/
def State.limited (s : State) (d : Nat) : Bool := !s.pinned d && Nat.blt (s.neighbourLimit d) (s.fld (Reg.PWR.DIE_REQ.REQ (d / 16) (d % 16)))

/-- R39, R42: NEIGHBOUR_LIMIT of a die whose request is limited, and of the neighbours that limit it. -/
def State.limitErr (s : State) (d : Nat) : State :=
  (d :: (cNeighbours d).filter fun n => Nat.beq (s.point n + 1) (s.neighbourLimit d)).foldl (fun s n => s.raiseErr (Reg.DIE.ERR.NEIGHBOUR_LIMIT n)) s

/-- PWR.DIE_REQ: the operating points that the management function asks for; a reserved request is refused and changes nothing (R469, R484). -/
def State.requestPoints (s : State) (i w : Nat) : State :=
  let s := (List.range 16).foldl (fun s k =>
    let v := bitsOf w (2 * k) 2
    if v = 3 then s.refuse 0x004 0x0110 (0x120 + 4 * i)
    else
      let old := s.fld (Reg.PWR.DIE_REQ.REQ i k)
      let s := s.setFld (Reg.PWR.DIE_REQ.REQ i k) v
      if v ≠ old ∧ s.limited (16 * i + k) then (s.powerAction 0x0006 (16 * i + k) (s.neighbourLimit (16 * i + k))).limitErr (16 * i + k) else s) s
  s.pumpPower

/-- FN_CFG of a function: range and weight (R392, R397, R412). -/
def State.fnCfgWrite (s : State) (who : Issuer) (fn w : Nat) : State :=
  let page := fnPage fn
  let base := bitsOf w 0 12
  let count := bitsOf w 12 9
  let weight := bitsOf w 24 7
  let clash (g : Nat) : Bool :=
    let b := s.fld (Reg.FN.FN_CFG.SV_BASE g)
    !Nat.beq g fn && Nat.blt b (base + count) && Nat.blt base (b + s.fld (Reg.FN.FN_CFG.SV_COUNT g))
  if !managesPages who then s
  else if 256 < count ∨ 4096 < base + count ∨ weight = 0 ∨ 64 < weight then s.refuse page 0x01D0 0x100
  else if (List.range 258).any clash then s.refuse page 0x02D1 0x100
  else s.tableWrite who page 0x100 w

/-- Is the queue or ring word at an offset one that takes no write while its ENABLE is 1 (R411)? -/
def State.queueLocked (s : State) (fn off : Nat) : Bool :=
  if 0x400 ≤ off ∧ off < 0x800 then s.sqOn fn ((off - 0x400) / 16)
  else if 0xC00 ≤ off ∧ off < (if fn = 257 then 0xD00 else 0x1000) then s.cqOn fn ((off - 0xC00) / 16)
  else if fn = 257 ∧ 0xE00 ≤ off ∧ off < 0xF00 then s.cqOn fn ((off - 0xE00) / 16)
  else false

/-- A write on a function page (R410, R411, R324, R436). -/
def State.fnWrite (s : State) (who : Issuer) (fn off w : Nat) : State :=
  let page := fnPage fn
  let word : Word := BitVec.ofNat 32 w
  if (wordFlds page off).isEmpty then s
  else if off = 0x100 then s.fnCfgWrite who fn w
  else if off = 0x108 then
    let s := s.tableWrite who page off w
    if w.testBit 0 then functionClearStep who fn s else s
  else if off = 0x114 then if managesPages who && w.testBit 0 then invalStep fn s else s
  else if 0x140 ≤ off ∧ off < 0x160 then svMaskStep fn ((off - 0x140) / 4) word s
  else if off = 0x1B0 then
    match w % 4 with
    | 0 => resume fn s
    | 1 => ckptStart fn s
    | 2 => ckptDone fn s
    | _ => rollback fn s
  else if off = 0x1B4 then if w.testBit 16 then quarantineClear fn (w % 65536) s else quarantine fn (w % 65536) s
  else if off = 0x800 then dirtyCfg fn (w.testBit 0) s
  else if 0x804 ≤ off ∧ off ≤ 0x814 then dirtyLogConfig fn off word s
  else if 0x400 ≤ off ∧ off < 0x800 ∧ off % 16 = 8 then
    if w.testBit 16 then sqEnableStep fn ((off - 0x400) / 16) word s else sqDisableStep fn ((off - 0x400) / 16) word s
  else if 0xC00 ≤ off ∧ off % 16 = 8 ∧ (fn ≠ 257 ∨ off < 0xE00) then
    if w.testBit 16 then cqEnableStep fn ((off - 0xC00) / 16) word s else cqDisableStep fn ((off - 0xC00) / 16) word s
  else if s.queueLocked fn off then s
  else s.tableWrite who page off w

/-- A write on a COCOON page (R297, R299, R323). -/
def State.cocoonWrite (s : State) (who : Issuer) (c off w : Nat) : State :=
  if off = 0x100 then keySlotChange c (BitVec.ofNat 32 w) s
  else if 0x170 ≤ off ∧ off < 0x1B0 then
    let k := s.cocoon c
    s.setCocoon c { k with keyWords := Assoc.put ((off - 0x170) / 4) (BitVec.ofNat 32 w) k.keyWords }
  else if off = 0x1B0 then s.actions w [keyLoad c, keyErase c]
  else if off = 0x1E0 then if w.testBit 8 then unbindStep c (w % 256) s else bindStep c (w % 256) s
  else if off = 0x1F0 then s.actions w [unfenceStep c]
  else s.tableWrite who (cocoonPage c) off w

/-- A write of a compare unit's word (R263, R288). -/
def State.cmpWrite (s : State) (who : Issuer) (off w : Nat) : State :=
  let u := (off - 0x100) / 16
  if off % 16 = 8 then
    let s := s.setFlds [(Reg.TIME_CMP.CTRL.PERIODIC u, bitsOf w 1 1), (Reg.TIME_CMP.CTRL.SIG u, bitsOf w 2 1)]
    if w.testBit 0 then armUnit u s else s.setFld (Reg.TIME_CMP.CTRL.ARM u) 0
  else if off % 16 = 12 ∧ w % 2 ^ 32 < 1000 then s
  else s.tableWrite who 0x041 off w

/-- A write of a word above the common ones. -/
def State.blockWrite (s : State) (who : Issuer) (page off w : Nat) : State :=
  if (wordFlds page off).isEmpty then s
  else match pageFn page with
  | some fn => s.fnWrite who fn off w
  | none =>
    if page = 0x001 ∧ off = 0x10C then s.actions w [bundleLoad]
    else if page = 0x002 ∧ off = 0x108 then
      s.actions w [resetCoreAction, resetClusterAction, resetCocoonAction, resetDeviceAction, retestStep]
    else if page = 0x004 ∧ (off = 0x120 ∨ off = 0x124) then s.requestPoints ((off - 0x120) / 4) w
    else if page = 0x005 ∧ off = 0x110 then s.actions w [snapshotStep]
    else if page = 0x008 ∧ off = 0x130 then s.actions w [vote, readmit]
    else if page = 0x010 ∧ off = 0x138 then s.actions w [cancelStep]
    else if page = 0x040 ∧ off = 0x130 then s.actions w [rearmStep]
    else if page = 0x040 ∧ off = 0x180 then s.writeTxQl (bitsOf w 8 4)
    else if page = 0x041 then s.cmpWrite who off w
    else if page = 0x042 ∧ off = 0x108 then lfcOffsetStep who (BitVec.ofNat 32 w) s
    else if 0x0A1 ≤ page ∧ page ≤ 0x0B8 ∧ off = 0x128 then s.actions w [retrainNow (page - 0x0A1)]
    else if page = 0x0C0 ∧ off = 0x824 then s.actions w [segmentSet, segmentClear]
    else if 0x100 ≤ page ∧ page < 0x140 then s.cocoonWrite who (page - 0x100) off w
    else if page = 0x240 ∧ off = 0x108 ∧ (w % 1024 = 0 ∨ 1000 < w % 1024) then s.refuse 0x240 0x01D0 0x108
    else if page = 0x240 ∧ off = 0x10C then s.actions w [detachStep]
    else s.tableWrite who page off w

/-- A write of a word of an implemented page (R6, R487, R492, R493). In HALTED page SEQ takes none but of its error and signal words (R75). -/
def State.wordWrite (s : State) (who : Issuer) (page off w : Nat) : State :=
  if off % 4 ≠ 0 ∨ (pageRun page).isNone then s
  else if page = 0x010 ∧ (off = 0x010 ∨ 0x100 ≤ off) ∧ s.seqHalted then s
  else if 0x100 ≤ off then s.blockWrite who page off w
  else if off = 0x010 then s.ctrlWrite page w
  else if off = 0x020 then s.clearErr page w
  else if off = 0x024 then s.setFld (errMask page) w
  else if off = 0x030 then
    if isFnPage page && !managesPages who then s else s.setFlds [(signalVec page, w % 4096), (signalEn page, w / 2 ^ 31)]
  else s

/-- A register write. -/
def regWrStep (who : Issuer) (page off : Nat) (w : Word) (s : State) : State :=
  s.aligned who off fun s => s.access who page false fun s => s.wordWrite who page off w.toNat

def execRegWr (who : Issuer) (page off : Nat) (w : Word) (s : State) : Answer := .next (regWrStep who page off w s)

/-! ### CTRL and ERR as commands of their own -/

/-- Does a write of the management function or of a control core reach the page now? -/
def State.served_ (s : State) (page : Nat) (k : State → State) : State := if s.mayReach (.core 0) page then k s else s

/-- CTRL.ENABLE is set. -/
def enableStep (page : Nat) (s : State) : State :=
  s.served_ page fun s => if (pageRun page).any (fun r => r.hasE) && !s.isSet (ctrlEnable page) then s.enablePage page else s

def execEnable (page : Nat) (s : State) : Answer := .next (enableStep page s)

/-- CTRL.ENABLE is cleared. -/
def disableStep (page : Nat) (s : State) : State :=
  s.served_ page fun s => if (pageRun page).any (fun r => r.hasE) && s.isSet (ctrlEnable page) then s.disablePage page else s

def execDisable (page : Nat) (s : State) : Answer := .next (disableStep page s)

/-- CTRL.COMMIT is set. -/
def commitStep (page : Nat) (s : State) : State := s.served_ page fun s => s.commitPage page

def execCommit (page : Nat) (s : State) : Answer := .next (commitStep page s)

/-- CTRL.BLOCK_RESET is set. -/
def blockResetStep (page : Nat) (s : State) : State := s.served_ page fun s => s.blockResetPage page

def execBlockReset (page : Nat) (s : State) : Answer := .next (blockResetStep page s)

/-- A write of ERR. -/
def errWriteStep (page : Nat) (w : Word) (s : State) : State :=
  s.served_ page fun s => if (pageRun page).isSome then s.clearErr page w.toNat else s

def execErrWrite (page : Nat) (w : Word) (s : State) : Answer := .next (errWriteStep page w s)

/-! ### The test port (R297, R312, R481, R510) -/

/-- A GDDR7 line as its cells hold it: ciphertext where its cocoon has ENC set. -/
def State.rawLine (s : State) (a : Nat) : List Byte :=
  let plain := s.rdBytes a 64
  match (List.range 64).find? fun c => s.live c && s.inExtent c a 64 with
  | some c =>
    if s.isSet (Reg.COCOON.CFG.ENC c) then
      let key := Assoc.findD (s.fld (Reg.COCOON.CFG.KEY_SLOT c)) [] s.keys
      (plain.zipIdx).map fun x => Config.xtsByte key (a + x.2) x.1
    else plain
  | none => plain

/-- What leaves through the test port. -/
def State.portData (s : State) (b : List Byte) : State := s.emit (.testPort b)

/-- An access through the test port, in any instar and while halted; inert without power and while TRST_N is low (R510). -/
def testPortStep (x : TestAccess) (s : State) : State :=
  if !s.boot.powered || s.trst then s
  else match x with
  | .readRing d => s.portData (((Assoc.findD d [] s.bbox.rings).reverse).flatMap BbRecord.bytes)
  | .readFuse i => s.portData (match s.boot.fuses.bank[i]? with
    | some w => leBytes 4 w.toNat
    | none => leBytes 4 0)
  | .readPage page off => regRdStep .testPort page off s
  | .writePage page off w => regWrStep .testPort page off w s
  | .readLine a => if s.region (a / 64 * 64) == .gddr then s.portData (s.rawLine (a / 64 * 64)) else s
  | .readKeySlot _ => s.portData (List.replicate 64 0)
  | .requestFatal => s.fatalError 7

def execTestPortAccess (a : TestAccess) (s : State) : Answer := .next (testPortStep a s)

end Sys2Proof.Machine
end

