-- ==== Sys2Proof/Machine/Beat.lean ====
section
/-!
DEFINITION. BEAT_BOUNDARY: the beat counter (R44, R45, R48), the checks of COMMIT (R495), drains, epochs and the closing boundary (R55, R71, R74),
ways (R302), the BEAT signal (R84), and what the radio, the fronthaul, the silk links and the lock-step pairs do at a boundary.
-/
namespace Sys2Proof.Machine

/-! ### The counter (R44, R45, R48, R284) -/

/-- Device time runs on to the boundary and the next beat begins. After a realignment beat its number is that of the stepped time. -/
def State.nextBeat (s : State) : State :=
  match s.seq.realign with
  | some stop =>
    let s := s.advanceTo stop
    let s := { s with seq := { s.seq with realign := none, beat := stop / s.L, beatStart := stop } }
    ((s.countMod Reg.SEQ.BEAT_GEN.GEN 1).raiseErr Reg.SEQ.ERR.REALIGN).setFld Reg.SEQ.STATUS.REALIGNING 0
  | none =>
    let s := s.advanceTo (s.seq.beatStart + s.L)
    { s with seq := { s.seq with beat := s.seq.beat + 1, beatStart := s.seq.beatStart + s.L } }

/-- R284: the legacy frame counter resumes at the first boundary of the stepped time. -/
def State.unfreezeLfc (s : State) : State :=
  match s.time.lfcFrozen with
  | some _ => { s with time := { s.time with lfcFrozen := none } }.setFld Reg.LFC.LFC_STATUS.FROZEN 0
  | none => s

/-! ### Windows of the beat that ended (R61, R63, R64) -/

/-- The windows of the beat that ended are over; one stays noted on its core while a stride of its cocoon still runs there. -/
def State.endBeatWindows (s : State) : State :=
  let s := s.closeWindows
  let keep := s.seq.openWins.filter fun w => (s.runOn w.core).any fun r => Nat.beq r.cocoon w.cocoon && r.stride.isSome
  { s with seq := { s.seq with openWins := keep, cuts := [], openWork := [] } }

/-! ### Epochs (R54, R55, R71, R74) -/

/-- R55 item 6, R71: with boundary B at most K beats ahead, the drain begins. -/
def State.drainEffect (s : State) : State :=
  match s.seq.armed with
  | none => s
  | some new =>
    if s.fld Reg.SEQ.STATE.STATE = 2 ∧ s.seq.next ≤ s.seq.beat + new.preempt ∧ s.seq.beat < s.seq.next then
      let s := s.enter Reg.SEQ.STATE.STATE 3
      match s.seq.active with
      | some old => s.startDrains old new s.seq.next
      | none => s
    else s

/-- R55 item 7: at B the banks swap; a table that fits ends RADIO_SHORT (R67). -/
def State.epochEffect (s : State) : State :=
  match s.seq.armed with
  | none => s
  | some new =>
    if s.seq.beat < s.seq.next then s
    else
      let old := s
      let s := match s.seq.active with
        | some old => if new.preempt = 0 then s.reclaimNow old new else s.endDrains
        | none => s
      let s := { s with seq := { s.seq with active := some new, epoch := s.seq.next, armed := none, first := false } }
      let s := s.withLive ((onPage 0x010 s.seq.taken).foldl (fun l e => Assoc.put e.1 e.2 l) s.pages.file.live)
      let s := s.clearNext.setFlds [(Reg.SEQ.LIVE.GUARD_NS, new.guard), (Reg.SEQ.EPOCH_LO.EPOCH, s.seq.epoch % 2 ^ 32),
        (Reg.SEQ.EPOCH_HI.EPOCH, s.seq.epoch / 2 ^ 32)]
      let fits := (new.fits s.L s.F s.demand (fun n => !s.coreDisabled n) old.followsOwn).isNone
      let s := if fits then (s.setFld Reg.SEQ.STATUS.RADIO_SHORT 0).clearErr 0x010 (2 ^ Reg.SEQ.ERR.RADIO_SHORT.lo) else s
      s.seqRunning.pumpPower

/-- R74 items 2, 4 and 5: the closing boundary, which is B where drain beats had begun, else the next frame boundary, whatever number a step gives it.
LIVE keeps G, under which strides still running are timed (R62). -/
def State.closeEffect (s : State) : State :=
  match s.seq.closeAt with
  | none => s
  | some n =>
    if !(if s.seq.closingDrain.isSome then Nat.ble n s.seq.beat else Nat.beq (s.seq.beat % s.F) 0) then s
    else
      let s := if s.seq.closingDrain.isSome then s.endDrains else s
      let s := { s with seq := { s.seq with active := none, closeAt := none, closingDrain := none } }
      (s.enter Reg.SEQ.STATE.STATE 0).pumpPower

/-! ### Ways (R302) -/

/-- The ways of the part: cluster and way. -/
def allWays : List (Nat × Nat) := (List.range 256).flatMap fun g => (List.range 16).map fun w => (g, w)

/-- A way's clear begins: its contents read as zero, an access waits until it completes, and images staged in it are discarded. -/
def State.clearWay (s : State) (g w : Nat) : State :=
  let a := csBase g + w * 0x100000
  let s := (s.setMem (s.mem.clear a 0x100000)).healSram a 0x100000
  let hit (r : Run) : Bool := r.cores.any (fun n => Nat.beq (clusterOf n) g) &&
    (s.runProgram r).any fun p => Nat.ble p.way0 w && Nat.blt w (p.way0 + p.ways)
  let runs := s.runs.map fun r => if hit r then { r with staged := false } else r
  let rest := s.seq.clearing.filter fun x => !(Nat.beq x.1 g && Nat.beq x.2 w)
  { s with runs := runs, seq := { s.seq with clearing := rest ++ [(g, w)] } }

/-- The ways whose owner is not what it was in `old`, the state of the beat before, are cleared. -/
def State.waysEffect (s old : State) : State :=
  (allWays.filter fun x => !Nat.beq (s.wayOwner x.1 x.2) (old.wayOwner x.1 x.2)).foldl (fun s x => s.clearWay x.1 x.2) s

/-! ### Signals and silk (R84, R364, R382) -/

/-- The cores that lie in a window at this boundary: a window of the last owner begins on them with the beat. -/
def State.coresAtStart (s : State) : List Nat :=
  match s.seq.active, s.row with
  | some t, some r =>
    (List.range 2048).filter fun n => !s.coreDisabled n &&
      (t.rowWins r).any fun w => Nat.beq w.2.start 0 && t.hasCore w.2.coreSet n && (Assoc.find n s.seq.lastOwner == some w.2.cocoon)
  | _, _ => []

/-- BEAT is raised on the cores that lie in a window. -/
def State.signalBeat (s : State) : State := s.coresAtStart.foldl (fun s n => s.raiseEvent n 4) s

/-- R364, R382: the share set that the row names comes into force on every link. -/
def State.sharesEffect (s : State) : State :=
  let absent := s.row.any fun r => Nat.ble (fabCnt s.silk.fabric 2) r.silkSet
  let s := if absent then s.raiseErr Reg.SILK.ERR.SET_MISSING else s
  if s.silk.fabric.isEmpty then s
  else (List.range 64).foldl (fun s l =>
    let k := s.silkLink l
    let b := fabShaper s.silk.fabric s.shareSet l
    if k.sched.image == b then s else s.setSilkLink l { k with sched := k.sched.install b (s.mono / 8) }) s

/-! ### Radio and fronthaul (R200, R215, R221, R223, R226, R227, R239, R254) -/

/-- Requests, received symbols, decoded blocks and spoiled spans that lie 20 ms back play no further part. -/
def State.forgetRadio (s : State) : State :=
  let near (t : Nat) : Bool := Nat.ble s.now (t + 20000000)
  let s := { s with fh := { s.fh with received := s.fh.received.filter fun r => near r.start } }
  s.setRadio { s.radio with
    reqs := s.radio.reqs.filter fun r => near r.start, spoiled := s.radio.spoiled.filter fun x => near (max x.2.1 x.2.2)
    decoded := s.radio.decoded.filter fun d => near d.start, latched := s.radio.latched.filter fun l => near l.start
    lost := s.radio.lost.filter fun x => near x.2 }

/-- What the radio and the fronthaul do at a boundary. -/
def State.radioEffect (s : State) : State :=
  let frame := Nat.beq (s.seq.beat % s.F) 0
  let s := ((s.noTxData s.now).updateFloors s.now).serveEffect
  let s := if frame && s.radioOn then s.writeFloors else s
  let s := s.ruEffect s.seq.beat
  let at_ := s.fld2 Reg.RADIO.CFG_BEAT_LO.BEAT Reg.RADIO.CFG_BEAT_HI.BEAT
  let s := if s.radio.next.isSome && Nat.ble at_ s.seq.beat then s.cellsEffect else s
  let s := if frame then s.silence else s
  s.resetRadioCores.forgetRadio

/-! ### The boundary -/

/-- BEAT_BOUNDARY. HALTED keeps the counter and everything the sequencer does at the value of the last boundary (R75). -/
def beatBoundary (s : State) : State :=
  if !s.boot.powered || Nat.beq (s.fld Reg.SEQ.STATE.STATE) 5 then s
  else
    let old := s
    let s := s.nextBeat.spanBeats old.seq.beat
    let s := (s.unfreezeLfc.endBeatWindows).runChecks
    let s := s.drainEffect.epochEffect.closeEffect
    let s := (s.waysEffect old).signalBeat
    let s := s.shapersEffect.silkEffect.sharesEffect
    s.radioEffect.exchangeSignatures

def execBeatBoundary (s : State) : Answer := .next (beatBoundary s)

end Sys2Proof.Machine
end

