-- ==== Sys2Proof/Machine/Aes.lean ====
section
/-!
DEFINITION. AES-128 as FIPS 197 defines it, on lists of 16 bytes, for the random draws of R185.
-/
namespace Sys2Proof.Machine

/-- Multiply by x in GF(2⁸). -/
def xtime (b : Byte) : Byte := (b <<< 1) ^^^ (if b.getLsbD 7 then 0x1B else 0)

/-- The product in GF(2⁸). -/
def gfMul (a b : Byte) : Byte :=
  ((List.range 8).foldl (fun (p : Byte × Byte) i => (if b.getLsbD i then p.1 ^^^ p.2 else p.1, xtime p.2)) (0, a)).1

/-- a²⁵⁴, the inverse of a, and 0 for 0. -/
def gfInv (a : Byte) : Byte :=
  ((List.range 7).foldl (fun (p : Byte × Byte) _ => (gfMul p.1 (gfMul p.2 p.2), gfMul p.2 p.2)) (1, a)).1

/-- The S-box. -/
def sbox (b : Byte) : Byte :=
  let x := gfInv b
  x ^^^ x.rotateLeft 1 ^^^ x.rotateLeft 2 ^^^ x.rotateLeft 3 ^^^ x.rotateLeft 4 ^^^ 0x63

/-- The next round key. -/
def nextKey (k : List Byte) (rcon : Byte) : List Byte :=
  let g (i : Nat) : Byte := k.getD i 0
  let t := [sbox (g 13) ^^^ rcon, sbox (g 14), sbox (g 15), sbox (g 12)]
  let w0 := (List.range 4).map fun i => g i ^^^ t.getD i 0
  let w1 := (List.range 4).map fun i => g (4 + i) ^^^ w0.getD i 0
  let w2 := (List.range 4).map fun i => g (8 + i) ^^^ w1.getD i 0
  let w3 := (List.range 4).map fun i => g (12 + i) ^^^ w2.getD i 0
  w0 ++ w1 ++ w2 ++ w3

/-- SubBytes and ShiftRows: byte r + 4c of the state takes byte r + 4(c + r). -/
def subShift (s : List Byte) : List Byte :=
  let t := s.map sbox
  (List.range 16).map fun i => t.getD ((i + 4 * (i % 4)) % 16) 0

/-- MixColumns. -/
def mixColumns (s : List Byte) : List Byte :=
  (List.range 16).map fun i =>
    let c := i / 4 * 4
    let a (k : Nat) : Byte := s.getD (c + (i + k) % 4) 0
    xtime (a 0) ^^^ (xtime (a 1) ^^^ a 1) ^^^ a 2 ^^^ a 3

def xorBytes (a b : List Byte) : List Byte := List.zipWith (· ^^^ ·) a b

/-- The rounds after the first key addition. -/
def aesRounds (s k : List Byte) (rcon : Byte) : Nat → List Byte
  | 0 => s
  | 1 => xorBytes (subShift s) (nextKey k rcon)
  | n + 1 =>
    let k' := nextKey k rcon
    aesRounds (xorBytes (mixColumns (subShift s)) k') k' (xtime rcon) n

/-- AES-128 of one block under a key. -/
def aes128 (key block : List Byte) : List Byte := aesRounds (xorBytes block key) key 1 10

/-- Draw `d` of R185: seed, step, layer, rank, lane. -/
def draw (seed : List Byte) (step layer rank lane d : Nat) : Nat :=
  let ctr := step % 2 ^ 64 * 2 ^ 64 + layer % 2 ^ 16 * 2 ^ 48 + rank % 2 ^ 12 * 2 ^ 36 + lane % 2 ^ 8 * 2 ^ 28 + d / 4 % 2 ^ 28
  fieldAt (aes128 seed (leBytes 16 ctr).reverse) (4 * (d % 4)) 4

end Sys2Proof.Machine
end

