-- ==== Sys2Proof/Machine/Sequencer.lean ====
section
/-!
DEFINITION. The instructions of the sequencer (R80–R91, R185, R186) and the taking of signals (R84, R85).
-/
namespace Sys2Proof.Machine

/-! ### Branches, repeats and signals -/

/-- A transfer of control with two delay slots (R82); misplaced it is an illegal sequence (R82, R83). -/
def State.transfer (s : State) (n : Nat) (go : State → State) : State :=
  if (s.core n).delay.isSome || s.lastThree n then s.instrFault n faultIllegalSeq else go s

/-- Does a target lie inside the innermost active repeat body? With no repeat active every target does (R83). -/
def State.insideBody (s : State) (n target : Nat) : Bool :=
  match s.repeatDepth n with
  | 0 => true
  | d + 1 => Nat.ble (s.repeatEntry n d).1 target && Nat.ble target (s.repeatEntry n d).2.1

def State.setDelay (s : State) (n : Nat) (t : Option Nat) : State := s.setCore n { s.core n with delay := some (2, t) }

/-- The register that a second operand reads. -/
def srcReads : Src → List (Nat × Nat)
  | .reg k => [(scalarOff k, 4)]
  | .imm _ => []

/-- R82, R83: a branch. -/
def execBranch (core : Nat) (taken : Bool) (target : Nat) (s : State) : Answer :=
  .next (s.instr core [] fun s => s.transfer core fun s =>
    if taken && !s.insideBody core target then s.instrFault core faultRepeatExit
    else s.setDelay core (if taken then some target else none))

/-- R82: a call; it returns to the instruction after its delay slots. -/
def execCall (core target : Nat) (s : State) : Answer :=
  .next (s.instr core [] fun s => s.transfer core fun s =>
    (s.setCore core { s.core core with calls := (s.pc core + 3) % 4096 :: (s.core core).calls }).setDelay core (some target))

/-- R82: a return; where no call is open the spec states no target, which is free. -/
def execRet (core : Nat) (s : State) : Answer :=
  .next (s.instr core [] fun s => s.transfer core fun s =>
    match (s.core core).calls with
    | t :: r => (s.setCore core { s.core core with calls := r }).setDelay core (some t)
    | [] => s.drawn.setDelay core (some (Config.freeNat s.draws % 4096)))

/-- R83: REPEAT of the `body` instructions that follow it. -/
def repeatStep (core body : Nat) (count : Src) (s : State) : State :=
  s.instr core (srcReads count) fun s =>
    let k := s.srcVal core count % 65536
    if (s.core core).delay.isSome then s.instrFault core faultIllegalSeq
    else if s.repeatDepth core = 4 then s.instrFault core faultRepeatDepth
    else if k = 0 then s.setPc core (s.pc core + body)
    else s.setRepeat core (s.repeatDepth core) ((s.pc core + 1) % 4096) ((s.pc core + body) % 4096) k

def execRepeatBody (core body : Nat) (count : Src) (s : State) : Answer := .next (repeatStep core body count s)

/-- Leave the sequencer at a signal point. -/
def State.mark (s : State) (n : Nat) : State := s.setCore n { s.core n with point := true }

/-- R82, R84: YIELD is a signal point, inside a repeat too. -/
def yieldStep (core : Nat) (s : State) : State :=
  if !s.canIssue core then s
  else if (s.core core).delay.isSome then s.instr core [] fun s => s.instrFault core faultIllegalSeq
  else (s.instr core [] id).mark core

def execYield (core : Nat) (s : State) : Answer := .next (yieldStep core s)

/-- R84: END ends the routine and is a signal point; the routine completes once its results have landed. Inside a handler, which RETS ends (R85), only
the program counter moves (log entry 71). -/
def endStep (core : Nat) (s : State) : State :=
  if !s.canIssue core then s
  else if (s.core core).handler.isSome then s.instr core [] id
  else
    let s := s.instr core [] id
    (s.setCore core { s.core core with routine := (s.core core).routine.map fun r => { r with ended := true } }).mark core

def execEndRoutine (core : Nat) (s : State) : Answer := .next (endStep core s)

/-- R85: RETS resumes after the signal point and is itself one. Outside a handler the spec gives it nothing to resume: only the program counter
moves. It is taken for no return of R82: it has no delay slots and may stand in one (DESIGN CHOICE, log entry 217). -/
def retsStep (core : Nat) (s : State) : State :=
  if !s.canIssue core then s
  else
    let s := s.instr core [] id
    match (s.core core).handler with
    | some h => ((s.setPc core h.resume).setCore core { s.core core with handler := none, vecHeld := (s.core core).vecHeld && (s.core core).routine.isSome }).mark core
    | none => s

def execRets (core : Nat) (s : State) : Answer := .next (retsStep core s)

/-- A signal's handler vector, if enabled. A faulted core starts no work, so it takes a later YIELD or BEAT as with the vector disabled (R111). -/
def State.handlerEntry (s : State) (n : Nat) (beat : Bool) : Option Nat :=
  let v := s.rd (handlerAddr n beat) 4
  if v.testBit 31 && !(s.core n).faulted then some (v % 4096) else none

/-- Start a handler: the pipeline drains in 4 cycles. -/
def State.startHandler (s : State) (n : Nat) (beat : Bool) (entry : Nat) : State :=
  let s := s.landAll n
  let pc := s.pc n
  (s.setPc n entry).setCore n { s.core n with cycle := (s.core n).cycle + 4, handler := some ⟨beat, pc⟩, point := false }

/-- Take YIELD or BEAT: its bit clears, and its handler starts if enabled. -/
def State.takeSignal (s : State) (n : Nat) (beat : Bool) : State × Bool :=
  let bit := if beat then 2 else 1
  if (s.signals n).testBit bit then
    let s := s.wr (signalAddr n) 4 (putBits (s.signals n) bit 1 0)
    match s.handlerEntry n beat with
    | some e => (s.startHandler n beat e, true)
    | none => (s, false)
  else (s, false)

/-- R85: at a signal point pending signals are taken, FAULT, YIELD, BEAT. -/
def signalTake (core : Nat) (s : State) : State :=
  let p := s.signals core
  if !(s.core core).atPoint || Nat.beq p 0 then s
  else if p.testBit 0 then
    let s := s.landAll core
    (s.wr (signalAddr core) 4 0).setCore core { s.core core with routine := none, delay := none, point := false, vecHeld := false }
  else
    match s.takeSignal core false with
    | (s, true) => s
    | (s, false) =>
      match s.takeSignal core true with
      | (s, true) => s
      | (s, false) => s.setCore core { s.core core with point := false }

def execSignalTake (core : Nat) (s : State) : Answer := .next (signalTake core s)

/-! ### Scalar arithmetic (R80, R89–R91) -/

/-- The result of a scalar operation; a shift by 32 or more has no stated result, which is free. -/
def scalarEval (op : ScalarOp) (draws a b : Nat) : Nat :=
  let m := 2 ^ 32
  match op with
  | .add => (a + b) % m
  | .sub => (a + m - b) % m
  | .and => a &&& b
  | .or => a ||| b
  | .xor => a ^^^ b
  | .not => m - 1 - a
  | .shl => if b < 32 then a * 2 ^ b % m else Config.freeNat draws % m
  | .shrl => if b < 32 then a / 2 ^ b else Config.freeNat draws % m
  | .shra => if b < 32 then ofSigned 32 (toSigned 32 a / (2 ^ b : Nat)) else Config.freeNat draws % m
  | .cmpEq => if a = b then 1 else 0
  | .cmpLt => if toSigned 32 a < toSigned 32 b then 1 else 0
  | .cmpLtu => if a < b then 1 else 0
  | .mov => b

/-- R80: a scalar operation; its result is visible 2 cycles after its issue. -/
def execScalarOperation (core : Nat) (op : ScalarOp) (rd ra : Nat) (b : Src) (s : State) : Answer :=
  .next (s.instr core ((scalarOff ra, 4) :: srcReads b) fun s => s.drawn.setScalar core 2 rd (scalarEval op s.draws (s.scalar core ra) (s.srcVal core b)))

/-- The Q1.15 product, rounded and saturated (R89, R90). -/
def q15 (a b : Nat) : Int × Bool := satTo 16 (rshr (toSigned 16 a * toSigned 16 b) 15)

/-- R80, R90: a 32 × 32-bit multiply or a Q1.15 multiply or multiply-accumulate, visible after 3 cycles. -/
def multiplyStep (core : Nat) (op : MacOp) (rd ra rb : Nat) (s : State) : State :=
  s.instr core [(scalarOff ra, 4), (scalarOff rb, 4), (scalarOff rd, if op = .q15mac then 4 else 0)] fun s =>
    let a := s.scalar core ra
    let b := s.scalar core rb
    let (p, sat) := q15 a b
    match op with
    | .mul32 => s.setScalar core 3 rd (a * b)
    | .q15mul => (s.noteSat core sat).setScalar core 3 rd (ofSigned 32 p)
    | .q15mac =>
      let (v, sat') := satTo 32 (toSigned 32 (s.scalar core rd) + p)
      (s.noteSat core (sat || sat')).setScalar core 3 rd (ofSigned 32 v)

def execMultiplyAccumulate (core : Nat) (op : MacOp) (rd ra rb : Nat) (s : State) : Answer := .next (multiplyStep core op rd ra rb s)

/-- R89: RSHR. -/
def execRshr (core rd rs : Nat) (n : Src) (s : State) : Answer :=
  .next (s.instr core ((scalarOff rs, 4) :: srcReads n) fun s =>
    s.setScalar core 2 rd (ofSigned 32 (Sys2Proof.Machine.rshr (toSigned 32 (s.scalar core rs)) (s.srcVal core n % 32))))

/-- R90: NARROW of a register, or of a pair as one 64-bit value, to 16 or 32 bits after a rounding shift. -/
def narrowStep (core rd lo : Nat) (hi : Option Nat) (n : Nat) (wide : Bool) (s : State) : State :=
  s.instr core ((scalarOff lo, 4) :: hi.toList.map fun h => (scalarOff h, 4)) fun s =>
    let x := match hi with
      | some h => toSigned 64 (s.scalar core lo + 2 ^ 32 * s.scalar core h)
      | none => toSigned 32 (s.scalar core lo)
    let (v, sat) := satTo (if wide then 32 else 16) (Sys2Proof.Machine.rshr x n)
    (s.noteSat core sat).setScalar core 2 rd (ofSigned 32 v)

def execNarrow (core rd lo : Nat) (hi : Option Nat) (n : Nat) (wide : Bool) (s : State) : Answer := .next (narrowStep core rd lo hi n wide s)

/-- R91: NORM of an integer writes the shifted value and its count of redundant sign bits; on a floating value it is an illegal sequence. -/
def normStep (core rd rc rs : Nat) (kind : NumKind) (s : State) : State :=
  s.instr core [(scalarOff rs, 4)] fun s =>
    let go (w : Nat) (s : State) : State :=
      let x := toSigned w (s.scalar core rs)
      let c := redundant w x
      (s.setScalar core 2 rd (ofSigned 32 (toSigned w (ofSigned w (x * (2 ^ c : Nat)))))).setScalar core 2 rc c
    match kind with
    | .int16 => go 16 s
    | .int32 => go 32 s
    | _ => s.instrFault core faultIllegalSeq

def execNorm (core rd rc rs : Nat) (kind : NumKind) (s : State) : Answer := .next (normStep core rd rc rs kind s)

/-- EXPX of a register value, and whether it sets EXP_SPECIAL (R91). -/
def expxOf (kind : NumKind) (v : Nat) : Int × Bool :=
  let f (x : Fp) : Int × Bool := (fpExpx x, x.isNan || x.isInf)
  match kind with
  | .int16 => (redundant 16 (toSigned 16 v), false)
  | .int32 => (redundant 32 (toSigned 32 v), false)
  | .fp32 => f (FpFmt.fp32.decode v)
  | .fp16 => f (FpFmt.fp16.decode (v % 65536))
  | .bf16 => f (FpFmt.bf16.decode (v % 65536))

/-- R91: EXPX. -/
def execExpx (core rd rs : Nat) (kind : NumKind) (s : State) : Answer :=
  .next (s.instr core [(scalarOff rs, 4)] fun s =>
    let (v, special) := expxOf kind (s.scalar core rs)
    (s.noteSpecial core special).setScalar core 2 rd (ofSigned 32 v))

/-! ### Vector instructions (R91, R185, R186) -/

/-- A vector instruction: it waits while the vector engine runs a stage sequence, and holds the engine until its routine or handler ends (R92). -/
def State.vecInstr (s : State) (n : Nat) (reads : List (Nat × Nat)) (f : State → State) : State :=
  if (s.core n).vector.isSome then s
  else s.instr n reads fun s => f (s.setCore n { s.core n with vecHeld := true })

/-- R91: BEXP writes into every lane the smallest EXPX of its group of adjacent 16-bit lanes. -/
def bexpStep (core vd vs group : Nat) (s : State) : State :=
  s.vecInstr core [(vectorOff vs, 256)] fun s =>
    let b := s.rdBytes (cwBase core + vectorOff vs) 256
    let lane (i : Nat) : Nat := redundant 16 (toSigned 16 (fieldAt b (2 * i) 2))
    let out := (List.range 128).flatMap fun i =>
      let g := i / max 1 group * max 1 group
      leBytes 2 (((List.range (min (max 1 group) (128 - g))).map fun k => lane (g + k)).foldl min 15)
    s.after core 6 (vectorOff vd) out

def execBexp (core vd vs group : Nat) (s : State) : Answer := .next (bexpStep core vd vs group s)

/-- STEP and SEED of context `ci` of the list of the run on a core (R182). -/
def State.seedOf (s : State) (n ci : Nat) : Option (Nat × List Byte) :=
  (s.runOn n).bind fun r => (r.ctxs[ci]?).map fun x =>
    let a := s.ctxAddr r.cocoon x
    (s.rd (a + 24) 8, s.rdBytes (a + 32) 16)

/-- The rank a core executes (R178). -/
def State.rankOf (s : State) (n : Nat) : Nat := (s.runOn n).elim 0 fun r => r.cores.findIdx (Nat.beq n)

/-- R185: RNG writes the draws of 64 lanes, visible after 24 cycles. With no such context the spec states no draws: they are free. -/
def rngStep (core vd ci layer d : Nat) (hi : Bool) (s : State) : State :=
  s.vecInstr core [] fun s =>
    let out := match s.seedOf core ci with
      | some (step, seed) => (List.range 64).flatMap fun i =>
          leBytes 4 (draw seed step layer (s.rankOf core) (i + if hi then 64 else 0) d)
      | none => (List.range 64).flatMap fun i => leBytes 4 (Config.freeNat (s.draws + i))
    { s with draws := s.draws + 64 }.after core 24 (vectorOff vd) out

def execRng (core vd ci layer d : Nat) (hi : Bool) (s : State) : Answer := .next (rngStep core vd ci layer d hi s)

/-- log2(e) with 128 bits below the point. -/
def log2e : Nat := 490923683258796565746369346286093237522

/-- The running sums of a list, each step rounded. -/
def runSums : Fp → List Fp → List Fp
  | _, [] => []
  | a, x :: r => a.add32 x :: runSums (a.add32 x) r

/-- R186: the place of the candidate that SAMPLE picks; nothing where the rule picks none. -/
def samplePick (v : List Fp) (tau p : Fp) (w : Nat) : Option Nat :=
  if tau.isZero || Nat.beq v.length 1 then some 0
  else
    let c := match tau with
      | .fin n m e => r32 (quotient n log2e m (-128 - e))
      | .inf n => .fin n 0 0
      | .nan => .nan
    let v0 := v.headD .nan
    let t := v.map fun x => expAnchor ((x.sub32 v0).mul32 c) (some 0)
    let sums := match t with
      | [] => []
      | x :: r => x :: runSums x r
    let goal := p.mul32 (sums.getLastD .nan)
    match sums.findIdx? fun x => goal.le x with
    | none => none
    | some n1 =>
      let u := Fp.fin false (w / 256) (-24)
      let rho := u.mul32 (sums.getD n1 .nan)
      (sums.take (n1 + 1)).findIdx? fun x => rho.lt x

/-- R186: SAMPLE. Candidate i's value stands at addr + 4i and its position at addr + 128k + 4i, as TOPK writes them (R151). A poisoned word
among them faults (R107). -/
def sampleStep (core rd addr k ci j : Nat) (s : State) : State :=
  s.instr core [] fun s =>
    let base := spBase core + addr % 0x200000
    let v := (List.range k).map fun i => dec32 (s.rd (base + 4 * i) 4)
    let cmd := ((s.runOn core).bind fun r => r.cmd).elim [] fun c => c.bytes
    let tau := dec32 (fieldAt cmd 56 4)
    let p := dec32 (fieldAt cmd 60 4)
    let w := match s.seedOf core ci with
      | some (step, seed) => draw seed step 0xFFFF 0xFFF 0 j
      | none => Config.freeNat s.draws % 2 ^ 32
    let s := s.drawn
    let lat := 8 * k + 40
    let cand := [(base, 4 * k), (base + 128 * k, 4 * k)]
    if cand.any (fun r => s.bad r.1 r.2) then (cand.foldl (fun s r => s.scrubRead r.1 r.2) s).instrFault core faultSramUe
    else
    let s := cand.foldl (fun s r => s.scrubRead r.1 r.2) s
    if v.any Fp.isNan || tau.lt Fp.zero then (s.arrayFlags core true false false).setScalar core lat rd 0xFFFFFFFF
    else match samplePick v tau p w with
      | some i => s.setScalar core lat rd (s.rd (base + 128 * k + 4 * i) 4)
      | none => s.drawn.setScalar core lat rd (Config.freeNat s.draws)

def execSample (core rd addr k ci j : Nat) (s : State) : Answer := .next (sampleStep core rd addr k ci j s)

/-! ### Address generators, loads and stores (R80, R81, R87, R88) -/

/-- BASE, LEN, STRIDE and OFFSET of an address generator. -/
def State.ag (s : State) (n g : Nat) : Nat × Nat × Int × Int :=
  let a := cwBase n + agOff g
  (s.rd a 4, s.rd (a + 4) 4, toSigned 32 (s.rd (a + 8) 4), toSigned 32 (s.rd (a + 12) 4))

/-- The scratchpad address of an access of `w` bytes through a generator; nothing where it is out of bounds (R88). -/
def State.agAddress (s : State) (n g w : Nat) (mode : AgMode) : Option Nat :=
  let (base, len, _, off) := s.ag n g
  let at_ := (base : Int) + off
  if mode = .linear ∧ (off < 0 ∨ (len : Int) ≤ off) then none
  else if at_ < 0 ∨ (0x200000 : Int) < at_ + w then none
  else some at_.toNat

/-- Post-modify (R87): visible after 1 cycle. A LEN of 0 in circular mode, outside the range R87 gives, leaves OFFSET free. -/
def State.postModify (s : State) (n g : Nat) (mode : AgMode) : State :=
  let (_, len, stride, off) := s.ag n g
  let next := match mode with
    | .linear => ofSigned 32 (off + stride)
    | .circular => if len = 0 then Config.freeNat s.draws % 2 ^ 32 else ((off + stride) % (len : Int)).toNat
  s.drawn.after n 1 (agOff g + 12) (leBytes 4 next)

/-- Width of a register and its offset in the window. -/
def lsBytes : LsReg → Nat
  | .scalar _ => 4
  | .vector _ => 256
def lsOff : LsReg → Nat
  | .scalar k => scalarOff k
  | .vector v => vectorOff v

/-- R80, R88: a load through a generator, visible after 4 cycles; out of bounds it faults, and so does a poisoned word (R107). -/
def loadStep (core : Nat) (rd : LsReg) (ag : Nat) (mode : AgMode) (s : State) : State :=
  s.instr core [(agOff ag, 16)] fun s =>
    match s.agAddress core ag (lsBytes rd) mode with
    | none => s.instrFault core faultAgBound
    | some a =>
      let a := spBase core + a
      if s.bad a (lsBytes rd) then (s.scrubRead a (lsBytes rd)).instrFault core faultSramUe
      else ((s.scrubRead a (lsBytes rd)).after core 4 (lsOff rd) (s.rdBytes a (lsBytes rd))).postModify core ag mode

def execScratchpadLoad (core : Nat) (rd : LsReg) (ag : Nat) (mode : AgMode) (s : State) : Answer := .next (loadStep core rd ag mode s)

/-- R80, R88: a store through a generator, seen by a load of the next cycle. -/
def storeStep (core : Nat) (rs : LsReg) (ag : Nat) (mode : AgMode) (s : State) : State :=
  s.instr core [(agOff ag, 16), (lsOff rs, lsBytes rs)] fun s =>
    match s.agAddress core ag (lsBytes rs) mode with
    | none => s.instrFault core faultAgBound
    | some a => (s.ownWrite core (spBase core + a) (s.rdBytes (cwBase core + (lsOff rs)) (lsBytes rs))).postModify core ag mode

def execScratchpadStore (core : Nat) (rs : LsReg) (ag : Nat) (mode : AgMode) (s : State) : Answer := .next (storeStep core rs ag mode s)

end Sys2Proof.Machine
end

