-- ==== Sys2Proof/Machine/Dispatch.lean ====
section
/-!
DEFINITION. The meaning of every command, arm by arm: one direct call each.
-/
namespace Sys2Proof.Machine

/-- The effect of a command on everything but the queue. -/
def exec (i : Instr) (s : State) : Host.Outcome State Fault Refusal :=
  match i with
  | .referenceLoss => Sys2Proof.Machine.execReferenceLoss s
  | .referenceReturn => Sys2Proof.Machine.execReferenceReturn s
  | .clockUnlock die => Sys2Proof.Machine.execClockUnlock die s
  | .meshEdgeDown edge => Sys2Proof.Machine.execMeshEdgeDown edge s
  | .cdcTimeout x die => Sys2Proof.Machine.execCdcTimeout x die s
  | .crossingResync x => Sys2Proof.Machine.execCrossingResync x s
  | .neighbourTemperatureCheck => Sys2Proof.Machine.execNeighbourTemperatureCheck s
  | .operatingPointChangeDone die => Sys2Proof.Machine.execOperatingPointChangeDone die s
  | .beatBoundary => Sys2Proof.Machine.execBeatBoundary s
  | .timeStepApply => Sys2Proof.Machine.execTimeStepApply s
  | .tableCheckDone => Sys2Proof.Machine.execTableCheckDone s
  | .cancel => Sys2Proof.Machine.execCancel s
  | .windowStart win core => Sys2Proof.Machine.execWindowStart win core s
  | .windowEnd win core => Sys2Proof.Machine.execWindowEnd win core s
  | .workEntryStart work => Sys2Proof.Machine.execWorkEntryStart work s
  | .restoreGroupDone cocoon slot group => Sys2Proof.Machine.execRestoreGroupDone cocoon slot group s
  | .strideStart run now => Sys2Proof.Machine.execStrideStart run now s
  | .strideEnd run now => Sys2Proof.Machine.execStrideEnd run now s
  | .runawayStride core now => Sys2Proof.Machine.execRunawayStride core now s
  | .radioCapacityRecheck => Sys2Proof.Machine.execRadioCapacityRecheck s
  | .tableParityError => Sys2Proof.Machine.execTableParityError s
  | .chrysalisSaveStart core => Sys2Proof.Machine.execChrysalisSaveStart core s
  | .chrysalisSaveDone core => Sys2Proof.Machine.execChrysalisSaveDone core s
  | .drainTimeout core => Sys2Proof.Machine.execDrainTimeout core s
  | .branch core taken target => Sys2Proof.Machine.execBranch core taken target s
  | .call core target => Sys2Proof.Machine.execCall core target s
  | .ret core => Sys2Proof.Machine.execRet core s
  | .repeatBody core body count => Sys2Proof.Machine.execRepeatBody core body count s
  | .yield core => Sys2Proof.Machine.execYield core s
  | .endRoutine core => Sys2Proof.Machine.execEndRoutine core s
  | .rets core => Sys2Proof.Machine.execRets core s
  | .rshr core rd rs n => Sys2Proof.Machine.execRshr core rd rs n s
  | .narrow core rd lo hi n wide => Sys2Proof.Machine.execNarrow core rd lo hi n wide s
  | .norm core rd rc rs kind => Sys2Proof.Machine.execNorm core rd rc rs kind s
  | .expx core rd rs kind => Sys2Proof.Machine.execExpx core rd rs kind s
  | .bexp core vd vs group => Sys2Proof.Machine.execBexp core vd vs group s
  | .rng core vd ci layer d hi => Sys2Proof.Machine.execRng core vd ci layer d hi s
  | .sample core rd addr k ci j => Sys2Proof.Machine.execSample core rd addr k ci j s
  | .scratchpadLoad core rd ag mode => Sys2Proof.Machine.execScratchpadLoad core rd ag mode s
  | .scratchpadStore core rs ag mode => Sys2Proof.Machine.execScratchpadStore core rs ag mode s
  | .scalarOperation core op rd ra b => Sys2Proof.Machine.execScalarOperation core op rd ra b s
  | .multiplyAccumulate core op rd ra rb => Sys2Proof.Machine.execMultiplyAccumulate core op rd ra rb s
  | .signalTake core => Sys2Proof.Machine.execSignalTake core s
  | .arrayProduct core slot => Sys2Proof.Machine.execArrayProduct core slot s
  | .vectorOperation core slot => Sys2Proof.Machine.execVectorOperation core slot s
  | .copyFire core slot => Sys2Proof.Machine.execCopyFire core slot s
  | .sequencerRoutine core slot => Sys2Proof.Machine.execSequencerRoutine core slot s
  | .remoteLoad core slot => Sys2Proof.Machine.execRemoteLoad core slot s
  | .remoteStore core slot => Sys2Proof.Machine.execRemoteStore core slot s
  | .atomicAdd core slot => Sys2Proof.Machine.execAtomicAdd core slot s
  | .atomicSwap core slot => Sys2Proof.Machine.execAtomicSwap core slot s
  | .atomicCas core slot => Sys2Proof.Machine.execAtomicCas core slot s
  | .atomicMin core slot => Sys2Proof.Machine.execAtomicMin core slot s
  | .atomicMax core slot => Sys2Proof.Machine.execAtomicMax core slot s
  | .arrayOccupancyEnd core => Sys2Proof.Machine.execArrayOccupancyEnd core s
  | .feederRefill core row => Sys2Proof.Machine.execFeederRefill core row s
  | .epilogueStart core => Sys2Proof.Machine.execEpilogueStart core s
  | .operationComplete core unit => Sys2Proof.Machine.execOperationComplete core unit s
  | .postArrival src core => Sys2Proof.Machine.execPostArrival src core s
  | .copySourceRelease core id => Sys2Proof.Machine.execCopySourceRelease core id s
  | .copyLanding core id => Sys2Proof.Machine.execCopyLanding core id s
  | .sqEntryRead fn queue entry => Sys2Proof.Machine.execSqEntryRead fn queue entry s
  | .invoke fn queue => Sys2Proof.Machine.execInvoke fn queue s
  | .loadProgram fn queue => Sys2Proof.Machine.execLoadProgram fn queue s
  | .unloadProgram fn queue => Sys2Proof.Machine.execUnloadProgram fn queue s
  | .unloadProgramComplete cocoon handle => Sys2Proof.Machine.execUnloadProgramComplete cocoon handle s
  | .slotSet fn queue => Sys2Proof.Machine.execSlotSet fn queue s
  | .contextOpen fn queue => Sys2Proof.Machine.execContextOpen fn queue s
  | .contextClose fn queue => Sys2Proof.Machine.execContextClose fn queue s
  | .contextCloseComplete cocoon ctx => Sys2Proof.Machine.execContextCloseComplete cocoon ctx s
  | .copy fn queue => Sys2Proof.Machine.execCopy fn queue s
  | .barrier fn queue => Sys2Proof.Machine.execBarrier fn queue s
  | .coreReset fn queue => Sys2Proof.Machine.execCoreReset fn queue s
  | .attest fn queue => Sys2Proof.Machine.execAttest fn queue s
  | .imageStagingDone run => Sys2Proof.Machine.execImageStagingDone run s
  | .launch run now => Sys2Proof.Machine.execLaunch run now s
  | .dlTtiRequest => Sys2Proof.Machine.execDlTtiRequest s
  | .ulTtiRequest => Sys2Proof.Machine.execUlTtiRequest s
  | .ulDciRequest => Sys2Proof.Machine.execUlDciRequest s
  | .txDataRequest => Sys2Proof.Machine.execTxDataRequest s
  | .dlConfigRequest => Sys2Proof.Machine.execDlConfigRequest s
  | .ulConfigRequest => Sys2Proof.Machine.execUlConfigRequest s
  | .hiDci0Request => Sys2Proof.Machine.execHiDci0Request s
  | .txRequest => Sys2Proof.Machine.execTxRequest s
  | .rxDataIndication ind => Sys2Proof.Machine.execRxDataIndication ind s
  | .crcIndication ind => Sys2Proof.Machine.execCrcIndication ind s
  | .uciIndication ind => Sys2Proof.Machine.execUciIndication ind s
  | .srsIndication ind => Sys2Proof.Machine.execSrsIndication ind s
  | .rachIndication ind => Sys2Proof.Machine.execRachIndication ind s
  | .rxUlschIndication ind => Sys2Proof.Machine.execRxUlschIndication ind s
  | .harqIndication ind => Sys2Proof.Machine.execHarqIndication ind s
  | .rxSrIndication ind => Sys2Proof.Machine.execRxSrIndication ind s
  | .rxCqiIndication ind => Sys2Proof.Machine.execRxCqiIndication ind s
  | .ldpcDecode decoder ind rnti block => Sys2Proof.Machine.execLdpcDecode decoder ind rnti block s
  | .prachDetection ind => Sys2Proof.Machine.execPrachDetection ind s
  | .cellConfigCheckDone => Sys2Proof.Machine.execCellConfigCheckDone s
  | .radioFallback cell => Sys2Proof.Machine.execRadioFallback cell s
  | .fallbackExpiry => Sys2Proof.Machine.execFallbackExpiry s
  | .engineSelfCheckFail cls index => Sys2Proof.Machine.execEngineSelfCheckFail cls index s
  | .interfaceLinkDown ind => Sys2Proof.Machine.execInterfaceLinkDown ind s
  | .interfaceLinkUp ind => Sys2Proof.Machine.execInterfaceLinkUp ind s
  | .frameEligible cell stream plane start symbol => Sys2Proof.Machine.execFrameEligible cell stream plane start symbol s
  | .frameStartLimit ind id => Sys2Proof.Machine.execFrameStartLimit ind id s
  | .frameTransmit ind raw => Sys2Proof.Machine.execFrameTransmit ind raw s
  | .frameReceive ind f => Sys2Proof.Machine.execFrameReceive ind f s
  | .ecpriDelayRequest ind id t1 correction => Sys2Proof.Machine.execEcpriDelayRequest ind id t1 correction s
  | .sync ind raw m => Sys2Proof.Machine.execSync ind raw m s
  | .followUp ind m => Sys2Proof.Machine.execFollowUp ind m s
  | .delayReq ind raw m => Sys2Proof.Machine.execDelayReq ind raw m s
  | .delayResp ind m => Sys2Proof.Machine.execDelayResp ind m s
  | .announce ind m => Sys2Proof.Machine.execAnnounce ind m s
  | .announceTimeout => Sys2Proof.Machine.execAnnounceTimeout s
  | .syncTransmit ind => Sys2Proof.Machine.execSyncTransmit ind s
  | .delayReqTransmit => Sys2Proof.Machine.execDelayReqTransmit s
  | .announceTransmit ind => Sys2Proof.Machine.execAnnounceTransmit ind s
  | .compareArm u => Sys2Proof.Machine.execCompareArm u s
  | .compareFire u => Sys2Proof.Machine.execCompareFire u s
  | .rearm => Sys2Proof.Machine.execRearm s
  | .ppsInEdge => Sys2Proof.Machine.execPpsInEdge s
  | .ppsInMissing => Sys2Proof.Machine.execPpsInMissing s
  | .ppsOutPulse => Sys2Proof.Machine.execPpsOutPulse s
  | .frequencySourceLost src => Sys2Proof.Machine.execFrequencySourceLost src s
  | .frequencySourceRestored src => Sys2Proof.Machine.execFrequencySourceRestored src s
  | .esmcReceive ql => Sys2Proof.Machine.execEsmcReceive ql s
  | .esmcInformationPdu ind => Sys2Proof.Machine.execEsmcInformationPdu ind s
  | .esmcEventPdu ind => Sys2Proof.Machine.execEsmcEventPdu ind s
  | .nowFracRead who => Sys2Proof.Machine.execNowFracRead who s
  | .latchRead who page off => Sys2Proof.Machine.execLatchRead who page off s
  | .latchedHighRead who page off => Sys2Proof.Machine.execLatchedHighRead who page off s
  | .lfcLoRead who => Sys2Proof.Machine.execLfcLoRead who s
  | .lfcHiRead who => Sys2Proof.Machine.execLfcHiRead who s
  | .lfcOffsetWrite who w => Sys2Proof.Machine.execLfcOffsetWrite who w s
  | .cocoonDestroyFillDone cocoon => Sys2Proof.Machine.execCocoonDestroyFillDone cocoon s
  | .keyLoad cocoon => Sys2Proof.Machine.execKeyLoad cocoon s
  | .keyErase cocoon => Sys2Proof.Machine.execKeyErase cocoon s
  | .keySlotChange cocoon cfg => Sys2Proof.Machine.execKeySlotChange cocoon cfg s
  | .bind cocoon fn => Sys2Proof.Machine.execBind cocoon fn s
  | .unbind cocoon fn => Sys2Proof.Machine.execUnbind cocoon fn s
  | .unfence cocoon => Sys2Proof.Machine.execUnfence cocoon s
  | .wayClearDone cluster way => Sys2Proof.Machine.execWayClearDone cluster way s
  | .tdmSlotBoundary slot => Sys2Proof.Machine.execTdmSlotBoundary slot s
  | .dirtyCfgWrite fn en => Sys2Proof.Machine.execDirtyCfgWrite fn en s
  | .dirtyLogConfigWrite fn off w => Sys2Proof.Machine.execDirtyLogConfigWrite fn off w s
  | .dirtyLogDrained fn => Sys2Proof.Machine.execDirtyLogDrained fn s
  | .gddr7Access cocoon addr op errA errB => Sys2Proof.Machine.execGddr7Access cocoon addr op errA errB s
  | .gddr7Refresh channel bank => Sys2Proof.Machine.execGddr7Refresh channel bank s
  | .retrainDue channel temp retries => Sys2Proof.Machine.execRetrainDue channel temp retries s
  | .retrainStep channel ok => Sys2Proof.Machine.execRetrainStep channel ok s
  | .retrainStarved channel => Sys2Proof.Machine.execRetrainStarved channel s
  | .patrolScrub channel group errs written => Sys2Proof.Machine.execPatrolScrub channel group errs written s
  | .retrainNow channel => Sys2Proof.Machine.execRetrainNow channel s
  | .retrainNowDone channel ok => Sys2Proof.Machine.execRetrainNowDone channel ok s
  | .wavelengthFail link rx lambda => Sys2Proof.Machine.execWavelengthFail link rx lambda s
  | .spareSwitchDone link rx => Sys2Proof.Machine.execSpareSwitchDone link rx s
  | .opticalEngineFail link => Sys2Proof.Machine.execOpticalEngineFail link s
  | .spareFibreSwitchDone link => Sys2Proof.Machine.execSpareFibreSwitchDone link s
  | .linkTrainingDone link ok neighbour farLink rtt => Sys2Proof.Machine.execLinkTrainingDone link ok neighbour farLink rtt s
  | .linkDown link => Sys2Proof.Machine.execLinkDown link s
  | .flitReceive link fecOk crcOk f => Sys2Proof.Machine.execFlitReceive link fecOk crcOk f s
  | .flitTransmit link service share => Sys2Proof.Machine.execFlitTransmit link service share s
  | .remoteRequestArrival r => Sys2Proof.Machine.execRemoteRequestArrival r s
  | .getRequest src share tag addr len segment dst => Sys2Proof.Machine.execGetRequest src share tag addr len segment dst s
  | .remoteResponseArrival core tag r => Sys2Proof.Machine.execRemoteResponseArrival core tag r s
  | .deadTargetTimeout core tag => Sys2Proof.Machine.execDeadTargetTimeout core tag s
  | .segmentSet => Sys2Proof.Machine.execSegmentSet s
  | .segmentClear => Sys2Proof.Machine.execSegmentClear s
  | .halfDown half => Sys2Proof.Machine.execHalfDown half s
  | .halfRejoin half => Sys2Proof.Machine.execHalfRejoin half s
  | .staidoFlitReceive lane fecOk crcOk seq ack nak => Sys2Proof.Machine.execStaidoFlitReceive lane fecOk crcOk seq ack nak s
  | .sqTailDoorbell fn off size tail => Sys2Proof.Machine.execSqTailDoorbell fn off size tail s
  | .cqHeadDoorbell fn off size head => Sys2Proof.Machine.execCqHeadDoorbell fn off size head s
  | .regRd who page off => Sys2Proof.Machine.execRegRd who page off s
  | .regWr who page off w => Sys2Proof.Machine.execRegWr who page off w s
  | .memRdCompletion fn tag d => Sys2Proof.Machine.execMemRdCompletion fn tag d s
  | .svMaskWrite fn ind w => Sys2Proof.Machine.execSvMaskWrite fn ind w s
  | .coalesceTimeout fn ring => Sys2Proof.Machine.execCoalesceTimeout fn ring s
  | .inval fn => Sys2Proof.Machine.execInval fn s
  | .invalDone fn => Sys2Proof.Machine.execInvalDone fn s
  | .functionClear who fn => Sys2Proof.Machine.execFunctionClear who fn s
  | .sqEnable fn queue w => Sys2Proof.Machine.execSqEnable fn queue w s
  | .sqDisable fn queue w => Sys2Proof.Machine.execSqDisable fn queue w s
  | .cqEnable fn ring w => Sys2Proof.Machine.execCqEnable fn ring w s
  | .cqDisable fn ring w => Sys2Proof.Machine.execCqDisable fn ring w s
  | .detach => Sys2Proof.Machine.execDetach s
  | .detachTimeout => Sys2Proof.Machine.execDetachTimeout s
  | .noLockTimeout => Sys2Proof.Machine.execNoLockTimeout s
  | .presentDeassert => Sys2Proof.Machine.execPresentDeassert s
  | .removalErrorTimeout => Sys2Proof.Machine.execRemovalErrorTimeout s
  | .attach => Sys2Proof.Machine.execAttach s
  | .heartbeatTransmit link => Sys2Proof.Machine.execHeartbeatTransmit link s
  | .heartbeat link from_ self seq beat state => Sys2Proof.Machine.execHeartbeat link from_ self seq beat state s
  | .heartbeatMissing n => Sys2Proof.Machine.execHeartbeatMissing n s
  | .voteSend x => Sys2Proof.Machine.execVoteSend x s
  | .voteReceive voter x yes => Sys2Proof.Machine.execVoteReceive voter x yes s
  | .voteRedirect x => Sys2Proof.Machine.execVoteRedirect x s
  | .expel x voters => Sys2Proof.Machine.execExpel x voters s
  | .hold x => Sys2Proof.Machine.execHold x s
  | .readmitMessage x => Sys2Proof.Machine.execReadmitMessage x s
  | .budgetRelease => Sys2Proof.Machine.execBudgetRelease s
  | .vote => Sys2Proof.Machine.execVote s
  | .voteRecordsFlood records => Sys2Proof.Machine.execVoteRecordsFlood records s
  | .readmit => Sys2Proof.Machine.execReadmit s
  | .quarantine fn device => Sys2Proof.Machine.execQuarantine fn device s
  | .quarantineClear fn device => Sys2Proof.Machine.execQuarantineClear fn device s
  | .resume fn => Sys2Proof.Machine.execResume fn s
  | .ckptStart fn => Sys2Proof.Machine.execCkptStart fn s
  | .ckptDone fn => Sys2Proof.Machine.execCkptDone fn s
  | .rollback fn => Sys2Proof.Machine.execRollback fn s
  | .signatureReceive pair sigs => Sys2Proof.Machine.execSignatureReceive pair sigs s
  | .signatureTimeout pair tag => Sys2Proof.Machine.execSignatureTimeout pair tag s
  | .coldReset => Sys2Proof.Machine.execColdReset s
  | .railPowerOn inOrder => Sys2Proof.Machine.execRailPowerOn inOrder s
  | .bootLanesTrained => Sys2Proof.Machine.execBootLanesTrained s
  | .bundleLoad => Sys2Proof.Machine.execBundleLoad s
  | .bundleVerification => Sys2Proof.Machine.execBundleVerification s
  | .dieBringUpDone result found => Sys2Proof.Machine.execDieBringUpDone result found s
  | .memoryTrainingDone t => Sys2Proof.Machine.execMemoryTrainingDone t s
  | .emerge => Sys2Proof.Machine.execEmerge s
  | .retest => Sys2Proof.Machine.execRetest s
  | .retestDone pass cells => Sys2Proof.Machine.execRetestDone pass cells s
  | .resetActionCore => Sys2Proof.Machine.execResetActionCore s
  | .resetActionCluster => Sys2Proof.Machine.execResetActionCluster s
  | .resetActionCocoon => Sys2Proof.Machine.execResetActionCocoon s
  | .resetActionDevice => Sys2Proof.Machine.execResetActionDevice s
  | .resetDone => Sys2Proof.Machine.execResetDone s
  | .railSample readings => Sys2Proof.Machine.execRailSample readings s
  | .laserSample dbm => Sys2Proof.Machine.execLaserSample dbm s
  | .packageLimitCheck => Sys2Proof.Machine.execPackageLimitCheck s
  | .temperatureSample temps => Sys2Proof.Machine.execTemperatureSample temps s
  | .thermalLevelCheck => Sys2Proof.Machine.execThermalLevelCheck s
  | .blackBoxFlush => Sys2Proof.Machine.execBlackBoxFlush s
  | .snapshot => Sys2Proof.Machine.execSnapshot s
  | .snapshotDone => Sys2Proof.Machine.execSnapshotDone s
  | .enable page => Sys2Proof.Machine.execEnable page s
  | .disable page => Sys2Proof.Machine.execDisable page s
  | .commit page => Sys2Proof.Machine.execCommit page s
  | .blockReset page => Sys2Proof.Machine.execBlockReset page s
  | .errWrite page w => Sys2Proof.Machine.execErrWrite page w s
  | .testPortAccess a => Sys2Proof.Machine.execTestPortAccess a s
  | .handoverEnd core => Sys2Proof.Machine.execHandoverEnd core s
  | .launchDone run => Sys2Proof.Machine.execLaunchDone run s
  | .cocoonClearDone cocoon => Sys2Proof.Machine.execCocoonClearDone cocoon s
  | .railPowerOff => Sys2Proof.Machine.execRailPowerOff s

end Sys2Proof.Machine
end

