-- ==== Sys2Proof/Machine/Tick.lean ====
section
/-!
DEFINITION. What happens with no command waiting: one 8 ns tick of the time unit's clock (R260, R263), in which device time and the residence
counter run on, and the Staido link carries the next transaction to the host by the arbitration of R392 (log entry 2).
-/
namespace Sys2Proof.Machine

/-- One 8 ns tick: device time and the residence counter run on, and the host link carries a transaction. -/
def tick (s : State) : State :=
  let s := { s with time := { s.time with t := s.time.t + 8 * 65536, res := s.time.res + 8 * 65536 } }
  if s.linkUp then s.sendTxn else s

end Sys2Proof.Machine
end

