-- ==== Sys2Proof/WellFormed.lean ====
section
/-!
DEFINITION. Which commands name units that the Y40 has: the ranges that the spec's chapters give the numbers a command carries. A command comes
from the part itself or over one of its links, so an ill-formed one does not arise; statements about commands take it as a premise.
-/
namespace Sys2Proof

/-- Logical cores (R22), cocoons (R292), scalar and vector registers (R78). -/
def isCore (n : Nat) : Bool := Nat.blt n 2048
def isCocoon (c : Nat) : Bool := Nat.blt c 64
def isScalar (k : Nat) : Bool := Nat.blt k 32
def isVector (v : Nat) : Bool := Nat.blt v 16

/-- R10, R29: 80 mesh edges, 32 C-dies. -/
def Crossing.wf : Crossing → Bool
  | .edge e => Nat.blt e 80
  | .core d => Nat.blt d 32

/-- A register operand is one of s0–s31. -/
def Src.wf : Src → Bool
  | .reg k => isScalar k
  | .imm _ => true

def LsReg.wf : LsReg → Bool
  | .scalar k => isScalar k
  | .vector v => isVector v

/-- R390, R491: 258 functions; the K-die has 16 control cores. -/
def Issuer.wf : Issuer → Bool
  | .core k => Nat.blt k 16
  | .fn f => Nat.blt f 258
  | .testPort => true

/-- R196, R219: up to 1,024 cells; SFN modulo 1,024. -/
def SlotRef.wf (i : SlotRef) : Bool := Nat.blt i.cell 1024 && Nat.blt i.sfn 1024

/-- R232, R235: 48-bit addresses, an 8-bit SEQ_ID, a 16-bit PC_ID. -/
def RxFrame.wf (f : RxFrame) : Bool := Nat.blt f.dst (2 ^ 48) && Nat.blt f.srcMac (2 ^ 48) && Nat.blt f.seqId 256 && Nat.blt f.eaxc 65536

/-- R331, R332: a whole line is written at its start with 64 bytes; a part lies inside its line. -/
def LineOp.wf (addr : Nat) : LineOp → Bool
  | .read => Nat.beq (addr % 64) 0
  | .writeLine b => Nat.beq (addr % 64) 0 && Nat.beq b.length 64
  | .writePart off b => Nat.beq (addr % 64) 0 && Nat.blt 0 b.length && Nat.ble (off + b.length) 64

/-- R357: field widths of a flit's tag and packet header. -/
def Flit.wf (f : Flit) : Bool :=
  Nat.blt f.seq 65536 && Nat.blt f.ack 65536 && Nat.blt f.vc 8 && Nat.blt f.kind 8 && Nat.blt f.share 64 && Nat.blt f.retShare 64 &&
    Nat.ble f.body.length 256 && Nat.blt f.header.src 65536 && Nat.blt f.header.tag 65536

/-- R19, R357: device ids and tags of 16 bits, a device-local address. -/
def RemoteReq.wf (r : RemoteReq) : Bool := Nat.blt r.src 65536 && Nat.blt r.share 64 && Nat.blt r.tag 65536 && Nat.blt r.addr (2 ^ 48)

/-- R421: a signature has 64 bytes. -/
def VoteRec.wf (v : VoteRec) : Bool := Nat.blt v.target 65536 && Nat.beq v.sig.length 64

/-- R450: where a defect may lie. -/
def Defect.wf : Defect → Bool
  | .position d p => Nat.blt d 32 && Nat.blt p 66
  | .arrayCell d p r c => Nat.blt d 32 && Nat.blt p 66 && Nat.blt r 32 && Nat.blt c 32
  | .arrayRow d p l z => Nat.blt d 32 && Nat.blt p 66 && Nat.blt l 32 && Nat.blt z 2
  | .arrayCol d p l z => Nat.blt d 32 && Nat.blt p 66 && Nat.blt l 32 && Nat.blt z 2
  | .cluster d c => Nat.blt d 32 && Nat.blt c 8
  | .engine c i => Nat.blt c 4 && Nat.blt i 48
  | .optical i => Nat.blt i 72

/-- R510: what the test port reaches. -/
def TestAccess.wf : TestAccess → Bool
  | .readRing d => Nat.blt d 40
  | .readFuse _ => true
  | .readPage p o => Nat.blt p 1024 && Nat.blt o 4096
  | .writePage p o _ => Nat.blt p 1024 && Nat.blt o 4096
  | .readLine a => Nat.blt a (2 ^ 48)
  | .readKeySlot _ => true
  | .requestFatal => true

/-- Does the command name units that exist, with operands in range? -/
def Instr.wf : Instr → Bool
  | .referenceLoss => true
  | .referenceReturn => true
  | .clockUnlock die => Nat.blt die 32
  | .meshEdgeDown edge => Nat.blt edge 80
  | .cdcTimeout x die => x.wf && Nat.blt die 40
  | .crossingResync x => x.wf
  | .neighbourTemperatureCheck => true
  | .operatingPointChangeDone die => Nat.blt die 32
  | .beatBoundary => true
  | .timeStepApply => true
  | .tableCheckDone => true
  | .cancel => true
  | .windowStart win core => Nat.blt win 16384 && isCore core
  | .windowEnd win core => Nat.blt win 16384 && isCore core
  | .workEntryStart work => Nat.blt work 16384
  | .restoreGroupDone cocoon slot group => isCocoon cocoon && Nat.blt slot 4 && Nat.blt group 65536
  | .strideStart _ _ => true
  | .strideEnd _ _ => true
  | .runawayStride core _ => isCore core
  | .radioCapacityRecheck => true
  | .tableParityError => true
  | .chrysalisSaveStart core => isCore core
  | .chrysalisSaveDone core => isCore core
  | .drainTimeout core => isCore core
  | .branch core _ target => isCore core && Nat.blt target 4096
  | .call core target => isCore core && Nat.blt target 4096
  | .ret core => isCore core
  | .repeatBody core body count => isCore core && Nat.ble 1 body && Nat.ble body 256 && count.wf
  | .yield core => isCore core
  | .endRoutine core => isCore core
  | .rets core => isCore core
  | .rshr core rd rs n => isCore core && isScalar rd && isScalar rs && n.wf
  | .narrow core rd lo hi n _ => isCore core && isScalar rd && isScalar lo && hi.all isScalar && Nat.blt n 64
  | .norm core rd rc rs _ => isCore core && isScalar rd && isScalar rc && isScalar rs
  | .expx core rd rs _ => isCore core && isScalar rd && isScalar rs
  | .bexp core vd vs group => isCore core && isVector vd && isVector vs && Nat.ble 2 group && Nat.ble group 64
  | .rng core vd _ layer d _ => isCore core && isVector vd && Nat.blt layer 65536 && Nat.blt d 65536
  | .sample core rd addr k _ _ => isCore core && isScalar rd && Nat.blt addr 0x200000 && Nat.ble 1 k && Nat.ble k 64
  | .scratchpadLoad core rd ag _ => isCore core && rd.wf && Nat.blt ag 8
  | .scratchpadStore core rs ag _ => isCore core && rs.wf && Nat.blt ag 8
  | .scalarOperation core _ rd ra b => isCore core && isScalar rd && isScalar ra && b.wf
  | .multiplyAccumulate core _ rd ra rb => isCore core && isScalar rd && isScalar ra && isScalar rb
  | .signalTake core => isCore core
  | .arrayProduct core slot => isCore core && Nat.blt slot 256
  | .vectorOperation core slot => isCore core && Nat.blt slot 256
  | .copyFire core slot => isCore core && Nat.blt slot 256
  | .sequencerRoutine core slot => isCore core && Nat.blt slot 256
  | .remoteLoad core slot => isCore core && Nat.blt slot 256
  | .remoteStore core slot => isCore core && Nat.blt slot 256
  | .atomicAdd core slot => isCore core && Nat.blt slot 256
  | .atomicSwap core slot => isCore core && Nat.blt slot 256
  | .atomicCas core slot => isCore core && Nat.blt slot 256
  | .atomicMin core slot => isCore core && Nat.blt slot 256
  | .atomicMax core slot => isCore core && Nat.blt slot 256
  | .arrayOccupancyEnd core => isCore core
  | .feederRefill core row => isCore core && Nat.blt row 32
  | .epilogueStart core => isCore core
  | .operationComplete core unit => isCore core && [1, 2, 4].contains unit
  | .postArrival src core => isCore src && isCore core
  | .copySourceRelease core _ => isCore core
  | .copyLanding core _ => isCore core
  | .sqEntryRead fn queue _ => Nat.blt fn 258 && Nat.blt queue 64
  | .invoke fn queue => Nat.blt fn 258 && Nat.blt queue 64
  | .loadProgram fn queue => Nat.blt fn 258 && Nat.blt queue 64
  | .unloadProgram fn queue => Nat.blt fn 258 && Nat.blt queue 64
  | .unloadProgramComplete cocoon _ => isCocoon cocoon
  | .slotSet fn queue => Nat.blt fn 258 && Nat.blt queue 64
  | .contextOpen fn queue => Nat.blt fn 258 && Nat.blt queue 64
  | .contextClose fn queue => Nat.blt fn 258 && Nat.blt queue 64
  | .contextCloseComplete cocoon _ => isCocoon cocoon
  | .copy fn queue => Nat.blt fn 258 && Nat.blt queue 64
  | .barrier fn queue => Nat.blt fn 258 && Nat.blt queue 64
  | .coreReset fn queue => Nat.blt fn 258 && Nat.blt queue 64
  | .attest fn queue => Nat.blt fn 258 && Nat.blt queue 64
  | .imageStagingDone _ => true
  | .launch _ _ => true
  | .dlTtiRequest => true
  | .ulTtiRequest => true
  | .ulDciRequest => true
  | .txDataRequest => true
  | .dlConfigRequest => true
  | .ulConfigRequest => true
  | .hiDci0Request => true
  | .txRequest => true
  | .rxDataIndication i => i.wf
  | .crcIndication i => i.wf
  | .uciIndication i => i.wf
  | .srsIndication i => i.wf
  | .rachIndication i => i.wf
  | .rxUlschIndication i => i.wf
  | .harqIndication i => i.wf
  | .rxSrIndication i => i.wf
  | .rxCqiIndication i => i.wf
  | .ldpcDecode decoder i rnti _ => Nat.blt decoder 48 && i.wf && Nat.blt rnti 65536
  | .prachDetection i => i.wf
  | .cellConfigCheckDone => true
  | .radioFallback cell => Nat.blt cell 1024
  | .fallbackExpiry => true
  | .engineSelfCheckFail cls index => Nat.blt cls 4 && Nat.blt index ([48, 16, 24, 8].getD cls 0)
  | .interfaceLinkDown i => Nat.blt i 64
  | .interfaceLinkUp i => Nat.blt i 64
  | .frameEligible cell _ _ _ symbol => Nat.blt cell 1024 && Nat.blt symbol 14
  | .frameStartLimit i _ => Nat.blt i 64
  | .frameTransmit i _ => Nat.blt i 64
  | .frameReceive i f => Nat.blt i 64 && f.wf
  | .ecpriDelayRequest i _ _ _ => Nat.blt i 64
  | .sync i _ _ => Nat.blt i 64
  | .followUp i _ => Nat.blt i 64
  | .delayReq i _ _ => Nat.blt i 64
  | .delayResp i _ => Nat.blt i 64
  | .announce i _ => Nat.blt i 64
  | .announceTimeout => true
  | .syncTransmit i => Nat.blt i 64
  | .delayReqTransmit => true
  | .announceTransmit i => Nat.blt i 64
  | .compareArm u => Nat.blt u 16
  | .compareFire u => Nat.blt u 16
  | .rearm => true
  | .ppsInEdge => true
  | .ppsInMissing => true
  | .ppsOutPulse => true
  | .frequencySourceLost _ => true
  | .frequencySourceRestored _ => true
  | .esmcReceive ql => Nat.blt ql 16
  | .esmcInformationPdu i => Nat.blt i 64
  | .esmcEventPdu i => Nat.blt i 64
  | .nowFracRead who => who.wf
  | .latchRead who page off => who.wf && Nat.blt page 1024 && Nat.blt off 4096
  | .latchedHighRead who page off => who.wf && Nat.blt page 1024 && Nat.blt off 4096
  | .lfcLoRead who => who.wf
  | .lfcHiRead who => who.wf
  | .lfcOffsetWrite who _ => who.wf
  | .cocoonDestroyFillDone cocoon => isCocoon cocoon
  | .keyLoad cocoon => isCocoon cocoon
  | .keyErase cocoon => isCocoon cocoon
  | .keySlotChange cocoon _ => isCocoon cocoon
  | .bind cocoon fn => isCocoon cocoon && Nat.blt fn 258
  | .unbind cocoon fn => isCocoon cocoon && Nat.blt fn 258
  | .unfence cocoon => isCocoon cocoon
  | .wayClearDone cluster way => Nat.blt cluster 256 && Nat.blt way 16
  | .tdmSlotBoundary slot => Nat.blt slot 16
  | .dirtyCfgWrite fn _ => Nat.blt fn 256
  | .dirtyLogConfigWrite fn off _ => Nat.blt fn 256 && Nat.blt off 4096
  | .dirtyLogDrained fn => Nat.blt fn 256
  | .gddr7Access cocoon addr op _ _ => isCocoon cocoon && op.wf addr
  | .gddr7Refresh channel bank => Nat.blt channel 24 && Nat.blt bank 16
  | .retrainDue channel _ _ => Nat.blt channel 24
  | .retrainStep channel _ => Nat.blt channel 24
  | .retrainStarved channel => Nat.blt channel 24
  | .patrolScrub channel _ errs _ => Nat.blt channel 24 && Nat.beq errs.length 8
  | .retrainNow channel => Nat.blt channel 24
  | .retrainNowDone channel _ => Nat.blt channel 24
  | .wavelengthFail link _ lambda => Nat.blt link 64 && Nat.blt lambda 3
  | .spareSwitchDone link _ => Nat.blt link 64
  | .opticalEngineFail link => Nat.blt link 64
  | .spareFibreSwitchDone link => Nat.blt link 64
  | .linkTrainingDone link _ neighbour farLink _ => Nat.blt link 64 && Nat.blt neighbour 65536 && Nat.blt farLink 64
  | .linkDown link => Nat.blt link 64
  | .flitReceive link _ _ f => Nat.blt link 64 && f.wf
  | .flitTransmit link service share => Nat.blt link 64 && Nat.blt service 8 && Nat.blt share 64
  | .remoteRequestArrival r => r.wf
  | .getRequest src share tag _ _ segment _ => Nat.blt src 65536 && Nat.blt share 64 && Nat.blt tag 65536 && Nat.blt segment 1024
  | .remoteResponseArrival core _ _ => isCore core
  | .deadTargetTimeout core _ => isCore core
  | .segmentSet => true
  | .segmentClear => true
  | .halfDown half => Nat.blt half 2
  | .halfRejoin half => Nat.blt half 2
  | .staidoFlitReceive lane _ _ seq ack _ => Nat.blt lane 4 && Nat.blt seq 65536 && Nat.blt ack 65536
  | .sqTailDoorbell fn off _ _ => Nat.blt fn 258 && Nat.blt off 4096
  | .cqHeadDoorbell fn off _ _ => Nat.blt fn 258 && Nat.blt off 4096
  | .regRd who page off => who.wf && Nat.blt page 1024 && Nat.blt off 4096
  | .regWr who page off _ => who.wf && Nat.blt page 1024 && Nat.blt off 4096
  | .memRdCompletion fn _ _ => Nat.blt fn 258
  | .svMaskWrite fn i _ => Nat.blt fn 258 && Nat.blt i 8
  | .coalesceTimeout fn ring => Nat.blt fn 258 && Nat.blt ring 64
  | .inval fn => Nat.blt fn 258
  | .invalDone fn => Nat.blt fn 258
  | .functionClear who fn => who.wf && Nat.blt fn 258
  | .sqEnable fn queue _ => Nat.blt fn 258 && Nat.blt queue 64
  | .sqDisable fn queue _ => Nat.blt fn 258 && Nat.blt queue 64
  | .cqEnable fn ring _ => Nat.blt fn 258 && Nat.blt ring 64
  | .cqDisable fn ring _ => Nat.blt fn 258 && Nat.blt ring 64
  | .detach => true
  | .detachTimeout => true
  | .noLockTimeout => true
  | .presentDeassert => true
  | .removalErrorTimeout => true
  | .attach => true
  | .heartbeatTransmit link => Nat.blt link 64
  | .heartbeat link from_ self seq _ _ => Nat.blt link 64 && Nat.blt from_ 65536 && Nat.blt self 256 && Nat.blt seq 65536
  | .heartbeatMissing n => Nat.blt n 65536
  | .voteSend x => Nat.blt x 65536
  | .voteReceive voter x _ => Nat.blt voter 65536 && Nat.blt x 65536
  | .voteRedirect x => Nat.blt x 65536
  | .expel x voters => Nat.blt x 65536 && voters.all fun v => Nat.blt v 65536
  | .hold x => Nat.blt x 65536
  | .readmitMessage x => Nat.blt x 65536
  | .budgetRelease => true
  | .vote => true
  | .voteRecordsFlood records => records.all VoteRec.wf
  | .readmit => true
  | .quarantine fn device => Nat.blt fn 256 && Nat.blt device 65536
  | .quarantineClear fn device => Nat.blt fn 256 && Nat.blt device 65536
  | .resume fn => Nat.blt fn 256
  | .ckptStart fn => Nat.blt fn 256
  | .ckptDone fn => Nat.blt fn 256
  | .rollback fn => Nat.blt fn 256
  | .signatureReceive pair _ => Nat.blt pair 4
  | .signatureTimeout pair _ => Nat.blt pair 4
  | .coldReset => true
  | .railPowerOn _ => true
  | .bootLanesTrained => true
  | .bundleLoad => true
  | .bundleVerification => true
  | .dieBringUpDone _ found => found.all Defect.wf
  | .memoryTrainingDone t => t.failed.all fun c => Nat.blt c 24
  | .emerge => true
  | .retest => true
  | .retestDone _ cells => cells.all fun c => Nat.blt c.1 32 && Nat.blt c.2 32
  | .resetActionCore => true
  | .resetActionCluster => true
  | .resetActionCocoon => true
  | .resetActionDevice => true
  | .resetDone => true
  | .railSample readings => Nat.beq readings.length 36
  | .laserSample dbm => Nat.beq dbm.length 8
  | .packageLimitCheck => true
  | .temperatureSample temps => Nat.beq temps.length 40
  | .thermalLevelCheck => true
  | .blackBoxFlush => true
  | .snapshot => true
  | .snapshotDone => true
  | .enable page => Nat.blt page 1024
  | .disable page => Nat.blt page 1024
  | .commit page => Nat.blt page 1024
  | .blockReset page => Nat.blt page 1024
  | .errWrite page _ => Nat.blt page 1024
  | .testPortAccess a => a.wf
  | .handoverEnd core => isCore core
  | .launchDone _ => true
  | .cocoonClearDone cocoon => isCocoon cocoon
  | .railPowerOff => true

end Sys2Proof
end

