-- ==== Sys2Proof/Safety.lean ====
section
/-!
DEFINITION. The terms in which statements about the block are made: that a command completes, what it leaves unchanged, and the canonical form that
memory keeps. No command of the Y40 stops the block, so a safe run is one in which every state keeps `State.sound`.
-/
namespace Sys2Proof.Machine

/-! ### Completion -/

/-- The command answers a next state, of which `P` holds. -/
def Completes (c : Instr) (s : State) (P : State → Prop) : Prop := ∃ t, exec c s = .next t ∧ P t

/-! ### Frames -/

/-- The parts of the state. `signals` are the places that any error bit, refusal or vector reaches beside its own page: the black box, the host
link with its queue, what has left the part, and the count of free values; `regs` are the register pages; `posts` are the posts under way with
the packets of the mesh. -/
inductive Part where
  | queue | regs | signals | mem | sram | poison | gddr | fh | radio | silk | pod | demand | crossings | time | seq | power | boot
  | fns | cocoons | keys | runs | waits | cores | posts | fatal | thermTrip
deriving DecidableEq, Repr

/-- The state with one of its parts as it is at reset. -/
def State.hide (s : State) : Part → State
  | .queue => { s with pending := [] }
  | .regs => { s with pages := State.reset.pages }
  | .signals => { s with bbox := State.reset.bbox, staido := State.reset.staido, out := [], draws := 0 }
  | .mem => { s with mem := State.reset.mem }
  | .sram => { s with sram := [] }
  | .poison => { s with poison := [], poisonB := [] }
  | .gddr => { s with gddr := State.reset.gddr }
  | .fh => { s with fh := State.reset.fh }
  | .radio => { s with radio := State.reset.radio }
  | .silk => { s with silk := State.reset.silk }
  | .pod => { s with pod := State.reset.pod }
  | .demand => { s with demand := [] }
  | .crossings => { s with crossings := [] }
  | .time => { s with time := State.reset.time }
  | .seq => { s with seq := State.reset.seq }
  | .power => { s with power := State.reset.power }
  | .boot => { s with boot := State.reset.boot }
  | .fns => { s with fns := [] }
  | .cocoons => { s with cocoons := [] }
  | .keys => { s with keys := [] }
  | .runs => { s with runs := [], nextRun := 0 }
  | .waits => { s with waits := [] }
  | .cores => { s with cores := [] }
  | .posts => { s with posts := [], mesh := ⟨[], [], 0⟩ }
  | .fatal => { s with fatal := none }
  | .thermTrip => { s with thermTrip := false }

/-- Two states that agree in every part but those listed. -/
def SameBut (ps : List Part) (s t : State) : Prop := ps.foldl State.hide s = ps.foldl State.hide t

/-- The pages on which a raised vector shows: those of the functions and of the host link (R397, R398). -/
def vectorPage (p : Nat) : Bool := Nat.ble 0x140 p && Nat.ble p 0x242

/-- Every part but those listed. -/
def allBut (keep : List Part) : List Part :=
  [Part.queue, .regs, .signals, .mem, .sram, .poison, .gddr, .fh, .radio, .silk, .pod, .demand, .crossings, .time, .seq, .power, .boot, .fns, .cocoons,
    .keys, .runs, .waits, .cores, .posts, .fatal, .thermTrip].filter fun p => !keep.contains p

/-- Register fields of pages other than those listed hold what they held, but for the pages on which a raised vector shows; and no shadow has
changed. -/
def SameRegs (pages : List Nat) (s t : State) : Prop :=
  (∀ k, !pages.contains (k / 131072) && !vectorPage (k / 131072) → Assoc.find k t.pages.file.live = Assoc.find k s.pages.file.live) ∧
    t.pages.file.shadow = s.pages.file.shadow

/-- Register fields other than those listed hold what they held, and no shadow has changed: what a command that raises no vector leaves. -/
def SameFields (fs : List Fld) (s t : State) : Prop :=
  (∀ k, !(fs.map Fld.key).contains k → Assoc.find k t.pages.file.live = Assoc.find k s.pages.file.live) ∧
    t.pages.file.shadow = s.pages.file.shadow

/-- Nothing but registers of the pages listed has changed, in effect or in the shadow. -/
def OnlyPages (pages : List Nat) (s t : State) : Prop :=
  SameBut [.regs] s t ∧ ∀ k, !pages.contains (k / 131072) →
    Assoc.find k t.pages.file.live = Assoc.find k s.pages.file.live ∧ Assoc.find k t.pages.file.shadow = Assoc.find k s.pages.file.shadow

/-- What a command leaves unchanged: every part but those listed and the register pages listed. -/
def Frame (ps : List Part) (pages : List Nat) (s t : State) : Prop := SameBut (.regs :: .signals :: ps) s t ∧ SameRegs pages s t

/-- The pages of the 32 C-dies, of the 256 clusters, of the cocoons. -/
def diePages : List Nat := (List.range 32).map fun d => 0x300 + 8 * d
def clusterPages : List Nat := (List.range 256).map fun g => 0x300 + g
def cocoonPages : List Nat := (List.range 64).map fun c => 0x100 + c

/-- Page MEM and the pages of the 24 channels (R329). -/
def memoryPages : List Nat := (List.range 25).map fun k => 0x0A0 + k

/-- Every byte outside the stretches listed reads as before. -/
def SameMemory (stored : List (Nat × Nat)) (s t : State) : Prop :=
  ∀ a, (∀ r ∈ stored, a < r.1 ∨ r.1 + r.2 ≤ a) → t.mem.readByte a = s.mem.readByte a

/-- Every core but those listed is as before. -/
def SameCores (l : List Nat) (s t : State) : Prop := ∀ n, l.contains n = false → Assoc.find n t.cores = Assoc.find n s.cores

/-! ### Results, faults and refusals -/

/-- Between `s` and `t` an instruction of core `n` scheduled a result: bytes at an offset of its core-state window, visible `lat` cycles after its
issue (R80). -/
def Scheduled (n lat off : Nat) (b : List Byte) (s t : State) : Prop := ⟨(s.core n).cycle + lat, off, b⟩ ∈ (t.core n).landings

/-- No word of a core's core-state window is poisoned, so that every read of a register succeeds (R107). -/
abbrev State.unpoisoned (s : State) (n : Nat) : Prop := s.sramHits (cwBase n) 0x10000 2 = []

/-- What an instruction of core `n` that writes no memory of its own leaves: all memory but the program counter, the repeat stack and the status word;
every other core; and all else, but that a single-bit error of a register it reads is corrected and counted (R107). -/
def IssuedOn (n : Nat) (s t : State) : Prop :=
  SameMemory [(repeatAddr n 0, 40)] (s.land n) t ∧ SameCores [n] s t ∧ Frame [.mem, .cores, .sram] clusterPages s t ∧
    (s.sramHits (cwBase n) 0x10000 1 = [] → Frame [.mem, .cores, .sram] [] s t)

/-- The candidates of a SAMPLE can be read (R107, R186). -/
def State.sampleReadable (s : State) (n addr k : Nat) : Bool :=
  !(s.land n).bad (spBase n + addr) (4 * k) && !(s.land n).bad (spBase n + addr + 128 * k) (4 * k)

/-- The FP32 value at byte `off` of the command that a core's run executes (R186). -/
def State.samplePoint (s : State) (n off : Nat) : Fp := dec32 (fieldAt (((s.runOn n).bind fun r => r.cmd).elim [] fun c => c.bytes) off 4)

/-- What SAMPLE leaves: as an instruction does; and where it reads, errors met in its candidates are corrected and counted. -/
def SampledOn (n : Nat) (s t : State) : Prop :=
  SameMemory [(repeatAddr n 0, 40)] (s.land n) t ∧ SameCores [n] s t ∧ Frame [.mem, .cores, .sram, .poison] (clusterPages ++ memoryPages) s t

/-- Core `n` stands FAULTED with a code (R110, R111). -/
def Faulted (t : State) (n code : Nat) : Prop :=
  (t.core n).faulted ∧ t.coreState n = 3 ∧ t.fld (Reg.CLUSTER.FAULT.CODE (n / 8) (n % 8)) = code

/-- A page shows a refusal (R492, R498). -/
def Refused (t : State) (page reason : Nat) : Prop := t.fld (refusalReason page) = reason

/-- A slot of core `n` fires for a unit, its descriptor, the counts of its conditions and its parameter block of `len` bytes readable and the
descriptor valid (R94–R96, R107). -/
def State.firesClean (s : State) (n slot unit len : Nat) : Bool :=
  s.fires n slot unit && !s.bad (slotAddr n slot) 32 && ((condReads n (s.slotDesc n slot)).all fun r => (s.sramHits r.1 r.2 2).isEmpty) &&
    descOk (s.slotDesc n slot) && Nat.ble (descParam (s.slotDesc n slot) + len) 0x200000 && !s.bad (spBase n + descParam (s.slotDesc n slot)) len

/-- The parameter block of a slot. -/
def State.slotBlock (s : State) (n slot len : Nat) : List Byte := s.rdBytes (spBase n + descParam (s.slotDesc n slot)) len

/-- The state once a slot's consuming conditions have taken their thresholds (R96). -/
def State.fired (s : State) (n slot : Nat) : State := s.consume n slot (s.slotDesc n slot)

/-- What a firing on core `n` leaves: every other core, and all else, but that errors it reads over are corrected and counted (R107). -/
def FiredOn (n : Nat) (s t : State) : Prop := SameCores [n] s t ∧ Frame [.mem, .cores, .sram, .poison] (clusterPages ++ memoryPages) s t

/-- R94, R110: `c` faults its job with DESCRIPTOR where the slot it fires has an invalid descriptor. -/
def FaultsInvalid (c : Instr) (n slot unit : Nat) (s : State) : Prop :=
  c.wf → s.fires n slot unit → s.bad (slotAddr n slot) 32 = false →
    ((condReads n (s.slotDesc n slot)).all fun r => (s.sramHits r.1 r.2 2).isEmpty) → descOk (s.slotDesc n slot) = false →
    Completes c s fun t => Faulted t n 0x0B

/-- R95: `c` does nothing where its slot does not fire. -/
def IdlesUnfired (c : Instr) (n slot unit : Nat) (s : State) : Prop :=
  c.wf → descUnit (s.slotDesc n slot) < 6 → s.fires n slot unit = false → Completes c s fun t => t = s

/-- R372: `c` fires slot `slot` of core `n` as one of the operations `ops` on another device: the request leaves and the operation is outstanding. -/
def StartsRemotely (c : Instr) (n slot : Nat) (ops : List Nat) (s : State) : Prop :=
  c.wf → s.firesClean n slot 5 32 → remoteBlockOk (s.slotBlock n slot 32) → ops.contains (fieldAt (s.slotBlock n slot 32) 8 1) → s.replays n = false →
    s.bad (spBase n + fieldAt (s.slotBlock n slot 32) 12 4) (fieldAt (s.slotBlock n slot 32) 9 1) = false →
    deviceOf (fieldAt (s.slotBlock n slot 32) 0 8) ≠ s.deviceId →
    s.quarantined (s.fld (coreOwnerFld n)) (deviceOf (fieldAt (s.slotBlock n slot 32) 0 8)) = false →
    s.routable (deviceOf (fieldAt (s.slotBlock n slot 32) 0 8)) → Completes c s fun t =>
      (t.core n).nextId = (s.core n).nextId + 1 ∧
      ((t.core n).remotes.any fun r => Nat.beq r.tag (s.core n).nextId && Nat.beq r.slot slot &&
        Nat.beq r.op (fieldAt (s.slotBlock n slot 32) 8 1) && Nat.beq r.addr (fieldAt (s.slotBlock n slot 32) 0 8)) ∧
      (t.out.any fun e => match e with
        | .remote d tag op a size _ _ => Nat.beq d (deviceOf (fieldAt (s.slotBlock n slot 32) 0 8)) && Nat.beq tag (s.core n).nextId &&
            Nat.beq op (fieldAt (s.slotBlock n slot 32) 8 1) && Nat.beq a (localOf (fieldAt (s.slotBlock n slot 32) 0 8)) &&
            Nat.beq size (fieldAt (s.slotBlock n slot 32) 9 1)
        | _ => false) ∧ FiredOn n s t

/-- R19, R372, R374: `c` fires slot `slot` of core `n` as one of the operations `ops` on the scratchpad of another core `m` of the Y40's own device,
which its job may reach: it is performed at once, its result, status word and arrival counter are written, and its posts apply (here none). -/
def PerformsHere (c : Instr) (n slot m : Nat) (ops : List Nat) (b : List Byte) (u s : State) : Prop :=
  c.wf → s.firesClean n slot 5 32 → s.slotBlock n slot 32 = b → s.fired n slot = u → remoteBlockOk b → ops.contains (fieldAt b 8 1) →
    s.replays n = false → s.sram = [] → s.bad (spBase n + fieldAt b 12 4) (fieldAt b 9 1) = false →
    deviceOf (fieldAt b 0 8) = s.deviceId → m ≠ n → m < 2048 → spBase m ≤ localOf (fieldAt b 0 8) →
    localOf (fieldAt b 0 8) + fieldAt b 9 1 ≤ spBase m + 0x200000 → s.jobReaches n (localOf (fieldAt b 0 8)) (fieldAt b 9 1) →
    s.jobSlots n (localOf (fieldAt b 0 8)) (fieldAt b 9 1) → (s.diesAt (localOf (fieldAt b 0 8))).all (s.meshUp (dieOf n)) →
    (fieldAt b 12 4 + fieldAt b 9 1 ≤ fieldAt b 16 4 ∨ fieldAt b 16 4 + 4 ≤ fieldAt b 12 4) →
    u.rd (counterAddr n (fieldAt b 10 1)) 2 + fieldAt b 11 1 ≤ 65535 → (postWords (s.slotDesc n slot)).all (fun w => !w.testBit 31) →
    Completes c s fun t =>
      (fieldAt b 8 1 ≠ opStore → t.rdBytes (spBase n + fieldAt b 12 4) (fieldAt b 9 1) = u.rdBytes (localOf (fieldAt b 0 8)) (fieldAt b 9 1)) ∧
      (fieldAt b 8 1 = opStore → t.rdBytes (localOf (fieldAt b 0 8)) (fieldAt b 9 1) = u.rdBytes (spBase n + fieldAt b 12 4) (fieldAt b 9 1)) ∧
      (fieldAt b 8 1 = opLoad → t.rdBytes (localOf (fieldAt b 0 8)) (fieldAt b 9 1) = u.rdBytes (localOf (fieldAt b 0 8)) (fieldAt b 9 1)) ∧
      (opAtomic (fieldAt b 8 1) → t.rdBytes (localOf (fieldAt b 0 8)) (fieldAt b 9 1) = leBytes (fieldAt b 9 1) (atomicNew (fieldAt b 8 1) (fieldAt b 9 1)
        (leNat (u.rdBytes (localOf (fieldAt b 0 8)) (fieldAt b 9 1))) (leNat (slice b 24 (fieldAt b 9 1)))
        (leNat (u.rdBytes (spBase n + fieldAt b 12 4) (fieldAt b 9 1))))) ∧
      t.rd (spBase n + fieldAt b 16 4) 4 = 1 ∧
      t.rd (counterAddr n (fieldAt b 10 1)) 2 = u.rd (counterAddr n (fieldAt b 10 1)) 2 + fieldAt b 11 1 ∧
      (t.core n).remotes = (s.core n).remotes ∧
      SameMemory [(spBase n + fieldAt b 12 4, fieldAt b 9 1), (localOf (fieldAt b 0 8), fieldAt b 9 1), (spBase n + fieldAt b 16 4, 4),
        (counterAddr n (fieldAt b 10 1), 2)] u t ∧ FiredOn n s t

/-! ### Commands of a function's queues (R178, R187, R188) -/

/-- The command `b` with opcode `op`, nothing of it reserved, stands at the head of a queue, can be taken, and it is the queue's turn. -/
abbrev State.heads (s : State) (fn q op : Nat) (b : List Byte) (rest : List (List Byte)) : Prop :=
  (s.queue fn q).cmds = b :: rest ∧ s.canTake fn q ∧ s.itsTurn fn q ∧ cmdBad b = false ∧ fieldAt b 0 1 = op

/-- The head of a queue has been taken by the dispatcher of its function's cocoon. -/
abbrev Took (fn q : Nat) (rest : List (List Byte)) (s t : State) : Prop :=
  (t.queue fn q).cmds = rest ∧ (t.cocoon (s.fnCocoon fn)).dispatched = (s.cocoon (s.fnCocoon fn)).dispatched + 1 ∧
    (t.cocoon (s.fnCocoon fn)).turn = 64 * fn + q

/-- Every command in progress or waiting in a queue is of one of the 258 functions, and no run waits to end with a status given earlier: so that
absorbing them (R404, R406) reaches no memory. -/
abbrev State.absorbable (s : State) : Prop :=
  (∀ r ∈ s.runs, r.ending = none ∧ ∀ c ∈ r.cmd, c.fn < 258) ∧ (∀ w ∈ s.waits, w.cmd.fn < 258) ∧ ∀ f ∈ s.fns, f.1 < 258

/-- A command of the function has completed: COCOON.COMMANDS counts it. -/
abbrev Answered (fn : Nat) (s t : State) : Prop :=
  t.fld (Reg.COCOON.COMMANDS.COUNT (s.fnCocoon fn)) = min (s.fld (Reg.COCOON.COMMANDS.COUNT (s.fnCocoon fn)) + 1) (2 ^ 32 - 1)

/-- The ring of a queue of the management function, and the address of the ring in device memory terms. -/
def State.mgmtRing (s : State) (q : Nat) : Nat := s.fld (Reg.FN.SQ_CFG.RING 256 q)
def State.mgmtBase (s : State) (q : Nat) : Nat := s.fld2 (Reg.FN.CQ_BASE_LO.BASE 256 (s.mgmtRing q)) (Reg.FN.CQ_BASE_HI.BASE 256 (s.mgmtRing q))

/-- A completion of the management function reaches the host: the function is READY, the link up, and the ring lies aligned in the host window. -/
abbrev State.mgmtReady (s : State) (q : Nat) : Prop :=
  s.fld (Reg.FN.FN_STATUS.STATE 256) = 1 ∧ s.linkUp ∧ s.mgmtBase q % 4096 = 0 ∧ hostBase ≤ s.mgmtBase q

/-- The write of the completion `k` of the command `b` to the next place of the ring of queue `q` of the management function (R188, R395). -/
def State.entryWrite (s : State) (q : Nat) (b : List Byte) (k : Completion) : Nat × HostTxn :=
  (256, .memWr (s.mgmtBase q - hostBase + (s.ring 256 (s.mgmtRing q)).written % 2 ^ s.fld (Reg.FN.CQ_CFG.SIZE_LOG2 256 (s.mgmtRing q)) * 32)
    (k.bytes (slice b 4 4) (s.ringPhase 256 (s.mgmtRing q)) 0))

/-- The command `b` of queue `q` has been taken and completed with `k`; the management function's completion is on its way to the host. -/
abbrev Told (fn q : Nat) (b : List Byte) (rest : List (List Byte)) (k : Completion) (s t : State) : Prop :=
  Took fn q rest s t ∧ Answered fn s t ∧ (fn = 256 → s.mgmtReady q → s.entryWrite q b k ∈ t.staido.queue)

/-- `c` takes no command: its queue is empty, its head cannot be taken yet, another queue comes first, or the head has another opcode. -/
def Waits (c : Instr) (fn q op : Nat) (s : State) : Prop :=
  c.wf → ((s.queue fn q).cmds = [] ∨ s.canTake fn q = false ∨ s.itsTurn fn q = false ∨
    ((s.queue fn q).cmds.head?.any fun b => !cmdBad b && !Nat.beq (fieldAt b 0 1) op)) → Completes c s fun t => t = s

/-- `c` takes a command with a reserved opcode, flag or field, and refuses it with 0x0166 (R187, R190). -/
def RefusesBad (c : Instr) (fn q : Nat) (b : List Byte) (rest : List (List Byte)) (s : State) : Prop :=
  c.wf → (s.queue fn q).cmds = b :: rest → s.canTake fn q → s.itsTurn fn q → cmdBad b → Completes c s fun t =>
    Told fn q b rest (.plain 1 0x0166 0) s t ∧ Frame [.fns, .cocoons] [0x100 + s.fnCocoon fn] s t

/-- Page COCOON of a function's cocoon. -/
def State.cocoonPageOf (s : State) (fn : Nat) : List Nat := [0x100 + s.fnCocoon fn]

/-! ### Requests and indications of the radio (R217–R222, R396) -/

/-- The parts that an entry of the error ring reaches, and its pages (R222): GDDR7 of cocoon 0, or the host window of the radio function. -/
def ringParts : List Part := [.radio, .mem, .sram, .poison, .fns, .cocoons]

/-- R218–R221: a request at the front of the inbox, read whole, on time, of its cell's radio access technology and no duplicate, is kept for its slot with
what its body carries and the Y40 supports, and leaves the inbox. `e` and `t` are its cell's entry and its slot's start. -/
def TakesRequest (c : Instr) (id : Nat) (lte : Bool) (q : FapiEntry) (rest : List FapiEntry) (e : List Byte) (t sfn slot : Nat) (s : State) : Prop :=
  s.radio.inbox = q :: rest → q.id = id → s.lteCell q.cell = lte → s.reading 257 (RdWhy.ofFapi q.num) = false → q.failed = false →
    s.radioOn → s.linkUp → bodySlot lte q.body = (sfn, slot) → s.cellFor q.cell sfn slot q.bell = some (e, t) → cellIsLte e = lte →
    q.bell < (t / s.L - 2) * s.L → (id = idTx ∨ s.slotReqs q.cell t id true = []) → Completes c s fun u =>
      u.radio.inbox = rest ∧ u.radio.reqs.getLast? = some ⟨id, q.cell, t, true, if id = idTx then [] else (Config.fapiPdus lte id q.body).filter (pduOk lte),
        if id = idTx then Config.fapiBlocks lte q.body else []⟩ ∧ Frame ringParts [0x080] s u

/-- R218–R222: a request at the front of the inbox, read whole, leaves it: it is dropped where its body could not be read, the radio is off or the link
is down; outside the window it writes an error entry; late it is counted, kept as late, and writes one; a second of its message for the slot writes
one. -/
def JudgesRequest (c : Instr) (id : Nat) (lte : Bool) (q : FapiEntry) (rest : List FapiEntry) (sfn slot : Nat) (s : State) : Prop :=
  s.radio.inbox = q :: rest → q.id = id → s.lteCell q.cell = lte → s.reading 257 (RdWhy.ofFapi q.num) = false → bodySlot lte q.body = (sfn, slot) →
    Completes c s fun u => u.radio.inbox = rest ∧ u.radio.cells = s.radio.cells ∧ Frame ringParts [0x080] s u ∧
      (q.failed ∨ s.radioOn = false ∨ s.linkUp = false → u = { s with radio := { s.radio with inbox := rest } }) ∧
      (q.failed = false → s.radioOn → s.linkUp →
        (s.cellFor q.cell sfn slot q.bell = none → u.radio.errCount = s.radio.errCount + 1 ∧ u.radio.reqs = s.radio.reqs) ∧
        ∀ x, s.cellFor q.cell sfn slot q.bell = some x →
          ((x.2 / s.L - 2) * s.L ≤ q.bell → u.fld Reg.RADIO.LATE_COUNT.COUNT = min (s.fld Reg.RADIO.LATE_COUNT.COUNT + 1) (2 ^ 32 - 1) ∧
            u.err Reg.RADIO.ERR.LATE ∧ u.radio.errCount = s.radio.errCount + 1 ∧ u.radio.reqs.getLast? = some ⟨id, q.cell, x.2, false, [], []⟩) ∧
          (q.bell < (x.2 / s.L - 2) * s.L → id ≠ idTx → s.slotReqs q.cell x.2 id true ≠ [] →
            u.radio.errCount = s.radio.errCount + 1 ∧ u.radio.reqs = s.radio.reqs))

/-- `c` takes no request: none is in the inbox, or the one at its front is another message, of a cell of the other radio access technology, or still
being read. -/
def PassesRequest (c : Instr) (id : Nat) (lte : Bool) (s : State) : Prop :=
  (s.radio.inbox.head?.all fun q => !Nat.beq q.id id || s.lteCell q.cell != lte || s.reading 257 (RdWhy.ofFapi q.num)) → Completes c s fun t => t = s

/-- R220, R223, R225: of a slot whose uplink is not processed there is no indication. `s` as in `Indicates`. -/
def Withholds (c : Instr) (i : SlotRef) (before s : State) : Prop :=
  c.wf → s.uplinkOn i.cell (s.refStart i) = false → Completes c before fun t => t = s

/-- R396: an indication without a ring, or without room in its ring or its body area, is discarded, and writes an error entry. `s` as in `Indicates`. -/
def Overflows (c : Instr) (id : Nat) (i : SlotRef) (values : List Int) (data : List Byte) (before s : State) : Prop :=
  c.wf → s.uplinkOn i.cell (s.refStart i) →
    ((((List.range 16).filter fun k => s.cqOn 257 k)[i.cell % max 1 ((List.range 16).filter fun k => s.cqOn 257 k).length]?).all fun r =>
      (s.bodyPlace r (Config.fapiLen id i.cell values data).val).isNone || Nat.beq (s.ringRoom 257 r) 0) →
    Completes c before fun t => t.radio.errCount = s.radio.errCount + 1 ∧ t.radio.reqs = s.radio.reqs ∧ Frame ringParts [] s t

/-- Where ring `r` of the radio function writes its next entry, and where a body at `off` of its body area stands, in the host window. -/
def State.radioEntryAddr (s : State) (r : Nat) : Nat :=
  s.fld2 (Reg.FN.CQ_BASE_LO.BASE 257 r) (Reg.FN.CQ_BASE_HI.BASE 257 r) +
    (s.ring 257 r).written % 2 ^ s.fld (Reg.FN.CQ_CFG.SIZE_LOG2 257 r) * 16
def State.radioBodyAddr (s : State) (r off : Nat) : Nat := s.fld2 (Reg.FN.RBODY_BASE_LO.BASE 257 r) (Reg.FN.RBODY_BASE_HI.BASE 257 r) + off

/-- An indication whose body takes `len` bytes reaches the host: its slot is an uplink slot of a served cell, its ring `r` has room for the entry and, at
`off`, for the body, and the radio function's one translation, of `size` bytes at `v`, holds both. -/
abbrev State.placesBody (s : State) (c : Instr) (i : SlotRef) (len r off v size p : Nat) : Prop :=
  c.wf ∧ s.uplinkOn i.cell (s.refStart i) ∧
    ((List.range 16).filter fun k => s.cqOn 257 k)[i.cell % max 1 ((List.range 16).filter fun k => s.cqOn 257 k).length]? = some r ∧
    s.bodyPlace r len = some off ∧ s.ringRoom 257 r ≠ 0 ∧ s.serves 257 ∧ s.fld (Reg.FN.FN_STATUS.STATE 257) = 1 ∧
    (s.fn 257).tt = [⟨v, size, p, true⟩] ∧ hostBase + v ≤ s.radioEntryAddr r ∧ s.radioEntryAddr r + 16 ≤ hostBase + v + size ∧
    s.fld2 (Reg.FN.CQ_BASE_LO.BASE 257 r) (Reg.FN.CQ_BASE_HI.BASE 257 r) % 4096 = 0 ∧
    hostBase + v ≤ s.radioBodyAddr r off ∧ s.radioBodyAddr r off + len + 1 ≤ hostBase + v + size

/-- R222, R396: an indication of a slot whose uplink is processed goes to the host: its body to `off` of the body area, then the 16-byte entry with the
body's length, the ring's phase and the body's address; what it reports leaves the radio. `s` is the state once the slot is processed as far as the
indication asks (the state of the command, but where a docstring says otherwise). Said where the function's translation is the one cached mapping of
`size` bytes at `v` of the host window to `p`. -/
def Indicates (c : Instr) (id : Nat) (i : SlotRef) (values : List Int) (data : List Byte) (r off v size p : Nat) (ps : List Part) (pages : List Nat)
    (before s : State) : Prop :=
  s.placesBody c i (Config.fapiLen id i.cell values data).val r off v size p →
    Completes c before fun t =>
      (257, HostTxn.memWr (p + (s.radioEntryAddr r - hostBase - v)) (leBytes 2 i.cell ++ leBytes 2 id ++
        leBytes 4 ((Config.fapiLen id i.cell values data).val % 2 ^ 31 + 2 ^ 31 * s.ringPhase 257 r) ++ leBytes 8 (s.radioBodyAddr r off))) ∈
          t.staido.queue ∧
      (s.radioBodyAddr r off % 4096 + (Config.fapiLen id i.cell values data).val ≤ 4096 →
        (257, HostTxn.memWr (p + (s.radioBodyAddr r off - hostBase - v)) (Config.fapiBody id i.cell values data)) ∈ t.staido.queue) ∧
      (t.ring 257 r).written = (s.ring 257 r).written + 1 ∧ (t.ring 257 r).bodyPos = off + (Config.fapiLen id i.cell values data).val ∧
      (values ≠ [] → Emit.radio id i.cell values ∈ t.out) ∧ Frame ps pages s t

/-- Does the search of an occasion detect, or reject by the qualifier alone, preamble `k` (R212, R213)? -/
def State.searched (s : State) (i : SlotRef) (p : PrachPdu) (k : Nat) (detected : Bool) : Bool :=
  let e := cellEntry s.radio.image i.cell
  let c := prachCorrelate (s.slotSamples i.cell (s.refStart i)) e (cellP5 s.radio.image e) p k
  energyPasses c.strongest.sum (prachReps p.format) (s.floorMean i.cell p.prb0 p.prbs) c.window (fieldAt e 16 2) &&
    (Nat.ble (min 2 (prachReps p.format)) ((c.peaks.zip c.sums).filter fun y => ratioPasses y.1 y.2 c.window (fieldAt e 18 2)).length == detected)

/-- The delay of preamble `k` in an occasion, in units of T_c: where its strongest correlation lies in its window (R211, R213). -/
def State.prachDelay (s : State) (i : SlotRef) (p : PrachPdu) (k : Nat) : Nat :=
  let e := cellEntry s.radio.image i.cell
  let p5 := cellP5 s.radio.image e
  ((Config.prachWindow e p5 p k).1 + (prachCorrelate (s.slotSamples i.cell (s.refStart i)) e p5 p k).delay) * Config.prachUnit e p

/-! ### The pod -/

/-- The state in which this device, as keeper, holds the vote it has just counted (R418). -/
def State.counting (s : State) (voter x : Nat) (yes : Bool) : State :=
  { s with pod := { s.pod with votes := ⟨voter, x, yes, s.mono⟩ :: s.pod.votes.filter fun v => !(Nat.beq v.voter voter && Nat.beq v.suspect x) } }

/-- A vote that the keeper counts: hardware mode, the suspect not expelled, the voter a live neighbour of it (R418). -/
abbrev State.counts (s : State) (voter x : Nat) : Prop := s.podHardware ∧ x ∉ s.pod.expelled ∧ (s.liveNeighbours x).contains voter

/-- A device has been expelled: it is out, its votes and holds are gone, and POD shows it (R419). -/
abbrev Expelled (x : Nat) (s t : State) : Prop :=
  t.pod.expelled = x :: s.pod.expelled ∧ x ∉ t.pod.held ∧ (t.pod.votes.any fun v => Nat.beq v.suspect x) = false ∧
    t.fld Reg.POD.STATE.STATE = t.podState ∧ t.fld Reg.POD.KEEPER.ID = t.podLive.headD 0 % 65536 ∧
    (x = s.deviceId → t.err Reg.POD.ERR.SELF_EXPELLED) ∧
    (x ≠ s.deviceId → t.err Reg.POD.ERR.PEER_EXPELLED ∧ t.fld Reg.POD.EXPELLED_COUNT.COUNT =
      (s.fld Reg.POD.EXPELLED_COUNT.COUNT + 1) % 2 ^ Reg.POD.EXPELLED_COUNT.COUNT.w)

/-- A change of a neighbour's score shows: one that becomes suspect sets SUSPECT, and of one that no longer is, in hardware mode, a NO goes to the
device its votes go to, if that is another (R415, R418). -/
abbrev Rescored (n : Nat) (s t : State) : Prop :=
  (s.suspect n = false → t.suspect n → t.err Reg.POD.ERR.SUSPECT) ∧
    (s.suspect n → t.suspect n = false → s.podHardware → Assoc.find n t.pod.yesSince = none ∧
      ∀ k ∈ (s.voteDest n).toList, k ≠ s.deviceId → t.out = s.out ++ [.pod (some k) (.vote n false)]) ∧
    (s.suspect n = t.suspect n → t.out = s.out ∧ t.pod.votes = s.pod.votes)

/-- `c` marks the progress of the cocoon that a tenant function is bound to: the course is `p` and becomes `q`; where the course takes no such mark,
MARK_BAD shows it (R425). -/
def Marks (c : Instr) (fn : Nat) (p : Progress) (q : Option Progress) (s : State) : Prop :=
  c.wf → s.tenantBound fn → (s.cocoon (s.fnCocoon fn)).prog = p → Completes c s fun t =>
    (q = none → t.isSet (Reg.FN.PROG_STATUS.MARK_BAD fn) ∧ SameFields [Reg.FN.PROG_STATUS.MARK_BAD fn] s t ∧ SameBut [.regs] s t) ∧
    (∀ x ∈ q.toList, (t.cocoon (s.fnCocoon fn)).prog = x ∧ SameBut [.cocoons] s t)

/-- The pair's mismatch is counted; the first of them, of cause `cause`, is latched with its tag, and fences the cocoon if POLICY says so (R433). -/
abbrev Mismatched (pair : Nat) (tag : SigTag) (cause : Nat) (s t : State) : Prop :=
  t.fld (Reg.LSTEP.MISMATCHES.COUNT pair) = min (s.fld (Reg.LSTEP.MISMATCHES.COUNT pair) + 1) (2 ^ (Reg.LSTEP.MISMATCHES.COUNT pair).w - 1) ∧
    (s.fld (Reg.LSTEP.STATUS.STATE pair) = 1 → (t.fld (errWord 0x009)).testBit pair ∧ t.fld (Reg.LSTEP.FIRST_PARTNER.CAUSE pair) = cause ∧
      t.fld (Reg.LSTEP.FIRST_ENTRY.ENTRY pair) = tag.entry % 2 ^ (Reg.LSTEP.FIRST_ENTRY.ENTRY pair).w ∧
      t.fld (Reg.LSTEP.FIRST_INV.INV pair) = tag.inv % 2 ^ (Reg.LSTEP.FIRST_INV.INV pair).w ∧
      t.fld (Reg.LSTEP.FIRST_PASS.PASS pair) = tag.pass % 2 ^ (Reg.LSTEP.FIRST_PASS.PASS pair).w ∧
      t.fld (Reg.LSTEP.FIRST_CORE.RANK pair) = tag.rank % 2 ^ (Reg.LSTEP.FIRST_CORE.RANK pair).w) ∧
    (s.fld (Reg.LSTEP.STATUS.STATE pair) = 1 ∧ s.isSet (Reg.LSTEP.CFG.POLICY pair) ∧ s.cocoonState (s.fld (Reg.LSTEP.CFG.COCOON pair)) = 1 →
      t.cocoonState (s.fld (Reg.LSTEP.CFG.COCOON pair)) = 2) ∧
    (s.fld (Reg.LSTEP.STATUS.STATE pair) ≠ 1 ∨ s.isSet (Reg.LSTEP.CFG.POLICY pair) = false → Frame [.pod] [0x009] s t)

/-! ### Silk -/

/-- A link has gone down (R360): no light is counted on, and it retrains while enabled, or is FAILED without an engine. What a replay buffer held
ends with KIND 0x02; with nothing in it only the link and the neighbour's score change. -/
abbrev LinkFell (link : Nat) (ps : List Part) (s t : State) : Prop :=
  t.linkState link = (if t.noEngine link then 5 else if s.isSet (Reg.SILK_LINK.CFG.EN link) then 1 else 0) ∧ t.err (Reg.SILK_LINK.ERR.LINK_DOWN link) ∧
    t.fld (Reg.SILK_LINK.RATE.GBPS link) = 0 ∧ t.carriers link true = [] ∧ t.carriers link false = [] ∧
    ((s.silkLink link).retry.unacked = 0 → Frame (.silk :: .pod :: ps) [0x008, 0x0C0 + link] s t)

/-- The flits that an ACK releases, of those a sender waits for (R358). -/
def Retry.released (k : Retry) (ack : Nat) : Nat :=
  let n := (ack + 65536 - (k.txSeq + 65536 - k.unacked) % 65536) % 65536
  if n ≤ k.unacked then n else 0

/-- A flit of a service and share may be sent on the link (R363, R419): it moves flits, and is neither MISWIRED nor a way to an expelled device, but for
service 0. -/
def State.carriesService (s : State) (link service share : Nat) : Bool :=
  s.linkMoves link && !((Nat.beq (s.linkState link) 4 || s.toExpelled link) && !Nat.beq service 0) && Nat.blt service 4 && Nat.blt share 64

/-- Credits of a share's quota, and of the reserve of a VC, that are free on a link (R361). -/
def State.quotaFree (s : State) (link share : Nat) : Bool :=
  Nat.blt (Assoc.findD (α := Nat) share 0 (s.silkLink link).quotaUsed) (shareQuota (s.shareEntry link share))
def State.reserveFree (s : State) (link vc : Nat) : Bool := Nat.blt (Assoc.findD (α := Nat) vc 0 (s.silkLink link).reserveUsed) 16

/-- The link's position may carry a flit of the share, the scheduler picks it, and the replay buffer has room (R358, R370). -/
def State.positionFor (s : State) (link service share : Nat) : Bool :=
  s.slotFor link share && (s.silkPick link service share).isSome && Nat.blt (s.silkLink link).retry.unacked 8192

/-- What serving a remote request leaves beside its answer: errors met are corrected and counted. -/
abbrev Served (ps : List Part) (s t : State) : Prop := Frame (.sram :: .poison :: ps) (clusterPages ++ memoryPages) s t

/-- The remote operation `x` of core `core` has ended with an error KIND (R374, R380): its job faults as the KIND says; where no run waits to end with a
status given earlier, its result reads all ones and its status word holds the KIND. -/
abbrev EndedInError (core : Nat) (x : RemoteOp) (kind : Nat) (s t : State) : Prop :=
  ((t.core core).remotes.any fun y => Nat.beq y.tag x.tag) = false ∧ (∀ c ∈ (kindFault kind).toList, Faulted t core c) ∧
    (kind = 1 ∨ kind = 2 → t.err Reg.SILK.ERR.DEAD_TARGET) ∧
    ((∀ r ∈ s.runs, r.ending = none) → x.local_ + x.size ≤ 0x200000 → x.status + 4 ≤ 0x200000 →
      (x.local_ + x.size ≤ x.status ∨ x.status + 4 ≤ x.local_) →
      (x.op ≠ opStore → t.rdBytes (spBase core + x.local_) x.size = List.replicate x.size 0xFF#8) ∧ t.rd (spBase core + x.status) 4 = 3 + 256 * kind)

/-! ### GDDR7 -/

/-- A request of a cocoon for the line at `addr` is issued at once: the line lies on channel `ch` (mirrored on `m`) and in an extent of the cocoon, and
the slot in progress on the channel is the cocoon's (R335, R336, R339, R340). -/
abbrev State.inTurn (s : State) (cocoon addr ch : Nat) (m : Option Nat) : Prop :=
  s.channelOf addr = some (ch, m) ∧ ch < 24 ∧ s.inExtent cocoon (addr / 64 * 64) 64 ∧ s.hasSlot cocoon ch ∧ s.slotNow ch = cocoon

/-- A channel takes an access: it serves, and no fifth CRC failure ends it (R333, R345). -/
abbrev State.takesAccess (s : State) (ch : Nat) (e : LineErr) : Prop := s.channelUp ch ∧ e.crcFails < 5

/-- A channel has gone DOWN (R345). -/
abbrev ShowsDown (t : State) (ch : Nat) : Prop :=
  t.fld (chState ch) = 4 ∧ (t.fld Reg.MEM.STATUS.DOWN).testBit ch ∧ t.err (Reg.MEM_CH.ERR.DOWN ch) ∧ t.err Reg.MEM.ERR.CHANNEL_DOWN

/-- The device stands at instar 0 again with its fuses; the queue of commands and what has left the part stay (R439, R455, R457). -/
abbrev Restarted (s t : State) : Prop :=
  t.fld Reg.BOOT.STATE.INSTAR = 0 ∧ t.boot.fuses = s.boot.fuses ∧ t.boot.job = none ∧ t.pending = s.pending ∧ t.out = s.out ∧ t.seq = State.reset.seq ∧
    t.time = State.reset.time ∧ t.radio = State.reset.radio ∧ t.fh = State.reset.fh ∧ t.silk = State.reset.silk ∧ t.pod = State.reset.pod ∧
    t.power = State.reset.power ∧ t.cores = [] ∧ t.cocoons = [] ∧ t.keys = [] ∧ t.runs = [] ∧ t.waits = [] ∧ t.fns = [] ∧ t.posts = [] ∧
    t.crossings = [] ∧ t.fatal = none ∧ t.pages.file.shadow = []

/-- A defect that is recorded as it is found: no cell, row or column of an array (R450, R451). -/
def Defect.plain : Defect → Bool
  | .arrayRow _ _ _ _ => false
  | .arrayCol _ _ _ _ => false
  | .arrayCell _ _ _ _ => false
  | _ => true

/-! ### Power and temperature -/

/-- A rail reading sets RAIL_FAULT: a fault reported, or 100 µs outside ±5 % (R465). -/
def State.railBad (s : State) (i : Nat) (r : RailReading) : Bool :=
  r.faulted || (railOutside (s.railSetting i) r.mv && (Assoc.find i s.power.railOut).any fun x => Nat.ble (x + 100000) s.mono)

/-- Laser input `i` reads below the threshold (R468). -/
def State.laserLow (s : State) (i : Nat) (l : List Int) : Bool := decide (l.getD i 0 < toSigned 16 (s.fld Reg.PWR.LASER_THR.DBM))

/-- The mean of the package power is above the limit and its check is due; the last sum is above 110 % of it (R471). -/
def State.overMean (s : State) : Bool :=
  (s.power.lastMean.all fun x => Nat.ble (x + 1000000) s.mono) && Nat.blt (10 * s.fld Reg.PWR.LIMIT.LIMIT_W) (s.fld Reg.PWR.PKG_POWER.W)
def State.overPeak (s : State) : Bool := Nat.blt (110 * s.fld Reg.PWR.LIMIT.LIMIT_W) (10 * s.power.readings.headD 0)

/-- The mean lies below the limit less its hysteresis; and it has for 10 ms (R472). -/
def State.lowMean (s : State) : Bool :=
  Nat.ble (s.fld Reg.PWR.PKG_POWER.W) (10 * s.fld Reg.PWR.LIMIT.LIMIT_W - 10 * s.fld Reg.PWR.LIMIT.HYST_W)
def State.coolLong (s : State) : Bool := s.lowMean && Nat.ble (s.power.lowSince.getD s.mono + 10000000) s.mono

/-- How many of the package limit's steps hold a class (R471). -/
def State.heldSteps (s : State) : Nat :=
  (s.power.steps.filter fun x => match x with | .held _ => true | .lowered _ _ => false).length

/-- The throttle temperature in 1/16 °C (R473). -/
def State.throttle16 (s : State) : Int := 16 * s.fld Reg.PWR.THERM.THROTTLE_C

/-- How many entries of ring `r` a head doorbell with HEAD `head` releases (R395). -/
def State.releases (s : State) (fn r head : Nat) : Nat :=
  let n := 2 ^ s.fld (Reg.FN.CQ_CFG.SIZE_LOG2 fn r)
  (head + n - (s.ring fn r).released % n) % n

/-- The outstanding operations of the cores in the host window (R406). -/
def State.hostRemotes (s : State) : List (Nat × RemoteOp) :=
  s.cores.flatMap fun c => (c.2.remotes.filter fun r => Nat.ble hostBase (localOf r.addr) && Nat.beq r.dst s.deviceId).map fun r => (c.1, r)

/-! ### Fronthaul and time -/

/-- A slot and symbol of a stream of a cell have frames: the radio is on, the cell exists, its RU's entry `e` is valid, `start` begins a slot of it, and
its RU has the stream (R238–R240). `c` is the cell's entry. -/
def State.carries (s : State) (cell stream start symbol : Nat) (c e : List Byte) : Bool :=
  s.radioOn && Nat.blt cell (cellCount s.radio.image) && ruValid e && Nat.beq (start % slotNs c) 0 && Nat.blt symbol 14 &&
    Nat.blt stream (s.ruStreams (cellRu c))

/-- The only frame of interface `i` is `f`, in time, on a leaf of the strict class, its leaf, subscriber and port valid, their buckets full (R247,
R248). -/
abbrev State.sendsNext (s : State) (i : Nat) (f : TxFrame) : Prop :=
  s.ifUp i ∧ (s.iface i).frames = [f] ∧ (f.limit.all fun l => Nat.ble s.now l) ∧ f.sub < 64 ∧ f.service < 8 ∧
    entValid (shpEntry (s.iface i).sched.image (.leaf f.sub f.service)) ∧ entValid (shpEntry (s.iface i).sched.image (.sub f.sub)) ∧
    entValid (shpEntry (s.iface i).sched.image ((s.iface i).sched.portOf f.sub)) ∧
    entClass (shpEntry (s.iface i).sched.image (.leaf f.sub f.service)) = 0 ∧ (s.iface i).sched.peak = [] ∧ (s.iface i).sched.committed = []

/-- Between `s` and `t` frame `f` alone has left interface `i`: its bytes, or its PTP message, complete. -/
def leftAlone (i : Nat) (f : TxFrame) (s t : State) : Bool :=
  match f.body with
  | .bytes _ => t.out == s.out ++ [.frame i f]
  | .ptp m => t.out == s.out ++ [.ptp m]
  | _ => Nat.beq t.out.length (s.out.length + 1)

/-- A frame reaches interface `i` whole: the link is up, and what FEC and FCS cover is right (R232). -/
abbrev State.arrivesWhole (s : State) (i : Nat) (f : RxFrame) : Prop := s.ifUp i ∧ f.fecOk ∧ f.fcsOk

/-- A frame whose length and addresses the interface takes (R232, R233). -/
abbrev State.framed (s : State) (i : Nat) (f : RxFrame) : Prop :=
  64 ≤ f.length ∧ f.length ≤ s.fld Reg.FH.MAX_FRAME.BYTES ∧ f.pause = false ∧ s.takesDst i f

/-- The frame's tag, transport and common header are those of the port (R232, R235, R236). -/
abbrev State.ecpriOk (s : State) (i : Nat) (f : RxFrame) : Prop :=
  f.tagged = s.isSet (Reg.FH_PORT.PORT_CFG.VLAN (ifPort i)) ∧ s.transportOk i f ∧ f.concat = false ∧ f.eBit

/-- Between `s` and `t` a PTP message is queued on interface `k`, at the end of its S-plane leaf of subscriber 0: where that leaf is not valid it is
discarded with NO_SPLANE, where the link is down it is discarded (R234, R269). -/
abbrev QueuedPtp (k : Nat) (b : TxBody) (s t : State) : Prop :=
  (s.splane k → s.ifUp k → (t.iface k).frames.dropLast = (s.iface k).frames ∧ (t.iface k).frames.getLast?.any fun f =>
    Nat.beq f.sub 0 && Nat.beq f.service 0 && Nat.beq f.length b.ptpLen && f.limit == none && f.body == b) ∧
  (s.splane k = false → t.err Reg.TIME.ERR.NO_SPLANE) ∧
  (s.splane k = false ∨ s.ifUp k = false → (t.iface k).frames = (s.iface k).frames)

/-- `c` brings a PTP message of a domain that interface `i` does not take: its link is down, it has no role, the domain is another, or `takes` fails:
nothing happens but that the frame is counted, in RX_UNKNOWN too where the interface has no role (R266, R267). `u` is the state with time run on to
the message. -/
def IgnoresPtp (c : Instr) (i domain : Nat) (takes : Bool) (u s : State) : Prop :=
  c.wf → (s.ifUp i = false ∨ s.role i = 0 ∨ domain ≠ s.ptpDomain ∨ takes = false) → Completes c s fun t =>
    t = if s.ifUp i = false then u
      else if s.role i = 0 then (u.countSat (Reg.FH_PORT.RX_FRAMES.COUNT (ifPort i)) 1).countSat (Reg.FH_PORT.RX_UNKNOWN.COUNT (ifPort i)) 1
      else u.countSat (Reg.FH_PORT.RX_FRAMES.COUNT (ifPort i)) 1

/-- An access of a page its issuer does not reach is denied and counted; a read of it returns 0 (R390). -/
def DeniesAccess (c : Instr) (who : Issuer) (page : Nat) (read : Bool) (s : State) : Prop :=
  c.wf → s.mayReach who page = false → Completes c s fun t =>
    t.out = (if read then s.out ++ [.regData who 0] else s.out) ∧ t.err Reg.STAIDO.ERR.REG_DENIED ∧
      t.fld Reg.STAIDO.REG_DENIED.COUNT = min (s.fld Reg.STAIDO.REG_DENIED.COUNT + 1) (2 ^ Reg.STAIDO.REG_DENIED.COUNT.w - 1) ∧ Frame [] [] s t

/-! ### Register words that are commands (R486–R498) -/

/-- The command that a read of a word is, where a read does more than show the word (R262, R283, R489). -/
def State.readCommand (s : State) (who : Issuer) (page off : Nat) : Option Instr :=
  if page = 0x040 ∧ off = 0x100 then some (.nowFracRead who)
  else if page = 0x042 ∧ off = 0x100 then some (.lfcLoRead who)
  else if page = 0x042 ∧ off = 0x104 then some (.lfcHiRead who)
  else if (s.latchPair page off).isSome then some (.latchRead who page off)
  else if 4 ≤ off && (s.latchPair page (off - 4)).isSome then some (.latchedHighRead who page off)
  else none

/-- NOW_NS, NOW_SEC_LO and NOW_SEC_HI, which show what a read of NOW_FRAC latched (R262). -/
def latchedNow (page off : Nat) : Bool := Nat.beq page 0x040 && [0x104, 0x108, 0x10C].contains off

/-- The command that a write of `w` to a word of a block's table is, where it is one (the ACTION words, R296–R299, R319, R398, R402, R410–R412, R424,
R425, R436). -/
def writeCommand (who : Issuer) (page off : Nat) (w : Word) : Option Instr :=
  let v := w.toNat
  let one (l : List Instr) : Option Instr := (l.zipIdx.find? fun x => Nat.beq v (2 ^ x.2)).map fun x => x.1
  if page = 0x001 ∧ off = 0x10C then one [.bundleLoad]
  else if page = 0x002 ∧ off = 0x108 then one [.resetActionCore, .resetActionCluster, .resetActionCocoon, .resetActionDevice, .retest]
  else if page = 0x005 ∧ off = 0x110 then one [.snapshot]
  else if page = 0x008 ∧ off = 0x130 then one [.vote, .readmit]
  else if page = 0x010 ∧ off = 0x138 then one [.cancel]
  else if page = 0x040 ∧ off = 0x130 then one [.rearm]
  else if page = 0x042 ∧ off = 0x108 then some (.lfcOffsetWrite who w)
  else if 0x0A1 ≤ page ∧ page ≤ 0x0B8 ∧ off = 0x128 then one [.retrainNow (page - 0x0A1)]
  else if page = 0x0C0 ∧ off = 0x824 then one [.segmentSet, .segmentClear]
  else if page = 0x240 ∧ off = 0x10C then one [.detach]
  else if 0x100 ≤ page ∧ page < 0x140 then
    let c := page - 0x100
    if off = 0x100 then some (.keySlotChange c w)
    else if off = 0x1B0 then one [.keyLoad c, .keyErase c]
    else if off = 0x1E0 then some (if v.testBit 8 then .unbind c (v % 256) else .bind c (v % 256))
    else if off = 0x1F0 then one [.unfence c]
    else none
  else match pageFn page with
    | none => none
    | some fn =>
      if (wordFlds page off).isEmpty then none
      else if off = 0x114 ∧ managesPages who = true ∧ v.testBit 0 = true then some (.inval fn)
      else if 0x140 ≤ off ∧ off < 0x160 then some (.svMaskWrite fn ((off - 0x140) / 4) w)
      else if off = 0x1B0 then some ([Instr.resume fn, .ckptStart fn, .ckptDone fn].getD (v % 4) (.rollback fn))
      else if off = 0x1B4 then some (if v.testBit 16 then .quarantineClear fn (v % 65536) else .quarantine fn (v % 65536))
      else if off = 0x800 then some (.dirtyCfgWrite fn (v.testBit 0))
      else if 0x804 ≤ off ∧ off ≤ 0x814 then some (.dirtyLogConfigWrite fn off w)
      else if 0x400 ≤ off ∧ off < 0x800 ∧ off % 16 = 8 then
        some (if v.testBit 16 then .sqEnable fn ((off - 0x400) / 16) w else .sqDisable fn ((off - 0x400) / 16) w)
      else if 0xC00 ≤ off ∧ off % 16 = 8 ∧ (fn ≠ 257 ∨ off < 0xE00) then
        some (if v.testBit 16 then .cqEnable fn ((off - 0xC00) / 16) w else .cqDisable fn ((off - 0xC00) / 16) w)
      else none

/-- A word of a block's table whose write sets its fields and does nothing else. -/
def plainWord (page off : Nat) : Bool :=
  Nat.ble 0x100 off && (pageFn page).isNone && !Nat.beq page 0x041 &&
    !([(0x001, 0x10C), (0x002, 0x108), (0x004, 0x120), (0x004, 0x124), (0x005, 0x110), (0x008, 0x130), (0x010, 0x138), (0x040, 0x130), (0x040, 0x180),
      (0x042, 0x108), (0x0C0, 0x824), (0x240, 0x108), (0x240, 0x10C)].contains (page, off)) &&
    !(Nat.ble 0x0A1 page && Nat.ble page 0x0B8 && Nat.beq off 0x128) &&
    !(Nat.ble 0x100 page && Nat.blt page 0x140 && (Nat.beq off 0x100 || (Nat.ble 0x170 off && Nat.ble off 0x1B0) || Nat.beq off 0x1E0 || Nat.beq off 0x1F0))

/-- A word of a function's page whose write sets its fields and does nothing else: no queue or ring that is enabled holds it (R411). -/
def State.plainFnWord (s : State) (fn off : Nat) : Bool :=
  Nat.ble 0x104 off && !([0x108, 0x114, 0x1B0, 0x1B4].contains off) && !(Nat.ble 0x140 off && Nat.blt off 0x160) && !(Nat.ble 0x800 off && Nat.ble off 0x814) &&
    !(Nat.ble 0x400 off && Nat.blt off 0x800 && Nat.beq (off % 16) 8) && !(Nat.ble 0xC00 off && Nat.beq (off % 16) 8) && !s.queueLocked fn off

/-- The fields of a word after a write of `w` by `who` (R6, R410): RW and, where the issuer may, RW-M in effect; RWS in the shadow; bits of W1C clear where
`w` has 1; all else as before. -/
abbrev Written (who : Issuer) (page off : Nat) (w : Word) (s t : State) : Prop :=
  ∀ x ∈ wordFlds page off,
    (x.acc = .rw ∨ x.acc = .rwM ∧ managesPages who = true → t.fld ⟨page, off, x.lo, x.w⟩ = bitsOf w.toNat x.lo x.w) ∧
    (x.acc = .rws → t.shd ⟨page, off, x.lo, x.w⟩ = bitsOf w.toNat x.lo x.w ∧ t.fld ⟨page, off, x.lo, x.w⟩ = s.fld ⟨page, off, x.lo, x.w⟩) ∧
    (x.acc = .w1c → t.fld ⟨page, off, x.lo, x.w⟩ = s.fld ⟨page, off, x.lo, x.w⟩ - (s.fld ⟨page, off, x.lo, x.w⟩ &&& bitsOf w.toNat x.lo x.w)) ∧
    (x.acc = .ro ∨ x.acc = .rwM ∧ managesPages who = false → t.fld ⟨page, off, x.lo, x.w⟩ = s.fld ⟨page, off, x.lo, x.w⟩)

/-- What a write of `w` asks of CTRL on a page of run `r` where ENABLE is `on`: whether ENABLE changes, COMMIT, BLOCK_RESET (R494). -/
def ctrlAsks (r : PageRun) (on : Bool) (w : Word) : Bool × Bool × Bool :=
  (r.hasE && (w.toNat.testBit 0 != on), r.hasC && w.toNat.testBit 1, r.hasB && w.toNat.testBit 2)

/-- The pages whose COMMIT waits for a beat boundary (R495). -/
def boundaryPages : List Nat :=
  [0x004, 0x005, 0x008, 0x009, 0x040, 0x0A0] ++ (List.range 63).map (fun l => 0x0C1 + l) ++ (List.range 64).map fun c => 0x100 + c

/-- The fields of a page stand at their reset values, where the spec gives one. -/
abbrev AtReset (page : Nat) (t : State) : Prop :=
  ((pageFlds page).all fun x => !(x.2.acc == .rw || x.2.acc == .rws) || ((resetOf x.1).all fun v => Nat.beq (t.fld x.1) (v % 2 ^ x.1.w))) ∧
    t.fld (errMask page) = 0 ∧ t.fld (refusalReason page) = 0 ∧ page ∉ t.pages.commits

/-- ENABLE or COMMIT of a page whose check fails with a reason at an offset. -/
abbrev RefusedAt (page : Nat) (x : Nat × Nat) (s t : State) : Prop :=
  Refused t page (x.1 % 65536) ∧ t.fld (refusalOffset page) = x.2 % 2 ^ (refusalOffset page).w ∧ Frame [] [page] s t

/-! ### Reserved words (R487, R490, R492) -/

/-- No word of a page in the table of R491, or an offset of an implemented page that no table names. -/
def reservedWord (page off : Nat) : Bool :=
  (pageRun page).isNone || Nat.beq off 0x00C || Nat.beq off 0x01C || (Nat.ble 0x034 off && Nat.blt off 0x100) ||
    (Nat.ble 0x100 off && (if page = 0x000 then !(Nat.ble off 0x200 || (Nat.ble 0x210 off && Nat.blt off (0x210 + 8 * pageRuns.length)))
      else (wordFlds page off).isEmpty))

/-! ### Invariants -/

/-- Memory has its canonical form. -/
abbrev State.sound (s : State) : Prop := s.mem.wf = true

end Sys2Proof.Machine
end

