-- ==== Sys2Proof/Certificates/Slice0/Obligations.lean ====
section
/-!
DEFINITION. The statements about the block, family by family of the commands, and those about the block as a whole. Each says that a command completes,
what it does by the rules its docstring names, and what it leaves unchanged.
-/
open Sys2Proof Sys2Proof.Machine

/-- R27, R42: REFERENCE_LOSS sets REF_HOLD and its error bit on every C-die page, REFERENCE_RETURN clears the level; CLOCK_UNLOCK clears a lock bit of
its die, which one the event does not say. Nothing but those pages, the black box and the vectors changes.
R17, R32–R35: an edge that goes down while the Y40 is emerged is a fatal device error of cause 0x01, whose crossing is down; a crossing that one side
declares down keeps no entry and no event, shows CDC_TIMEOUT on that side's die page alone, and is a fatal error of cause 0x02, or for a C-die loses the
die's cores; one whose handshake completes accepts entries again with its kept events delivered, and counts RESYNC where the sender was itself reset.
R36–R39, R41: a neighbour pair whose gap exceeds 20 °C, and that was not left alone, shows the error on its C-dies, or on page PWR where neither die
is one; a raise that completes puts its point in force, its rail having been set before; a lowering that completes sets its rail to the nominal value
of its point and the die's trim, its point having been put in force before. -/
def Obligations.clocks_edges_and_operating_points : Prop :=
  (∀ s, Completes .referenceLoss s fun t =>
    (∀ d, d < 32 → t.isSet (Reg.DIE.CLK_STATUS.REF_HOLD d) ∧ t.err (Reg.DIE.ERR.REF_HOLD d)) ∧ Frame [] diePages s t) ∧
  (∀ s, Completes .referenceReturn s fun t => (∀ d, d < 32 → t.fld (Reg.DIE.CLK_STATUS.REF_HOLD d) = 0) ∧ Frame [] diePages s t) ∧
  (∀ s die, (Instr.clockUnlock die).wf → Completes (.clockUnlock die) s fun t =>
    (t.fld (Reg.DIE.CLK_STATUS.CORE_LOCK die) = 0 ∨ t.fld (Reg.DIE.CLK_STATUS.MESH_LOCK die) = 0) ∧ t.err (Reg.DIE.ERR.CLK_UNLOCK die) ∧
      Frame [] [0x300 + 8 * die] s t) ∧
  (∀ s e, (Instr.meshEdgeDown e).wf → s.fld Reg.BOOT.STATE.INSTAR = 5 → s.fatal = none → Completes (.meshEdgeDown e) s fun t =>
    t.fatal = some 0x01 ∧ (t.crossing (.edge e)).down ∧ t.fld Reg.SEQ.STATE.STATE = 5 ∧ Frame [.crossings, .fatal] (0x005 :: 0x010 :: diePages) s t) ∧
  (∀ s e d, (Instr.cdcTimeout (.edge e) d).wf → ((edgeEnds e).1 = d ∨ (edgeEnds e).2 = d) → (s.crossing (.edge e)).down = false →
    Completes (.cdcTimeout (.edge e) d) s fun t =>
      (t.crossing (.edge e)).down ∧ (t.crossing (.edge e)).events = [] ∧ (t.mesh.packets.all fun p => p.left.all fun h => !(h.x == .edge e)) ∧
      (d < 32 → t.err (Reg.DIE.ERR.CDC_TIMEOUT d)) ∧
      (∀ o, o < 32 → o ≠ d → t.err (Reg.DIE.ERR.CDC_TIMEOUT o) = s.err (Reg.DIE.ERR.CDC_TIMEOUT o)) ∧
      (s.boot.job ≠ some .device → s.fatal = none → t.fatal = some 0x02) ∧
      Frame [.crossings, .fatal, .posts, .cores] (0x005 :: 0x010 :: diePages) s t) ∧
  (∀ s d, (Instr.cdcTimeout (.core d) d).wf → (s.crossing (.core d)).down = false → Completes (.cdcTimeout (.core d) d) s fun t =>
    (t.crossing (.core d)).down ∧ (t.crossing (.core d)).events = [] ∧ (t.mesh.packets.all fun p => p.left.all fun h => !(h.x == .core d)) ∧
      t.err (Reg.DIE.ERR.CDC_TIMEOUT d) ∧ (s.boot.job = none → ∀ j, j < 64 → t.coreDisabled (64 * d + j))) ∧
  (∀ s x, (Instr.crossingResync x).wf → (s.crossing x).resync ∨ (s.crossing x).down → Completes (.crossingResync x) s fun t =>
    (t.crossing x).down = false ∧ (t.crossing x).resync = false ∧ (t.crossing x).events = [] ∧
      (t.crossing x).resyncEvents = (s.crossing x).resyncEvents + (if (s.crossing x).senderReset then 1 else 0) ∧
      ((s.crossing x).events = [] → Frame [.crossings] [] s t) ∧
      SameMemory ((s.crossing x).events.map fun l => (signalAddr l.core, 4)) s t ∧ Frame [.crossings, .mem] [] s t) ∧
  (∀ s x core mask, (Instr.crossingResync x).wf → core < 2048 → mask < 8 → (s.crossing x).resync → (s.crossing x).events = [⟨core, mask, false⟩] →
    Completes (.crossingResync x) s fun t => t.signals core = s.signals core ||| mask) ∧
  (∀ s e, e < 80 → 320 < max (s.dieTemp (edgeEnds e).1 - s.dieTemp (edgeEnds e).2) (s.dieTemp (edgeEnds e).2 - s.dieTemp (edgeEnds e).1) →
    Assoc.findD (α := Nat) e 0 s.power.pairWait ≤ s.mono → Completes .neighbourTemperatureCheck s fun t =>
      ((edgeEnds e).1 < 32 → t.err (Reg.DIE.ERR.NEIGHBOUR_LIMIT (edgeEnds e).1)) ∧
      ((edgeEnds e).2 < 32 → t.err (Reg.DIE.ERR.NEIGHBOUR_LIMIT (edgeEnds e).2)) ∧
      (32 ≤ (edgeEnds e).1 → 32 ≤ (edgeEnds e).2 → t.err Reg.PWR.ERR.NEIGHBOUR_GAP) ∧ Frame [.power] (0x004 :: diePages) s t) ∧
  (∀ s die p, (Instr.operatingPointChangeDone die).wf → p ≤ 2 → s.point die < p → s.power.changes = [(die, p)] →
    Completes (.operatingPointChangeDone die) s fun t => (p ≤ s.refreshPower.wanted die → t.point die = p) ∧ p ≤ t.point die + 1 ∧
      Frame [.power] (0x004 :: diePages) s t) ∧
  (∀ s die p, (Instr.operatingPointChangeDone die).wf → p ≤ s.point die → s.power.changes = [(die, p)] →
    Completes (.operatingPointChangeDone die) s fun t => ((∀ c ∈ t.power.changes, c.1 ≠ die) → t.railSet die = s.railFor die p) ∧
      Frame [.power] (0x004 :: diePages) s t)

/-- R82: a branch, call or return outside delay slots and not among the last three instructions of a repeat body starts two delay slots towards its
target (none for a branch that is not taken), a call keeps the place after them, and the next instruction is the one that follows. Of memory only
the program counter changes. Where no call is open, a return's target is free.
R82, R83: an instruction outside any repeat moves the program counter to the next, or, as the last of the two delay slots, to the transfer's
target; as the last of a repeat body it moves back to the body's first until the count is spent. Said of the scalar operations.
R83: REPEAT pushes its body and count, and the body comes next; a count of 0 skips the body. -/
def Obligations.transfers_repeats_and_program_counter : Prop :=
  (∀ s core target, (Instr.branch core true target).wf → s.canIssue core → (s.core core).delay = none → (s.land core).lastThree core = false →
    (s.land core).insideBody core target → Completes (.branch core true target) s fun t =>
      (t.core core).delay = some (2, some target) ∧ t.pc core = ((s.land core).pc core + 1) % 4096 ∧
        SameMemory [(pcAddr core, 4)] (s.land core) t ∧ SameCores [core] s t ∧ Frame [.mem, .cores, .sram] [] s t) ∧
  (∀ s core target, (Instr.branch core false target).wf → s.canIssue core → (s.core core).delay = none → (s.land core).lastThree core = false →
    Completes (.branch core false target) s fun t =>
      (t.core core).delay = some (2, none) ∧ t.pc core = ((s.land core).pc core + 1) % 4096 ∧
        SameMemory [(pcAddr core, 4)] (s.land core) t ∧ SameCores [core] s t ∧ Frame [.mem, .cores, .sram] [] s t) ∧
  (∀ s core target, (Instr.call core target).wf → s.canIssue core → (s.core core).delay = none → (s.land core).lastThree core = false →
    Completes (.call core target) s fun t =>
      (t.core core).delay = some (2, some target) ∧ (t.core core).calls = ((s.land core).pc core + 3) % 4096 :: (s.core core).calls ∧
        SameMemory [(pcAddr core, 4)] (s.land core) t ∧ SameCores [core] s t ∧ Frame [.mem, .cores, .sram] [] s t) ∧
  (∀ s core, (Instr.ret core).wf → s.canIssue core → (s.core core).delay = none → (s.land core).lastThree core = false →
    Completes (.ret core) s fun t =>
      (t.core core).delay.any (fun d => Nat.beq d.1 2 && d.2.isSome) ∧ (t.core core).calls = (s.core core).calls.tail ∧
        SameMemory [(pcAddr core, 4)] (s.land core) t ∧ SameCores [core] s t ∧ Frame [.mem, .cores, .sram] [] s t) ∧
  (∀ s core a rest, (Instr.ret core).wf → s.canIssue core → (s.core core).delay = none → (s.land core).lastThree core = false →
    (s.core core).calls = a :: rest → Completes (.ret core) s fun t => (t.core core).delay = some (2, some a)) ∧
  (∀ s core op rd ra b, (Instr.scalarOperation core op rd ra b).wf → s.canIssue core → s.unpoisoned core → (s.core core).delay = none →
    (s.land core).repeatDepth core = 0 → Completes (.scalarOperation core op rd ra b) s fun t =>
      t.pc core = ((s.land core).pc core + 1) % 4096 ∧ (t.core core).delay = none) ∧
  (∀ s core op rd ra b k a, (Instr.scalarOperation core op rd ra b).wf → s.canIssue core → s.unpoisoned core → (s.core core).delay = some (k + 2, a) →
    Completes (.scalarOperation core op rd ra b) s fun t =>
      t.pc core = ((s.land core).pc core + 1) % 4096 ∧ (t.core core).delay = some (k + 1, a)) ∧
  (∀ s core op rd ra b a, (Instr.scalarOperation core op rd ra b).wf → s.canIssue core → s.unpoisoned core → (s.core core).delay = some (1, some a) →
    Completes (.scalarOperation core op rd ra b) s fun t => t.pc core = a % 4096 ∧ (t.core core).delay = none) ∧
  (∀ s core op rd ra b, (Instr.scalarOperation core op rd ra b).wf → s.canIssue core → s.unpoisoned core → (s.core core).delay = some (1, none) →
    Completes (.scalarOperation core op rd ra b) s fun t =>
      t.pc core = ((s.land core).pc core + 1) % 4096 ∧ (t.core core).delay = none) ∧
  (∀ s core op rd ra b d first last count, (Instr.scalarOperation core op rd ra b).wf → s.canIssue core → s.unpoisoned core → (s.core core).delay = none →
    (s.land core).repeatDepth core = d + 1 → (s.land core).repeatEntry core d = (first, last, count + 2) → (s.land core).pc core = last →
    Completes (.scalarOperation core op rd ra b) s fun t =>
      t.pc core = first % 4096 ∧ t.repeatEntry core d = (first, last, count + 1)) ∧
  (∀ s core op rd ra b first last, (Instr.scalarOperation core op rd ra b).wf → s.canIssue core → s.unpoisoned core → (s.core core).delay = none →
    (s.land core).repeatDepth core = 1 → (s.land core).repeatEntry core 0 = (first, last, 1) → (s.land core).pc core = last →
    Completes (.scalarOperation core op rd ra b) s fun t =>
      t.pc core = (last + 1) % 4096 ∧ t.repeatEntry core 0 = (0, 0, 0) ∧ (t.core core).point) ∧
  (∀ s core body count, (Instr.repeatBody core body count).wf → s.canIssue core → s.unpoisoned core → (s.core core).delay = none →
    (s.land core).repeatDepth core < 4 → (s.land core).srcVal core count % 65536 ≠ 0 →
    (∀ i, i < 4 → (s.land core).repeatDepth core ≤ i → ((s.land core).repeatEntry core i).2.2 = 0) →
    Completes (.repeatBody core body count) s fun t =>
      t.repeatEntry core ((s.land core).repeatDepth core) =
        (((s.land core).pc core + 1) % 4096, ((s.land core).pc core + body) % 4096, (s.land core).srcVal core count % 65536) ∧
      t.pc core = ((s.land core).pc core + 1) % 4096 ∧ IssuedOn core s t) ∧
  (∀ s core body count, (Instr.repeatBody core body count).wf → s.canIssue core → s.unpoisoned core → (s.core core).delay = none →
    (s.land core).repeatDepth core = 0 → (s.land core).srcVal core count % 65536 = 0 →
    Completes (.repeatBody core body count) s fun t => t.pc core = ((s.land core).pc core + body + 1) % 4096 ∧
      IssuedOn core s t)

/-- R84, R85: YIELD, END and RETS leave the sequencer at a signal point; END ends the routine, RETS leaves the handler and goes on where it was
entered. END inside a handler and RETS outside one move the program counter only (the model's choice, log entries 71 and 217).
R85: at a signal point FAULT goes first and ends the routine with every pending signal; then YIELD, then BEAT: its bit clears, and if its
vector is enabled its handler starts after 4 cycles, with every pending result landed; signals whose vectors are disabled are dropped. Away from a
signal point, and with nothing pending, nothing is taken. -/
def Obligations.signal_points_and_handlers : Prop :=
  (∀ s core, (Instr.yield core).wf → s.canIssue core → (s.core core).delay = none → Completes (.yield core) s fun t =>
    (t.core core).point ∧ (t.core core).cycle = (s.core core).cycle + 1 ∧ (t.core core).routine = (s.core core).routine ∧
      (t.core core).handler = (s.core core).handler ∧ IssuedOn core s t) ∧
  (∀ s core, (Instr.endRoutine core).wf → s.canIssue core → (s.core core).handler = none → Completes (.endRoutine core) s fun t =>
    (t.core core).point ∧ (t.core core).routine = ((s.core core).routine.map fun r => { r with ended := true }) ∧
      (t.core core).handler = none ∧ IssuedOn core s t) ∧
  (∀ s core h, (Instr.endRoutine core).wf → s.canIssue core → (s.core core).handler = some h → Completes (.endRoutine core) s fun t =>
    (t.core core).routine = (s.core core).routine ∧ (t.core core).handler = some h ∧ (t.core core).cycle = (s.core core).cycle + 1 ∧
      IssuedOn core s t) ∧
  (∀ s core h, (Instr.rets core).wf → s.canIssue core → (s.core core).handler = some h → Completes (.rets core) s fun t =>
    (t.core core).handler = none ∧ (t.core core).point ∧ t.pc core = h.resume % 4096 ∧ (t.core core).routine = (s.core core).routine ∧
      IssuedOn core s t) ∧
  (∀ s core, (Instr.rets core).wf → s.canIssue core → (s.core core).handler = none → Completes (.rets core) s fun t =>
    (t.core core).handler = none ∧ (t.core core).routine = (s.core core).routine ∧ (t.core core).cycle = (s.core core).cycle + 1 ∧
      IssuedOn core s t) ∧
  (∀ s core c, (Instr.yield core).wf → c ∈ [Instr.yield core, .endRoutine core, .rets core] → s.canIssue core = false → Completes c s fun t => t = s) ∧
  (∀ s core, (Instr.signalTake core).wf → ((s.core core).atPoint = false ∨ s.signals core = 0) → Completes (.signalTake core) s fun t => t = s) ∧
  (∀ s core, (Instr.signalTake core).wf → (s.core core).atPoint → (s.signals core).testBit 0 → Completes (.signalTake core) s fun t =>
    t.signals core = 0 ∧ (t.core core).routine = none ∧ (t.core core).delay = none ∧ (t.core core).landings = [] ∧ SameCores [core] s t ∧
      SameMemory [(signalAddr core, 4)] (s.landAll core) t ∧ Frame [.mem, .cores, .sram] [] s t) ∧
  (∀ s core e, (Instr.signalTake core).wf → (s.core core).atPoint → (s.signals core).testBit 0 = false → (s.signals core).testBit 1 →
    s.handlerEntry core false = some e → Completes (.signalTake core) s fun t =>
      (t.core core).handler = some ⟨false, (s.landAll core).pc core⟩ ∧ t.pc core = e ∧ (t.core core).cycle = (s.core core).cycle + 4 ∧
        (t.core core).landings = [] ∧ (t.core core).routine = (s.core core).routine ∧
        ((s.core core).landings = [] → t.signals core = s.signals core - 2) ∧ SameCores [core] s t ∧ Frame [.mem, .cores, .sram] [] s t) ∧
  (∀ s core e, (Instr.signalTake core).wf → (s.core core).atPoint → (s.signals core).testBit 0 = false →
    ((s.signals core).testBit 1 → s.handlerEntry core false = none) → (s.signals core).testBit 2 → s.handlerEntry core true = some e →
    Completes (.signalTake core) s fun t =>
      (t.core core).handler = some ⟨true, (s.landAll core).pc core⟩ ∧ t.pc core = e ∧ (t.core core).cycle = (s.core core).cycle + 4 ∧
        (t.core core).landings = [] ∧ (t.core core).routine = (s.core core).routine ∧ ((s.core core).landings = [] → t.signals core = 0) ∧
        SameCores [core] s t ∧ Frame [.mem, .cores, .sram] [] s t) ∧
  (∀ s core, (Instr.signalTake core).wf → (s.core core).atPoint → (s.signals core).testBit 0 = false → s.signals core ≠ 0 →
    ((s.signals core).testBit 1 → s.handlerEntry core false = none) → ((s.signals core).testBit 2 → s.handlerEntry core true = none) →
    Completes (.signalTake core) s fun t =>
      t.signals core = 0 ∧ (t.core core).point = false ∧ (t.core core).handler = (s.core core).handler ∧
        (t.core core).routine = (s.core core).routine ∧ SameMemory [(signalAddr core, 4)] s t ∧ SameCores [core] s t ∧
        Frame [.mem, .cores] [] s t)

/-- R80: the results of scalar operations, of the multiplies, of RSHR, NARROW, NORM and EXPX become visible λ cycles after their issue. R89, R90:
NARROW rounds half to even and saturates, and sets SAT where it saturates.
R91: NORM returns the shifted value and its count of redundant sign bits, EXPX an integer's count or a floating value's exponent, with
EXP_SPECIAL and 32,767 for an infinity or a NaN; BEXP writes, in every lane, the smallest count of its group.
R185, R186: RNG writes, 24 cycles on, the draws of 64 lanes of the executing rank; SAMPLE, 8k + 40 cycles on, writes the position of the candidate
that the rule picks, the first where τ is 0, and writes 0xFFFFFFFF and sets ARR_NAN where a candidate is a NaN or τ is negative. With no such context
RNG's draws are free. -/
def Obligations.scalar_results_and_latencies : Prop :=
  (∀ s core op rd ra b, (Instr.scalarOperation core op rd ra b).wf → s.canIssue core → s.unpoisoned core → Completes (.scalarOperation core op rd ra b) s fun t =>
    Scheduled core 2 (scalarOff rd) (leBytes 4 (scalarEval op s.draws ((s.land core).scalar core ra) ((s.land core).srcVal core b))) s t ∧
      IssuedOn core s t) ∧
  (∀ s core rd ra rb, (Instr.multiplyAccumulate core .mul32 rd ra rb).wf → s.canIssue core → s.unpoisoned core →
    Completes (.multiplyAccumulate core .mul32 rd ra rb) s fun t =>
      Scheduled core 3 (scalarOff rd) (leBytes 4 ((s.land core).scalar core ra * (s.land core).scalar core rb)) s t ∧
        IssuedOn core s t) ∧
  (∀ s core rd ra rb, (Instr.multiplyAccumulate core .q15mul rd ra rb).wf → s.canIssue core → s.unpoisoned core →
    Completes (.multiplyAccumulate core .q15mul rd ra rb) s fun t =>
      (if toSigned 16 ((s.land core).scalar core ra) = -32768 ∧ toSigned 16 ((s.land core).scalar core rb) = -32768 then
        Scheduled core 3 (scalarOff rd) (leBytes 4 0x7FFF) s t ∧ (t.rd (statusAddr core) 4).testBit 0
      else Scheduled core 3 (scalarOff rd) (leBytes 4 (ofSigned 32
        (rshr (toSigned 16 ((s.land core).scalar core ra) * toSigned 16 ((s.land core).scalar core rb)) 15))) s t) ∧
        IssuedOn core s t) ∧
  (∀ s core rd ra rb, (Instr.multiplyAccumulate core .q15mac rd ra rb).wf → s.canIssue core → s.unpoisoned core →
    Completes (.multiplyAccumulate core .q15mac rd ra rb) s fun t =>
      Scheduled core 3 (scalarOff rd) (leBytes 4 (ofSigned 32 (max (-2147483648) (min 2147483647 (toSigned 32 ((s.land core).scalar core rd) +
        max (-32768) (min 32767 (rshr (toSigned 16 ((s.land core).scalar core ra) * toSigned 16 ((s.land core).scalar core rb)) 15))))))) s t ∧
        IssuedOn core s t) ∧
  (∀ s core rd rs n, (Instr.rshr core rd rs n).wf → s.canIssue core → s.unpoisoned core → Completes (.rshr core rd rs n) s fun t =>
    Scheduled core 2 (scalarOff rd)
      (leBytes 4 (ofSigned 32 (rshr (toSigned 32 ((s.land core).scalar core rs)) ((s.land core).srcVal core n % 32)))) s t ∧
      IssuedOn core s t) ∧
  (∀ s core rd lo hi n wide x, (Instr.narrow core rd lo hi n wide).wf → s.canIssue core → s.unpoisoned core →
    x = rshr (match hi with
      | none => toSigned 32 ((s.land core).scalar core lo)
      | some h => toSigned 64 ((s.land core).scalar core lo + 2 ^ 32 * (s.land core).scalar core h)) n →
    Completes (.narrow core rd lo hi n wide) s fun t =>
      Scheduled core 2 (scalarOff rd) (leBytes 4 (ofSigned 32 (if wide then max (-2147483648) (min 2147483647 x) else max (-32768) (min 32767 x)))) s t ∧
        ((if wide then x < -2147483648 ∨ 2147483647 < x else x < -32768 ∨ 32767 < x) → (t.rd (statusAddr core) 4).testBit 0) ∧ IssuedOn core s t) ∧
  (∀ s core rd rc rs, (Instr.norm core rd rc rs .int32).wf → s.canIssue core → s.unpoisoned core → Completes (.norm core rd rc rs .int32) s fun t =>
    Scheduled core 2 (scalarOff rc) (leBytes 4 (redundant 32 (toSigned 32 ((s.land core).scalar core rs)))) s t ∧
      Scheduled core 2 (scalarOff rd) (leBytes 4
        ((s.land core).scalar core rs * 2 ^ redundant 32 (toSigned 32 ((s.land core).scalar core rs)))) s t ∧ IssuedOn core s t) ∧
  (∀ s core rd rc rs, (Instr.norm core rd rc rs .int16).wf → s.canIssue core → s.unpoisoned core → Completes (.norm core rd rc rs .int16) s fun t =>
    Scheduled core 2 (scalarOff rc) (leBytes 4 (redundant 16 (toSigned 16 ((s.land core).scalar core rs)))) s t ∧
      Scheduled core 2 (scalarOff rd) (leBytes 4
        (ofSigned 32 (toSigned 16 ((s.land core).scalar core rs) * 2 ^ redundant 16 (toSigned 16 ((s.land core).scalar core rs))))) s t ∧
      IssuedOn core s t) ∧
  (∀ s core rd rs, (Instr.expx core rd rs .int16).wf → s.canIssue core → s.unpoisoned core → Completes (.expx core rd rs .int16) s fun t =>
    Scheduled core 2 (scalarOff rd) (leBytes 4 (redundant 16 (toSigned 16 ((s.land core).scalar core rs)))) s t ∧ IssuedOn core s t) ∧
  (∀ s core rd rs, (Instr.expx core rd rs .int32).wf → s.canIssue core → s.unpoisoned core → Completes (.expx core rd rs .int32) s fun t =>
    Scheduled core 2 (scalarOff rd) (leBytes 4 (redundant 32 (toSigned 32 ((s.land core).scalar core rs)))) s t ∧ IssuedOn core s t) ∧
  (∀ s core rd rs kind, (Instr.expx core rd rs kind).wf → s.canIssue core → s.unpoisoned core →
    (kind = .fp32 ∧ bitsOf ((s.land core).scalar core rs) 23 8 = 255 ∨ kind = .fp16 ∧ bitsOf ((s.land core).scalar core rs) 10 5 = 31 ∨
      kind = .bf16 ∧ bitsOf ((s.land core).scalar core rs) 7 8 = 255) → Completes (.expx core rd rs kind) s fun t =>
      Scheduled core 2 (scalarOff rd) (leBytes 4 32767) s t ∧ (t.rd (statusAddr core) 4).testBit 1 ∧ IssuedOn core s t) ∧
  (∀ s core rd rs kind x, (Instr.expx core rd rs kind).wf → s.canIssue core → s.unpoisoned core → kind ≠ .int16 → kind ≠ .int32 →
    expxOf kind ((s.land core).scalar core rs) = (x, false) → Completes (.expx core rd rs kind) s fun t =>
      Scheduled core 2 (scalarOff rd) (leBytes 4 (ofSigned 32 x)) s t ∧ IssuedOn core s t) ∧
  (∀ s core vd vs group, (Instr.bexp core vd vs group).wf → s.canIssue core → s.unpoisoned core → (s.core core).vector = none →
    Completes (.bexp core vd vs group) s fun t =>
      (∃ l ∈ (t.core core).landings, l.due = (s.core core).cycle + 6 ∧ l.off = vectorOff vd ∧ l.bytes.length = 256 ∧
        ∀ i, i < 128 →
          (∀ k, k < 128 → k / group = i / group → fieldAt l.bytes (2 * i) 2 ≤
            redundant 16 (toSigned 16 ((s.land core).rd (cwBase core + vectorOff vs + 2 * k) 2))) ∧
          (∃ k, k < 128 ∧ k / group = i / group ∧ fieldAt l.bytes (2 * i) 2 =
            redundant 16 (toSigned 16 ((s.land core).rd (cwBase core + vectorOff vs + 2 * k) 2)))) ∧ IssuedOn core s t) ∧
  (∀ s core vd vs group, (Instr.bexp core vd vs group).wf → (s.core core).vector.isSome → Completes (.bexp core vd vs group) s fun t => t = s) ∧
  (∀ s core vd ci layer d hi, (Instr.rng core vd ci layer d hi).wf → (s.core core).vector.isSome →
    Completes (.rng core vd ci layer d hi) s fun t => t = s) ∧
  (∀ s core vd ci layer d hi step seed, (Instr.rng core vd ci layer d hi).wf → s.canIssue core → (s.core core).vector = none →
    (s.land core).seedOf core ci = some (step, seed) → Completes (.rng core vd ci layer d hi) s fun t =>
      Scheduled core 24 (vectorOff vd) ((List.range 64).flatMap fun i =>
        leBytes 4 (draw seed step layer (s.rankOf core) (i + if hi then 64 else 0) d)) s t ∧ IssuedOn core s t) ∧
  (∀ s core vd ci layer d hi, (Instr.rng core vd ci layer d hi).wf → s.canIssue core → (s.core core).vector = none →
    (s.land core).seedOf core ci = none → Completes (.rng core vd ci layer d hi) s fun t =>
      (∃ l ∈ (t.core core).landings, l.due = (s.core core).cycle + 24 ∧ l.off = vectorOff vd ∧ l.bytes.length = 256) ∧ IssuedOn core s t) ∧
  (∀ s core rd addr k ci j, (Instr.sample core rd addr k ci j).wf → s.canIssue core → s.sampleReadable core addr k →
    Completes (.sample core rd addr k ci j) s fun t =>
      (∃ l ∈ (t.core core).landings, l.due = (s.core core).cycle + 8 * k + 40 ∧ l.off = scalarOff rd ∧ l.bytes.length = 4) ∧ SampledOn core s t) ∧
  (∀ s core rd addr k ci j v step seed i, (Instr.sample core rd addr k ci j).wf → s.canIssue core → s.sampleReadable core addr k →
    (List.range k).map (fun i => dec32 ((s.land core).rd (spBase core + addr + 4 * i) 4)) = v → (∀ x ∈ v, x.isNan = false) →
    (s.samplePoint core 56).lt Fp.zero = false → (s.land core).seedOf core ci = some (step, seed) →
    samplePick v (s.samplePoint core 56) (s.samplePoint core 60) (draw seed step 0xFFFF 0xFFF 0 j) = some i →
    Completes (.sample core rd addr k ci j) s fun t =>
      Scheduled core (8 * k + 40) (scalarOff rd) (leBytes 4 ((s.land core).rd (spBase core + addr + 128 * k + 4 * i) 4)) s t ∧ SampledOn core s t) ∧
  (∀ s core rd addr k ci j r c, (Instr.sample core rd addr k ci j).wf → s.canIssue core → s.sampleReadable core addr k → s.runOn core = some r →
    r.cmd = some c → fieldAt c.bytes 56 4 = 0 → (∀ i, i < k → (dec32 ((s.land core).rd (spBase core + addr + 4 * i) 4)).isNan = false) →
    Completes (.sample core rd addr k ci j) s fun t =>
      Scheduled core (8 * k + 40) (scalarOff rd) (leBytes 4 ((s.land core).rd (spBase core + addr + 128 * k) 4)) s t ∧ SampledOn core s t) ∧
  (∀ s core rd addr k ci j, (Instr.sample core rd addr k ci j).wf → s.canIssue core → s.sampleReadable core addr k →
    ((List.range k).any fun i => (dec32 ((s.land core).rd (spBase core + addr + 4 * i) 4)).isNan) ∨ (s.samplePoint core 56).lt Fp.zero →
    Completes (.sample core rd addr k ci j) s fun t =>
      Scheduled core (8 * k + 40) (scalarOff rd) (leBytes 4 0xFFFFFFFF) s t ∧ (t.rd (statusAddr core) 4).testBit 16 ∧ SampledOn core s t)

/-- R80, R87, R88: a load or store through an address generator goes to BASE + OFFSET when that lies within LEN (linear mode) and the scratchpad; a
load is visible after 4 cycles, a store at once, and post-modify moves OFFSET by STRIDE, modulo LEN in circular mode. -/
def Obligations.loads_and_stores_through_generators : Prop :=
  (∀ s core rd ag (base len : Nat) (stride off : Int), (Instr.scratchpadLoad core rd ag .linear).wf → s.canIssue core → s.unpoisoned core →
    (s.land core).ag core ag = (base, len, stride, off) → 0 ≤ off → off < len → base + off.toNat + lsBytes rd ≤ 0x200000 →
    (s.land core).bad (spBase core + (base + off.toNat)) (lsBytes rd) = false → Completes (.scratchpadLoad core rd ag .linear) s fun t =>
      Scheduled core 4 (lsOff rd) ((s.land core).rdBytes (spBase core + (base + off.toNat)) (lsBytes rd)) s t ∧
        Scheduled core 1 (agOff ag + 12) (leBytes 4 (ofSigned 32 (off + stride))) s t ∧
        SameMemory [(repeatAddr core 0, 40)] (s.land core) t ∧ SameCores [core] s t ∧
          Frame [.mem, .cores, .sram, .poison] (clusterPages ++ memoryPages) s t) ∧
  (∀ s core rs ag (base len : Nat) (stride off : Int), (Instr.scratchpadStore core rs ag .linear).wf → s.canIssue core → s.unpoisoned core →
    (s.land core).ag core ag = (base, len, stride, off) → 0 ≤ off → off < len → base + off.toNat + lsBytes rs ≤ 0x200000 →
    Completes (.scratchpadStore core rs ag .linear) s fun t =>
      t.rdBytes (spBase core + (base + off.toNat)) (lsBytes rs) = (s.land core).rdBytes (cwBase core + lsOff rs) (lsBytes rs) ∧
        Scheduled core 1 (agOff ag + 12) (leBytes 4 (ofSigned 32 (off + stride))) s t ∧
        SameMemory [(spBase core + (base + off.toNat), lsBytes rs), (repeatAddr core 0, 40)] (s.land core) t ∧ SameCores [core] s t ∧
          Frame [.mem, .cores, .sram, .poison] [] s t) ∧
  (∀ s core rs ag (base len : Nat) (stride off : Int), (Instr.scratchpadStore core rs ag .circular).wf → s.canIssue core → s.unpoisoned core →
    (s.land core).ag core ag = (base, len, stride, off) → 0 < len → 0 ≤ (base : Int) + off →
    ((base : Int) + off).toNat + lsBytes rs ≤ 0x200000 → Completes (.scratchpadStore core rs ag .circular) s fun t =>
      t.rdBytes (spBase core + ((base : Int) + off).toNat) (lsBytes rs) = (s.land core).rdBytes (cwBase core + lsOff rs) (lsBytes rs) ∧
        Scheduled core 1 (agOff ag + 12) (leBytes 4 ((off + stride) % (len : Int)).toNat) s t ∧
        SameMemory [(spBase core + ((base : Int) + off).toNat, lsBytes rs), (repeatAddr core 0, 40)] (s.land core) t ∧ SameCores [core] s t ∧
          Frame [.mem, .cores, .sram, .poison] [] s t)

/-- R82, R83, R88, R91, R107: the faults of the sequencer: a transfer in a delay slot or near the end of a repeat body and NORM of a floating value
are ILLEGAL_SEQ, a fifth repeat REPEAT_DEPTH, a taken branch out of the innermost body REPEAT_EXIT, an access out of bounds AG_BOUND, and a load
of a poisoned word SRAM_UE. -/
def Obligations.sequencer_faults : Prop :=
  (∀ s core taken target, (Instr.branch core taken target).wf → s.canIssue core → ((s.core core).delay.isSome ∨ (s.land core).lastThree core) →
    Completes (.branch core taken target) s fun t => Faulted t core 0x01) ∧
  (∀ s core target, (Instr.branch core true target).wf → s.canIssue core → (s.core core).delay = none → (s.land core).lastThree core = false →
    (s.land core).insideBody core target = false → Completes (.branch core true target) s fun t => Faulted t core 0x03) ∧
  (∀ s core target, (Instr.call core target).wf → s.canIssue core → ((s.core core).delay.isSome ∨ (s.land core).lastThree core) →
    Completes (.call core target) s fun t => Faulted t core 0x01) ∧
  (∀ s core, (Instr.ret core).wf → s.canIssue core → ((s.core core).delay.isSome ∨ (s.land core).lastThree core) →
    Completes (.ret core) s fun t => Faulted t core 0x01) ∧
  (∀ s core body count, (Instr.repeatBody core body count).wf → s.canIssue core → s.unpoisoned core → (s.core core).delay.isSome →
    Completes (.repeatBody core body count) s fun t => Faulted t core 0x01) ∧
  (∀ s core body count, (Instr.repeatBody core body count).wf → s.canIssue core → s.unpoisoned core → (s.core core).delay = none →
    (s.land core).repeatDepth core = 4 → Completes (.repeatBody core body count) s fun t => Faulted t core 0x02) ∧
  (∀ s core, (Instr.yield core).wf → s.canIssue core → (s.core core).delay.isSome → Completes (.yield core) s fun t => Faulted t core 0x01) ∧
  (∀ s core rd rc rs kind, (Instr.norm core rd rc rs kind).wf → s.canIssue core → s.unpoisoned core → kind ≠ .int16 → kind ≠ .int32 →
    Completes (.norm core rd rc rs kind) s fun t => Faulted t core 0x01) ∧
  (∀ s core op rd ra b, (Instr.scalarOperation core op rd ra b).wf → s.canIssue core →
    (s.land core).sramHits (cwBase core + scalarOff ra) 4 2 ≠ [] → Completes (.scalarOperation core op rd ra b) s fun t => Faulted t core 0x09) ∧
  (∀ s core rd ag (base len : Nat) (stride off : Int), (Instr.scratchpadLoad core rd ag .linear).wf → s.canIssue core → s.unpoisoned core →
    (s.land core).ag core ag = (base, len, stride, off) → (len : Int) ≤ off → Completes (.scratchpadLoad core rd ag .linear) s fun t => Faulted t core 0x04) ∧
  (∀ s core rs ag (base len : Nat) (stride off : Int), (Instr.scratchpadStore core rs ag .circular).wf → s.canIssue core → s.unpoisoned core →
    (s.land core).ag core ag = (base, len, stride, off) → 0x200000 < (base : Int) + off + lsBytes rs →
    Completes (.scratchpadStore core rs ag .circular) s fun t => Faulted t core 0x04) ∧
  (∀ s core rd ag (base len : Nat) (stride off : Int), (Instr.scratchpadLoad core rd ag .linear).wf → s.canIssue core → s.unpoisoned core →
    (s.land core).ag core ag = (base, len, stride, off) → 0 ≤ off → off < len → base + off.toNat + lsBytes rd ≤ 0x200000 →
    (s.land core).bad (spBase core + (base + off.toNat)) (lsBytes rd) → Completes (.scratchpadLoad core rd ag .linear) s fun t => Faulted t core 0x09)

/-- R94, R96, R117, R146, R156, R181: the lowest ready slot of a unit fires: a product occupies the array, a vector operation the vector engine, a routine
starts at its entry, each with the slot's posts. A product with a prologue waits for the vector engine where that is busy, and has it run where it is
free.
R94, R96, R110: firing a slot whose one condition consumes takes the threshold from its token register, and a ONESHOT slot is empty afterwards; an
invalid descriptor is a DESCRIPTOR fault, and so is a product, a vector operation, a routine or a copy whose block breaks its unit's rules; a slot
that does not fire does nothing. -/
def Obligations.ready_slots_fire_their_operation : Prop :=
  (∀ s core slot, (Instr.arrayProduct core slot).wf → s.firesClean core slot 1 64 → s.productFits core (s.slotBlock core slot 64) →
    ((parseProduct (s.slotBlock core slot 64)).staged = false ∨
      stageOn (s.stageBlock core (parseProduct (s.slotBlock core slot 64)).stage) 0 = false) → Completes (.arrayProduct core slot) s fun t =>
      (t.core core).array = some (ArrayOp.fresh slot (postWords (s.slotDesc core slot)) (s.slotBlock core slot 64) false) ∧
        (slot, 1) ∈ (t.core core).fired ∧ (t.core core).feeders = [] ∧ FiredOn core s t) ∧
  (∀ s core slot, (Instr.arrayProduct core slot).wf → s.firesClean core slot 1 64 → s.productFits core (s.slotBlock core slot 64) →
    (parseProduct (s.slotBlock core slot 64)).staged → stageOn (s.stageBlock core (parseProduct (s.slotBlock core slot 64)).stage) 0 →
    ((s.core core).vector.isSome ∨ (s.core core).vecHeld) → Completes (.arrayProduct core slot) s fun t =>
      (t.core core).array = some (ArrayOp.fresh slot (postWords (s.slotDesc core slot)) (s.slotBlock core slot 64) true) ∧
        (slot, 1) ∈ (t.core core).fired ∧ FiredOn core s t) ∧
  (∀ s core slot, (Instr.arrayProduct core slot).wf → s.firesClean core slot 1 64 → s.productFits core (s.slotBlock core slot 64) →
    (parseProduct (s.slotBlock core slot 64)).staged → stageOn (s.stageBlock core (parseProduct (s.slotBlock core slot 64)).stage) 0 →
    (s.core core).vector = none → (s.core core).vecHeld = false → Completes (.arrayProduct core slot) s fun t =>
      (t.core core).array = some (ArrayOp.fresh slot (postWords (s.slotDesc core slot)) (s.slotBlock core slot 64) false) ∧
        (slot, 1) ∈ (t.core core).fired ∧ SameCores [core] s t) ∧
  (∀ s core slot, (Instr.vectorOperation core slot).wf → s.firesClean core slot 2 32 → s.vectorFits core (s.slotBlock core slot 32) →
    Completes (.vectorOperation core slot) s fun t =>
      (t.core core).vector = some (.op slot (postWords (s.slotDesc core slot)) (s.slotBlock core slot 32)) ∧ (slot, 2) ∈ (t.core core).fired ∧
        FiredOn core s t) ∧
  (∀ s core slot, (Instr.sequencerRoutine core slot).wf → s.firesClean core slot 4 32 → fieldAt (s.slotBlock core slot 32) 0 2 < 4096 →
    fieldAt (s.slotBlock core slot 32) 2 30 = 0 → Completes (.sequencerRoutine core slot) s fun t =>
      (t.core core).routine = some ⟨slot, postWords (s.slotDesc core slot), false⟩ ∧ t.pc core = fieldAt (s.slotBlock core slot 32) 0 2 ∧
        (t.core core).delay = none ∧ (t.core core).calls = [] ∧ FiredOn core s t) ∧
  (∀ s core slot w, (Instr.sequencerRoutine core slot).wf → s.firesClean core slot 4 32 → fieldAt (s.slotBlock core slot 32) 0 2 < 4096 →
    fieldAt (s.slotBlock core slot 32) 2 30 = 0 → condWords (s.slotDesc core slot) = [w, 0, 0, 0] → w.testBit 8 = false → w.testBit 9 →
    w.testBit 10 → Completes (.sequencerRoutine core slot) s fun t =>
      t.rd (tokenAddr core (w % 256)) 2 = s.rd (tokenAddr core (w % 256)) 2 - w / 65536) ∧
  (∀ s core slot, (Instr.sequencerRoutine core slot).wf → s.firesClean core slot 4 32 → fieldAt (s.slotBlock core slot 32) 0 2 < 4096 →
    fieldAt (s.slotBlock core slot 32) 2 30 = 0 → (fieldAt (s.slotDesc core slot) 0 1).testBit 7 → Completes (.sequencerRoutine core slot) s fun t =>
      t.rdBytes (slotAddr core slot) 32 = List.replicate 32 0) ∧
  (∀ s core slot, FaultsInvalid (.arrayProduct core slot) core slot 1 s) ∧
  (∀ s core slot, IdlesUnfired (.arrayProduct core slot) core slot 1 s) ∧
  (∀ s core slot, FaultsInvalid (.vectorOperation core slot) core slot 2 s) ∧
  (∀ s core slot, IdlesUnfired (.vectorOperation core slot) core slot 2 s) ∧
  (∀ s core slot, FaultsInvalid (.copyFire core slot) core slot 3 s) ∧
  (∀ s core slot, IdlesUnfired (.copyFire core slot) core slot 3 s) ∧
  (∀ s core slot, FaultsInvalid (.sequencerRoutine core slot) core slot 4 s) ∧
  (∀ s core slot, IdlesUnfired (.sequencerRoutine core slot) core slot 4 s) ∧
  (∀ s core slot, (Instr.arrayProduct core slot).wf → s.firesClean core slot 1 64 → s.productFits core (s.slotBlock core slot 64) = false →
    Completes (.arrayProduct core slot) s fun t => Faulted t core 0x0B) ∧
  (∀ s core slot, (Instr.vectorOperation core slot).wf → s.firesClean core slot 2 32 → s.vectorFits core (s.slotBlock core slot 32) = false →
    Completes (.vectorOperation core slot) s fun t => Faulted t core 0x0B) ∧
  (∀ s core slot, (Instr.sequencerRoutine core slot).wf → s.firesClean core slot 4 32 →
    (4096 ≤ fieldAt (s.slotBlock core slot 32) 0 2 ∨ fieldAt (s.slotBlock core slot 32) 2 30 ≠ 0) →
    Completes (.sequencerRoutine core slot) s fun t => Faulted t core 0x0B) ∧
  (∀ s core slot, (Instr.copyFire core slot).wf → s.firesClean core slot 3 32 → copyOk (s.slotBlock core slot 32) = false →
    Completes (.copyFire core slot) s fun t => Faulted t core 0x0B)

/-- R97, R98, R340, R376: a copy whose ends the job reaches starts; it holds the next identifier of its core; a remote source is asked for its data, and
a source in the host window is read through the function's tables or, where that cannot be, faults the job. One whose end may not be reached ends with
COPY_ERROR, one without a slot on a channel with ACCESS.
R19, R372–R374: loads, stores and atomics on another device leave as requests and stay outstanding; on the Y40's own device they are performed at
once. -/
def Obligations.copies_and_remote_operations_start : Prop :=
  (∀ s core slot b src dst len, (Instr.copyFire core slot).wf → s.firesClean core slot 3 32 → s.slotBlock core slot 32 = b → copyOk b →
    fieldAt b 0 8 = src → fieldAt b 8 8 = dst → fieldAt b 16 4 = len →
    (deviceOf src = s.deviceId → localOf src < hostBase ∧ s.jobReaches core (localOf src) len ∧ s.jobSlots core (localOf src) len ∧
      (fieldAt b 24 4 = 0 ∨ (s.segmentAt (s.fld (coreOwnerFld core)) (fieldAt b 24 4) (localOf src) len).isSome)) →
    (deviceOf src ≠ s.deviceId → s.quarantined (s.fld (coreOwnerFld core)) (deviceOf src) = false ∧ s.routable (deviceOf src)) →
    (deviceOf dst = s.deviceId → s.jobWrites core (localOf dst) len ∧ s.jobSlots core (localOf dst) len) →
    (deviceOf dst ≠ s.deviceId → s.quarantined (s.fld (coreOwnerFld core)) (deviceOf dst) = false ∧ s.routable (deviceOf dst)) →
    Completes (.copyFire core slot) s fun t =>
      (t.core core).nextId = (s.core core).nextId + 1 ∧ (t.core core).copies.length = (s.core core).copies.length + 1 ∧
      ((t.core core).copies.any fun x => Nat.beq x.id (s.core core).nextId && Nat.beq x.slot slot && !x.released && Nat.beq x.src src &&
        Nat.beq x.dst dst && Nat.beq x.len len) ∧
      (deviceOf src ≠ s.deviceId → t.out.any fun e => match e with
        | .remote d tag op a n _ _ => Nat.beq d (deviceOf src) && Nat.beq tag (s.core core).nextId && Nat.beq op 3 && Nat.beq a (localOf src) && Nat.beq n len
        | _ => false) ∧ FiredOn core s t) ∧
  (∀ s core slot b, (Instr.copyFire core slot).wf → s.firesClean core slot 3 32 → s.slotBlock core slot 32 = b → copyOk b →
    deviceOf (fieldAt b 0 8) = s.deviceId → hostBase ≤ localOf (fieldAt b 0 8) → deviceOf (fieldAt b 8 8) = s.deviceId →
    Completes (.copyFire core slot) s fun t =>
      ((t.core core).copies.any fun x => Nat.beq x.id (s.core core).nextId && Nat.beq x.slot slot && !x.released) ∨ (t.core core).faulted) ∧
  (∀ s core slot b, (Instr.copyFire core slot).wf → s.firesClean core slot 3 32 → s.slotBlock core slot 32 = b → copyOk b →
    (deviceOf (fieldAt b 0 8) = s.deviceId ∧ s.jobReaches core (localOf (fieldAt b 0 8)) (fieldAt b 16 4) = false ∨
      deviceOf (fieldAt b 8 8) = s.deviceId ∧ s.jobWrites core (localOf (fieldAt b 8 8)) (fieldAt b 16 4) = false) →
    Completes (.copyFire core slot) s fun t => Faulted t core 0x0C) ∧
  (∀ s core slot b, (Instr.copyFire core slot).wf → s.firesClean core slot 3 32 → s.slotBlock core slot 32 = b → copyOk b →
    deviceOf (fieldAt b 0 8) = s.deviceId → s.jobReaches core (localOf (fieldAt b 0 8)) (fieldAt b 16 4) →
    deviceOf (fieldAt b 8 8) = s.deviceId → s.jobWrites core (localOf (fieldAt b 8 8)) (fieldAt b 16 4) →
    s.jobSlots core (localOf (fieldAt b 8 8)) (fieldAt b 16 4) = false → Completes (.copyFire core slot) s fun t => Faulted t core 0x07) ∧
  (∀ s core slot, StartsRemotely (.remoteLoad core slot) core slot [0x01] s) ∧
  (∀ s core slot, StartsRemotely (.remoteStore core slot) core slot [0x02] s) ∧
  (∀ s core slot, StartsRemotely (.atomicAdd core slot) core slot [0x10] s) ∧
  (∀ s core slot, StartsRemotely (.atomicSwap core slot) core slot [0x11] s) ∧
  (∀ s core slot, StartsRemotely (.atomicCas core slot) core slot [0x12] s) ∧
  (∀ s core slot, StartsRemotely (.atomicMin core slot) core slot [0x13, 0x15] s) ∧
  (∀ s core slot, StartsRemotely (.atomicMax core slot) core slot [0x14, 0x16] s) ∧
  (∀ s core slot m b u, PerformsHere (.remoteLoad core slot) core slot m [0x01] b u s) ∧
  (∀ s core slot m b u, PerformsHere (.remoteStore core slot) core slot m [0x02] b u s) ∧
  (∀ s core slot m b u, PerformsHere (.atomicAdd core slot) core slot m [0x10] b u s) ∧
  (∀ s core slot m b u, PerformsHere (.atomicSwap core slot) core slot m [0x11] b u s) ∧
  (∀ s core slot m b u, PerformsHere (.atomicCas core slot) core slot m [0x12] b u s) ∧
  (∀ s core slot m b u, PerformsHere (.atomicMin core slot) core slot m [0x13, 0x15] b u s) ∧
  (∀ s core slot m b u, PerformsHere (.atomicMax core slot) core slot m [0x14, 0x16] b u s)

/-- R104, R115–R117, R134, R157, R514: when a product's occupancy ends, every operand byte having come, its tile holds every output, computed from what
was read (here with no SRAM word in error), and the array is free; while bytes are missing, its prologue waits or its tile is being read, it goes on. A
refill reads 64 bytes of a row's feed into 8 entries of the row's queue. An epilogue takes a free vector engine. -/
def Obligations.array_occupancy_and_epilogue : Prop :=
  (∀ s core a u, (Instr.arrayOccupancyEnd core).wf → s.sram = [] → (s.core core).array = some a → a.prologue = false → a.whole →
    s.tileRead core (parseProduct a.block).tile = false → a.badA = [] → a.badB = [] → (parseProduct a.block).mv ≤ 32 →
    (parseProduct a.block).nv ≤ (if (parseProduct a.block).mode = 6 then 16 else 32) → (parseProduct a.block).tile < 64 →
    ((parseProduct a.block).mode = 6 → (parseProduct a.block).mv ≤ 16) →
    (s.loadPlanes core { a with cycles := (parseProduct a.block).cycles } (parseProduct a.block).blocks).2 = u →
    Completes (.arrayOccupancyEnd core) s fun t =>
      (t.core core).array = none ∧ (t.core core).tail = (s.core core).tail ++ [u] ∧ (t.core core).feeders = [] ∧
      (∀ m, m < (parseProduct a.block).mv → ∀ n, n < (parseProduct a.block).nv → ∀ i, i < perOutput (parseProduct a.block).mode →
        t.rd (entryAddr core (parseProduct a.block).mode (parseProduct a.block).tile m n + 4 * i) 4 =
          (accStore (parseProduct a.block).mode (s.output core (parseProduct a.block)
            (operandsOf u.seenA u.seenB core (parseProduct a.block)) m n)).getD i 0 % 2 ^ 32) ∧
      SameMemory [(entryAddr core (parseProduct a.block).mode (parseProduct a.block).tile 0 0, 4096), (statusAddr core, 4)] s t ∧
      SameCores [core] s t ∧ Frame [.mem, .cores, .sram, .poison] [] s t) ∧
  (∀ s core a, (Instr.arrayOccupancyEnd core).wf → (s.core core).array = some a →
    (a.prologue ∨ a.whole = false ∨ s.tileRead core (parseProduct a.block).tile) → Completes (.arrayOccupancyEnd core) s fun t => t = s) ∧
  (∀ s core row a, (Instr.feederRefill core row).wf → (s.core core).array = some a → a.prologue = false → row < 32 → a.fedOf row = 0 →
    0 < (parseProduct a.block).rowBytes → Completes (.feederRefill core row) s fun t =>
      (∃ u, (t.core core).array = some u ∧ u.fedOf row = 64 ∧ u.cycles = a.cycles) ∧
      (a.cycles % 8 = 0 → Assoc.findD row [] (t.core core).feeders = Assoc.findD row [] (s.core core).feeders ++
        s.entriesAt (spBase core + (parseProduct a.block).aBase + row * (parseProduct a.block).aPitch) 8) ∧
      SameCores [core] s t ∧ Frame [.cores, .sram] clusterPages s t) ∧
  (∀ s core row a, (Instr.feederRefill core row).wf → (s.core core).array = some a → a.prologue = false →
    (parseProduct a.block).rowBytes ≤ a.fedOf row → Completes (.feederRefill core row) s fun t => t = s) ∧
  (∀ s core a, (Instr.epilogueStart core).wf → (s.core core).vector = none → (s.core core).vecHeld = false → ((s.core core).tail.find? fun x =>
    (parseProduct x.block).staged && !x.epilogue) = some a → Completes (.epilogueStart core) s fun t =>
      (t.core core).vector = some .epilogue ∧ { a with epilogue := true } ∈ (t.core core).tail ∧ SameCores [core] s t ∧ Frame [.cores] [] s t) ∧
  (∀ s core, (Instr.epilogueStart core).wf → ((s.core core).vector.isSome ∨ (s.core core).vecHeld) → Completes (.epilogueStart core) s fun t => t = s)

/-- R93, R97, R157: an operation that completes leaves its unit free and its posts apply: a token register rises by the increment, or stays at 65,535
with TOKEN_OVERFLOW.
R12, R97, R101: a post from another core, whose poster's earlier copies to that core have landed and whose packet has passed the mesh, applies where
the posting cocoon holds the target and no handover runs there; else it is discarded, and the poster's job, if it still stands on its core, faults
with ACCESS. Until then it stays under way. `u` is the state with every post issued that may be. -/
def Obligations.operations_complete_and_posts_arrive : Prop :=
  (∀ s core i a, (Instr.operationComplete core 1).wf → ((s.core core).tail.findIdx? fun x => !(parseProduct x.block).staged) = some i →
    (s.core core).tail[i]? = some a → Completes (.operationComplete core 1) s fun t => (t.core core).tail = (s.core core).tail.eraseIdx i ∧
      ((a.posts.all fun w => !w.testBit 31) → SameCores [core] s t ∧ Frame [.cores] [] s t)) ∧
  (∀ s core slot posts b, (Instr.operationComplete core 2).wf → (s.core core).vector = some (.op slot posts b) →
    Completes (.operationComplete core 2) s fun t => (t.core core).vector = none ∧
      ((s.core core).array = none → (posts.all fun w => !w.testBit 31) → (s.runVector core b).2 = none → t.mem = (s.runVector core b).1.mem)) ∧
  (∀ s core a, (Instr.operationComplete core 2).wf → (s.core core).vector = some .epilogue → ((s.core core).tail.find? fun x => x.epilogue) = some a →
    Completes (.operationComplete core 2) s fun t => (t.core core).vector = none ∧ ((t.core core).tail.all fun x => !x.epilogue)) ∧
  (∀ s core slot w, (Instr.operationComplete core 4).wf → (s.core core).routine = some ⟨slot, [w], true⟩ → (s.core core).landings = [] →
    (s.core core).array = none → (s.core core).faulted = false → w.testBit 31 → w.testBit 30 →
    s.sramHits (tokenAddr core (w % 256)) 2 2 = [] → s.rd (tokenAddr core (w % 256)) 2 + bitsOf w 8 8 ≤ 65535 →
    Completes (.operationComplete core 4) s fun t =>
      (t.core core).routine = none ∧ t.rd (tokenAddr core (w % 256)) 2 = s.rd (tokenAddr core (w % 256)) 2 + bitsOf w 8 8 ∧
        SameMemory [(tokenAddr core (w % 256), 2)] s t ∧ SameCores [core] s t ∧ Frame [.mem, .cores, .sram] clusterPages s t) ∧
  (∀ s core slot w, (Instr.operationComplete core 4).wf → (s.core core).routine = some ⟨slot, [w], true⟩ → (s.core core).landings = [] →
    (s.core core).array = none → (s.core core).faulted = false → w.testBit 31 → w.testBit 30 →
    s.sramHits (tokenAddr core (w % 256)) 2 2 = [] → 65535 < s.rd (tokenAddr core (w % 256)) 2 + bitsOf w 8 8 →
    Completes (.operationComplete core 4) s fun t => Faulted t core 0x05) ∧
  (∀ s core, (Instr.operationComplete core 4).wf → ((s.core core).routine.all fun r => !r.ended) → Completes (.operationComplete core 4) s fun t => t = s) ∧
  (∀ s u src core p, (Instr.postArrival src core).wf → s.issuePosts = u → (u.posts.find? fun x => Nat.beq x.src src && Nat.beq x.dst core) = some p →
    u.postFree p → (u.meshArrive (.post p.id)).2 → s.holdsCore p.cocoon core → s.coreState core ≠ 5 → s.coreState core ≠ 1 →
    s.sramHits (tokenAddr core p.token) 2 2 = [] → s.rd (tokenAddr core p.token) 2 + p.inc ≤ 65535 → Completes (.postArrival src core) s fun t =>
      t.rd (tokenAddr core p.token) 2 = s.rd (tokenAddr core p.token) 2 + p.inc ∧ t.posts = u.posts.erase p ∧
        SameMemory [(tokenAddr core p.token, 2)] s t ∧ Frame [.mem, .posts, .sram] clusterPages s t) ∧
  (∀ s u src core p, (Instr.postArrival src core).wf → s.issuePosts = u → (u.posts.find? fun x => Nat.beq x.src src && Nat.beq x.dst core) = some p →
    u.postFree p → (u.meshArrive (.post p.id)).2 → s.holdsCore p.cocoon core → s.coreState core ≠ 5 → s.coreState core ≠ 1 →
    s.sramHits (tokenAddr core p.token) 2 2 = [] → 65535 < s.rd (tokenAddr core p.token) 2 + p.inc → Completes (.postArrival src core) s fun t =>
      Faulted t core 0x05 ∧ t.posts = u.posts.erase p) ∧
  (∀ s u src core p, (Instr.postArrival src core).wf → s.issuePosts = u → (u.posts.find? fun x => Nat.beq x.src src && Nat.beq x.dst core) = some p →
    u.postFree p → (u.meshArrive (.post p.id)).2 → (s.holdsCore p.cocoon core = false ∨ s.coreState core = 5 ∨ s.coreState core = 1) →
    s.fld (coreOwnerFld src) = p.cocoon → Completes (.postArrival src core) s fun t => Faulted t src 0x07 ∧ t.posts = u.posts.erase p) ∧
  (∀ s u src core p, (Instr.postArrival src core).wf → s.issuePosts = u → (u.posts.find? fun x => Nat.beq x.src src && Nat.beq x.dst core) = some p →
    u.postFree p → (u.meshArrive (.post p.id)).2 → (s.holdsCore p.cocoon core = false ∨ s.coreState core = 5 ∨ s.coreState core = 1) →
    s.fld (coreOwnerFld src) ≠ p.cocoon → Completes (.postArrival src core) s fun t => t.posts = u.posts.erase p ∧ Frame [.posts] [] s t) ∧
  (∀ s u src core p, (Instr.postArrival src core).wf → s.issuePosts = u → (u.posts.find? fun x => Nat.beq x.src src && Nat.beq x.dst core) = some p →
    (u.postFree p = false ∨ (u.meshArrive (.post p.id)).2 = false) → Completes (.postArrival src core) s fun t =>
      t.posts = u.posts ∧ Frame [.posts] [] s t)

/-- R12, R99–R101, R376, R378, R380: a copy's source release reads a local source whole, marks data of a changed segment stale and, for another device,
sends it; a source that cannot be read ends the copy with COPY_ERROR; a remote source is reported, a host source must have come. Its landing writes
the bytes and counts up the arrival counter; that of a put counts it up; a stale one faults its job. -/
def Obligations.copies_release_and_land : Prop :=
  (∀ s core id x g, (Instr.copySourceRelease core id).wf → ((s.core core).copies.find? fun y => Nat.beq y.id id) = some x → x.released = false →
    deviceOf x.src = s.deviceId → localOf x.src < hostBase → s.jobReaches core (localOf x.src) x.len → s.bad (localOf x.src) x.len = false →
    s.segmentAt (s.fld (coreOwnerFld core)) x.segment (localOf x.src) x.len = g → (x.segment = 0 ∨ g.isSome) →
    (s.copyDies x).all (fun d => (meshRoute d.1 d.2).all fun h => !(s.crossing h.x).down) →
    (x.posts.all fun w => !w.testBit 31) → Completes (.copySourceRelease core id) s fun t =>
      ((t.core core).copies.find? fun y => Nat.beq y.id id) =
        some { x with released := true, data := s.rdBytes (localOf x.src) x.len, stale := !Nat.beq x.segment 0 && g.any fun k => !Nat.beq k.gen x.gen } ∧
      (deviceOf x.dst ≠ s.deviceId → t.out.any fun e => match e with
        | .remote d tag op a n b _ => Nat.beq d (deviceOf x.dst) && Nat.beq tag id && Nat.beq op 0 && Nat.beq a (localOf x.dst) && Nat.beq n x.len &&
            b == s.rdBytes (localOf x.src) x.len
        | _ => false) ∧
      SameCores [core] s t ∧ Frame [.cores, .sram, .poison, .posts] (clusterPages ++ memoryPages) s t) ∧
  (∀ s core id x, (Instr.copySourceRelease core id).wf → ((s.core core).copies.find? fun y => Nat.beq y.id id) = some x → x.released = false →
    deviceOf x.src = s.deviceId → localOf x.src < hostBase → (s.jobReaches core (localOf x.src) x.len = false ∨ s.bad (localOf x.src) x.len) →
    Completes (.copySourceRelease core id) s fun t => Faulted t core 0x0C ∧ ((t.core core).copies.find? fun y => Nat.beq y.id id) = none) ∧
  (∀ s core id x, (Instr.copySourceRelease core id).wf → ((s.core core).copies.find? fun y => Nat.beq y.id id) = some x → x.released = false →
    deviceOf x.src ≠ s.deviceId → (x.posts.all fun w => !w.testBit 31) → Completes (.copySourceRelease core id) s fun t =>
      ((t.core core).copies.find? fun y => Nat.beq y.id id) = some { x with released := true } ∧ SameCores [core] s t ∧ Frame [.cores] [] s t) ∧
  (∀ s core id x, (Instr.copySourceRelease core id).wf → ((s.core core).copies.find? fun y => Nat.beq y.id id) = some x → x.released = false →
    deviceOf x.src = s.deviceId → hostBase ≤ localOf x.src →
    ((s.jobFn core).any (fun fn => s.reading fn (RdWhy.ofCopy core id)) ∨ x.data.length < x.len) →
    Completes (.copySourceRelease core id) s fun t => t = s) ∧
  (∀ s core id x m n, (Instr.copyLanding core id).wf → ((s.core core).copies.find? fun y => Nat.beq y.id id) = some x → x.released →
    ((s.core core).copies.any fun y => Nat.blt y.id x.id && s.sameLane y x) = false → (s.meshArrive (.copy core id)).2 →
    deviceOf x.dst = s.deviceId → m < 2048 → spBase m ≤ localOf x.dst → localOf x.dst + x.len ≤ spBase m + 0x200000 →
    s.jobWrites core (localOf x.dst) x.len → x.data.length = x.len → x.stale = false → (if x.ctrCore = 0xFFFF then core else x.ctrCore) = n → n < 2048 →
    (n = core ∨ s.holdsCore (s.fld (coreOwnerFld core)) n ∧ s.coreState n ≠ 1 ∧ s.coreState n ≠ 5 ∧ s.coreState n ≠ 6) →
    s.sramHits (counterAddr n x.ctr) 4 2 = [] → s.rd (counterAddr n x.ctr) 2 + x.inc ≤ 65535 → Completes (.copyLanding core id) s fun t =>
      t.rdBytes (localOf x.dst) x.len = x.data ∧ t.rd (counterAddr n x.ctr) 2 = s.rd (counterAddr n x.ctr) 2 + x.inc ∧
        ((t.core core).copies.find? fun y => Nat.beq y.id id) = none ∧
        SameMemory [(localOf x.dst, x.len), (counterAddr n x.ctr, 2)] s t ∧ SameCores [core] s t ∧
        Frame [.mem, .cores, .sram, .poison, .posts] clusterPages s t) ∧
  (∀ s core id x, (Instr.copyLanding core id).wf → ((s.core core).copies.find? fun y => Nat.beq y.id id) = some x → x.released →
    ((s.core core).copies.any fun y => Nat.blt y.id x.id && s.sameLane y x) = false → (s.meshArrive (.copy core id)).2 →
    deviceOf x.dst ≠ s.deviceId → x.stale = false → x.ctrCore = 0xFFFF → s.sramHits (counterAddr core x.ctr) 4 2 = [] →
    s.rd (counterAddr core x.ctr) 2 + x.inc ≤ 65535 → Completes (.copyLanding core id) s fun t =>
      t.rd (counterAddr core x.ctr) 2 = s.rd (counterAddr core x.ctr) 2 + x.inc ∧ ((t.core core).copies.find? fun y => Nat.beq y.id id) = none ∧
        SameMemory [(counterAddr core x.ctr, 2)] s t ∧ SameCores [core] s t ∧ Frame [.mem, .cores, .sram, .posts] clusterPages s t) ∧
  (∀ s core id x, (Instr.copyLanding core id).wf → ((s.core core).copies.find? fun y => Nat.beq y.id id) = some x → x.released →
    ((s.core core).copies.any fun y => Nat.blt y.id x.id && s.sameLane y x) = false → (s.meshArrive (.copy core id)).2 →
    deviceOf x.dst ≠ s.deviceId → x.stale → x.ctrCore ≠ 0xFFFF → Completes (.copyLanding core id) s fun t => Faulted t core 0x06) ∧
  (∀ s core id x, (Instr.copyLanding core id).wf → ((s.core core).copies.find? fun y => Nat.beq y.id id) = some x →
    (x.released = false ∨ ((s.core core).copies.any fun y => Nat.blt y.id x.id && s.sameLane y x)) → Completes (.copyLanding core id) s fun t => t = s)

/-- R44, R45, R55, R75: at a beat boundary the counter rises by one and the next beat begins one L later, with every window of the beat before over; a
realignment beat ends on the number of its own boundary (R48). A commit of page TIME that falls on the boundary may move time (R516). A halted
sequencer keeps everything, and so does a part without power.
R55 items 6 and 7, R74: K beats before boundary B the drain begins; at B the banks swap: the armed table is active, its epoch starts at B and the
sequencer runs. At the closing boundary no table is active and the sequencer is off.
R48, R274: with the sequencer disabled a requested step applies at once: it is counted, STEP_APPLIED is set, the servo goes back to acquiring,
and the beat takes the number of the new time. In RUNNING it applies at the end of the beat in progress, and a realignment beat follows that ends on a
boundary at least L / 2 away. In any other state, and (log entry 212) during a realignment beat, it waits with STEP_WAIT 1. With none requested, or in
HALTED, nothing happens. -/
def Obligations.beat_boundaries_epochs_and_time_steps : Prop :=
  (∀ s, s.boot.powered → s.fld Reg.SEQ.STATE.STATE ≠ 5 → s.seq.realign = none → s.pages.commits.contains 0x040 = false →
    Completes .beatBoundary s fun t => t.seq.beat = s.seq.beat + 1 ∧ t.seq.beatStart = s.seq.beatStart + s.L ∧ t.seq.cuts = [] ∧ t.seq.openWork = [] ∧
      SameBut (allBut [.queue, .keys, .boot, .thermTrip]) s t) ∧
  (∀ s stop, s.boot.powered → s.fld Reg.SEQ.STATE.STATE ≠ 5 → s.seq.realign = some stop → s.pages.commits.contains 0x040 = false →
    Completes .beatBoundary s fun t => t.seq.beat = stop / s.L ∧ t.seq.beatStart = stop ∧ t.seq.realign = none ∧ t.seq.cuts = [] ∧
      SameBut (allBut [.queue, .keys, .boot, .thermTrip]) s t) ∧
  (∀ s, s.boot.powered → s.fld Reg.SEQ.STATE.STATE ≠ 5 → s.pages.commits.contains 0x040 → Completes .beatBoundary s fun t =>
    t.seq.realign = none ∧ t.seq.cuts = [] ∧ t.seq.openWork = [] ∧ SameBut (allBut [.queue, .keys, .boot, .thermTrip]) s t) ∧
  (∀ s, s.fld Reg.SEQ.STATE.STATE = 5 → exec .beatBoundary s = .next s) ∧
  (∀ s, s.boot.powered = false → exec .beatBoundary s = .next s) ∧
  (∀ s new, s.boot.powered → (s.fld Reg.SEQ.STATE.STATE = 2 ∨ s.fld Reg.SEQ.STATE.STATE = 3) → s.seq.realign = none → s.seq.closeAt = none →
    s.pages.commits = [] → s.pages.taken = [] → s.seq.armed = some new → s.seq.next ≤ s.seq.beat + 1 → Completes .beatBoundary s fun t =>
      t.seq.active = some new ∧ t.seq.armed = none ∧ t.seq.epoch = s.seq.next ∧ t.fld Reg.SEQ.STATE.STATE = 4) ∧
  (∀ s new, s.boot.powered → s.fld Reg.SEQ.STATE.STATE = 2 → s.seq.realign = none → s.seq.closeAt = none → s.pages.commits = [] → s.pages.taken = [] →
    s.seq.armed = some new → s.seq.next ≤ s.seq.beat + 1 + new.preempt → s.seq.beat + 1 < s.seq.next → Completes .beatBoundary s fun t =>
      t.seq.active = s.seq.active ∧ t.seq.armed = some new ∧ t.seq.beat = s.seq.beat + 1 ∧ t.fld Reg.SEQ.STATE.STATE = 3) ∧
  (∀ s at_, s.boot.powered → s.fld Reg.SEQ.STATE.STATE = 6 → s.seq.realign = none → s.seq.closeAt = some at_ → s.seq.closingDrain = none →
    s.seq.armed = none → s.pages.commits = [] → s.pages.taken = [] → (s.seq.beat + 1) % s.F = 0 → Completes .beatBoundary s fun t =>
      t.seq.active = none ∧ t.seq.closeAt = none ∧ t.fld Reg.SEQ.STATE.STATE = 0) ∧
  (∀ s at_, s.boot.powered → s.fld Reg.SEQ.STATE.STATE = 6 → s.seq.realign = none → s.seq.closeAt = some at_ → s.seq.closingDrain = none →
    s.seq.armed = none → s.pages.commits = [] → s.pages.taken = [] → (s.seq.beat + 1) % s.F ≠ 0 → Completes .beatBoundary s fun t =>
      t.seq.active = s.seq.active ∧ t.seq.closeAt = some at_ ∧ t.fld Reg.SEQ.STATE.STATE = 6) ∧
  (∀ s, s.time.stepRequested → s.fld Reg.SEQ.STATE.STATE ≠ 5 → s.isSet (ctrlEnable 0x010) = false → Completes .timeStepApply s fun t =>
    t.time.stepRequested = false ∧ t.fld Reg.TIME.STATE.STATE = 1 ∧ t.err Reg.TIME.ERR.STEP_APPLIED ∧ t.isSet Reg.LFC.LFC_STATUS.FROZEN ∧
      t.seq.beat = t.now / t.L ∧ t.seq.beatStart = t.now / t.L * t.L ∧ Frame [.time, .seq, .runs] [0x010, 0x040, 0x042] s t) ∧
  (∀ s, s.time.stepRequested → s.isSet (ctrlEnable 0x010) → s.fld Reg.SEQ.STATE.STATE = 4 → s.seq.realign = none → s.radioOn = false →
    Completes .timeStepApply s fun t =>
      t.time.stepRequested = false ∧ t.fld Reg.TIME.STATE.STATE = 1 ∧ t.err Reg.TIME.ERR.STEP_APPLIED ∧ t.isSet Reg.LFC.LFC_STATUS.FROZEN ∧
      t.isSet Reg.SEQ.STATUS.REALIGNING ∧ (t.seq.realign.any fun b => Nat.beq (b % t.L) 0 && Nat.ble (t.now + t.L / 2) b) ∧
      t.seq.beat = s.seq.beat ∧ t.seq.openWork = [] ∧ (t.seq.openWins.all fun w => w.ended) ∧
      Frame [.mem, .sram, .crossings, .time, .seq, .runs] [0x010, 0x040, 0x042] s t) ∧
  (∀ s, s.time.stepRequested → s.isSet (ctrlEnable 0x010) → s.fld Reg.SEQ.STATE.STATE ≠ 5 →
    (s.fld Reg.SEQ.STATE.STATE ≠ 4 ∨ s.seq.realign.isSome) → Completes .timeStepApply s fun t =>
      t.isSet Reg.SEQ.STATUS.STEP_WAIT ∧ OnlyPages [0x010] s t) ∧
  (∀ s, (s.time.stepRequested = false ∨ s.fld Reg.SEQ.STATE.STATE = 5) → Completes .timeStepApply s fun t => t = s)

/-- R55, R56, R57, R75: the check of a loaded table arms it for its boundary, or refuses it with reason, row and entry; in HALTED, and with no table
loading, it has no outcome. CANCEL gives a table up while it is checked, or before its drain begins (a first table leaves the sequencer disabled), is
refused later, and otherwise does nothing.
R62, R67, R72, R75: the stride timer that runs out faults its core with RUNAWAY and stops its units, and the stride counts once, on however many
cores of its group it is stopped; before it runs out, and for cocoon 0, nothing happens. A demand that no longer fits shows RADIO_SHORT; one that fits,
and any in HALTED, shows nothing. A parity error of the active bank is fatal with cause 3; with no active bank it is none. -/
def Obligations.loaded_tables_timers_and_parity : Prop :=
  (∀ s b chk, s.seq.loading = some b → s.fld Reg.SEQ.STATE.STATE ≠ 5 →
    s.checkTable b (Assoc.findD (α := Nat) Reg.SEQ.TABLE_ADDR_LO.ADDR_LO.key 0 s.seq.taken) (s.fld Reg.SEQ.BEAT_CFG.LEN) = chk →
    Completes .tableCheckDone s fun t =>
    (chk = none → t.seq.armed = some (parseTable b) ∧ t.seq.next = s.boundary (parseTable b).preempt ∧ t.fld Reg.SEQ.STATE.STATE = 2 ∧
      Refused t 0x010 0 ∧ t.fld Reg.SEQ.LIVE.PREEMPT_BEATS = (parseTable b).preempt % 128) ∧
    (chk.isSome → Refused t 0x010 (chk.elim 0 (fun x => x.1) % 65536) ∧ t.seq.armed = none ∧
      t.fld Reg.SEQ.STATE.STATE = (if s.seq.first then 0 else 4) ∧ (s.seq.first → t.isSet (ctrlEnable 0x010) = false) ∧
      t.fld Reg.SEQ.REFUSAL_ROW.ROW = chk.elim 0 (fun x => x.2.1) % 1024 ∧ t.fld Reg.SEQ.REFUSAL_ROW.ENTRY = chk.elim 0 (fun x => x.2.2) % 65536) ∧
    t.seq.loading = none ∧ t.seq.active = s.seq.active ∧ Frame [.seq, .power] (0x004 :: 0x010 :: diePages) s t) ∧
  (∀ s, (s.seq.loading = none ∨ s.fld Reg.SEQ.STATE.STATE = 5) → Completes .tableCheckDone s fun t => t = s) ∧
  (∀ s, s.fld Reg.SEQ.STATE.STATE = 1 → Completes .cancel s fun t =>
    t.seq.loading = none ∧ t.seq.armed = none ∧ t.fld Reg.SEQ.STATE.STATE = (if s.seq.first then 0 else 4) ∧
      (s.seq.first → t.isSet (ctrlEnable 0x010) = false) ∧ t.seq.active = s.seq.active ∧ Frame [.seq] [0x010] s t) ∧
  (∀ s tb, s.fld Reg.SEQ.STATE.STATE = 2 → s.seq.armed = some tb → s.seq.beat < s.seq.next - tb.preempt →
    Completes .cancel s fun t => t.seq.armed = none ∧ t.fld Reg.SEQ.STATE.STATE = (if s.seq.first then 0 else 4) ∧
      (s.seq.first → t.isSet (ctrlEnable 0x010) = false) ∧ Frame [.seq, .power] (0x004 :: 0x010 :: diePages) s t) ∧
  (∀ s tb, (s.fld Reg.SEQ.STATE.STATE = 3 ∨ s.fld Reg.SEQ.STATE.STATE = 2 ∧ s.seq.next - tb.preempt ≤ s.seq.beat) → s.seq.armed = some tb →
    Completes .cancel s fun t => Refused t 0x010 0x0402 ∧ t.seq = s.seq ∧ Frame [] [0x010] s t) ∧
  (∀ s, (s.fld Reg.SEQ.STATE.STATE = 0 ∨ 4 ≤ s.fld Reg.SEQ.STATE.STATE) → Completes .cancel s fun t => t = s) ∧
  (∀ s core now r x, (Instr.runawayStride core now).wf → s.runOn core = some r → r.stride = some x → r.cocoon ≠ 0 → r.cocoon < 64 →
    (s.core core).faulted = false → x.start + x.bound + s.fld Reg.SEQ.LIVE.GUARD_NS ≤ (s.advanceTo now).now → s.fld Reg.SEQ.STATE.STATE ≠ 5 →
    (s.seq.openWins.any fun w => Nat.beq w.core core && w.waiting) = false → Completes (.runawayStride core now) s fun t =>
      Faulted t core 0x0A ∧ (x.runaway = false → t.err Reg.SEQ.ERR.RUNAWAY) ∧ t.fld Reg.SEQ.RUNAWAY_COUNT.COUNT =
        (if x.runaway then s.fld Reg.SEQ.RUNAWAY_COUNT.COUNT else min (s.fld Reg.SEQ.RUNAWAY_COUNT.COUNT + 1) (2 ^ 32 - 1)) ∧
      (t.core core).routine = none ∧ (t.core core).array = none ∧ (t.core core).vector = none ∧ (t.core core).tail = []) ∧
  (∀ s core now, (Instr.runawayStride core now).wf → ((s.runOn core).all fun r => r.stride.all fun x => Nat.beq r.cocoon 0 || !s.working core ||
      Nat.blt (s.advanceTo now).now (x.start + x.bound + s.fld Reg.SEQ.LIVE.GUARD_NS)) →
    Completes (.runawayStride core now) s fun t => t = s.advanceTo now) ∧
  (∀ s tb, s.seq.active = some tb → s.fld Reg.SEQ.STATE.STATE ≠ 5 → (tb.fits s.L s.F s.demand (fun n => !s.coreDisabled n) fun _ _ => true).isSome →
    Completes .radioCapacityRecheck s fun t => t.isSet Reg.SEQ.STATUS.RADIO_SHORT ∧ t.err Reg.SEQ.ERR.RADIO_SHORT ∧ Frame [] [0x010] s t) ∧
  (∀ s, (s.fld Reg.SEQ.STATE.STATE = 5 ∨ (s.seq.active.all fun tb => (tb.fits s.L s.F s.demand (fun n => !s.coreDisabled n) fun _ _ => true).isNone)) →
    Completes .radioCapacityRecheck s fun t => t = s) ∧
  (∀ s, s.seq.active.isSome → s.fld Reg.SEQ.STATE.STATE ≠ 5 → s.fatal = none → Completes .tableParityError s fun t =>
    t.fatal = some 3 ∧ t.err Reg.SEQ.ERR.TABLE_PARITY ∧ t.fld Reg.SEQ.STATE.STATE = 5 ∧ Frame [.fatal, .seq] [0x005, 0x010] s t) ∧
  (∀ s, s.seq.active = none → Completes .tableParityError s fun t => t = s)

/-- R60, R63, R64: a window entry of the row in force opens on a core of its core set; a window of cocoon 0 keeps its planned end. It takes the core at
once, after a handover that clears the core where the last window was another cocoon's; while a stride of another cocoon runs there late it waits, and
the core is left as it is, unless the guard band protects the window. An entry that the row does not name, that does not hold the core or that has
opened on it in this beat, and any in a realignment beat or in HALTED, opens nothing.
R60, R64, R68, R84: at a window's effective end YIELD is pending on its core (or, by R32 and R35, is kept while the crossing of its die
resynchronises and lost where that is down), and cocoon-0 work still running is counted; with no such window nothing happens. At the end of a handover
the core leaves the handover state, for restore where a saved core waits for it. -/
def Obligations.windows_open_end_and_hand_over : Prop :=
  (∀ s win core tb r w, (Instr.windowStart win core).wf → s.seq.active = some tb → s.row = some r →
    ((tb.rowWins r).find? fun x => Nat.beq x.1 win) = some (win, w) → w.cocoon < 64 → tb.hasCore w.coreSet core → s.seq.realign = none →
    s.fld Reg.SEQ.STATE.STATE ≠ 5 → s.coreDisabled core = false →
    (s.seq.openWins.any fun x => Nat.beq x.win win && Nat.beq x.core core && Nat.beq x.beat s.seq.beat) = false →
    Completes (.windowStart win core) s fun t =>
      (∃ o ∈ t.seq.openWins, o.win = win ∧ o.core = core ∧ o.cocoon = w.cocoon ∧ o.start = s.seq.beatStart + w.start ∧
        o.stop ≤ s.seq.beatStart + w.stop ∧ (w.cocoon = 0 → s.seq.cuts = [] → o.stop = s.seq.beatStart + w.stop)) ∧
      SameCores [core] s t ∧ Frame [.mem, .sram, .cores, .runs, .seq, .time] (0x011 :: clusterPages) s t) ∧
  (∀ s win core tb r w, (Instr.windowStart win core).wf → s.sound → s.seq.active = some tb → s.row = some r →
    ((tb.rowWins r).find? fun x => Nat.beq x.1 win) = some (win, w) → w.cocoon < 64 → tb.hasCore w.coreSet core → s.seq.realign = none →
    s.fld Reg.SEQ.STATE.STATE ≠ 5 → s.coreDisabled core = false →
    (s.seq.openWins.any fun x => Nat.beq x.win win && Nat.beq x.core core && Nat.beq x.beat s.seq.beat) = false →
    ((s.runOn core).all fun x => x.stride.isNone) → Assoc.find core s.seq.lastOwner ≠ some w.cocoon → Completes (.windowStart win core) s fun t =>
      t.fld (coreOwnerFld core) = w.cocoon ∧ t.coreState core = 1 ∧ (t.core core) = { Core.fresh with nextId := (s.core core).nextId } ∧
      (∀ k, k < 0x200000 → t.mem.readByte (spBase core + k) = 0) ∧
      SameMemory [(spBase core, 0x200000), (accBase core, 0x40000), (cwBase core, 0x10000)] s t) ∧
  (∀ s win core tb r w, (Instr.windowStart win core).wf → s.seq.active = some tb → s.row = some r →
    ((tb.rowWins r).find? fun x => Nat.beq x.1 win) = some (win, w) → w.cocoon < 64 → tb.hasCore w.coreSet core → s.seq.realign = none →
    s.fld Reg.SEQ.STATE.STATE ≠ 5 → s.coreDisabled core = false →
    (s.seq.openWins.any fun x => Nat.beq x.win win && Nat.beq x.core core && Nat.beq x.beat s.seq.beat) = false →
    ((s.runOn core).any fun x => x.stride.isSome && !Nat.beq x.cocoon w.cocoon && s.working core && (Nat.beq x.cocoon 0 || !s.sealed w.cocoon)) →
    Completes (.windowStart win core) s fun t =>
      (t.seq.openWins.any fun o => Nat.beq o.win win && Nat.beq o.core core && o.waiting) ∧ Frame [.seq, .time] [0x011] s t) ∧
  (∀ s win core tb r, (Instr.windowStart win core).wf → s.seq.active = some tb → s.row = some r →
    (((tb.rowWins r).find? fun x => Nat.beq x.1 win).all fun x => !tb.hasCore x.2.coreSet core ||
      (s.seq.openWins.any fun o => Nat.beq o.win win && Nat.beq o.core core && Nat.beq o.beat s.seq.beat) || s.seq.realign.isSome ||
      Nat.beq (s.fld Reg.SEQ.STATE.STATE) 5 || s.coreDisabled core) → Completes (.windowStart win core) s fun t => t = s) ∧
  (∀ s win core, (Instr.windowStart win core).wf → s.row = none → Completes (.windowStart win core) s fun t => t = s) ∧
  (∀ s win core w, (Instr.windowEnd win core).wf → s.fld Reg.SEQ.STATE.STATE ≠ 5 →
    (s.seq.openWins.find? fun x => Nat.beq x.win win && Nat.beq x.core core && !x.ended) = some w → Completes (.windowEnd win core) s fun t =>
      ((s.crossing (.core (dieOf core))).down = false → (s.crossing (.core (dieOf core))).resync = false → (t.signals core).testBit 1) ∧
      ((s.crossing (.core (dieOf core))).down = false → (s.crossing (.core (dieOf core))).resync →
        (t.crossing (.core (dieOf core))).events.any fun l => Nat.beq l.core core && Nat.beq l.mask 2) ∧
      (w.cocoon = 0 → s.strideOn core → t.err Reg.SEQ.ERR.RADIO_OVERRUN) ∧
      (∃ o ∈ t.seq.openWins, o.win = win ∧ o.core = core ∧ o.ended) ∧ w.stop ≤ t.now ∧
        SameMemory [(signalAddr core, 4)] s t ∧ Frame [.mem, .crossings, .seq, .time] [0x010] s t) ∧
  (∀ s win core, (Instr.windowEnd win core).wf → (s.fld Reg.SEQ.STATE.STATE = 5 ∨
    (s.seq.openWins.find? fun x => Nat.beq x.win win && Nat.beq x.core core && !x.ended) = none) → Completes (.windowEnd win core) s fun t => t = s) ∧
  (∀ s core w, (Instr.handoverEnd core).wf → s.coreState core = 1 →
    (s.seq.openWins.find? fun x => Nat.beq x.core core && !x.waiting && !x.ended) = some w →
    Completes (.handoverEnd core) s fun t => t.coreState core = (if s.restoring w.cocoon core then 6 else 0) ∧ w.handover ≤ t.now ∧
      Frame [.time] clusterPages s t) ∧
  (∀ s core, (Instr.handoverEnd core).wf → (s.coreState core ≠ 1 ∨
    (s.seq.openWins.find? fun x => Nat.beq x.core core && !x.waiting && !x.ended) = none) → Completes (.handoverEnd core) s fun t => t = s)

/-- R53, R178, R309: a work entry that starts makes its cores eligible; one of KIND 0x02 opens the dispatch of its cocoon whatever its ARG (log entry 44);
one of KIND 0x01 or 0x03 starts its program on every free group of its core set; one of KIND 0x04 starts the restore of
a complete image whose records are as many as its cores.
R61, R93, R181: a stride starts on every core of its group: each core runs, its s28 holds the entry, and its GO counts up; where GO is full the job
faults with TOKEN_OVERFLOW. Where R61 lets no stride start on some core, none starts.
R172, R181, R191: a stride ends once DONE has its count on every core of the group that has not faulted, and every unit has retired: DONE falls by
it, and the loop rule names the next entry or the run is over; a run with a fault ends with the stride. Until then nothing happens. -/
def Obligations.work_entries_and_strides : Prop :=
  (∀ s work tb r w, (Instr.workEntryStart work).wf → s.seq.active = some tb → s.row = some r →
    ((tb.rowWorks r).find? fun x => Nat.beq x.1 work) = some (work, w) → s.seq.realign = none → s.fld Reg.SEQ.STATE.STATE ≠ 5 →
    Completes (.workEntryStart work) s fun t => (∀ n ∈ tb.coresOf w.coreSet, (t.core n).eligible.isSome) ∧ s.seq.beatStart + w.start ≤ t.now ∧
      (w.kind = 2 → work ∈ t.seq.openWork) ∧ (w.kind ≠ 4 → Frame [.cores, .runs, .seq, .time] [] s t)) ∧
  (∀ s work tb r w z p g, (Instr.workEntryStart work).wf → s.seq.active = some tb → s.row = some r →
    ((tb.rowWorks r).find? fun x => Nat.beq x.1 work) = some (work, w) → s.seq.realign = none → s.fld Reg.SEQ.STATE.STATE ≠ 5 →
    (w.kind = 1 ∨ w.kind = 3) → s.mayRun w.cocoon → s.program w.cocoon w.handle = some (z, p, g) →
    Completes (.workEntryStart work) s fun t =>
      (∀ grp ∈ groupsOf (tb.coresOf w.coreSet) g.groupCores, s.groupFree grp →
        t.runs.any fun x => Nat.ble s.nextRun x.id && Nat.beq x.cocoon w.cocoon && x.cores == grp && x.needLaunch && Nat.beq x.arg w.arg) ∧
      t.nextRun = s.nextRun + ((groupsOf (tb.coresOf w.coreSet) g.groupCores).filter s.groupFree).length) ∧
  (∀ s work tb r w i, (Instr.workEntryStart work).wf → s.seq.active = some tb → s.row = some r →
    ((tb.rowWorks r).find? fun x => Nat.beq x.1 work) = some (work, w) → s.seq.realign = none → s.fld Reg.SEQ.STATE.STATE ≠ 5 → w.kind = 4 →
    w.cocoon < 64 → i.slot < 4 → ((s.cocoon w.cocoon).images.find? fun x => Nat.beq x.handle w.handle) = some i →
    s.fld (Reg.COCOON.CHRY_STAT.STATE w.cocoon i.slot) = 2 → Completes (.workEntryStart work) s fun t =>
      (((tb.coresOf w.coreSet).length = i.saved.length ∧
          ({ i with targets := tb.coresOf w.coreSet, loaded := [] } : ChryImage).shapeOk) →
        t.fld (Reg.COCOON.CHRY_STAT.STATE w.cocoon i.slot) = 3 ∧ (∀ n ∈ tb.coresOf w.coreSet, s.coreDisabled n = false → t.coreState n = 6)) ∧
      ((tb.coresOf w.coreSet).length ≠ i.saved.length → t.err (Reg.COCOON.ERR.RESTORE_SHAPE w.cocoon) ∧
        t.fld (Reg.COCOON.CHRY_STAT.STATE w.cocoon i.slot) = 2)) ∧
  (∀ s work, (Instr.workEntryStart work).wf → (s.row = none ∨ s.seq.realign.isSome ∨ s.fld Reg.SEQ.STATE.STATE = 5) →
    Completes (.workEntryStart work) s fun t => t = s) ∧
  (∀ s run now r p e, (Instr.strideStart run now).wf → s.run run = some r → s.runProgram r = some p → p.strides[r.entry]? = some e →
    r.stride = none → r.fault = none → r.ending = none → r.suspended = false → r.needLaunch = false → (r.cores.all fun n => Nat.blt n 2048) →
    r.cores.Nodup → s.mayRun r.cocoon → s.heldThrough p r.cocoon r.cores →
    (r.cores.all fun n => (s.advanceTo now).mayStart r.cocoon n (s.advanceTo now).now e.b) → e.go < 256 →
    (r.cores.all fun n => (s.sramHits (tokenAddr n e.go) 2 2).isEmpty && Nat.ble (s.rd (tokenAddr n e.go) 2 + 1) 65535) →
    Completes (.strideStart run now) s fun t =>
      (∃ x ∈ t.runs, x.id = run ∧ x.stride.isSome ∧ x.strides = r.strides + 1) ∧
      (∀ n ∈ r.cores, t.coreState n = 2 ∧ t.rd (tokenAddr n e.go) 2 = s.rd (tokenAddr n e.go) 2 + 1 ∧
        t.rd (scalarAddr n 28) 4 = r.entry % 2 ^ 32 ∧ t.rd (scalarAddr n 30) 4 = r.maxLen % 2 ^ 32) ∧
      SameMemory (r.cores.flatMap fun n => [(scalarAddr n 28, 12), (tokenAddr n e.go, 2)]) s t ∧ SameCores r.cores s t ∧
      Frame [.mem, .sram, .cores, .runs, .time] clusterPages s t) ∧
  (∀ s run now r p e n, (Instr.strideStart run now).wf → s.run run = some r → s.runProgram r = some p → p.strides[r.entry]? = some e →
    r.stride = none → r.fault = none → r.ending = none → r.suspended = false → r.needLaunch = false → r.cores = [n] → n < 2048 →
    s.mayRun r.cocoon → s.heldThrough p r.cocoon r.cores → (s.advanceTo now).mayStart r.cocoon n (s.advanceTo now).now e.b → e.go < 256 →
    s.sramHits (tokenAddr n e.go) 2 2 = [] → s.rd (tokenAddr n e.go) 2 = 65535 → Completes (.strideStart run now) s fun t =>
      Faulted t n 0x05 ∧ t.rd (tokenAddr n e.go) 2 = 65535) ∧
  (∀ s run now r p e, (Instr.strideStart run now).wf → s.run run = some r → s.runProgram r = some p → p.strides[r.entry]? = some e →
    (r.stride.isSome ∨ r.fault.isSome ∨ r.ending.isSome ∨ r.suspended ∨ r.needLaunch ∨ s.mayRun r.cocoon = false ∨
      s.heldThrough p r.cocoon r.cores = false ∨
      (r.cores.any fun n => !(s.advanceTo now).mayStart r.cocoon n (s.advanceTo now).now e.b)) →
    Completes (.strideStart run now) s fun t => t = s.advanceTo now) ∧
  (∀ s run now, (Instr.strideStart run now).wf → s.run run = none → Completes (.strideStart run now) s fun t => t = s) ∧
  (∀ s run now r p x e n m ps, (Instr.strideEnd run now).wf → s.run run = some r → r.stride = some x → s.runProgram r = some p →
    p.strides[x.entry]? = some e → x.launch = false → r.cores = [n] → n < 2048 → (s.core n).faulted = false →
    e.doneCount ≤ s.rd (tokenAddr n e.done) 2 → (s.core n).idle → r.cmd = none → r.fault = none → r.ending = none →
    (s.seq.openWins.any fun w => Nat.beq w.core n && w.waiting) = false → (∀ y ∈ s.runs, y.id = run → y.cmd = none) → nextEntry p.strides r.maxLen x.entry r.passes = some (m, ps) →
    Completes (.strideEnd run now) s fun t =>
      (∃ y, t.run run = some y ∧ y.stride = none ∧ y.entry = m ∧ y.passes = ps) ∧
        t.rd (tokenAddr n e.done) 2 = s.rd (tokenAddr n e.done) 2 - e.doneCount ∧ SameMemory [(tokenAddr n e.done, 2)] s t) ∧
  (∀ s run now r p x e n, (Instr.strideEnd run now).wf → s.run run = some r → r.stride = some x → s.runProgram r = some p →
    p.strides[x.entry]? = some e → x.launch = false → r.cores = [n] → n < 2048 → (s.core n).faulted = false →
    e.doneCount ≤ s.rd (tokenAddr n e.done) 2 → (s.core n).idle → nextEntry p.strides r.maxLen x.entry r.passes = none →
    Completes (.strideEnd run now) s fun t => t.run run = none) ∧
  (∀ s run now r p x e m ps, (Instr.strideEnd run now).wf → s.run run = some r → r.stride = some x → s.runProgram r = some p →
    p.strides[x.entry]? = some e → x.launch = false → r.cores.Nodup → (r.cores.all fun n => Nat.blt n 2048 && !(s.core n).faulted && (s.core n).idle &&
      Nat.ble e.doneCount (s.rd (tokenAddr n e.done) 2) && !(s.seq.openWins.any fun w => Nat.beq w.core n && w.waiting)) →
    (r.cocoon = 0 ∨ (s.seq.openWins.all fun w => Nat.ble (s.advanceTo now).now w.stop)) → s.seq.charges = [] → e.done < 256 →
    (r.cmd.all fun c => !(fieldAt c.bytes 1 1).testBit 1) → r.fault = none → r.ending = none →
    nextEntry p.strides r.maxLen x.entry r.passes = some (m, ps) → Completes (.strideEnd run now) s fun t =>
      (∃ y, t.run run = some y ∧ y.stride = none ∧ y.entry = m ∧ y.passes = ps) ∧
        (∀ n ∈ r.cores, t.rd (tokenAddr n e.done) 2 = s.rd (tokenAddr n e.done) 2 - e.doneCount) ∧
        SameMemory (r.cores.map fun n => (tokenAddr n e.done, 2)) s t ∧ SameCores [] s t) ∧
  (∀ s run now r p x e n, (Instr.strideEnd run now).wf → s.run run = some r → r.stride = some x → s.runProgram r = some p →
    p.strides[x.entry]? = some e → x.launch = false → r.cores = [n] → (s.core n).faulted → (s.core n).idle → r.fault.isSome →
    Completes (.strideEnd run now) s fun t => t.run run = none) ∧
  (∀ s run now r p x e, (Instr.strideEnd run now).wf → s.run run = some r → r.stride = some x → s.runProgram r = some p → p.strides[x.entry]? = some e →
    (x.launch ∨ (r.cores.any fun n => !(s.core n).idle || !(s.core n).faulted && Nat.blt (s.rd (tokenAddr n e.done) 2) e.doneCount)) →
    Completes (.strideEnd run now) s fun t => t = s.advanceTo now) ∧
  (∀ s run now, (Instr.strideEnd run now).wf → s.run run = none → Completes (.strideEnd run now) s fun t => t = s)

/-- R71, R305, R308: the save of a reclaimed core starts when it is idle; after 50 µs what it still awaits is absorbed; the save that completes has
copied the scratchpad, the accumulators and the window to the core's record and scrubbed the core. A core that is not reclaimed, or whose save has
started, or on which work still runs, is left alone.
R309–R311: the last record of a group loads: its cores hold what was saved (here for an image of one core), and its group resumes; where the saved
core was ABSORBED its job faults with COPY_ERROR. A group that is not the next one, or of an image not under restore, loads nothing. -/
def Obligations.chrysalis_saves_and_restores : Prop :=
  (∀ s core d, (Instr.chrysalisSaveStart core).wf → (s.seq.drains.find? fun x => Nat.beq x.core core) = some d → d.started = false →
    (s.savingImage d.cocoon core).isSome → s.strideOn core = false → (s.core core).copies = [] → (s.core core).remotes = [] →
    (s.posts.any fun p => Nat.beq p.src core || Nat.beq p.dst core) = false →
    Completes (.chrysalisSaveStart core) s fun t => t.coreState core = 5 ∧
      (t.seq.drains.find? fun x => Nat.beq x.core core) = some { d with started := true } ∧ Frame [.seq] clusterPages s t) ∧
  (∀ s core, (Instr.chrysalisSaveStart core).wf → ((s.seq.drains.find? fun x => Nat.beq x.core core).all fun d => d.started ||
      (s.savingImage d.cocoon core).isNone || s.strideOn core || !(s.core core).copies.isEmpty || !(s.core core).remotes.isEmpty ||
      (s.posts.any fun p => Nat.beq p.src core || Nat.beq p.dst core)) → Completes (.chrysalisSaveStart core) s fun t => t = s) ∧
  (∀ s core d i, (Instr.drainTimeout core).wf → (s.seq.drains.find? fun x => Nat.beq x.core core) = some d → d.started = false →
    s.strideOn core = false →
    ((s.core core).copies ≠ [] ∨ (s.core core).remotes ≠ [] ∨ (s.posts.any fun p => Nat.beq p.src core || Nat.beq p.dst core)) →
    s.savingImage d.cocoon core = some i → d.cocoon < 64 → i.slot < 4 →
    Completes (.drainTimeout core) s fun t => (t.core core).copies = [] ∧ (t.core core).remotes = [] ∧
      (∀ p ∈ t.posts, p.src ≠ core ∧ p.dst ≠ core) ∧ t.err (Reg.COCOON.ERR.ABSORBED d.cocoon) ∧
      t.isSet (Reg.COCOON.CHRY_STAT.ABSORBED d.cocoon i.slot) ∧ SameCores [core] s t ∧ Frame [.cores, .posts, .cocoons] cocoonPages s t) ∧
  (∀ s core, (Instr.drainTimeout core).wf → ((s.seq.drains.find? fun x => Nat.beq x.core core).all fun d => d.started || s.strideOn core) →
    Completes (.drainTimeout core) s fun t => t = s) ∧
  (∀ s core d i, (Instr.chrysalisSaveDone core).wf → s.sound → (s.seq.drains.find? fun x => Nat.beq x.core core) = some d → d.started → d.saved = false →
    s.savingImage d.cocoon core = some i → d.cocoon < 64 → i.slot < 4 → s.coreDisabled core = false →
    recordAddr (s.imageBase d.cocoon i.slot) (i.saved.findIdx fun e => Nat.beq e.src core) + 0x250000 ≤ 0x004000000000 →
    i.entries.length ≤ 4096 → Completes (.chrysalisSaveDone core) s fun t =>
      (∀ k, k < 0x200000 → t.mem.readByte (recordAddr (s.imageBase d.cocoon i.slot) (i.saved.findIdx fun e => Nat.beq e.src core) + k) =
        s.mem.readByte (spBase core + k)) ∧
      (∀ k, k < 0x200000 → t.mem.readByte (spBase core + k) = 0) ∧ t.coreState core = 0 ∧
      (t.seq.drains.find? fun x => Nat.beq x.core core) = some { d with saved := true } ∧ SameCores [core] s t) ∧
  (∀ s core, (Instr.chrysalisSaveDone core).wf → ((s.seq.drains.find? fun x => Nat.beq x.core core).all fun d => !d.started || d.saved ||
    (s.savingImage d.cocoon core).isNone) → Completes (.chrysalisSaveDone core) s fun t => t = s) ∧
  (∀ s cocoon slot group i e, (Instr.restoreGroupDone cocoon slot group).wf → s.sound → s.image cocoon slot = some i →
    s.fld (Reg.COCOON.CHRY_STAT.STATE cocoon slot) = 3 → i.entries = [e] → e.kept = false → e.group = group → e.absorbed = false → e.run = none →
    i.loaded = [] → i.nowCore e < 2048 → s.coreDisabled (i.nowCore e) = false → s.imageBase cocoon slot + 0x1000 ≤ 0x004000000000 →
    Completes (.restoreGroupDone cocoon slot group) s fun t =>
      (∀ k, k < 0x200000 → t.mem.readByte (spBase (i.nowCore e) + k) = s.mem.readByte (recordAddr (s.imageBase cocoon slot) 0 + k)) ∧
        t.coreState (i.nowCore e) = 0 ∧ (t.core (i.nowCore e)).eligible = some s.now ∧ t.image cocoon slot = none ∧
        t.fld (Reg.COCOON.CHRY_STAT.STATE cocoon slot) = 0 ∧ SameCores [i.nowCore e] s t) ∧
  (∀ s cocoon slot group i e r, (Instr.restoreGroupDone cocoon slot group).wf → s.image cocoon slot = some i →
    s.fld (Reg.COCOON.CHRY_STAT.STATE cocoon slot) = 3 → i.entries = [e] → e.kept = false → e.group = group → e.absorbed = false → e.run = some r.id →
    i.loaded = [] → s.runs = [r] → r.cores = [e.src + 4096] → r.ending = none → r.fault = none →
    Completes (.restoreGroupDone cocoon slot group) s fun t =>
      t.runs = [{ r with suspended := !s.mayRun cocoon, needLaunch := false, staged := false, cores := [i.nowCore e] }] ∧ t.image cocoon slot = none) ∧
  (∀ s cocoon slot group i e, (Instr.restoreGroupDone cocoon slot group).wf → s.image cocoon slot = some i →
    s.fld (Reg.COCOON.CHRY_STAT.STATE cocoon slot) = 3 → i.entries = [e] → e.kept = false → e.group = group → e.absorbed → e.run = none →
    i.loaded = [] → i.nowCore e < 2048 → s.runs = [] → Completes (.restoreGroupDone cocoon slot group) s fun t => Faulted t (i.nowCore e) faultCopyError) ∧
  (∀ s cocoon slot group, (Instr.restoreGroupDone cocoon slot group).wf → ((s.image cocoon slot).all fun i =>
      !Nat.beq (s.fld (Reg.COCOON.CHRY_STAT.STATE cocoon slot)) 3 || !(i.left.any fun g => Nat.beq g.1 group)) →
    Completes (.restoreGroupDone cocoon slot group) s fun t => t = s)

/-- R394: an entry read from a submission queue joins its commands, HEAD advances modulo the queue's size and a slot of the ring is reserved; a read
error halts the queue. What comes for a queue that is off, or awaits none, is dropped. A request of the radio function, 16 bytes, joins no commands and
reserves nothing (R218).
R178, R187, R188, R190: a BARRIER completes once it can be taken; the management function's completion entry goes to the next place of its ring in
host memory. Every command of a queue waits while its head cannot be taken, it is another queue's turn, or the head has another opcode, and takes a head
with a reserved opcode, flag or field to refuse it with 0x0166. -/
def Obligations.queue_entries_and_barriers : Prop :=
  (∀ s fn queue b, (Instr.sqEntryRead fn queue (.data b)).wf → s.sqOn fn queue → (s.queue fn queue).reading → 64 ≤ b.length →
    Completes (.sqEntryRead fn queue (.data b)) s fun t =>
      (t.queue fn queue).cmds = (s.queue fn queue).cmds ++ [b.take 64] ∧
      t.fld (Reg.FN.SQ_HEAD.HEAD fn queue) =
        (s.fld (Reg.FN.SQ_HEAD.HEAD fn queue) + 1) % 2 ^ s.fld (Reg.FN.SQ_CFG.SIZE_LOG2 fn queue) % 4096 ∧
      (t.ring fn (s.fld (Reg.FN.SQ_CFG.RING fn queue))).reserved = (s.ring fn (s.fld (Reg.FN.SQ_CFG.RING fn queue))).reserved + 1 ∧
      (fn ≠ 257 → Frame [.fns] [] s t)) ∧
  (∀ s fn queue, (Instr.sqEntryRead fn queue .error).wf → s.sqOn fn queue → (s.queue fn queue).reading →
    Completes (.sqEntryRead fn queue .error) s fun t => (t.queue fn queue).halted ∧ t.isSet (Reg.FN.FN_STATUS.QHALT fn) ∧
      (t.queue fn queue).cmds = (s.queue fn queue).cmds ∧ Frame [.fns] [] s t) ∧
  (∀ s fn queue b, (Instr.sqEntryRead fn queue (.data b)).wf → s.sqOn fn queue → (s.queue fn queue).reading → b.length < 64 →
    Completes (.sqEntryRead fn queue (.data b)) s fun t => (t.queue fn queue).cmds = (s.queue fn queue).cmds ∧
      t.fld (Reg.FN.SQ_HEAD.HEAD fn queue) =
        (s.fld (Reg.FN.SQ_HEAD.HEAD fn queue) + 1) % 2 ^ s.fld (Reg.FN.SQ_CFG.SIZE_LOG2 fn queue) % 4096 ∧
      (t.ring fn (s.fld (Reg.FN.SQ_CFG.RING fn queue))).reserved = (s.ring fn (s.fld (Reg.FN.SQ_CFG.RING fn queue))).reserved ∧
      (fn ≠ 257 → Frame [.fns] [] s t)) ∧
  (∀ s fn queue d, (Instr.sqEntryRead fn queue d).wf → (s.sqOn fn queue = false ∨ (s.queue fn queue).reading = false) →
    Completes (.sqEntryRead fn queue d) s fun t => t = s) ∧
  (∀ s fn queue b rest, (Instr.barrier fn queue).wf → s.heads fn queue 8 b rest → Completes (.barrier fn queue) s fun t =>
    Told fn queue b rest (.plain 0 0 0) s t ∧ Frame [.fns, .cocoons] (s.cocoonPageOf fn) s t) ∧
  (∀ s queue b rest, (Instr.barrier 256 queue).wf → s.heads 256 queue 8 b rest → s.mgmtReady queue → Completes (.barrier 256 queue) s fun t =>
    s.entryWrite queue b (.plain 0 0 0) ∈ t.staido.queue ∧
      (t.ring 256 (s.mgmtRing queue)).written = (s.ring 256 (s.mgmtRing queue)).written + 1) ∧
  (∀ s fn queue, Waits (.invoke fn queue) fn queue 1 s) ∧
  (∀ s fn queue, Waits (.loadProgram fn queue) fn queue 2 s) ∧
  (∀ s fn queue, Waits (.unloadProgram fn queue) fn queue 3 s) ∧
  (∀ s fn queue, Waits (.slotSet fn queue) fn queue 4 s) ∧
  (∀ s fn queue, Waits (.contextOpen fn queue) fn queue 5 s) ∧
  (∀ s fn queue, Waits (.contextClose fn queue) fn queue 6 s) ∧
  (∀ s fn queue, Waits (.copy fn queue) fn queue 7 s) ∧
  (∀ s fn queue, Waits (.barrier fn queue) fn queue 8 s) ∧
  (∀ s fn queue, Waits (.coreReset fn queue) fn queue 9 s) ∧
  (∀ s fn queue, Waits (.attest fn queue) fn queue 10 s) ∧
  (∀ s fn queue b rest, RefusesBad (.invoke fn queue) fn queue b rest s) ∧
  (∀ s fn queue b rest, RefusesBad (.loadProgram fn queue) fn queue b rest s) ∧
  (∀ s fn queue b rest, RefusesBad (.unloadProgram fn queue) fn queue b rest s) ∧
  (∀ s fn queue b rest, RefusesBad (.slotSet fn queue) fn queue b rest s) ∧
  (∀ s fn queue b rest, RefusesBad (.contextOpen fn queue) fn queue b rest s) ∧
  (∀ s fn queue b rest, RefusesBad (.contextClose fn queue) fn queue b rest s) ∧
  (∀ s fn queue b rest, RefusesBad (.copy fn queue) fn queue b rest s) ∧
  (∀ s fn queue b rest, RefusesBad (.barrier fn queue) fn queue b rest s) ∧
  (∀ s fn queue b rest, RefusesBad (.coreReset fn queue) fn queue b rest s) ∧
  (∀ s fn queue b rest, RefusesBad (.attest fn queue) fn queue b rest s)

/-- R178, R180, R190: an INVOKE that passes its checks claims the lowest free group and becomes the youngest run; one that fails them completes
REFUSED and claims nothing. -/
def Obligations.invocations_claim_their_group : Prop :=
  (∀ s fn queue b rest z p g xs grp, (Instr.invoke fn queue).wf → s.heads fn queue 1 b rest → s.checkInvoke (s.fnCocoon fn) b = .ready z p g xs →
    s.freeGroup (s.fnCocoon fn) fn g = some grp → Completes (.invoke fn queue) s fun t =>
      Took fn queue rest s t ∧ t.nextRun = s.nextRun + 1 ∧ t.runs.dropLast = s.runs ∧
      (t.runs.getLast?.any fun r => Nat.beq r.id s.nextRun && Nat.beq r.cocoon (s.fnCocoon fn) && r.cores == grp && Nat.beq r.slot z && Nat.beq r.prog p &&
        r.ctxs == xs && Nat.beq r.append (fieldAt b 14 2) && Nat.beq r.inv ((s.cocoon (s.fnCocoon fn)).dispatched + 1) && Nat.beq r.entry 0 &&
        r.needLaunch && !r.staged && r.stride.isNone) ∧
      Frame [.fns, .cocoons, .runs] [] s t) ∧
  (∀ s fn queue b rest x, (Instr.invoke fn queue).wf → s.heads fn queue 1 b rest → s.checkInvoke (s.fnCocoon fn) b = .refused x →
    Completes (.invoke fn queue) s fun t =>
      Told fn queue b rest (.plain 1 x 0) s t ∧ t.runs = s.runs ∧ Frame [.fns, .cocoons] (s.cocoonPageOf fn) s t)

/-- R175–R177, R190: a program that passes the checks is placed in its slot's program area and holds the next generation; one that fails a check is
refused with its reason, and an image in the host window is asked of the host; UNLOAD_PROGRAM closes the handle, and completes once nothing runs it,
after which the handle names no program; a handle that names none is refused with 0x0360.
R174, R182, R183, R377: SLOT_SET gives a slot its ranges and its weight range becomes segment slot + 1, valid where it is not empty; CONTEXT_OPEN
writes a context's entry with LEN 0; CONTEXT_CLOSE waits for the invocations that name it, and then clears its OPEN bit. Each is refused with its
reason where a check fails (0x0166 for a part of a 64 KiB unit is the model's choice, log entry 121), and changes nothing then. -/
def Obligations.programs_slots_and_contexts : Prop :=
  (∀ s fn queue b rest i g sl base, (Instr.loadProgram fn queue).wf → s.sram = [] → s.poison = [] → s.heads fn queue 2 b rest →
    fieldAt b 24 4 ≠ 0 → hostRange (fieldAt b 16 8) (fieldAt b 24 4) = false → s.readFor (s.fnCocoon fn) (fieldAt b 16 8) (fieldAt b 24 4) = some i →
    parseProgram i 0 0 = g → imageReason i g = none → fieldAt b 8 1 ≤ 15 → fieldAt b 9 1 ≤ 7 →
    s.progBusy (s.fnCocoon fn) (fieldAt b 8 1) (fieldAt b 9 1) = false → Assoc.find (fieldAt b 8 1) (s.cocoon (s.fnCocoon fn)).slots = some sl →
    sl.place (fieldAt b 9 1) g.len = some base → stageListReason i g = none →
    (s.fnCocoon fn = 0 ∨ (s.seq.active.any fun x => Nat.blt x.guard g.bP) = false) →
    base + g.len ≤ 0x004000000000 → (granules base g.len).all s.served → Completes (.loadProgram fn queue) s fun t =>
      Told fn queue b rest (.plain 0 0 ((sl.loads + 1) % 65536 * 65536 + fieldAt b 8 1 * 256 + fieldAt b 9 1)) s t ∧ t.rdBytes base g.len = i.take g.len ∧
      ((Assoc.find (fieldAt b 8 1) (t.cocoon (s.fnCocoon fn)).slots).any fun x => Nat.beq x.loads (sl.loads + 1) &&
        Assoc.find (fieldAt b 9 1) x.programs == some { g with gen := (sl.loads + 1) % 65536, base := base }) ∧
      SameMemory [(base, g.len)] s t ∧ Frame [.mem, .fns, .cocoons, .sram, .poison] (s.cocoonPageOf fn) s t) ∧
  (∀ s fn queue b rest i x, (Instr.loadProgram fn queue).wf → s.sram = [] → s.poison = [] → s.heads fn queue 2 b rest → fieldAt b 24 4 ≠ 0 →
    hostRange (fieldAt b 16 8) (fieldAt b 24 4) = false → s.readFor (s.fnCocoon fn) (fieldAt b 16 8) (fieldAt b 24 4) = some i →
    (imageReason i (parseProgram i 0 0)).or (if 15 < fieldAt b 8 1 ∨ 7 < fieldAt b 9 1 then some 0x0165 else
      if s.progBusy (s.fnCocoon fn) (fieldAt b 8 1) (fieldAt b 9 1) then some 0x0461 else
      match (Assoc.find (fieldAt b 8 1) (s.cocoon (s.fnCocoon fn)).slots).bind fun sl => sl.place (fieldAt b 9 1) (parseProgram i 0 0).len with
      | none => some 0x0561
      | some _ => (stageListReason i (parseProgram i 0 0)).or
        (if s.fnCocoon fn ≠ 0 ∧ (s.seq.active.any fun y => Nat.blt y.guard (parseProgram i 0 0).bP) then some 0x0660 else none)) = some x →
    Completes (.loadProgram fn queue) s fun t =>
      Told fn queue b rest (.plain 1 x 0) s t ∧ SameMemory [] s t ∧ Frame [.mem, .fns, .cocoons] (s.cocoonPageOf fn) s t) ∧
  (∀ s fn queue b rest, (Instr.loadProgram fn queue).wf → s.heads fn queue 2 b rest → fieldAt b 24 4 = 0 → Completes (.loadProgram fn queue) s fun t =>
    Told fn queue b rest (.plain 1 0x0260 0) s t ∧ Frame [.fns, .cocoons] (s.cocoonPageOf fn) s t) ∧
  (∀ s queue b rest, (Instr.loadProgram 256 queue).wf → s.heads 256 queue 2 b rest → fieldAt b 24 4 ≠ 0 →
    hostRange (fieldAt b 16 8) (fieldAt b 24 4) → Completes (.loadProgram 256 queue) s fun t =>
      Took 256 queue rest s t ∧ t.waits = s.waits ++ [⟨s.nextRun, s.fnCocoon 256, ⟨256, queue, b, s.mono⟩, .load []⟩] ∧
      t.reading 256 (RdWhy.ofWait s.nextRun) ∧ Frame [.fns, .cocoons, .waits, .runs] (s.cocoonPageOf 256) s t) ∧
  (∀ s fn queue b rest, (Instr.unloadProgram fn queue).wf → s.heads fn queue 3 b rest → s.program (s.fnCocoon fn) (fieldAt b 8 4) = none →
    Completes (.unloadProgram fn queue) s fun t =>
      Told fn queue b rest (.plain 1 0x0360 0) s t ∧ Frame [.fns, .cocoons] (s.cocoonPageOf fn) s t) ∧
  (∀ s fn queue b rest z p g, (Instr.unloadProgram fn queue).wf → s.heads fn queue 3 b rest →
    s.program (s.fnCocoon fn) (fieldAt b 8 4) = some (z, p, g) → Completes (.unloadProgram fn queue) s fun t =>
      Took fn queue rest s t ∧ t.waits = s.waits ++ [⟨s.nextRun, s.fnCocoon fn, ⟨fn, queue, b, s.mono⟩, .unload (fieldAt b 8 4)⟩] ∧
      t.program (s.fnCocoon fn) (fieldAt b 8 4) = some (z, p, { g with closing := true }) ∧ t.nextRun = s.nextRun + 1 ∧
      Frame [.fns, .cocoons, .waits, .runs] [] s t) ∧
  (∀ s cocoon handle z p g, (Instr.unloadProgramComplete cocoon handle).wf →
    (s.waits.any fun w => Nat.beq w.cocoon cocoon && w.wait == .unload handle) → (∀ w ∈ s.waits, w.cmd.fn < 258) → s.program cocoon handle = some (z, p, g) →
    s.progBusy cocoon z p = false → Completes (.unloadProgramComplete cocoon handle) s fun t =>
      t.program cocoon handle = none ∧ (t.waits.any fun w => Nat.beq w.cocoon cocoon && w.wait == .unload handle) = false ∧ t.runs = s.runs ∧
      Frame [.fns, .cocoons, .waits] cocoonPages s t) ∧
  (∀ s cocoon handle, (Instr.unloadProgramComplete cocoon handle).wf →
    ((s.waits.any fun w => Nat.beq w.cocoon cocoon && w.wait == .unload handle) = false ∨
      (s.program cocoon handle).any fun x => s.progBusy cocoon x.1 x.2.1) → Completes (.unloadProgramComplete cocoon handle) s fun t => t = s) ∧
  (∀ s fn queue b rest, (Instr.slotSet fn queue).wf → s.heads fn queue 4 b rest → fieldAt b 8 1 ≤ 15 → fieldAt b 24 8 % 65536 = 0 →
    (fieldAt b 24 8 = 0 ∨ fieldAt b 16 8 % 65536 = 0 ∧ s.region (fieldAt b 16 8) = .gddr ∧ s.inExtent (s.fnCocoon fn) (fieldAt b 16 8) (fieldAt b 24 8) ∧
      ((s.cocoon (s.fnCocoon fn)).segments.all fun x => Nat.beq x.1 (fieldAt b 8 1 + 1) || !x.2.valid ||
        Nat.ble (x.2.base + x.2.len) (fieldAt b 16 8) || Nat.ble (fieldAt b 16 8 + fieldAt b 24 8) x.2.base)) →
    (fieldAt b 40 4 = 0 ∨ s.region (fieldAt b 32 8) = .gddr ∧ s.inExtent (s.fnCocoon fn) (fieldAt b 32 8) (fieldAt b 40 4)) →
    ((Assoc.find (fieldAt b 8 1) (s.cocoon (s.fnCocoon fn)).slots).all fun x => x.programs.isEmpty) → Completes (.slotSet fn queue) s fun t =>
      Told fn queue b rest (.plain 0 0 0) s t ∧
      Assoc.find (fieldAt b 8 1) (t.cocoon (s.fnCocoon fn)).slots =
        some ⟨fieldAt b 12 4, fieldAt b 16 8, fieldAt b 24 8, fieldAt b 32 8, fieldAt b 40 4,
          (Assoc.find (fieldAt b 8 1) (s.cocoon (s.fnCocoon fn)).slots).elim 0 (fun x => x.loads), []⟩ ∧
      ((Assoc.find (fieldAt b 8 1 + 1) (t.cocoon (s.fnCocoon fn)).segments).any fun g => g.valid == Nat.blt 0 (fieldAt b 24 8) &&
        Nat.beq g.base (fieldAt b 16 8) && Nat.beq g.len (fieldAt b 24 8)) ∧ Frame [.fns, .cocoons] (s.cocoonPageOf fn) s t) ∧
  (∀ s fn queue b rest x, (Instr.slotSet fn queue).wf → s.heads fn queue 4 b rest →
    (if fieldAt b 24 8 % 65536 ≠ 0 then some 0x0166 else if 0 < fieldAt b 24 8 ∧ fieldAt b 16 8 % 65536 ≠ 0 then some 0x0166 else
      if 15 < fieldAt b 8 1 then some 0x0165 else
      if (Assoc.find (fieldAt b 8 1) (s.cocoon (s.fnCocoon fn)).slots).any fun y => !y.programs.isEmpty then some 0x0460 else
      if 0 < fieldAt b 24 8 ∧ s.inExtent (s.fnCocoon fn) (fieldAt b 16 8) (fieldAt b 24 8) = false then some 0x0362 else none) = some x →
    Completes (.slotSet fn queue) s fun t =>
      Told fn queue b rest (.plain 1 x 0) s t ∧ (t.cocoon (s.fnCocoon fn)).slots = (s.cocoon (s.fnCocoon fn)).slots ∧
      (t.cocoon (s.fnCocoon fn)).segments = (s.cocoon (s.fnCocoon fn)).segments ∧ Frame [.fns, .cocoons] (s.cocoonPageOf fn) s t) ∧
  (∀ s fn queue b rest sl, (Instr.contextOpen fn queue).wf → s.heads fn queue 5 b rest → fieldAt b 12 4 ≠ 0 → fieldAt b 12 4 ≤ 4194304 →
    fieldAt b 10 1 ≤ 15 → Assoc.find (fieldAt b 10 1) (s.cocoon (s.fnCocoon fn)).slots = some sl →
    (s.rd (s.ctxAddr (s.fnCocoon fn) (fieldAt b 8 2)) 1).testBit 0 = false →
    (sl.ctxBytes = 0 ∨ s.region (fieldAt b 16 8) = .gddr ∧
      s.inExtent (s.fnCocoon fn) (fieldAt b 16 8) ((fieldAt b 12 4 * sl.ctxBytes + 4095) / 4096 * 4096)) → Completes (.contextOpen fn queue) s fun t =>
      Told fn queue b rest (.plain 0 0 0) s t ∧ t.ctxOpen (s.fnCocoon fn) (fieldAt b 8 2) (fieldAt b 10 1) ∧
      t.rd (s.ctxAddr (s.fnCocoon fn) (fieldAt b 8 2) + 4) 4 = fieldAt b 12 4 ∧ t.rd (s.ctxAddr (s.fnCocoon fn) (fieldAt b 8 2) + 8) 4 = 0 ∧
      t.rd (s.ctxAddr (s.fnCocoon fn) (fieldAt b 8 2) + 16) 8 = fieldAt b 16 8 ∧
      SameMemory [(s.ctxAddr (s.fnCocoon fn) (fieldAt b 8 2), 64)] s t ∧ Frame [.mem, .fns, .cocoons] (s.cocoonPageOf fn) s t) ∧
  (∀ s fn queue b rest x, (Instr.contextOpen fn queue).wf → s.heads fn queue 5 b rest →
    (if fieldAt b 12 4 = 0 ∨ 4194304 < fieldAt b 12 4 then some 0x0166 else if 15 < fieldAt b 10 1 then some 0x0165 else
      if (s.rd (s.ctxAddr (s.fnCocoon fn) (fieldAt b 8 2)) 1).testBit 0 then some 0x0462 else none) = some x →
    Completes (.contextOpen fn queue) s fun t =>
      Told fn queue b rest (.plain 1 x 0) s t ∧ t.mem = s.mem ∧ Frame [.fns, .cocoons] (s.cocoonPageOf fn) s t) ∧
  (∀ s fn queue b rest, (Instr.contextClose fn queue).wf → s.heads fn queue 6 b rest →
    (s.rd (s.ctxAddr (s.fnCocoon fn) (fieldAt b 8 2)) 1).testBit 0 = false → Completes (.contextClose fn queue) s fun t =>
      Told fn queue b rest (.plain 1 0x0361 0) s t ∧ Frame [.fns, .cocoons] (s.cocoonPageOf fn) s t) ∧
  (∀ s fn queue b rest, (Instr.contextClose fn queue).wf → s.heads fn queue 6 b rest →
    (s.rd (s.ctxAddr (s.fnCocoon fn) (fieldAt b 8 2)) 1).testBit 0 → Completes (.contextClose fn queue) s fun t =>
      Took fn queue rest s t ∧ t.waits = s.waits ++ [⟨s.nextRun, s.fnCocoon fn, ⟨fn, queue, b, s.mono⟩, .ctxClose (fieldAt b 8 2)⟩] ∧
      t.nextRun = s.nextRun + 1 ∧ Frame [.fns, .cocoons, .waits, .runs] [] s t) ∧
  (∀ s cocoon ctx, (Instr.contextCloseComplete cocoon ctx).wf → (s.waits.any fun w => Nat.beq w.cocoon cocoon && w.wait == .ctxClose ctx) →
    (∀ w ∈ s.waits, w.cmd.fn < 258) →
    s.ctxBusy cocoon ctx = false → Completes (.contextCloseComplete cocoon ctx) s fun t =>
      t.rd (s.ctxAddr cocoon ctx) 1 = s.rd (s.ctxAddr cocoon ctx) 1 / 2 * 2 ∧
      (t.waits.any fun w => Nat.beq w.cocoon cocoon && w.wait == .ctxClose ctx) = false ∧ SameMemory [(s.ctxAddr cocoon ctx, 1)] s t ∧
      Frame [.mem, .fns, .waits] cocoonPages s t) ∧
  (∀ s cocoon ctx, (Instr.contextCloseComplete cocoon ctx).wf → ((s.waits.any fun w => Nat.beq w.cocoon cocoon && w.wait == .ctxClose ctx) = false ∨
    s.ctxBusy cocoon ctx) → Completes (.contextCloseComplete cocoon ctx) s fun t => t = s)

/-- R98, R187, R449, R457: a COPY inside the part moves its bytes; CORE_RESET clears faulted cores that the cocoon holds and they are idle; ATTEST
writes the report and its Ed25519 signature where the command says. Each is refused with its reason where a check fails, and changes nothing then; a
COPY from the host window asks the host for the data. -/
def Obligations.copy_core_reset_and_attest : Prop :=
  (∀ s fn queue b rest, (Instr.copy fn queue).wf → s.sram = [] → s.poison = [] → s.heads fn queue 7 b rest → 64 ≤ fieldAt b 24 4 →
    fieldAt b 24 4 ≤ 16777216 → fieldAt b 24 4 % 64 = 0 → fieldAt b 8 8 % 64 = 0 → fieldAt b 16 8 % 64 = 0 →
    s.copyReaches (s.fnCocoon fn) fn (fieldAt b 8 8) (fieldAt b 24 4) → s.copyWrites (s.fnCocoon fn) fn (fieldAt b 16 8) (fieldAt b 24 4) →
    fieldAt b 8 8 + fieldAt b 24 4 ≤ hostBase → fieldAt b 16 8 + fieldAt b 24 4 ≤ hostBase → s.bad (fieldAt b 8 8) (fieldAt b 24 4) = false →
    (0x004000000000 ≤ fieldAt b 16 8 ∨ (granules (fieldAt b 16 8) (fieldAt b 24 4)).all s.served) → Completes (.copy fn queue) s fun t =>
      Told fn queue b rest (.plain 0 0 0) s t ∧ t.rdBytes (fieldAt b 16 8) (fieldAt b 24 4) = s.rdBytes (fieldAt b 8 8) (fieldAt b 24 4) ∧
      SameMemory [(fieldAt b 16 8, fieldAt b 24 4)] s t ∧ Frame [.mem, .fns, .cocoons, .sram, .poison] (s.cocoonPageOf fn) s t) ∧
  (∀ s fn queue b rest x, (Instr.copy fn queue).wf → s.heads fn queue 7 b rest →
    (if fieldAt b 24 4 < 64 ∨ 16777216 < fieldAt b 24 4 ∨ fieldAt b 24 4 % 64 ≠ 0 ∨ fieldAt b 8 8 % 64 ≠ 0 ∨ fieldAt b 16 8 % 64 ≠ 0 then some 0x0166
      else if s.copyReaches (s.fnCocoon fn) fn (fieldAt b 8 8) (fieldAt b 24 4) = false ∨
        s.copyWrites (s.fnCocoon fn) fn (fieldAt b 16 8) (fieldAt b 24 4) = false then some 0x0362 else none) = some x →
    Completes (.copy fn queue) s fun t =>
      Told fn queue b rest (.plain 1 x 0) s t ∧ t.mem = s.mem ∧ Frame [.fns, .cocoons] (s.cocoonPageOf fn) s t) ∧
  (∀ s queue b rest, (Instr.copy 256 queue).wf → s.heads 256 queue 7 b rest → 64 ≤ fieldAt b 24 4 → fieldAt b 24 4 ≤ 16777216 →
    fieldAt b 24 4 % 64 = 0 → fieldAt b 8 8 % 64 = 0 → fieldAt b 16 8 % 64 = 0 → hostRange (fieldAt b 8 8) (fieldAt b 24 4) →
    s.copyWrites (s.fnCocoon 256) 256 (fieldAt b 16 8) (fieldAt b 24 4) → Completes (.copy 256 queue) s fun t =>
      Took 256 queue rest s t ∧ t.waits = s.waits ++ [⟨s.nextRun, s.fnCocoon 256, ⟨256, queue, b, s.mono⟩, .copy []⟩] ∧
      t.reading 256 (RdWhy.ofWait s.nextRun) ∧ t.mem = s.mem ∧ Frame [.fns, .cocoons, .waits, .runs] (s.cocoonPageOf 256) s t) ∧
  (∀ s fn queue b rest, (Instr.coreReset fn queue).wf → s.heads fn queue 9 b rest →
    (fieldAt b 10 2 = 0 ∨ ((List.range (fieldAt b 10 2)).map (fun i => fieldAt b 8 2 + i)).any fun n => Nat.ble 2048 n ||
      !s.heldInRow (s.fnCocoon fn) n || !Nat.beq (s.fld (coreOwnerFld n)) (s.fnCocoon fn) || !Nat.beq (s.coreState n) 3) →
    Completes (.coreReset fn queue) s fun t =>
      Told fn queue b rest (.plain 1 0x0463 0) s t ∧ Frame [.fns, .cocoons] (s.cocoonPageOf fn) s t) ∧
  (∀ s fn queue b rest, (Instr.attest fn queue).wf → s.heads fn queue 10 b rest → fieldAt b 48 4 < 4096 + 64 * s.boot.log.length →
    Completes (.attest fn queue) s fun t =>
      Told fn queue b rest (.plain 1 0x0560 0) s t ∧ Frame [.fns, .cocoons] (s.cocoonPageOf fn) s t) ∧
  (∀ s fn queue b rest, (Instr.coreReset fn queue).wf → s.heads fn queue 9 b rest → fieldAt b 10 2 ≠ 0 →
    (∀ n ∈ (List.range (fieldAt b 10 2)).map (fun i => fieldAt b 8 2 + i), n < 2048 ∧ s.heldInRow (s.fnCocoon fn) n ∧
      s.fld (coreOwnerFld n) = s.fnCocoon fn ∧ s.coreState n = 3 ∧ s.coreDisabled n = false) → Completes (.coreReset fn queue) s fun t =>
      Told fn queue b rest (.plain 0 0 0) s t ∧
      (∀ n ∈ (List.range (fieldAt b 10 2)).map (fun i => fieldAt b 8 2 + i), t.coreState n = 0 ∧
        (t.core n) = { Core.fresh with nextId := (s.core n).nextId } ∧ t.rd (pcAddr n) 4 = 0) ∧
      SameMemory (((List.range (fieldAt b 10 2)).map (fun i => fieldAt b 8 2 + i)).flatMap fun n =>
        [(spBase n, 0x200000), (accBase n, 0x40000), (cwBase n, 0x10000)]) s t ∧
      SameCores ((List.range (fieldAt b 10 2)).map (fun i => fieldAt b 8 2 + i)) s t ∧
      Frame [.mem, .fns, .cocoons, .sram, .cores, .runs] (s.cocoonPageOf fn ++ clusterPages) s t) ∧
  (∀ s fn queue b rest, (Instr.attest fn queue).wf → s.poison = [] → s.heads fn queue 10 b rest →
    4096 + 64 * s.boot.log.length ≤ fieldAt b 48 4 → s.region (fieldAt b 40 8) = .gddr →
    s.inExtent (s.fnCocoon fn) (fieldAt b 40 8) (4096 + s.boot.log.flatten.length) →
    (granules (fieldAt b 40 8) (4096 + s.boot.log.flatten.length)).all s.served → Completes (.attest fn queue) s fun t =>
      Told fn queue b rest (.plain 0 0 0) s t ∧ t.rdBytes (fieldAt b 40 8) 512 = s.report fn (s.fnCocoon fn) (slice b 8 32) ∧
      t.rdBytes (fieldAt b 40 8 + 512) 64 =
        bvBytes 64 (Config.ed25519Sign s.boot.fuses.secret (s.report fn (s.fnCocoon fn) (slice b 8 32))) ∧
      t.rdBytes (fieldAt b 40 8 + 4096) s.boot.log.flatten.length = s.boot.log.flatten ∧
      SameMemory [(fieldAt b 40 8, 4096 + s.boot.log.flatten.length)] s t ∧
      Frame [.mem, .fns, .cocoons, .sram, .poison] (s.cocoonPageOf fn) s t)

/-- R179, R180: the images of a run are staged in the ways of its clusters; a launch clears its core and lets it run; at its end the core-state window,
the preload and the argument block stand on the core, and the run no longer needs a launch. Images that do not fit their ways end the run with the
reason; until its turn comes nothing of a run happens. -/
def Obligations.images_stage_and_launch : Prop :=
  (∀ s run r p, (Instr.imageStagingDone run).wf → s.sound → p.images ≠ [] → s.run run = some r → s.runProgram r = some p → r.staged = false → r.suspended = false →
    s.mayRun r.cocoon → s.bad p.base p.len = false → s.stagingReason r p = none → p.way0 + p.ways ≤ 16 →
    (p.images.all fun i => Nat.ble (p.base + i.off + i.bytes) 0x004000000000) → (∀ n ∈ r.cores, n < 2048) →
    (p.rankMap.all fun i => Nat.blt i p.images.length) → Completes (.imageStagingDone run) s fun t =>
      t.run run = some { r with staged := true } ∧
      (∀ g ∈ r.clusters p, ∀ i ∈ g.2, t.rdBytes (p.stagedAt g.1 g.2 i) (p.images.getD i ⟨0, 0, 0, 0, 0, 0⟩).bytes =
        s.rdBytes (p.base + (p.images.getD i ⟨0, 0, 0, 0, 0, 0⟩).off) (p.images.getD i ⟨0, 0, 0, 0, 0, 0⟩).bytes) ∧
      SameMemory ((r.clusters p).map fun g => (csBase g.1 + 0x100000 * p.way0, 0x100000 * p.ways)) s t ∧
      Frame [.mem, .runs, .sram, .poison] [] s t) ∧
  (∀ s run r p x, (Instr.imageStagingDone run).wf → s.run run = some r → s.runProgram r = some p → r.staged = false → r.suspended = false →
    s.mayRun r.cocoon → s.bad p.base p.len = false → s.stagingReason r p = some x → r.stride = none → r.ending = none →
    Completes (.imageStagingDone run) s fun t =>
      t.run run = none ∧ t.mem = s.mem ∧ Frame [.fns, .runs] cocoonPages s t ∧
      (∀ c, r.cmd = some c → c.fn = 256 → c.at_ = s.mono → s.mgmtReady c.queue →
        s.entryWrite c.queue c.bytes { Completion.plain 1 x 0 with beats := r.beats, strides := r.strides, result := r.step0 % 2 ^ 32 } ∈
          t.staido.queue)) ∧
  (∀ s run, (Instr.imageStagingDone run).wf → ((s.run run).all fun r => (s.runProgram r).all fun p => r.staged || r.suspended || !s.mayRun r.cocoon ||
    s.bad p.base p.len) → Completes (.imageStagingDone run) s fun t => t = s) ∧
  (∀ s run now r p, (Instr.launch run now).wf → s.run run = some r → s.runProgram r = some p → (r.needLaunch = false ∨ r.staged = false ∨
    r.stride.isSome ∨ r.fault.isSome ∨ r.ending.isSome ∨ r.suspended ∨ s.mayRun r.cocoon = false ∨ s.heldThrough p r.cocoon r.cores = false ∨
    (r.cores.any fun n => !(s.advanceTo now).mayStart r.cocoon n (s.advanceTo now).now p.bL)) →
    Completes (.launch run now) s fun t => t = s.advanceTo now) ∧
  (∀ s run, (Instr.launchDone run).wf → ((s.run run).all fun r => r.stride.all fun x => !x.launch) → Completes (.launchDone run) s fun t => t = s) ∧
  (∀ s run now r p n, (Instr.launch run now).wf → s.run run = some r → s.runProgram r = some p → r.needLaunch → r.staged → r.stride = none →
    r.fault = none → r.ending = none → r.suspended = false → s.mayRun r.cocoon → r.cores = [n] → n < 2048 → s.heldThrough p r.cocoon r.cores →
    (s.advanceTo now).mayStart r.cocoon n (s.advanceTo now).now p.bL → Completes (.launch run now) s fun t =>
      t.run run = some { r with stride := some ⟨true, 0xFFFF, 0, t.now, p.bL, s.seq.beat, false⟩, strides := r.strides + 1
                                beats := if r.lastBeat = some s.seq.beat then r.beats else r.beats + 1, lastBeat := some s.seq.beat } ∧
      t.coreState n = 2 ∧ t.core n = { Core.fresh with nextId := (s.core n).nextId } ∧ (∀ k, k < 0x200000 → t.mem.readByte (spBase n + k) = 0) ∧
      SameMemory [(spBase n, 0x200000), (accBase n, 0x40000), (cwBase n, 0x10000)] s t ∧ SameCores [n] s t ∧
      Frame [.mem, .runs, .cores, .sram, .time] clusterPages s t) ∧
  (∀ s run r x p n i g, (Instr.launchDone run).wf → s.sound → s.run run = some r → r.stride = some x → s.runProgram r = some p → x.launch → r.cores = [n] →
    n < 2048 → r.cocoon < 64 → r.cmd = none → r.fault = none → r.ending = none →
    (s.core n).faulted = false → (∀ w, s.winOn r.cocoon n = some w → s.now ≤ w.stop) → s.seq.charges = [] →
    (s.seq.openWins.any fun w => Nat.beq w.core n && w.waiting) = false → p.images[p.rankMap.getD 0 0]? = some i → r.clusters p = [g] →
    p.stagedAt (clusterOf n) g.2 (p.rankMap.getD 0 0) + i.bytes ≤ 0x004300000000 →
    0x004120000000 ≤ p.stagedAt (clusterOf n) g.2 (p.rankMap.getD 0 0) → s.bad (p.stagedAt (clusterOf n) g.2 (p.rankMap.getD 0 0)) i.bytes = false →
    i.preloadOff + i.preloadLen ≤ 0x200000 → i.argsOff + 64 ≤ 0x200000 → i.preloadOff + i.preloadLen ≤ i.argsOff → Completes (.launchDone run) s fun t =>
      (t.run run).any (fun y => !y.needLaunch && y.stride.isNone) ∧ t.rdBytes (spBase n + i.argsOff) 64 = s.argBlock r 0 ∧
      t.rdBytes (spBase n + i.preloadOff) i.preloadLen = s.rdBytes (p.stagedAt (clusterOf n) g.2 (p.rankMap.getD 0 0) + 45088) i.preloadLen ∧
      t.rdBytes (cwBase n) 45056 = s.rdBytes (p.stagedAt (clusterOf n) g.2 (p.rankMap.getD 0 0) + 32) 45056 ∧
      SameMemory [(spBase n, 0x200000), (cwBase n, 45056)] s t ∧ Frame [.mem, .runs, .cocoons, .seq, .pod] (clusterPages ++ cocoonPages) s t)

/-- R217–R221: each request of NR and of LTE that is on time is kept for its cell's slot; the command of a message takes no other message.
R219–R222, R226: a request after its slot's deadline is discarded and counted LATE; one whose slot lies outside the window writes its entry with code
WINDOW into the error ring (here one in GDDR7 of cocoon 0), and a second one of its message for a slot an entry too; an on-time request makes a cell in
FALLBACK serve again from its slot. -/
def Obligations.radio_requests_kept_late_or_outside : Prop :=
  (∀ s q rest e x sfn slot, TakesRequest .dlTtiRequest 0x80 false q rest e x sfn slot s) ∧
  (∀ s q rest e x sfn slot, TakesRequest .ulTtiRequest 0x81 false q rest e x sfn slot s) ∧
  (∀ s q rest e x sfn slot, TakesRequest .ulDciRequest 0x83 false q rest e x sfn slot s) ∧
  (∀ s q rest e x sfn slot, TakesRequest .txDataRequest 0x84 false q rest e x sfn slot s) ∧
  (∀ s q rest e x sfn slot, TakesRequest .dlConfigRequest 0x80 true q rest e x sfn slot s) ∧
  (∀ s q rest e x sfn slot, TakesRequest .ulConfigRequest 0x81 true q rest e x sfn slot s) ∧
  (∀ s q rest e x sfn slot, TakesRequest .hiDci0Request 0x83 true q rest e x sfn slot s) ∧
  (∀ s q rest e x sfn slot, TakesRequest .txRequest 0x84 true q rest e x sfn slot s) ∧
  (∀ s, PassesRequest .dlTtiRequest 0x80 false s) ∧
  (∀ s, PassesRequest .ulTtiRequest 0x81 false s) ∧
  (∀ s, PassesRequest .ulDciRequest 0x83 false s) ∧
  (∀ s, PassesRequest .txDataRequest 0x84 false s) ∧
  (∀ s, PassesRequest .dlConfigRequest 0x80 true s) ∧
  (∀ s, PassesRequest .ulConfigRequest 0x81 true s) ∧
  (∀ s, PassesRequest .hiDci0Request 0x83 true s) ∧
  (∀ s, PassesRequest .txRequest 0x84 true s) ∧
  (∀ s q rest sfn slot, JudgesRequest .dlTtiRequest 0x80 false q rest sfn slot s) ∧
  (∀ s q rest sfn slot, JudgesRequest .ulTtiRequest 0x81 false q rest sfn slot s) ∧
  (∀ s q rest sfn slot, JudgesRequest .ulDciRequest 0x83 false q rest sfn slot s) ∧
  (∀ s q rest sfn slot, JudgesRequest .txDataRequest 0x84 false q rest sfn slot s) ∧
  (∀ s q rest sfn slot, JudgesRequest .dlConfigRequest 0x80 true q rest sfn slot s) ∧
  (∀ s q rest sfn slot, JudgesRequest .ulConfigRequest 0x81 true q rest sfn slot s) ∧
  (∀ s q rest sfn slot, JudgesRequest .hiDci0Request 0x83 true q rest sfn slot s) ∧
  (∀ s q rest sfn slot, JudgesRequest .txRequest 0x84 true q rest sfn slot s) ∧
  (∀ s q rest sfn slot a, s.radio.inbox = q :: rest → q.id = 0x80 → s.lteCell q.cell = false → s.reading 257 (RdWhy.ofFapi q.num) = false →
    q.failed = false → s.radioOn → s.linkUp → bodySlot false q.body = (sfn, slot) → s.cellFor q.cell sfn slot q.bell = none → s.poison = [] →
    s.poisonB = [] →
    a = s.fld2 Reg.RADIO.ERR_RING_LO.ADDR Reg.RADIO.ERR_RING_HI.ADDR + 16 * (s.radio.errCount % max 1 (s.fld Reg.RADIO.ERR_RING_LEN.ENTRIES)) →
    s.region a = .gddr → s.inExtent 0 a 16 → s.meetsCtx 0 a 16 = false → (granules a 16).all s.served → Completes .dlTtiRequest s fun t =>
      t.rdBytes a 16 = leBytes 2 q.cell ++ leBytes 2 sfn ++ leBytes 2 slot ++ [0x05, 0x80] ++ leBytes 8 0 ∧
      t.radio.errCount = s.radio.errCount + 1 ∧ SameMemory [(a, 16)] s t ∧ Frame [.radio, .mem, .sram, .poison, .cocoons] [] s t) ∧
  (∀ s q rest e x sfn slot, s.radio.inbox = q :: rest → q.id = 0x84 → s.lteCell q.cell = false → s.reading 257 (RdWhy.ofFapi q.num) = false →
    q.failed = false → s.radioOn → s.linkUp → bodySlot false q.body = (sfn, slot) → s.cellFor q.cell sfn slot q.bell = some (e, x) →
    cellIsLte e = false → q.bell < (x / s.L - 2) * s.L → (Assoc.find q.cell s.radio.cells = some 2 ∨ Assoc.find q.cell s.radio.cells = some 3) →
    Completes .txDataRequest s fun t => t.cellAt q.cell x = some 1 ∧ t.radio.cells = s.radio.cells)

/-- R213, R214, R216, R217, R222, R396: each indication of NR and of LTE goes to the host with its message id, and what is detected or decoded of its
slot; of a slot whose uplink is not processed there is none, and none for a cell of the other radio access technology; without room it is discarded. -/
def Obligations.radio_indications_reach_the_host : Prop :=
  (∀ s i r off v size p, s.lteCell i.cell = false →
    Indicates (.rxDataIndication i) 0x85 i [] (s.passedData i.cell (s.refStart i)) r off v size p [.fns] [] s s) ∧
  (∀ s i r off v size p u, s.decodeLte i.cell (s.refStart i) = u →
    Indicates (.crcIndication i) 0x86 i ((u.puschs i.cell (s.refStart i)).flatMap fun x =>
      [(x.rnti : Int), if u.tbPass i.cell (s.refStart i) x then 1 else 0, u.reportPower i.cell (s.refStart i) x.rnti,
        u.reportSinr i.cell (u.sinrOf i.cell (s.refStart i) x.prb0 x.prbs)]) [] r off v size p [.fns] [] s u.drawn) ∧
  (∀ s i r off v size p, s.lteCell i.cell = false →
    Indicates (.uciIndication i) 0x87 i (s.uciReports i [0, 1, 2, 3, 4] true) [] r off v size p [.fns] [] s s.countEngine) ∧
  (∀ s i r off v size p, Indicates (.srsIndication i) (if s.lteCell i.cell then 0x89 else 0x88) i
    ((s.ulPdus i.cell (s.refStart i)).flatMap fun x => match x with
      | .srs _ _ body => Config.srsReport (s.slotSamples i.cell (s.refStart i)) body
      | _ => []) [] r off v size p [.fns] [] s s) ∧
  (∀ s i r off v size p, Indicates (.rachIndication i) (if s.lteCell i.cell then 0x88 else 0x89) i
    ((s.radio.hits.filter fun x => Nat.beq x.cell i.cell && Nat.beq x.sfn i.sfn && Nat.beq x.slot i.slot).flatMap fun h =>
      [(h.index : Int), h.advance, h.energy]) [] r off v size p [.fns] [] s
    { s with radio := { s.radio with hits := s.radio.hits.filter fun x => !(Nat.beq x.cell i.cell && Nat.beq x.sfn i.sfn && Nat.beq x.slot i.slot) } }) ∧
  (∀ s i r off v size p u, s.lteCell i.cell → s.decodeLte i.cell (s.refStart i) = u →
    Indicates (.rxUlschIndication i) 0x87 i [] (u.passedData i.cell (u.refStart i)) r off v size p [.fns] [] s u) ∧
  (∀ s i r off v size p, s.lteCell i.cell →
    Indicates (.harqIndication i) 0x85 i (s.uciReports i [1, 2, 4, 5, 6] true) [] r off v size p [.fns] [] s s.countEngine) ∧
  (∀ s i r off v size p, s.lteCell i.cell →
    Indicates (.rxSrIndication i) 0x8A i (s.uciReports i [0] false) [] r off v size p [.fns] [] s s.countEngine) ∧
  (∀ s i r off v size p, s.lteCell i.cell →
    Indicates (.rxCqiIndication i) 0x8B i (s.uciReports i [3, 4, 5] true) [] r off v size p [.fns] [] s s.countEngine) ∧
  (∀ s i, s.lteCell i.cell = false → Withholds (.rxDataIndication i) i s s) ∧
  (∀ s i, Withholds (.crcIndication i) i s (s.decodeLte i.cell (s.refStart i)).drawn) ∧
  (∀ s i, s.lteCell i.cell = false → Withholds (.uciIndication i) i s s.countEngine) ∧
  (∀ s i, Withholds (.srsIndication i) i s s) ∧
  (∀ s i, Withholds (.rachIndication i) i s
    { s with radio := { s.radio with hits := s.radio.hits.filter fun x => !(Nat.beq x.cell i.cell && Nat.beq x.sfn i.sfn && Nat.beq x.slot i.slot) } }) ∧
  (∀ s i, s.lteCell i.cell → Withholds (.rxUlschIndication i) i s (s.decodeLte i.cell (s.refStart i))) ∧
  (∀ s i, s.lteCell i.cell → Withholds (.harqIndication i) i s s.countEngine) ∧
  (∀ s i, s.lteCell i.cell → Withholds (.rxSrIndication i) i s s.countEngine) ∧
  (∀ s i, s.lteCell i.cell → Withholds (.rxCqiIndication i) i s s.countEngine) ∧
  (∀ s i, s.lteCell i.cell → Completes (.rxDataIndication i) s fun t => t = s) ∧
  (∀ s i, s.lteCell i.cell → Completes (.uciIndication i) s fun t => t = s) ∧
  (∀ s i, s.lteCell i.cell = false → Completes (.rxUlschIndication i) s fun t => t = s) ∧
  (∀ s i, s.lteCell i.cell = false → Completes (.harqIndication i) s fun t => t = s) ∧
  (∀ s i, s.lteCell i.cell = false → Completes (.rxSrIndication i) s fun t => t = s) ∧
  (∀ s i, s.lteCell i.cell = false → Completes (.rxCqiIndication i) s fun t => t = s) ∧
  (∀ s i, s.lteCell i.cell = false → Overflows (.rxDataIndication i) 0x85 i [] (s.passedData i.cell (s.refStart i)) s s) ∧
  (∀ s i, s.lteCell i.cell = false → Overflows (.uciIndication i) 0x87 i (s.uciReports i [0, 1, 2, 3, 4] true) [] s s.countEngine) ∧
  (∀ s i u, s.lteCell i.cell → s.decodeLte i.cell (s.refStart i) = u →
    Overflows (.rxUlschIndication i) 0x87 i [] (u.passedData i.cell (u.refStart i)) s u) ∧
  (∀ s i, s.lteCell i.cell → Overflows (.harqIndication i) 0x85 i (s.uciReports i [1, 2, 4, 5, 6] true) [] s s.countEngine) ∧
  (∀ s i, s.lteCell i.cell → Overflows (.rxSrIndication i) 0x8A i (s.uciReports i [0] false) [] s s.countEngine) ∧
  (∀ s i, s.lteCell i.cell → Overflows (.rxCqiIndication i) 0x8B i (s.uciReports i [3, 4, 5] true) [] s s.countEngine)

/-- R204, R207–R209: a decoder in service decodes a block of an NR cell's slot once. The LLRs of a process that holds a buffer are added to the block's
part of it, saturating at ±127, position by position as its rate matching says; new data overwrite it; a process that holds none takes one, and is
reported where its data are not new. A transport block that passes releases its buffer.
R211–R213: a preamble that passes the energy test and whose repetitions pass the qualifier is detected with its timing advance; one that fails
the qualifier alone is counted; with no correlation engine in service none is searched. (Said where every floor has had its first sample.) -/
def Obligations.blocks_combine_and_preambles_are_detected : Prop :=
  (∀ s decoder i rnti block p, (Instr.ldpcDecode decoder i rnti block).wf → s.decoderUp decoder → s.lteCell i.cell = false →
    ((s.puschs i.cell (s.refStart i)).find? fun x => Nat.beq x.rnti rnti) = some p → block < p.blocks →
    s.isDecoded i.cell (s.refStart i) rnti block = false → Completes (.ldpcDecode decoder i rnti block) s fun t =>
      t.isDecoded i.cell (s.refStart i) rnti block ∧ t.radio.decoded.dropLast = s.radio.decoded ∧
      (t.tbPass i.cell (s.refStart i) p → t.harqOf i.cell rnti p.process = none) ∧
      (t.tbPass i.cell (s.refStart i) p = false → (t.harqOf i.cell rnti p.process).isSome) ∧
      (s.harqOf i.cell rnti p.process = none → p.newData = false → t.radio.errCount = s.radio.errCount + 1) ∧
      Frame ringParts (0x080 :: 0x081 :: (memoryPages ++ clusterPages)) s t) ∧
  (∀ s decoder i rnti block p h a n, (Instr.ldpcDecode decoder i rnti block).wf → s.decoderUp decoder → s.lteCell i.cell = false →
    ((s.puschs i.cell (s.refStart i)).find? fun x => Nat.beq x.rnti rnti) = some p → block < p.blocks →
    s.isDecoded i.cell (s.refStart i) rnti block = false → s.harqOf i.cell rnti p.process = some h → s.harqPart h p block = (a, n) → s.sram = [] →
    s.poison = [] → s.poisonB = [] →
    s.bad (s.harqAddr i.cell h.place) (harqBytes (cellEntry s.radio.image i.cell)) = false → a + n ≤ 0x004000000000 → (granules a n).all s.served →
    Completes (.ldpcDecode decoder i rnti block) s fun t =>
      t.rdBytes a n = ((addLlrs (Config.ratePos p (cellIsLte (cellEntry s.radio.image i.cell)) block)
        (if p.newData ∨ h.since = s.refStart i then List.replicate p.ncb 0
          else ((s.rdBytes a n).map fun b => clampLlr (toSigned 8 b.toNat)) ++ List.replicate (p.ncb - n) 0)
        (s.blockLlrs i.cell (s.refStart i) p block)).take n).map (fun v => BitVec.ofInt 8 v) ∧
      SameMemory [(a, n)] s t) ∧
  (∀ s decoder i rnti block, (Instr.ldpcDecode decoder i rnti block).wf → (s.decoderUp decoder = false ∨ s.lteCell i.cell ∨
    (((s.puschs i.cell (s.refStart i)).find? fun x => Nat.beq x.rnti rnti).all fun p => Nat.ble p.blocks block ||
      s.isDecoded i.cell (s.refStart i) rnti block)) → Completes (.ldpcDecode decoder i rnti block) s fun t => t = s) ∧
  (∀ s i, (Instr.prachDetection i).wf → 0 < s.fld Reg.RADIO_ENG.FFT_UP.UP →
    ((s.occasions i.cell (s.refStart i)).all fun p => (prbGroups p.prb0 p.prbs).all fun g => (Assoc.find (64 * i.cell + g) s.radio.nf).isSome) →
    Completes (.prachDetection i) s fun t =>
      t.radio.hits.map (fun h => h.index) = s.radio.hits.map (fun h => h.index) ++
        ((s.occasions i.cell (s.refStart i)).flatMap fun p => (List.range 64).filter fun k => s.searched i p k true) ∧
      t.fld Reg.RADIO.PRACH_QREJ.COUNT = min (s.fld Reg.RADIO.PRACH_QREJ.COUNT +
        ((s.occasions i.cell (s.refStart i)).flatMap fun p => (List.range 64).filter fun k => s.searched i p k false).length) (2 ^ 32 - 1) ∧
      ((t.radio.hits.drop s.radio.hits.length).all fun h => Nat.beq h.cell i.cell && Nat.beq h.sfn i.sfn && Nat.beq h.slot i.slot) ∧
      Frame [.radio] [0x080, 0x081] s t) ∧
  (∀ s i p, (Instr.prachDetection i).wf → 0 < s.fld Reg.RADIO_ENG.FFT_UP.UP → s.occasions i.cell (s.refStart i) = [p] →
    ((prbGroups p.prb0 p.prbs).all fun g => (Assoc.find (64 * i.cell + g) s.radio.nf).isSome) → Completes (.prachDetection i) s fun t =>
      ∀ k, k < 64 → s.searched i p k true → s.prachDelay i p k * 2 ^ cellMu (cellEntry s.radio.image i.cell) % 1024 ≠ 512 →
        t.radio.hits.any fun h => Nat.beq h.index k && Nat.beq h.cell i.cell &&
          Nat.beq h.advance ((s.prachDelay i p k * 2 ^ cellMu (cellEntry s.radio.image i.cell) + 512) / 1024)) ∧
  (∀ s i, (Instr.prachDetection i).wf → s.fld Reg.RADIO_ENG.FFT_UP.UP = 0 → Completes (.prachDetection i) s fun t => t = s)

/-- R200, R224–R227: a cell image that passes its checks waits for a frame boundary two beats ahead at least, one that fails is refused; with the
host lost a cell that serves enters FALLBACK at its slot boundary, and after HOLD_S the cells longest in it are to fall silent; an engine that fails is
marked down. With no check under way, the link up or the cell not serving, or no FALLBACK open, nothing happens. -/
def Obligations.cells_fallback_and_engines : Prop :=
  (∀ s a b (en : Bool), s.radio.checking = some (a, b, en) → s.cellReason a b = none → Completes .cellConfigCheckDone s fun t =>
    t.radio.next = some b ∧ t.radio.checking = none ∧ t.radio.image = s.radio.image ∧ t.isSet Reg.RADIO.STATUS.CFG_PENDING ∧
      t.fld (refusalReason 0x080) = 0 ∧
      t.fld2 Reg.RADIO.CFG_BEAT_LO.BEAT Reg.RADIO.CFG_BEAT_HI.BEAT = ((s.now + s.L - 1) / s.L + 2 + s.F - 1) / s.F * s.F % 2 ^ 64 ∧
      (en → t.isSet (ctrlEnable 0x080)) ∧ Frame [.radio] [0x080] s t) ∧
  (∀ s a b (en : Bool) x, s.radio.checking = some (a, b, en) → s.cellReason a b = some x → Completes .cellConfigCheckDone s fun t =>
    Refused t 0x080 (x % 65536) ∧ t.radio.checking = none ∧ t.radio.next = s.radio.next ∧ Frame [.radio] [0x080] s t) ∧
  (∀ s, s.radio.checking = none → Completes .cellConfigCheckDone s fun t => t = s) ∧
  (∀ s cell, (Instr.radioFallback cell).wf → s.fld Reg.STAIDO.STATE.STATE = 0 → Assoc.find cell s.radio.cells = some 1 → s.radioOn →
    Completes (.radioFallback cell) s fun t => Assoc.find cell t.radio.cells = some 2 ∧
      (∀ c ∈ s.radio.cells, c.1 ≠ cell → Assoc.find c.1 t.radio.cells = Assoc.find c.1 s.radio.cells) ∧
      t.fld Reg.RADIO.STATUS.RSTATE = 2 ∧ t.err Reg.RADIO.ERR.HOST_LOSS ∧ Assoc.find cell t.radio.fallbackAt = some s.mono ∧ Frame [.radio] [0x080] s t) ∧
  (∀ s cell, (Instr.radioFallback cell).wf → (s.fld Reg.STAIDO.STATE.STATE ≠ 0 ∨ Assoc.find cell s.radio.cells ≠ some 1) →
    Completes (.radioFallback cell) s fun t => t = s) ∧
  (∀ s l, (s.radio.fallbackAt.filter fun x => Assoc.find x.1 s.radio.cells == some 2 && !s.radio.silentDue.contains x.1) = l → l ≠ [] →
    Completes .fallbackExpiry s fun t => (∃ x ∈ l, t.radio.silentDue.contains x.1 ∧ x.2 + 1000000000 * s.fld Reg.RADIO.FALLBACK.HOLD_S ≤ t.mono) ∧
      (∀ x ∈ l, x.2 + 1000000000 * s.fld Reg.RADIO.FALLBACK.HOLD_S ≤ t.mono → t.radio.silentDue.contains x.1) ∧
      t.radio.cells = s.radio.cells ∧ Frame [.radio, .time] [] s t) ∧
  (∀ s, (s.radio.fallbackAt.filter fun x => Assoc.find x.1 s.radio.cells == some 2 && !s.radio.silentDue.contains x.1) = [] →
    Completes .fallbackExpiry s fun t => t = s) ∧
  (∀ s cls index f, (Instr.engineSelfCheckFail cls index).wf → engineFld cls index = some f → Completes (.engineSelfCheckFail cls index) s fun t =>
    (t.fld f).testBit (index % 32) = false ∧ (∀ j, j < 32 → j ≠ index % 32 → (t.fld f).testBit j = (s.fld f).testBit j) ∧
      t.err Reg.RADIO.ERR.ENGINE ∧ Frame [] [0x080, 0x081] s t)

/-- R231, R234, R237, R240, R242, R245–R248, R254: an interface that loses its link discards its frames and counts them, and the slave interface its
master too. The frames of a symbol of a stream join the leaf of their RU's SUB and their service when the first instant of their window comes, under
the next SEQ_IDs, to start by its last; where that leaf holds nothing they count in LINK_DROP; M-plane frames of the host have no window. A frame at
its start limit leaves as late if it heads its leaf. An interface starts the frame its scheduler picks, if any; one alone on a strict-priority leaf
with full buckets is picked, and its counted length leaves the leaf's peak bucket. -/
def Obligations.fronthaul_links_and_egress : Prop :=
  (∀ s i, (Instr.interfaceLinkDown i).wf → s.ifUp i → Completes (.interfaceLinkDown i) s fun t =>
    t.ifUp i = false ∧ (t.iface i).frames = [] ∧ (t.iface i).sending = none ∧ t.err (Reg.FH_PORT.ERR.LINK_DOWN (ifPort i)) ∧ t.err Reg.FH.ERR.ANY_PORT ∧
      t.fld (Reg.FH_PORT.LINK_DROP.COUNT (ifPort i)) = min (s.fld (Reg.FH_PORT.LINK_DROP.COUNT (ifPort i)) + (s.iface i).frames.length) (2 ^ 32 - 1) ∧
      (s.slaveIface ≠ some i → Frame [.fh] [0x060, 0x061 + ifPort i] s t) ∧
      (s.slaveIface = some i → t.time.master = none ∧ t.time.samples = [] ∧ t.isSet Reg.TIME.STATUS.MASTER_VALID = false ∧
        (s.time.master.isSome → t.err Reg.TIME.ERR.ANNOUNCE_TIMEOUT) ∧
        Frame [.fh, .time] [0x060, 0x061 + ifPort i, 0x040, 0x010, 0x042] s t)) ∧
  (∀ s i, (Instr.interfaceLinkDown i).wf → s.ifUp i = false → Completes (.interfaceLinkDown i) s fun t => t = s) ∧
  (∀ s i, (Instr.interfaceLinkUp i).wf → s.ifExists i → Completes (.interfaceLinkUp i) s fun t => t.ifUp i ∧ Frame [] [0x061 + ifPort i] s t) ∧
  (∀ s i, (Instr.interfaceLinkUp i).wf → s.ifExists i = false → Completes (.interfaceLinkUp i) s fun t => t = s) ∧
  (∀ s cell stream bytes start symbol c e i, (Instr.frameEligible cell stream (.mPlane bytes) start symbol).wf → cellEntry s.radio.image cell = c →
    ruEntry s.fh.ru (cellRu c) = e → ruIface e = i → s.carries cell stream start symbol c e → s.ifUp i → Completes
    (.frameEligible cell stream (.mPlane bytes) start symbol) s fun t =>
      let b := (s.frameHead i e 3).tagged bytes
      (t.iface i).frames = (if s.leafHolds i (ruSub e) 3 ∧ b.length + 4 ≤ s.fld Reg.FH.MAX_FRAME.BYTES then
        (s.iface i).frames ++ [⟨s.fh.nextFrame, ruSub e, 3, max 64 (b.length + 4), none, .bytes b⟩] else (s.iface i).frames) ∧
      t.fld (Reg.FH_PORT.LINK_DROP.COUNT (ifPort i)) = (if s.leafHolds i (ruSub e) 3 = false ∧ b.length + 4 ≤ s.fld Reg.FH.MAX_FRAME.BYTES then
        min (s.fld (Reg.FH_PORT.LINK_DROP.COUNT (ifPort i)) + 1) (2 ^ 32 - 1) else s.fld (Reg.FH_PORT.LINK_DROP.COUNT (ifPort i))) ∧
      Frame [.fh] [0x061 + ifPort i] s t) ∧
  (∀ s cell stream plane start symbol c e i first last q, (Instr.frameEligible cell stream plane start symbol).wf → cellEntry s.radio.image cell = c →
    ruEntry s.fh.ru (cellRu c) = e → ruIface e = i → s.carries cell stream start symbol c e → s.ifUp i →
    (plane = .uDown ∧ first = airTime c start symbol - ruMaxUp e ∧ last = airTime c start symbol - ruMinUp e ∨
      (plane = .cDown ∨ plane = .cUp) ∧ first = airTime c start symbol - ruMaxCp e ∧ last = airTime c start symbol - ruMinCp e) →
    Assoc.findD (65536 * cellRu c + (ruEaxc e + stream) % 65536) 0 s.fh.seqTx = q → q < 256 → Completes
    (.frameEligible cell stream plane start symbol) s fun t =>
      let m := ((s.advanceTo first).messages cell stream start symbol plane i e).1
      first ≤ t.now ∧
      Assoc.findD (65536 * cellRu c + (ruEaxc e + stream) % 65536) 0 t.fh.seqTx = (q + m.length) % 256 ∧
      (s.leafHolds i (ruSub e) (planeService plane) → (t.iface i).frames.take (s.iface i).frames.length = (s.iface i).frames ∧
        ((t.iface i).frames.drop (s.iface i).frames.length).map TxFrame.body = m.zipIdx.map (fun x => TxBody.bytes
          ((s.frameHead i e (planeService plane)).frame (s.draws + 3 * x.2)
            (ecpriMsg (planeType plane) ((ruEaxc e + stream) % 65536) ((q + x.2) % 256) x.1))) ∧
        ((t.iface i).frames.drop (s.iface i).frames.length).all fun f =>
          Nat.beq f.sub (ruSub e) && Nat.beq f.service (planeService plane) && f.limit == some last) ∧
      (s.leafHolds i (ruSub e) (planeService plane) = false → (t.iface i).frames = (s.iface i).frames ∧
        t.fld (Reg.FH_PORT.LINK_DROP.COUNT (ifPort i)) = min (s.fld (Reg.FH_PORT.LINK_DROP.COUNT (ifPort i)) + m.length) (2 ^ 32 - 1)) ∧
      Frame [.fh, .time] [0x060, 0x061 + ifPort i] s t) ∧
  (∀ s cell stream plane start symbol c e, (Instr.frameEligible cell stream plane start symbol).wf → cellEntry s.radio.image cell = c →
    ruEntry s.fh.ru (cellRu c) = e → s.carries cell stream start symbol c e = false → Completes
    (.frameEligible cell stream plane start symbol) s fun t => t = s) ∧
  (∀ s cell stream plane start symbol c e, (Instr.frameEligible cell stream plane start symbol).wf → cellEntry s.radio.image cell = c →
    ruEntry s.fh.ru (cellRu c) = e → s.carries cell stream start symbol c e → s.ifUp (ruIface e) = false → Completes
    (.frameEligible cell stream plane start symbol) s fun t => SameBut [.time] s t ∧ SameFields [] s t) ∧
  (∀ s i f l, (Instr.frameStartLimit i f.id).wf → (s.iface i).frames = [f] → f.limit = some l → s.now ≤ l → Completes (.frameStartLimit i f.id) s fun t =>
    (t.iface i).frames = [] ∧ t.fld (Reg.FH_PORT.DL_LATE.COUNT (ifPort i)) = min (s.fld (Reg.FH_PORT.DL_LATE.COUNT (ifPort i)) + 1) (2 ^ 32 - 1) ∧
      t.err (Reg.FH_PORT.ERR.DL_LATE (ifPort i)) ∧ l ≤ t.now ∧ Frame [.fh, .time] [0x060, 0x061 + ifPort i] s t) ∧
  (∀ s i f l, (Instr.frameStartLimit i f.id).wf → ((s.iface i).frames.find? fun x => Nat.beq x.id f.id) = some f → f.limit = some l →
    Completes (.frameStartLimit i f.id) s fun t =>
      let late := lateHeads (max s.now l) true (s.iface i).frames []
      (t.iface i).frames = late.1 ∧
      t.fld (Reg.FH_PORT.DL_LATE.COUNT (ifPort i)) = min (s.fld (Reg.FH_PORT.DL_LATE.COUNT (ifPort i)) + late.2) (2 ^ 32 - 1) ∧
      (late.2 ≠ 0 → t.err (Reg.FH_PORT.ERR.DL_LATE (ifPort i))) ∧ l ≤ t.now ∧ Frame [.fh, .time] [0x060, 0x061 + ifPort i] s t) ∧
  (∀ s i k, (Instr.frameStartLimit i k).wf → (((s.iface i).frames.find? fun x => Nat.beq x.id k).all fun f => f.limit == none) →
    Completes (.frameStartLimit i k) s fun t => t = s) ∧
  (∀ s i raw f, (Instr.frameTransmit i raw).wf → s.sendsNext i f → Completes (.frameTransmit i raw) s fun t =>
    leftAlone i f s t ∧ (t.iface i).frames = [] ∧ (t.iface i).sending = some f ∧
      t.fld (Reg.FH_PORT.TX_FRAMES.COUNT (ifPort i)) = min (s.fld (Reg.FH_PORT.TX_FRAMES.COUNT (ifPort i)) + 1) (2 ^ 32 - 1) ∧
      Assoc.find (Node.leaf f.sub f.service).key (t.iface i).sched.peak =
        some (1000 * (entPbs (shpEntry (s.iface i).sched.image (.leaf f.sub f.service)) : Int) -
          1000 * (max 1 ((f.length : Int) + toSigned 9 (s.fld (Reg.FH_PORT.OVERHEAD.BYTES (ifPort i)))))) ∧
      Frame [.fh, .time] [0x061 + ifPort i] s t) ∧
  (∀ s i raw, (Instr.frameTransmit i raw).wf → s.ifUp i → Completes (.frameTransmit i raw) s fun t =>
    let late := lateHeads s.now false (s.iface i).frames []
    let heads := headFrames late.1 []
    let r := (s.iface i).sched.pick (s.mono / 8)
      (heads.map fun f => ⟨f.sub, f.service, counted f.length (toSigned 9 (s.fld (Reg.FH_PORT.OVERHEAD.BYTES (ifPort i))))⟩)
    t.fld (Reg.FH_PORT.DL_LATE.COUNT (ifPort i)) = min (s.fld (Reg.FH_PORT.DL_LATE.COUNT (ifPort i)) + late.2) (2 ^ 32 - 1) ∧
    (t.iface i).sched = r.2 ∧
    (r.1 = none → (t.iface i).frames = late.1 ∧ (t.iface i).sending = (s.iface i).sending ∧ t.out = s.out) ∧
    (∀ h ∈ r.1.toList, heads.any fun f => Nat.beq f.sub h.sub && Nat.beq f.service h.svc && (t.iface i).sending == some f &&
      (t.iface i).frames == late.1.erase f) ∧
    Frame [.fh, .time] [0x060, 0x061 + ifPort i] s t) ∧
  (∀ s i raw, (Instr.frameTransmit i raw).wf → s.ifUp i = false → Completes (.frameTransmit i raw) s fun t => t = s)

/-- R232, R235, R237, R241, R243: a frame that FEC could not correct, one with a wrong FCS and one the port or no RU takes are counted; a U-plane
frame of a known RU notes its sequence number, a gap of which counts in RX_UNKNOWN; within its window its PRBs are decompressed and kept for their
symbol in every cell of the RU, after or before it the frame counts in UL_LATE. An M-plane frame goes to the host; a delay request is answered with
the time of its arrival. -/
def Obligations.fronthaul_receives : Prop :=
  (∀ s i f r e x, (Instr.frameReceive i f).wf → s.arrivesWhole i f → s.framed i f → s.ecpriOk i f → f.ptp = false → f.mPlane = false → f.msgType = 0 →
    s.matchRu i f = some (r, e) → (s.cellsIn.filter fun x => Nat.beq (cellRu x.2) r).head? = some x →
    airTime x.2 (rxStart f x.2) f.symbol + ruTa4Min e ≤ f.arrival → f.arrival ≤ airTime x.2 (rxStart f x.2) f.symbol + ruTa4Max e →
    Completes (.frameReceive i f) s fun t =>
      t.fld (Reg.FH_PORT.RX_FRAMES.COUNT (ifPort i)) = min (s.fld (Reg.FH_PORT.RX_FRAMES.COUNT (ifPort i)) + 1) (2 ^ 32 - 1) ∧
      Assoc.find (65536 * r + f.eaxc) t.fh.seqRx = some ((f.seqId + 1) % 256) ∧
      t.fh.received = s.fh.received ++ (s.cellsIn.filter fun c => Nat.beq (cellRu c.2) r).flatMap (fun c => f.prbs.zipIdx.map fun b =>
        ⟨c.1, rxStart f c.2, f.symbol, f.eaxc - ruEaxc e, f.startPrb + b.2,
          if ruUlComp e = 1 then (bfpDecode (ruUlIqw e) b.1).1 else plainDecode b.1⟩) ∧
      t.fld (Reg.FH_PORT.BFP_SAT.COUNT (ifPort i)) = (if ruUlComp e = 1 then
        min (s.fld (Reg.FH_PORT.BFP_SAT.COUNT (ifPort i)) + (f.prbs.map fun b => (bfpDecode (ruUlIqw e) b).2).sum) (2 ^ 32 - 1)
        else s.fld (Reg.FH_PORT.BFP_SAT.COUNT (ifPort i))) ∧
      t.fld (Reg.FH_PORT.UL_LATE.COUNT (ifPort i)) = s.fld (Reg.FH_PORT.UL_LATE.COUNT (ifPort i)) ∧
      t.fld (Reg.FH_PORT.RX_UNKNOWN.COUNT (ifPort i)) = (if (Assoc.find (65536 * r + f.eaxc) s.fh.seqRx).any (fun q => !Nat.beq q f.seqId) then
        min (s.fld (Reg.FH_PORT.RX_UNKNOWN.COUNT (ifPort i)) + 1) (2 ^ 32 - 1) else s.fld (Reg.FH_PORT.RX_UNKNOWN.COUNT (ifPort i))) ∧
      Frame [.fh, .time, .radio] [0x060, 0x061 + ifPort i] s t) ∧
  (∀ s i f r e x, (Instr.frameReceive i f).wf → s.arrivesWhole i f → s.framed i f → s.ecpriOk i f → f.ptp = false → f.mPlane = false → f.msgType = 0 →
    s.matchRu i f = some (r, e) → (s.cellsIn.filter fun x => Nat.beq (cellRu x.2) r).head? = some x →
    (f.arrival < airTime x.2 (rxStart f x.2) f.symbol + ruTa4Min e ∨ airTime x.2 (rxStart f x.2) f.symbol + ruTa4Max e < f.arrival) →
    Completes (.frameReceive i f) s fun t => t.err (Reg.FH_PORT.ERR.UL_LATE (ifPort i)) ∧
      t.fld (Reg.FH_PORT.UL_LATE.COUNT (ifPort i)) = min (s.fld (Reg.FH_PORT.UL_LATE.COUNT (ifPort i)) + 1) (2 ^ 32 - 1) ∧
      t.fh.received = s.fh.received ∧ Assoc.find (65536 * r + f.eaxc) t.fh.seqRx = some ((f.seqId + 1) % 256) ∧
      Frame [.fh, .time] [0x060, 0x061 + ifPort i] s t) ∧
  (∀ s i f, (Instr.frameReceive i f).wf → s.arrivesWhole i f →
    (f.length < 64 ∨ s.fld Reg.FH.MAX_FRAME.BYTES < f.length ∨ f.pause ∨ s.takesDst i f = false ∨ (f.ptp ∧ s.role i = 0) ∨
      (f.ptp = false ∧ f.mPlane = false ∧ (f.tagged ≠ s.isSet (Reg.FH_PORT.PORT_CFG.VLAN (ifPort i)) ∨ s.transportOk i f = false ∨ f.concat ∨
        f.eBit = false ∨ (f.msgType ≠ 5 ∧ (f.msgType ≠ 0 ∨ s.matchRu i f = none))))) →
    Completes (.frameReceive i f) s fun t =>
      t.fld (Reg.FH_PORT.RX_UNKNOWN.COUNT (ifPort i)) = min (s.fld (Reg.FH_PORT.RX_UNKNOWN.COUNT (ifPort i)) + 1) (2 ^ 32 - 1) ∧
      t.fld (Reg.FH_PORT.RX_FRAMES.COUNT (ifPort i)) = min (s.fld (Reg.FH_PORT.RX_FRAMES.COUNT (ifPort i)) + 1) (2 ^ 32 - 1) ∧
      Frame [.time] [0x061 + ifPort i] s t) ∧
  (∀ s i f, (Instr.frameReceive i f).wf → s.ifUp i → f.fecOk → f.fcsOk = false → Completes (.frameReceive i f) s fun t =>
    t.fld (Reg.FH_PORT.RX_FCS_ERR.COUNT (ifPort i)) = min (s.fld (Reg.FH_PORT.RX_FCS_ERR.COUNT (ifPort i)) + 1) (2 ^ 32 - 1) ∧
      t.fld (Reg.FH_PORT.RX_FRAMES.COUNT (ifPort i)) = min (s.fld (Reg.FH_PORT.RX_FRAMES.COUNT (ifPort i)) + 1) (2 ^ 32 - 1) ∧
      Frame [.time] [0x061 + ifPort i] s t) ∧
  (∀ s i f, (Instr.frameReceive i f).wf → s.ifUp i → f.fecOk = false → Completes (.frameReceive i f) s fun t =>
    t.fld (Reg.FH_PORT.FEC_UNCORR.COUNT (ifPort i)) = min (s.fld (Reg.FH_PORT.FEC_UNCORR.COUNT (ifPort i)) + 1) (2 ^ 32 - 1) ∧
      t.err (Reg.FH_PORT.ERR.FEC_UNCORR (ifPort i)) ∧ Frame [.time] [0x060, 0x061 + ifPort i] s t) ∧
  (∀ s i f, (Instr.frameReceive i f).wf → s.arrivesWhole i f → s.framed i f → f.ptp = false → f.mPlane → Completes (.frameReceive i f) s fun t =>
    t.out = s.out ++ [.mPlane i f.content] ∧
      t.fld (Reg.FH_PORT.RX_FRAMES.COUNT (ifPort i)) = min (s.fld (Reg.FH_PORT.RX_FRAMES.COUNT (ifPort i)) + 1) (2 ^ 32 - 1) ∧
      Frame [.time] [0x061 + ifPort i] s t) ∧
  (∀ s i f, (Instr.frameReceive i f).wf → s.arrivesWhole i f → s.framed i f →
    ((f.ptp ∧ s.role i ≠ 0) ∨ (f.ptp = false ∧ f.mPlane = false ∧ s.ecpriOk i f ∧ f.msgType = 5)) → Completes (.frameReceive i f) s fun t =>
      t = (s.advanceTo f.arrival).countSat (Reg.FH_PORT.RX_FRAMES.COUNT (ifPort i)) 1) ∧
  (∀ s i f, (Instr.frameReceive i f).wf → s.ifUp i = false → Completes (.frameReceive i f) s fun t => t = s.advanceTo f.arrival) ∧
  (∀ s i id t1 corr, (Instr.ecpriDelayRequest i id t1 corr).wf → s.ifUp i → Completes (.ecpriDelayRequest i id t1 corr) s fun t =>
    t.out = s.out ++ [.ecpri i id t1 s.now corr] ∧ Frame [] [] s t) ∧
  (∀ s i id t1 corr, (Instr.ecpriDelayRequest i id t1 corr).wf → s.ifUp i = false → Completes (.ecpriDelayRequest i id t1 corr) s fun t => t = s)

/-- R267, R269–R273, R277: a Sync of the selected master is timed at the slave interface; a Follow_Up completes it; a Delay_Req on a master port is
answered with its arrival, on a transparent interface it is passed to the slave interface; a Delay_Resp to the own Delay_Req completes the exchange
and its offset enters the window of 16; an accepted Announce gives the master. What comes from the master passes to every transparent interface, a
Sync and a Delay_Req with their residence time to come. A message that the interface does not take is counted and has no effect.
R265, R267–R273: what a master port and the slave interface queue, how a PTP event message is completed as it leaves: an own Sync with its egress
timestamp, a relayed message with its residence time, and t3 of the own Delay_Req noted; and what an Announce timeout does in each state. -/
def Obligations.ptp_messages_and_announce_timeout : Prop :=
  (∀ s i raw m, (Instr.sync i raw m).wf → s.ifUp i → m.domain = s.ptpDomain → s.role i = 1 → s.fromMaster m.source → Completes (.sync i raw m) s fun t =>
    t.time.sync = some ⟨m.source, m.seqId, m.origin, m.correction, s.ingress i raw, !m.twoStep⟩ ∧ raw / 65536 ≤ t.now ∧
      (∀ k ∈ s.transparents, QueuedPtp k (.relay true (s.resAt raw - s.ingAsym i) m) s t) ∧ Frame [.time, .fh] [0x040, 0x061 + ifPort i] s t) ∧
  (∀ s i m y, (Instr.followUp i m).wf → s.ifUp i → m.domain = s.ptpDomain → s.role i = 1 → s.fromMaster m.source → s.time.sync = some y →
    Completes (.followUp i m) s fun t =>
      t.time.sync = some (if y.source = m.source ∧ y.seq = m.seqId ∧ y.complete = false then
        { y with t1 := m.origin, corr := y.corr + m.correction, complete := true } else y) ∧
      (∀ k ∈ s.transparents, QueuedPtp k (.ptp ⟨k, s.ptpDst, s.ptpDomain, m.source, .followUp m.seqId m.origin m.correction⟩) s t) ∧
      Frame [.time, .fh] [0x040, 0x061 + ifPort i] s t) ∧
  (∀ s i m, (Instr.followUp i m).wf → s.ifUp i → m.domain = s.ptpDomain → s.role i = 1 → s.fromMaster m.source → s.time.sync = none →
    Completes (.followUp i m) s fun t =>
      (∀ k ∈ s.transparents, QueuedPtp k (.ptp ⟨k, s.ptpDst, s.ptpDomain, m.source, .followUp m.seqId m.origin m.correction⟩) s t) ∧
      Frame [.fh] [0x040, 0x061 + ifPort i] s t) ∧
  (∀ s i raw m, (Instr.delayReq i raw m).wf → s.ifUp i → m.domain = s.ptpDomain → s.role i = 2 → Completes (.delayReq i raw m) s fun t =>
    QueuedPtp i (.ptp ⟨i, s.ptpDst, s.ptpDomain, s.portId i, .delayResp m.seqId (s.ingress i raw) m.correction m.source⟩) s t ∧
      Frame [.time, .fh] [0x040, 0x061 + ifPort i] s t) ∧
  (∀ s i raw m k, (Instr.delayReq i raw m).wf → s.ifUp i → m.domain = s.ptpDomain → s.role i = 3 → s.slaveIface = some k →
    Completes (.delayReq i raw m) s fun t =>
      QueuedPtp k (.relay false (s.resAt raw - s.ingAsym i) m) s t ∧ Frame [.time, .fh] [0x040, 0x061 + ifPort i] s t) ∧
  (∀ s i m y t3, (Instr.delayResp i m).wf → s.ifUp i → m.domain = s.ptpDomain → s.role i = 1 → s.fromMaster m.source → s.time.sync = some y →
    y.complete → y.source = m.source → s.time.delayReq = some (t3, m.seqId) → m.requesting = s.portId i → Completes (.delayResp i m) s fun t =>
      t.time.samples = (((y.t2 - y.t1 - y.corr) - (m.origin - t3 - m.correction)) :: s.time.samples).take 16 ∧ t.time.delayReq = none ∧
      (∀ k ∈ s.transparents, QueuedPtp k (.ptp ⟨k, s.ptpDst, s.ptpDomain, m.source, .delayResp m.seqId m.origin m.correction m.requesting⟩) s t) ∧
      Frame [.time, .fh] [0x010, 0x040, 0x042, 0x061 + ifPort i] s t) ∧
  (∀ s i m, (Instr.delayResp i m).wf → s.ifUp i → m.domain = s.ptpDomain → s.role i = 1 → s.fromMaster m.source →
    ((s.time.sync.all fun y => !y.complete || !Nat.beq y.source m.source) ∨ (s.time.delayReq.all fun q => !Nat.beq q.2 m.seqId) ∨
      m.requesting ≠ s.portId i) → Completes (.delayResp i m) s fun t =>
      (∀ k ∈ s.transparents, QueuedPtp k (.ptp ⟨k, s.ptpDst, s.ptpDomain, m.source, .delayResp m.seqId m.origin m.correction m.requesting⟩) s t) ∧
      Frame [.fh] [0x040, 0x061 + ifPort i] s t) ∧
  (∀ s i m, (Instr.announce i m).wf → s.ifUp i → m.domain = s.ptpDomain → s.role i = 1 →
    (s.time.master.all fun x => Nat.beq x.msg.source m.source || announceBetter m x.msg) → Completes (.announce i m) s fun t =>
      t.time.master = some ⟨m⟩ ∧ t.isSet Reg.TIME.STATUS.MASTER_VALID ∧ t.fld2 Reg.TIME.GM_ID_LO.ID Reg.TIME.GM_ID_HI.ID = m.gmId % 2 ^ 64 ∧
      t.fld Reg.TIME.UTC_OFFSET.S = m.utcOffset % 2 ^ Reg.TIME.UTC_OFFSET.S.w ∧
      t.fld Reg.TIME.STATE.STATE = max 1 (s.fld Reg.TIME.STATE.STATE) ∧
      (s.time.master.map Master.ident = some (m.gmId, m.source) → t.time.samples = s.time.samples) ∧
      (s.time.master.map Master.ident ≠ some (m.gmId, m.source) → t.time.samples = [] ∧ t.time.stepRequested = false ∧
        (s.time.lockedTo.any (fun x => !(x == (m.gmId, m.source))) → t.err Reg.TIME.ERR.MASTER_CHANGE ∧ t.isSet Reg.TIME.STATUS.STEP_ARM = false)) ∧
      (∀ k ∈ s.transparents, QueuedPtp k (.ptp ⟨k, s.ptpDst, s.ptpDomain, m.source, .announce m⟩) s t) ∧
      Frame [.time, .fh] [0x010, 0x040, 0x061 + ifPort i] s t) ∧
  (∀ s i raw m, IgnoresPtp (.sync i raw m) i m.domain (Nat.beq (s.role i) 1 && s.fromMaster m.source) (s.advanceTo (raw / 65536)) s) ∧
  (∀ s i m, IgnoresPtp (.followUp i m) i m.domain (Nat.beq (s.role i) 1 && s.fromMaster m.source) s s) ∧
  (∀ s i raw m, IgnoresPtp (.delayReq i raw m) i m.domain (Nat.beq (s.role i) 2 || (Nat.beq (s.role i) 3 && s.slaveIface.isSome))
    (s.advanceTo (raw / 65536)) s) ∧
  (∀ s i m, IgnoresPtp (.delayResp i m) i m.domain (Nat.beq (s.role i) 1 && s.fromMaster m.source) s s) ∧
  (∀ s i m, IgnoresPtp (.announce i m) i m.domain
    (Nat.beq (s.role i) 1 && s.time.master.all fun x => Nat.beq x.msg.source m.source || announceBetter m x.msg) s s) ∧
  (∀ s i, (Instr.syncTransmit i).wf → s.role i = 2 → Completes (.syncTransmit i) s fun t =>
    QueuedPtp i (.ownSync s.time.syncSeq) s t ∧ t.time.syncSeq = (s.time.syncSeq + 1) % 65536 ∧ Frame [.time, .fh] [0x040] s t) ∧
  (∀ s i, (Instr.syncTransmit i).wf → s.role i ≠ 2 → Completes (.syncTransmit i) s fun t => t = s) ∧
  (∀ s i, Instr.delayReqTransmit.wf → s.slaveIface = some i → Completes .delayReqTransmit s fun t =>
    QueuedPtp i (.ownDelayReq s.time.delaySeq) s t ∧ t.time.delaySeq = (s.time.delaySeq + 1) % 65536 ∧ Frame [.time, .fh] [0x040] s t) ∧
  (∀ s, Instr.delayReqTransmit.wf → s.slaveIface = none → Completes .delayReqTransmit s fun t => t = s) ∧
  (∀ s i, (Instr.announceTransmit i).wf → s.role i = 2 → s.splane i → s.ifUp i → Completes (.announceTransmit i) s fun t =>
    (t.iface i).frames.dropLast = (s.iface i).frames ∧
    ((t.iface i).frames.getLast?.any fun f => Nat.beq f.sub 0 && Nat.beq f.service 0 && match f.body with
      | .ptp ⟨j, dst, dom, src, .announce a⟩ => Nat.beq j i && Nat.beq dst s.ptpDst && Nat.beq dom s.ptpDomain && Nat.beq src (s.portId i) &&
        Nat.beq a.source (s.portId i) &&
        (match s.fld Reg.TIME.STATE.STATE with
          | 2 => s.time.master.all fun m => a == { m.msg with source := s.portId i, stepsRemoved := m.msg.stepsRemoved + 1 }
          | 3 => Nat.beq a.clockClass (if s.mono < s.time.holdoverFrom + s.fld Reg.TIME.HOLD_CLASS_S.S * 1000000000 then 135 else 165)
          | _ => Nat.beq a.clockClass 248 && Nat.beq a.gmId s.clockId && Nat.beq a.stepsRemoved 0)
      | _ => false) ∧ Frame [.fh] [] s t) ∧
  (∀ s i, (Instr.announceTransmit i).wf → s.role i = 2 → (s.splane i = false ∨ s.ifUp i = false) → Completes (.announceTransmit i) s fun t =>
    t.fh = s.fh ∧ (s.splane i = false → t.err Reg.TIME.ERR.NO_SPLANE) ∧ Frame [] [0x040] s t) ∧
  (∀ s i, (Instr.announceTransmit i).wf → s.role i ≠ 2 → Completes (.announceTransmit i) s fun t => t = s) ∧
  (∀ s i raw f n, (Instr.frameTransmit i raw).wf → s.sendsNext i f → f.body = .ownSync n → Completes (.frameTransmit i raw) s fun t =>
    t.out = s.out ++ [.ptp ⟨i, s.ptpDst, s.ptpDomain, s.portId i, .sync n (s.egress i raw) 0 false⟩] ∧ raw / 65536 ≤ t.now) ∧
  (∀ s i raw f n, (Instr.frameTransmit i raw).wf → s.sendsNext i f → f.body = .ownDelayReq n → Completes (.frameTransmit i raw) s fun t =>
    t.out = s.out ++ [.ptp ⟨i, s.ptpDst, s.ptpDomain, s.portId i, .delayReq n 0⟩] ∧ t.time.delayReq = some (s.egress i raw, n)) ∧
  (∀ s i raw f b g m, (Instr.frameTransmit i raw).wf → s.sendsNext i f → f.body = .relay b g m → Completes (.frameTransmit i raw) s fun t =>
    let c := addResidence m.correction (s.resAt raw + s.egAsym i - g)
    t.out = s.out ++ [.ptp ⟨i, s.ptpDst, s.ptpDomain, m.source, if b then .sync m.seqId m.origin c m.twoStep else .delayReq m.seqId c⟩]) ∧
  (∀ s, s.time.master.isSome → Completes .announceTimeout s fun t =>
    t.fld Reg.TIME.STATE.STATE = (if s.isSet Reg.TIME.STATUS.ACQUIRED then 3 else 0) ∧ t.time.master = none ∧
      t.isSet Reg.TIME.STATUS.MASTER_VALID = false ∧ t.time.samples = [] ∧ t.err Reg.TIME.ERR.ANNOUNCE_TIMEOUT ∧
      (s.isSet Reg.TIME.STATUS.ACQUIRED → t.time.holdoverFrom = if s.fld Reg.TIME.STATE.STATE = 3 then s.time.holdoverFrom else s.mono) ∧
      Frame [.time] [0x010, 0x040, 0x042] s t) ∧
  (∀ s, s.time.master = none → Completes .announceTimeout s fun t => t = s)

/-- R274, R278–R281: REARM, the 1PPS input and output, the frequency sources and ESMC. -/
def Obligations.pulses_frequency_sources_and_esmc : Prop :=
  (∀ s, Completes .rearm s fun t => t.isSet Reg.TIME.STATUS.STEP_ARM ∧ t.time.rearmLeft = some 16 ∧ Frame [.time] [0x040] s t) ∧
  (∀ s, (s.isSet Reg.TIME.SERVO_CFG.PHASE_SRC = false ∨ s.slaveIface.isSome) → 2 ≤ s.now → s.now < 2 ^ 61 → Completes .ppsInEdge s fun t =>
    s.now ≤ 1000000000 * t.fld Reg.TIME.PPS_IN_SEC.SEC + t.fld Reg.TIME.PPS_IN_NS.NS + 2 ∧
      1000000000 * t.fld Reg.TIME.PPS_IN_SEC.SEC + t.fld Reg.TIME.PPS_IN_NS.NS ≤ s.now + 2 ∧ Frame [] [0x040] s t) ∧
  (∀ s, s.isSet Reg.TIME.SERVO_CFG.PHASE_SRC → s.slaveIface = none → Completes .ppsInEdge s fun t =>
    t.time.samples = (s.ppsOffset :: s.time.samples).take 16 ∧ t.fld Reg.TIME.STATE.STATE ≠ 0 ∧ Frame [.time] [0x010, 0x040, 0x042] s t) ∧
  (∀ s, (s.isSet Reg.TIME.SERVO_CFG.PHASE_SRC = false ∨ s.slaveIface.isSome) → Completes .ppsInMissing s fun t =>
    t.err Reg.TIME.ERR.PPS_IN_MISSING ∧ Frame [] [0x040] s t) ∧
  (∀ s, s.isSet Reg.TIME.SERVO_CFG.PHASE_SRC → s.slaveIface = none → Completes .ppsInMissing s fun t =>
    t.err Reg.TIME.ERR.PPS_IN_MISSING ∧ t.err Reg.TIME.ERR.ANNOUNCE_TIMEOUT ∧ t.time.samples = [] ∧
      t.fld Reg.TIME.STATE.STATE = (if s.isSet Reg.TIME.STATUS.ACQUIRED then 3 else 0) ∧ Frame [.time] [0x010, 0x040, 0x042] s t) ∧
  (∀ s k, (s.isSet Reg.TIME.PPS_OUT.FORCE ∨ (s.isSet Reg.TIME.PPS_OUT.EN ∧ s.isSet Reg.TIME.STATUS.ACQUIRED)) →
    ((s.now : Int) - toSigned 32 (s.fld Reg.TIME.PPS_OUT_COMP.NS)) / 1000000000 = k → s.time.ppsMarked ≠ some k → Completes .ppsOutPulse s fun t =>
    t.out = s.out ++ [.pps (s.fld Reg.TIME.PPS_OUT.WIDTH_MS)] ∧ t.time.ppsMarked = some k ∧ Frame [.time] [] s t) ∧
  (∀ s, ((s.isSet Reg.TIME.PPS_OUT.FORCE = false ∧ (s.isSet Reg.TIME.PPS_OUT.EN = false ∨ s.isSet Reg.TIME.STATUS.ACQUIRED = false)) ∨
    s.time.ppsMarked = some (((s.now : Int) - toSigned 32 (s.fld Reg.TIME.PPS_OUT_COMP.NS)) / 1000000000)) → Completes .ppsOutPulse s fun t => t = s) ∧
  (∀ s, Completes (.frequencySourceLost .syncE) s fun t => t.isSet Reg.TIME.STATUS.SYNCE_LOCK = false ∧
    (s.fld Reg.TIME.SERVO_CFG.FREQ_SRC = 1 → t.err Reg.TIME.ERR.SYNCE_LOST) ∧
    (s.fld Reg.TIME.SERVO_CFG.FREQ_SRC ≠ 1 → t.err Reg.TIME.ERR.SYNCE_LOST = s.err Reg.TIME.ERR.SYNCE_LOST) ∧ Frame [] [0x040] s t) ∧
  (∀ s, Completes (.frequencySourceLost .ref10) s fun t => t.isSet Reg.TIME.STATUS.REF10_LOCK = false ∧
    (s.fld Reg.TIME.SERVO_CFG.FREQ_SRC = 2 → t.err Reg.TIME.ERR.REF10_LOST) ∧
    (s.fld Reg.TIME.SERVO_CFG.FREQ_SRC ≠ 2 → t.err Reg.TIME.ERR.REF10_LOST = s.err Reg.TIME.ERR.REF10_LOST) ∧ Frame [] [0x040] s t) ∧
  (∀ s, Completes (.frequencySourceRestored .ref10) s fun t => t.isSet Reg.TIME.STATUS.REF10_LOCK ∧ Frame [] [0x040] s t) ∧
  (∀ s, Completes (.frequencySourceRestored .syncE) s fun t => t.isSet Reg.TIME.STATUS.SYNCE_LOCK ∧ Frame [] [0x040] s t) ∧
  (∀ s ql i, (Instr.esmcReceive ql).wf → s.slaveIface = some i → Completes (.esmcReceive ql) s fun t =>
    t.fld Reg.TIME.SYNCE.RX_QL = ql ∧ Frame [] [0x040] s t) ∧
  (∀ s ql, (Instr.esmcReceive ql).wf → s.slaveIface = none → Completes (.esmcReceive ql) s fun t => t = s) ∧
  (∀ s i, (Instr.esmcInformationPdu i).wf → s.txSyncE i → Completes (.esmcInformationPdu i) s fun t =>
    t.out = s.out ++ [.esmc i (s.fld Reg.TIME.SYNCE.TX_QL) false] ∧ Frame [] [] s t) ∧
  (∀ s i, (Instr.esmcInformationPdu i).wf → s.txSyncE i = false → Completes (.esmcInformationPdu i) s fun t => t = s) ∧
  (∀ s i, (Instr.esmcEventPdu i).wf → s.txSyncE i → i ∈ s.time.qlPending → Completes (.esmcEventPdu i) s fun t =>
    t.out = s.out ++ [.esmc i (s.fld Reg.TIME.SYNCE.TX_QL) true] ∧ i ∉ t.time.qlPending ∧ Frame [.time] [] s t) ∧
  (∀ s i, (Instr.esmcEventPdu i).wf → (s.txSyncE i = false ∨ i ∉ s.time.qlPending) → Completes (.esmcEventPdu i) s fun t => t = s)

/-- R262, R263, R283, R285, R390, R489: a compare unit takes its target when armed, fires once d is 0 or more, and runs on by its period past the
present, a period missed marked; a read of the low word of a split value latches its high word for the issuer, which a read of the high word takes;
LFC_OFFSET is written only while the radio function is disabled; an access the issuer may not make is denied. -/
def Obligations.compare_units_and_latched_reads : Prop :=
  (∀ s u, (Instr.compareArm u).wf → s.isSet (Reg.TIME_CMP.CTRL.ARM u) = false → Completes (.compareArm u) s fun t =>
    t.isSet (Reg.TIME_CMP.CTRL.ARM u) ∧ Assoc.find u t.time.cmp = some (s.fld2 (Reg.TIME_CMP.TARGET_LO.T u) (Reg.TIME_CMP.TARGET_HI.T u)) ∧
      Frame [.time] [0x041] s t) ∧
  (∀ s u, (Instr.compareArm u).wf → s.isSet (Reg.TIME_CMP.CTRL.ARM u) → Completes (.compareArm u) s fun t => t = s) ∧
  (∀ s u x, (Instr.compareFire u).wf → s.isSet (Reg.TIME_CMP.CTRL.ARM u) → Assoc.find u s.time.cmp = some x →
    (s.now + 2 ^ 48 - x % 2 ^ 48) % 2 ^ 48 < 2 ^ 47 → s.isSet (Reg.TIME_CMP.CTRL.PERIODIC u) = false → Completes (.compareFire u) s fun t =>
      t.err ⟨0x041, 0x20, u, 1⟩ ∧ t.isSet (Reg.TIME_CMP.CTRL.ARM u) = false ∧ Frame [] [0x041] s t) ∧
  (∀ s u x d p, (Instr.compareFire u).wf → s.isSet (Reg.TIME_CMP.CTRL.ARM u) → Assoc.find u s.time.cmp = some x →
    (s.now + 2 ^ 48 - x % 2 ^ 48) % 2 ^ 48 = d → d < 2 ^ 47 → s.isSet (Reg.TIME_CMP.CTRL.PERIODIC u) → s.fld (Reg.TIME_CMP.PERIOD_NS.NS u) = p →
    Completes (.compareFire u) s fun t =>
      t.err ⟨0x041, 0x20, u, 1⟩ ∧ t.isSet (Reg.TIME_CMP.CTRL.ARM u) ∧
      (d < p → Assoc.find u t.time.cmp = some ((x + p) % 2 ^ 48)) ∧
      (p ≤ d → t.err ⟨0x041, 0x20, 16 + u, 1⟩ ∧ Assoc.find u t.time.cmp = some ((x + (d / p + 1) * p) % 2 ^ 48)) ∧ Frame [.time] [0x041] s t) ∧
  (∀ s u x, (Instr.compareFire u).wf → Assoc.findD u 0 s.time.cmp = x →
    (s.isSet (Reg.TIME_CMP.CTRL.ARM u) = false ∨ 2 ^ 47 ≤ (s.now + 2 ^ 48 - x % 2 ^ 48) % 2 ^ 48) → Completes (.compareFire u) s fun t => t = s) ∧
  (∀ s who, (Instr.nowFracRead who).wf → s.mayReach who 0x040 → Completes (.nowFracRead who) s fun t =>
    t.out = s.out ++ [.regData who (BitVec.ofNat 32 (s.time.t % 65536))] ∧
      (t.latched who 0x040 0x104).map Latch.val = some (BitVec.ofNat 32 (s.now % 1000000000)) ∧
      (t.latched who 0x040 0x108).map Latch.val = some (BitVec.ofNat 32 (s.now / 1000000000)) ∧
      (t.latched who 0x040 0x10C).map Latch.val = some (BitVec.ofNat 32 (s.now / 1000000000 / 2 ^ 32 % 2 ^ 16)) ∧ Frame [] [] s t) ∧
  (∀ s who page off lo ho hi, (Instr.latchRead who page off).wf → s.mayReach who page → s.latchPair page off = some (lo, ho, hi) →
    Completes (.latchRead who page off) s fun t => t.out = s.out ++ [.regData who (BitVec.ofNat 32 lo)] ∧
      (t.latched who page ho).map Latch.val = some (BitVec.ofNat 32 hi) ∧ Frame [] [] s t) ∧
  (∀ s who page off, (Instr.latchRead who page off).wf → s.latchPair page off = none → Completes (.latchRead who page off) s fun t => t = s) ∧
  (∀ s who page off lo ho hi l, (Instr.latchedHighRead who page off).wf → s.mayReach who page → s.latchPair page (off - 4) = some (lo, ho, hi) →
    s.latched who page off = some l → Completes (.latchedHighRead who page off) s fun t =>
      t.out = s.out ++ [.regData who l.val] ∧ t.latched who page off = none ∧ Frame [] [] s t) ∧
  (∀ s who page off lo ho hi, (Instr.latchedHighRead who page off).wf → s.mayReach who page → s.latchPair page (off - 4) = some (lo, ho, hi) →
    s.latched who page off = none → Completes (.latchedHighRead who page off) s fun t =>
      t.out = s.out ++ [.regData who (BitVec.ofNat 32 hi)] ∧ Frame [] [] s t) ∧
  (∀ s who page off, (Instr.latchedHighRead who page off).wf → s.latchPair page (off - 4) = none →
    Completes (.latchedHighRead who page off) s fun t => t = s) ∧
  (∀ s who, (Instr.lfcLoRead who).wf → s.mayReach who 0x042 → Completes (.lfcLoRead who) s fun t =>
    t.out = s.out ++ [.regData who (BitVec.ofNat 32 s.lfcLo)] ∧ (t.latched who 0x042 0x104).map Latch.val = some (BitVec.ofNat 32 s.lfcHi) ∧
      Frame [] [] s t) ∧
  (∀ s who l, (Instr.lfcHiRead who).wf → s.mayReach who 0x042 → s.latched who 0x042 0x104 = some l → Completes (.lfcHiRead who) s fun t =>
    t.out = s.out ++ [.regData who (BitVec.ofNat 32 (if l.beat = s.now / s.L then l.val.toNat + 2 ^ 31 else s.lfcHi))] ∧
      t.latched who 0x042 0x104 = none ∧ Frame [] [] s t) ∧
  (∀ s who, (Instr.lfcHiRead who).wf → s.mayReach who 0x042 → s.latched who 0x042 0x104 = none → Completes (.lfcHiRead who) s fun t =>
    t.out = s.out ++ [.regData who (BitVec.ofNat 32 s.lfcHi)] ∧ Frame [] [] s t) ∧
  (∀ s who w, (Instr.lfcOffsetWrite who w).wf → s.mayReach who 0x042 → s.fld Reg.RADIO.STATUS.RSTATE = 0 →
    Completes (.lfcOffsetWrite who w) s fun t => t.fld Reg.LFC.LFC_OFFSET.TS = w.toNat ∧ Frame [] [0x042] s t) ∧
  (∀ s who w, (Instr.lfcOffsetWrite who w).wf → s.mayReach who 0x042 → s.fld Reg.RADIO.STATUS.RSTATE ≠ 0 →
    Completes (.lfcOffsetWrite who w) s fun t => t.fld Reg.LFC.LFC_OFFSET.TS = s.fld Reg.LFC.LFC_OFFSET.TS ∧ t.err Reg.LFC.ERR.OFFSET_IGNORED ∧
      Frame [] [0x042] s t) ∧
  (∀ s who, DeniesAccess (.nowFracRead who) who 0x040 true s) ∧
  (∀ s who page off, (s.latchPair page off).isSome → DeniesAccess (.latchRead who page off) who page true s) ∧
  (∀ s who page off, (s.latchPair page (off - 4)).isSome → DeniesAccess (.latchedHighRead who page off) who page true s) ∧
  (∀ s who, DeniesAccess (.lfcLoRead who) who 0x042 true s) ∧
  (∀ s who, DeniesAccess (.lfcHiRead who) who 0x042 true s) ∧
  (∀ s who w, DeniesAccess (.lfcOffsetWrite who w) who 0x042 false s)

/-- R294, R296, R302: a cocoon is ACTIVE once its semaphore area and context table are clear, with totals and debt zero; a destroyed one is NONE once its
extents are filled with zeros; a way whose clear completes serves again. What completes nothing that is under way has no effect. -/
def Obligations.cocoons_come_and_go : Prop :=
  (∀ s cocoon, (Instr.cocoonClearDone cocoon).wf → s.isSet (ctrlEnable (0x100 + cocoon)) → s.cocoonState cocoon = 0 →
    Completes (.cocoonClearDone cocoon) s fun t => t.cocoonState cocoon = 1 ∧
      (∀ k, k < 65536 → t.mem.readByte (s.fld (Reg.COCOON.SEM_BASE.BASE cocoon) * 65536 + k) = 0) ∧
      (∀ x, x < 65536 → (t.rd (s.ctxAddr cocoon x) 1).testBit 0 = false) ∧
      (∀ f ∈ totalFlds cocoon, t.fld f = 0) ∧ t.fld (Reg.SEQ_DEBT.DEBT.DEBT_NS cocoon) = 0 ∧ t.isSet (Reg.SEQ_DEBT.DEBT.FENCED cocoon) = false ∧
      SameMemory [(s.fld (Reg.COCOON.SEM_BASE.BASE cocoon) * 65536, 65536), (s.ctxAddr cocoon 0, 4194304)] s t ∧
      Frame [.mem, .cocoons] [0x011, 0x100 + cocoon] s t) ∧
  (∀ s cocoon, (Instr.cocoonClearDone cocoon).wf → (s.isSet (ctrlEnable (0x100 + cocoon)) = false ∨ s.cocoonState cocoon ≠ 0) →
    Completes (.cocoonClearDone cocoon) s fun t => t = s) ∧
  (∀ s cocoon, (Instr.cocoonDestroyFillDone cocoon).wf → s.cocoonState cocoon = 3 →
    ((List.range 24).all fun ch => Nat.beq (s.fillLeft cocoon ch) 0) → Completes (.cocoonDestroyFillDone cocoon) s fun t =>
      t.cocoonState cocoon = 0 ∧ (∀ e ∈ s.extents cocoon, ∀ k, k < e.2 → t.mem.readByte (e.1 + k) = 0) ∧
      SameMemory (s.extents cocoon) s t ∧ Frame [.mem, .cocoons, .sram, .poison] [0x100 + cocoon] s t) ∧
  (∀ s cocoon, (Instr.cocoonDestroyFillDone cocoon).wf →
    (s.cocoonState cocoon ≠ 3 ∨ ((List.range 24).all fun ch => Nat.beq (s.fillLeft cocoon ch) 0) = false) →
    Completes (.cocoonDestroyFillDone cocoon) s fun t => t = s) ∧
  (∀ s cluster way, (Instr.wayClearDone cluster way).wf → Completes (.wayClearDone cluster way) s fun t =>
    (t.seq.clearing.any fun x => Nat.beq x.1 cluster && Nat.beq x.2 way) = false ∧
      (∀ x ∈ s.seq.clearing, x.1 ≠ cluster ∨ x.2 ≠ way → x ∈ t.seq.clearing) ∧ Frame [.seq] [] s t)

/-- R297, R299, R323: keys are loaded into and erased from the slot that CFG names, unless the cocoon is enabled, the slot another's or the halves
equal; a write of CFG is a write of its shadow, and erases the slot loaded before where it names another; a function is bound to one cocoon and
unbound from it with its commands aborted; UNFENCE makes a fenced cocoon ACTIVE without debt, and its restored groups go on.
R319–R321: dirty-page logging is switched, configured only while it is off, and ACTIVE until the last write is logged. -/
def Obligations.keys_functions_and_dirty_pages : Prop :=
  (∀ s cocoon w, (Instr.keyLoad cocoon).wf → s.isSet (ctrlEnable (0x100 + cocoon)) = false →
    ((List.range 16).map fun k => Assoc.findD k (0 : Word) (s.cocoon cocoon).keyWords) = w → Completes (.keyLoad cocoon) s fun t =>
      let taken := (List.range 64).any fun o => !Nat.beq o cocoon && s.live o &&
        Nat.beq (s.fld (Reg.COCOON.CFG.KEY_SLOT o)) (s.shd (Reg.COCOON.CFG.KEY_SLOT cocoon))
      (taken → Refused t (0x100 + cocoon) 0x03A2 ∧ Frame [] [0x100 + cocoon] s t) ∧
      (taken = false → w.take 8 = w.drop 8 → Refused t (0x100 + cocoon) 0x07A1 ∧ Frame [] [0x100 + cocoon] s t) ∧
      (taken = false → w.take 8 ≠ w.drop 8 → Assoc.find (s.shd (Reg.COCOON.CFG.KEY_SLOT cocoon)) t.keys = some w ∧
        t.isSet (Reg.COCOON.KEY_STATUS.VALID cocoon) ∧ (t.cocoon cocoon).keyWords = [] ∧ Frame [.keys, .cocoons] [0x100 + cocoon] s t)) ∧
  (∀ s cocoon, (Instr.keyLoad cocoon).wf → s.isSet (ctrlEnable (0x100 + cocoon)) → Completes (.keyLoad cocoon) s fun t =>
    Refused t (0x100 + cocoon) 0x04A0 ∧ Frame [] [0x100 + cocoon] s t) ∧
  (∀ s cocoon, (Instr.keyErase cocoon).wf → s.isSet (ctrlEnable (0x100 + cocoon)) = false → s.isSet (Reg.COCOON.KEY_STATUS.VALID cocoon) →
    Completes (.keyErase cocoon) s fun t => Assoc.find (s.shd (Reg.COCOON.CFG.KEY_SLOT cocoon)) t.keys = none ∧
      t.isSet (Reg.COCOON.KEY_STATUS.VALID cocoon) = false ∧ Frame [.keys] [0x100 + cocoon] s t) ∧
  (∀ s cocoon, (Instr.keyErase cocoon).wf → s.isSet (ctrlEnable (0x100 + cocoon)) → Completes (.keyErase cocoon) s fun t =>
    Refused t (0x100 + cocoon) 0x04A0 ∧ Frame [] [0x100 + cocoon] s t) ∧
  (∀ s cocoon, (Instr.keyErase cocoon).wf → s.isSet (ctrlEnable (0x100 + cocoon)) = false → s.isSet (Reg.COCOON.KEY_STATUS.VALID cocoon) = false →
    Completes (.keyErase cocoon) s fun t => t = s) ∧
  (∀ s cocoon cfg, (Instr.keySlotChange cocoon cfg).wf → Completes (.keySlotChange cocoon cfg) s fun t =>
      (s.isSet (Reg.COCOON.KEY_STATUS.VALID cocoon) → bitsOf cfg.toNat 8 6 ≠ s.shd (Reg.COCOON.CFG.KEY_SLOT cocoon) →
        Assoc.find (s.shd (Reg.COCOON.CFG.KEY_SLOT cocoon)) t.keys = none ∧ t.isSet (Reg.COCOON.KEY_STATUS.VALID cocoon) = false) ∧
      (s.isSet (Reg.COCOON.KEY_STATUS.VALID cocoon) = false ∨ bitsOf cfg.toNat 8 6 = s.shd (Reg.COCOON.CFG.KEY_SLOT cocoon) → t.keys = s.keys) ∧
      t.shd (Reg.COCOON.CFG.KEY_SLOT cocoon) = bitsOf cfg.toNat 8 6 ∧ t.shd (Reg.COCOON.CFG.SEALED cocoon) = bitsOf cfg.toNat 0 1 ∧
      t.shd (Reg.COCOON.CFG.ENC cocoon) = bitsOf cfg.toNat 1 1 ∧ t.shd (Reg.COCOON.CFG.CHRY_SLOTS cocoon) = bitsOf cfg.toNat 16 2 ∧
      t.pages.file.live = (if s.isSet (Reg.COCOON.KEY_STATUS.VALID cocoon) && !Nat.beq (bitsOf cfg.toNat 8 6) (s.shd (Reg.COCOON.CFG.KEY_SLOT cocoon))
        then Assoc.put (Reg.COCOON.KEY_STATUS.VALID cocoon).key 0 s.pages.file.live else s.pages.file.live) ∧
      SameBut [.regs, .signals, .keys] s t) ∧
  (∀ s cocoon fn, (Instr.bind cocoon fn).wf → 2 ≤ cocoon → s.boundTo (fn % 256) = none → s.created cocoon →
    Completes (.bind cocoon fn) s fun t => t.bound cocoon (fn % 256) ∧ t.fld (Reg.FN.FN_STATUS.COCOON (fn % 256)) = cocoon ∧
      t.fld (Reg.FN.FN_STATUS.STATE (fn % 256)) = (if s.linkUp then 1 else 3) ∧ Frame [] [0x100 + cocoon] s t) ∧
  (∀ s cocoon fn, (Instr.bind cocoon fn).wf → 2 ≤ cocoon → s.bound cocoon (fn % 256) → Completes (.bind cocoon fn) s fun t => t = s) ∧
  (∀ s cocoon fn, (Instr.bind cocoon fn).wf → (cocoon < 2 ∨ s.bound cocoon (fn % 256) = false) →
    (cocoon < 2 ∨ (s.boundTo (fn % 256)).isSome ∨ s.created cocoon = false) → Completes (.bind cocoon fn) s fun t =>
    Refused t (0x100 + cocoon) (if cocoon < 2 then 0x02A3 else if (s.boundTo (fn % 256)).isSome then 0x03A1 else 0x04A2) ∧
      Frame [] [0x100 + cocoon] s t) ∧
  (∀ s cocoon fn, (Instr.unbind cocoon fn).wf → s.boundTo (fn % 256) = some cocoon → Completes (.unbind cocoon fn) s fun t =>
    t.bound cocoon (fn % 256) = false ∧ t.fld (Reg.FN.FN_STATUS.STATE (fn % 256)) = 0 ∧ t.fld (Reg.FN.FN_STATUS.COCOON (fn % 256)) = 0 ∧
      t.fn (fn % 256) = FnState.fresh ∧
      (t.runs.any fun r => r.cmd.any fun c => Nat.beq c.fn (fn % 256)) = false ∧ (t.waits.any fun w => Nat.beq w.cmd.fn (fn % 256)) = false ∧
      (s.absorbable → t.mem = s.mem)) ∧
  (∀ s cocoon fn, (Instr.unbind cocoon fn).wf → s.boundTo (fn % 256) = none → Completes (.unbind cocoon fn) s fun t => t = s) ∧
  (∀ s cocoon fn o, (Instr.unbind cocoon fn).wf → s.boundTo (fn % 256) = some o → o ≠ cocoon → Completes (.unbind cocoon fn) s fun t =>
    Refused t (0x100 + cocoon) 0x03A1 ∧ Frame [] [0x100 + cocoon] s t) ∧
  (∀ s cocoon, (Instr.unfence cocoon).wf → s.cocoonState cocoon = 2 → Completes (.unfence cocoon) s fun t =>
    t.cocoonState cocoon = 1 ∧ t.fld (Reg.SEQ_DEBT.DEBT.DEBT_NS cocoon) = 0 ∧ t.isSet (Reg.SEQ_DEBT.DEBT.FENCED cocoon) = false ∧
      t.runs = s.runs.map (fun r => if r.cocoon = cocoon ∧ r.cores.all (fun n => Nat.blt n 2048 && !s.draining n) then { r with suspended := false } else r) ∧
      Frame [.runs] [0x011, 0x100 + cocoon] s t) ∧
  (∀ s cocoon, (Instr.unfence cocoon).wf → s.cocoonState cocoon ≠ 2 → Completes (.unfence cocoon) s fun t =>
    Refused t (0x100 + cocoon) 0x04A3 ∧ Frame [] [0x100 + cocoon] s t) ∧
  (∀ s fn, (Instr.dirtyCfgWrite fn true).wf → Completes (.dirtyCfgWrite fn true) s fun t =>
    t.isSet (Reg.FN.DIRTY_CFG.EN fn) ∧ t.isSet (Reg.FN.DIRTY_STATUS.ACTIVE fn) ∧
      SameFields [Reg.FN.DIRTY_CFG.EN fn, Reg.FN.DIRTY_STATUS.ACTIVE fn] s t ∧ SameBut [.regs] s t) ∧
  (∀ s fn, (Instr.dirtyCfgWrite fn false).wf → Completes (.dirtyCfgWrite fn false) s fun t =>
    t.isSet (Reg.FN.DIRTY_CFG.EN fn) = false ∧ SameFields [Reg.FN.DIRTY_CFG.EN fn] s t ∧ SameBut [.regs] s t) ∧
  (∀ s fn w x, x ∈ [(0x804, Reg.FN.DIRTY_MAP_LO.ADDR fn), (0x808, Reg.FN.DIRTY_MAP_HI.ADDR fn), (0x80C, Reg.FN.DIRTY_START_LO.ADDR fn),
      (0x810, Reg.FN.DIRTY_START_HI.ADDR fn), (0x814, Reg.FN.DIRTY_PAGES.PAGES fn)] → (Instr.dirtyLogConfigWrite fn x.1 w).wf →
    s.isSet (Reg.FN.DIRTY_CFG.EN fn) = false → Completes (.dirtyLogConfigWrite fn x.1 w) s fun t =>
      t.fld x.2 = w.toNat % 2 ^ x.2.w ∧ SameFields [x.2] s t ∧ SameBut [.regs] s t) ∧
  (∀ s fn off w, (Instr.dirtyLogConfigWrite fn off w).wf → s.isSet (Reg.FN.DIRTY_CFG.EN fn) → off ∈ [0x804, 0x808, 0x80C, 0x810, 0x814] →
    Completes (.dirtyLogConfigWrite fn off w) s fun t => t.isSet (Reg.FN.DIRTY_STATUS.CFG_IGNORED fn) ∧
      SameFields [Reg.FN.DIRTY_STATUS.CFG_IGNORED fn] s t ∧ SameBut [.regs] s t) ∧
  (∀ s fn off w, (Instr.dirtyLogConfigWrite fn off w).wf → off ∉ [0x804, 0x808, 0x80C, 0x810, 0x814] →
    Completes (.dirtyLogConfigWrite fn off w) s fun t => t = s) ∧
  (∀ s fn, (Instr.dirtyLogDrained fn).wf → s.isSet (Reg.FN.DIRTY_CFG.EN fn) = false → Completes (.dirtyLogDrained fn) s fun t =>
    t.isSet (Reg.FN.DIRTY_STATUS.ACTIVE fn) = false ∧ SameFields [Reg.FN.DIRTY_STATUS.ACTIVE fn] s t ∧ SameBut [.regs] s t) ∧
  (∀ s fn, (Instr.dirtyLogDrained fn).wf → s.isSet (Reg.FN.DIRTY_CFG.EN fn) → Completes (.dirtyLogDrained fn) s fun t => t = s)

/-- R330–R333, R336, R339, R340, R345: in a slot of its cocoon a line is written to every copy that serves, whole or in part, and read: one symbol in
error is corrected and counted, two are uncorrected and poison the line, and what three or more come to is free; a mirrored line is read from its second
copy where the first fails, which repairs it. An access that fails its CRC five times, and one of a channel that is down, answers an error. Outside
its slots a request waits while its queue has room; outside its extents or on a channel without a slot it answers an error. At a slot boundary the
owner's requests are issued; a refresh changes nothing. -/
def Obligations.gddr7_lines : Prop :=
  (∀ s cocoon addr b errA errB ch, (Instr.gddr7Access cocoon addr (.writeLine b) errA errB).wf → s.inTurn cocoon addr ch none → s.takesAccess ch errA →
    Completes (.gddr7Access cocoon addr (.writeLine b) errA errB) s fun t =>
      t.rdBytes addr 64 = b ∧ (t.ctl ch).answer = .written ∧ t.poison.contains (addr / 64) = false ∧ SameMemory [(addr, 64)] s t ∧
      Frame [.mem, .gddr, .sram, .poison, .cocoons] memoryPages s t) ∧
  (∀ s cocoon addr b errA errB ch m, (Instr.gddr7Access cocoon addr (.writeLine b) errA errB).wf → s.inTurn cocoon addr ch (some m) → ch ≠ m → m < 24 →
    (s.takesAccess ch errA ∧ s.takesAccess m errB ∨ s.takesAccess ch errA ∧ s.channelUp m = false ∨ s.channelUp ch = false ∧ s.takesAccess m errB) →
    Completes (.gddr7Access cocoon addr (.writeLine b) errA errB) s fun t =>
      t.rdBytes addr 64 = b ∧ (t.ctl ch).answer = .written ∧ t.poison.contains (addr / 64) = false ∧ t.poisonB.contains (addr / 64) = false ∧
      SameMemory [(addr, 64)] s t ∧ Frame [.mem, .gddr, .sram, .poison, .cocoons] memoryPages s t) ∧
  (∀ s cocoon addr b errA errB ch, (Instr.gddr7Access cocoon addr (.writeLine b) errA errB).wf → s.inTurn cocoon addr ch none →
    (s.channelUp ch = false ∨ 5 ≤ errA.crcFails) → Completes (.gddr7Access cocoon addr (.writeLine b) errA errB) s fun t =>
      (t.ctl ch).answer = .error ∧ t.fld (Reg.MEM_CH.UE_COUNT.COUNT ch) = min (s.fld (Reg.MEM_CH.UE_COUNT.COUNT ch) + 1) (2 ^ 32 - 1) ∧
      (s.channelUp ch → t.err (Reg.MEM_CH.ERR.LINK_FAIL ch)) ∧ Frame [.gddr] memoryPages s t) ∧
  (∀ s cocoon addr errA errB ch, (Instr.gddr7Access cocoon addr .read errA errB).wf → s.inTurn cocoon addr ch none → s.takesAccess ch errA →
    errA.symbols ≤ 1 → s.poison.contains (addr / 64) = false → Completes (.gddr7Access cocoon addr .read errA errB) s fun t =>
      (t.ctl ch).answer = .data (s.rdBytes addr 64) ∧
      t.fld (Reg.MEM_CH.CE_COUNT.COUNT ch) = min (s.fld (Reg.MEM_CH.CE_COUNT.COUNT ch) + errA.symbols) (2 ^ 32 - 1) ∧
      t.fld (Reg.MEM_CH.EDC_RETRY.COUNT ch) = min (s.fld (Reg.MEM_CH.EDC_RETRY.COUNT ch) + errA.crcFails) (2 ^ (Reg.MEM_CH.EDC_RETRY.COUNT ch).w - 1) ∧
      (errA.symbols = 1 → t.err (Reg.MEM_CH.ERR.CE ch)) ∧ Frame [.gddr] memoryPages s t) ∧
  (∀ s cocoon addr errA errB ch, (Instr.gddr7Access cocoon addr .read errA errB).wf → s.inTurn cocoon addr ch none → s.takesAccess ch errA →
    (errA.symbols = 2 ∨ s.poison.contains (addr / 64)) → Completes (.gddr7Access cocoon addr .read errA errB) s fun t =>
      (t.ctl ch).answer = .error ∧ t.poison.contains (addr / 64) ∧
      t.fld (Reg.MEM_CH.UE_COUNT.COUNT ch) = min (s.fld (Reg.MEM_CH.UE_COUNT.COUNT ch) + 1) (2 ^ 32 - 1) ∧ t.err (Reg.MEM_CH.ERR.UE ch) ∧
      Frame [.gddr, .poison] memoryPages s t) ∧
  (∀ s cocoon addr errA errB ch, (Instr.gddr7Access cocoon addr .read errA errB).wf → s.inTurn cocoon addr ch none → s.takesAccess ch errA →
    3 ≤ errA.symbols → s.poison.contains (addr / 64) = false → Completes (.gddr7Access cocoon addr .read errA errB) s fun t =>
      ((t.ctl ch).answer = .error ∧ t.poison.contains (addr / 64) ∧ t.mem = s.mem ∨ (t.ctl ch).answer = .data (t.rdBytes addr 64)) ∧
      SameMemory [(addr, 64)] s t ∧ Frame [.gddr, .poison, .mem] memoryPages s t) ∧
  (∀ s cocoon addr errA errB ch, (Instr.gddr7Access cocoon addr .read errA errB).wf → s.inTurn cocoon addr ch none →
    (s.channelUp ch = false ∨ 5 ≤ errA.crcFails) → Completes (.gddr7Access cocoon addr .read errA errB) s fun t =>
      (t.ctl ch).answer = .error ∧ t.fld (Reg.MEM_CH.UE_COUNT.COUNT ch) = min (s.fld (Reg.MEM_CH.UE_COUNT.COUNT ch) + 1) (2 ^ 32 - 1) ∧
      (s.channelUp ch → t.err (Reg.MEM_CH.ERR.LINK_FAIL ch)) ∧ Frame [.gddr] memoryPages s t) ∧
  (∀ s cocoon addr errA errB ch m, (Instr.gddr7Access cocoon addr .read errA errB).wf → s.inTurn cocoon addr ch (some m) → ch ≠ m → m < 24 →
    (s.channelUp ch = false ∨ 5 ≤ errA.crcFails ∨ errA.symbols = 2 ∨ s.poison.contains (addr / 64)) →
    s.takesAccess m errB → errB.symbols ≤ 1 → s.poisonB.contains (addr / 64) = false → Completes (.gddr7Access cocoon addr .read errA errB) s fun t =>
      (t.ctl ch).answer = .data (s.rdBytes addr 64) ∧
      (s.channelUp ch → t.poison.contains (addr / 64) = false ∧ t.err Reg.MEM.ERR.MIRROR_REPAIR) ∧
      Frame [.gddr, .poison] memoryPages s t) ∧
  (∀ s cocoon addr errA errB ch m, (Instr.gddr7Access cocoon addr .read errA errB).wf → s.inTurn cocoon addr ch (some m) → ch ≠ m → m < 24 →
    (s.channelUp ch = false ∨ 5 ≤ errA.crcFails ∨ errA.symbols = 2 ∨ s.poison.contains (addr / 64)) →
    (s.channelUp m = false ∨ 5 ≤ errB.crcFails ∨ errB.symbols = 2 ∨ s.poisonB.contains (addr / 64)) →
    Completes (.gddr7Access cocoon addr .read errA errB) s fun t => (t.ctl ch).answer = .error ∧ Frame [.gddr, .poison] memoryPages s t) ∧
  (∀ s cocoon addr off b errA errB ch, (Instr.gddr7Access cocoon addr (.writePart off b) errA errB).wf → s.inTurn cocoon addr ch none →
    s.takesAccess ch errA → errA.symbols ≤ 1 → s.poison.contains (addr / 64) = false →
    Completes (.gddr7Access cocoon addr (.writePart off b) errA errB) s fun t =>
      t.rdBytes (addr + off) b.length = b ∧ (t.ctl ch).answer = .written ∧ SameMemory [(addr + off, b.length)] s t ∧
      Frame [.mem, .gddr, .sram, .poison, .cocoons] memoryPages s t) ∧
  (∀ s cocoon addr off b errA errB ch, (Instr.gddr7Access cocoon addr (.writePart off b) errA errB).wf → s.inTurn cocoon addr ch none →
    (s.channelUp ch = false ∨ 5 ≤ errA.crcFails ∨ errA.symbols = 2 ∨ s.poison.contains (addr / 64)) →
    Completes (.gddr7Access cocoon addr (.writePart off b) errA errB) s fun t =>
      (t.ctl ch).answer = .error ∧ Frame [.gddr, .poison] memoryPages s t) ∧
  (∀ s cocoon addr op errA errB ch m, (Instr.gddr7Access cocoon addr op errA errB).wf → s.channelOf addr = some (ch, m) → ch < 24 →
    s.inExtent cocoon (addr / 64 * 64) 64 → s.hasSlot cocoon ch → s.slotNow ch ≠ cocoon → Completes (.gddr7Access cocoon addr op errA errB) s fun t =>
      Assoc.findD cocoon [] (t.ctl ch).queues = (if 64 ≤ (Assoc.findD cocoon [] (s.ctl ch).queues).length then Assoc.findD cocoon [] (s.ctl ch).queues
        else Assoc.findD cocoon [] (s.ctl ch).queues ++ [⟨cocoon, addr, op, errA, errB⟩]) ∧ SameBut [.gddr] s t) ∧
  (∀ s cocoon addr op errA errB ch m, (Instr.gddr7Access cocoon addr op errA errB).wf → s.channelOf addr = some (ch, m) → ch < 24 →
    (s.inExtent cocoon (addr / 64 * 64) 64 = false ∨ s.hasSlot cocoon ch = false) → Completes (.gddr7Access cocoon addr op errA errB) s fun t =>
      (t.ctl ch).answer = .error ∧ SameBut [.gddr] s t) ∧
  (∀ s cocoon addr op errA errB, (Instr.gddr7Access cocoon addr op errA errB).wf → s.channelOf addr = none →
    Completes (.gddr7Access cocoon addr op errA errB) s fun t => t = s) ∧
  (∀ s slot, (Instr.tdmSlotBoundary slot).wf → slot < 16 → Completes (.tdmSlotBoundary slot) s fun t =>
    t.gddr.slot = slot ∧ t.gddr.slotBeat = s.seq.beat ∧ t.gddr.owners = (List.range 24).map (fun ch => s.slotOwner ch slot) ∧
      s.seq.beatStart + slot * s.L / 16 ≤ t.now ∧
      (∀ ch, ch < 24 → s.slotOwner ch slot ≠ 0x80 → Assoc.find (s.slotOwner ch slot) (t.ctl ch).queues = none) ∧
      Frame [.mem, .gddr, .sram, .poison, .cocoons, .time] memoryPages s t) ∧
  (∀ s channel bank, (Instr.gddr7Refresh channel bank).wf → Completes (.gddr7Refresh channel bank) s fun t => t = s)

/-- R342–R346: retraining falls due, steps in the slots its row gives, and takes the channel down where it fails; a starved channel shows it; the
patrol scrub reads a group, corrects and poisons lines and goes on to the next; RETRAIN_NOW trains the channel unless extents in use need it, and it
serves again or goes down. -/
def Obligations.gddr7_training_and_scrub : Prop :=
  (∀ s channel temp retries, (Instr.retrainDue channel temp retries).wf → s.fld (chState channel) = 2 → Completes (.retrainDue channel temp retries) s fun t =>
    let due := 16 * s.fld Reg.MEM.RETRAIN_CFG.TEMP_DELTA < (temp - (s.ctl channel).trainTemp).natAbs ∨ s.fld Reg.MEM.RETRAIN_CFG.EDC_THRESH < retries
    t.fld (Reg.MEM_CH.TEMP.DEGC channel) = ofSigned 16 temp ∧
    (due → t.isSet (Reg.MEM_CH.TRAIN_STATUS.RETRAIN_DUE channel)) ∧
    (due ∧ s.isSet (Reg.MEM_CH.TRAIN_STATUS.RETRAIN_DUE channel) = false →
      t.fld (Reg.MEM_CH.TRAIN_STATUS.STEPS channel) = 0 ∧ (t.ctl channel).dueSince = some s.mono) ∧
    (¬due ∨ s.isSet (Reg.MEM_CH.TRAIN_STATUS.RETRAIN_DUE channel) → SameFields [Reg.MEM_CH.TEMP.DEGC channel] s t ∧ SameBut [.regs] s t) ∧
    Frame [.gddr] [0x0A1 + channel] s t) ∧
  (∀ s channel temp retries, (Instr.retrainDue channel temp retries).wf → s.fld (chState channel) ≠ 2 → Completes (.retrainDue channel temp retries) s
    fun t => t = s) ∧
  (∀ s channel, (Instr.retrainStep channel true).wf → s.mayStep channel → Completes (.retrainStep channel true) s fun t =>
    t.fld (Reg.MEM_CH.TRAIN_STATUS.STEPS channel) =
      (s.fld (Reg.MEM_CH.TRAIN_STATUS.STEPS channel) + 1) % 2 ^ (Reg.MEM_CH.TRAIN_STATUS.STEPS channel).w ∧
      (t.ctl channel).stepAt = some (s.seq.beat, s.gddr.slot) ∧
      (15 ≤ s.fld (Reg.MEM_CH.TRAIN_STATUS.STEPS channel) → t.isSet (Reg.MEM_CH.TRAIN_STATUS.RETRAIN_DUE channel) = false) ∧
      t.fld (chState channel) = (if t.isSet (Reg.MEM_CH.TRAIN_STATUS.RETRAIN_DUE channel) then 3 else 2) ∧
      Frame [.gddr] [0x0A1 + channel] s t) ∧
  (∀ s channel, (Instr.retrainStep channel false).wf → s.mayStep channel → Completes (.retrainStep channel false) s fun t =>
    ShowsDown t channel ∧ (t.ctl channel).dueSince = none ∧ Frame [.gddr] [0x0A0, 0x0A1 + channel] s t) ∧
  (∀ s channel ok, (Instr.retrainStep channel ok).wf → s.mayStep channel = false → Completes (.retrainStep channel ok) s fun t => t = s) ∧
  (∀ s channel x, (Instr.retrainStarved channel).wf → (s.ctl channel).dueSince = some x → Completes (.retrainStarved channel) s fun t =>
    t.err (Reg.MEM_CH.ERR.RETRAIN_STARVED channel) ∧ x + 1000000000 ≤ t.mono ∧ Frame [.time] [0x0A1 + channel] s t) ∧
  (∀ s channel, (Instr.retrainStarved channel).wf → (s.ctl channel).dueSince = none → Completes (.retrainStarved channel) s fun t => t = s) ∧
  (∀ s channel group errs written, (Instr.patrolScrub channel group errs written).wf → s.channelUp channel → (s.ctl channel).scrub = group →
    errs.all (fun e => Nat.ble e.symbols 2 && Nat.blt e.crcFails 5) → s.poison = [] → s.poisonB = [] →
    Completes (.patrolScrub channel group errs written) s fun t =>
      (t.ctl channel).scrub = (if group + 1 < s.chUnits * 65536 / 512 then group + 1 else 0) ∧
      (errs.any (fun e => Nat.beq e.symbols 2) = false ∨ written → t.poison = [] ∧ t.poisonB = []) ∧
      ((List.range 8).all (fun i => (s.addrOn channel (512 * group + 64 * i)).isSome) → t.fld (Reg.MEM_CH.CE_COUNT.COUNT channel) =
        min (s.fld (Reg.MEM_CH.CE_COUNT.COUNT channel) + errs.countP fun e => Nat.beq e.symbols 1) (2 ^ 32 - 1)) ∧
      (∀ i ∈ List.range 8, ∀ x ∈ (s.addrOn channel (512 * group + 64 * i)).toList, (errs.getD i ⟨0, 0, 0, 0⟩).symbols = 2 → written = false →
        (if x.2 then t.poisonB else t.poison).contains (x.1 / 64)) ∧
      Frame [.gddr, .poison] [0x0A0, 0x0A1 + channel] s t) ∧
  (∀ s channel group errs written, (Instr.patrolScrub channel group errs written).wf → (s.channelUp channel = false ∨ (s.ctl channel).scrub ≠ group) →
    Completes (.patrolScrub channel group errs written) s fun t => t = s) ∧
  (∀ s channel, (Instr.retrainNow channel).wf → (s.liveExtents channel = false ∨ (s.partner channel).any fun o => Nat.beq (s.fld (chState o)) 2) →
    (s.fld (chState channel) = 4 ∨ s.fld (chState channel) = 2) → Completes (.retrainNow channel) s fun t =>
    t.fld (chState channel) = 1 ∧ (t.ctl channel).training ∧ Frame [.gddr] [0x0A1 + channel] s t) ∧
  (∀ s channel, (Instr.retrainNow channel).wf → s.liveExtents channel → ((s.partner channel).any fun o => Nat.beq (s.fld (chState o)) 2) = false →
    Completes (.retrainNow channel) s fun t => Refused t (0x0A1 + channel) 0x04B1 ∧ Frame [] [0x0A1 + channel] s t) ∧
  (∀ s channel, (Instr.retrainNow channel).wf → (s.liveExtents channel = false ∨ (s.partner channel).any fun o => Nat.beq (s.fld (chState o)) 2) →
    s.fld (chState channel) ≠ 4 → s.fld (chState channel) ≠ 2 → Completes (.retrainNow channel) s fun t => t = s) ∧
  (∀ s channel, (Instr.retrainNowDone channel true).wf → (s.ctl channel).training → Completes (.retrainNowDone channel true) s fun t =>
    t.fld (chState channel) = 2 ∧ (t.fld Reg.MEM.STATUS.DOWN).testBit channel = false ∧ (t.ctl channel).training = false ∧
      (s.partner channel = none → t.poison = s.poison) ∧
      (∀ o ∈ (s.partner channel).toList, (s.poison ++ s.poisonB).all fun l =>
        (if s.channelOf (64 * l) == some (channel, some o) then t.poison.contains l == s.poisonB.contains l else true) &&
        (if s.channelOf (64 * l) == some (o, some channel) then t.poisonB.contains l == s.poison.contains l else true)) ∧
      Frame [.gddr, .poison] [0x0A0, 0x0A1 + channel] s t) ∧
  (∀ s channel, (Instr.retrainNowDone channel false).wf → (s.ctl channel).training → Completes (.retrainNowDone channel false) s fun t =>
    ShowsDown t channel ∧ (t.ctl channel).training = false ∧ Frame [.gddr] [0x0A0, 0x0A1 + channel] s t) ∧
  (∀ s channel ok, (Instr.retrainNowDone channel ok).wf → (s.ctl channel).training = false → Completes (.retrainNowDone channel ok) s fun t => t = s)

/-- R353–R355, R360, R363: a failed wavelength moves to the spare, or without one leaves the link DEGRADED at 400 Gbit/s, or down if it was the last; a
failed engine moves the link to a spare fibre pair, or takes it down; training that ends well makes the link ACTIVE at 800 Gbit/s, or MISWIRED behind a
neighbour not expected; a link that loses its light goes down and, while enabled, retrains.
R358, R359, R361, R363, R370, R371, R419: the flit expected is taken, owes its credit and returns those it carries, its ACK releases flits and its
NAK replays them; another flit, and one that fails its CRC, is not taken; the eighth replay of one flit retrains the link; the packets of a policed
share are marked, and a red request is answered with KIND 0x06. A flit is sent at a position that may carry it while a credit is free and the replay
buffer has room, with the credits owed; else the position stays idle. -/
def Obligations.silk_links_and_flits : Prop :=
  (∀ s link rx lambda, (Instr.wavelengthFail link rx lambda).wf → [2, 3, 4].contains (s.linkState link) → lambda ∈ s.carriers link rx →
    lambda ∉ (s.silkLink link).bad rx → s.spares link rx ≠ [] → Completes (.wavelengthFail link rx lambda) s fun t =>
      (t.silkLink link).bad rx = lambda :: (s.silkLink link).bad rx ∧ t.linkState link = s.linkState link ∧
      t.fld (Reg.SILK_LINK.RATE.GBPS link) = s.fld (Reg.SILK_LINK.RATE.GBPS link) ∧ Frame [.silk] [0x0C0 + link] s t) ∧
  (∀ s link rx lambda o, (Instr.wavelengthFail link rx lambda).wf → [2, 3, 4].contains (s.linkState link) → lambda ∈ s.carriers link rx →
    (s.carriers link rx).filter (fun x => !Nat.beq x lambda) = [o] → lambda ∉ (s.silkLink link).bad rx → o ∉ (s.silkLink link).bad rx →
    s.spares link rx = [] → Completes (.wavelengthFail link rx lambda) s fun t =>
      t.linkState link = (if s.linkState link = 4 then 4 else 3) ∧ t.fld (Reg.SILK_LINK.RATE.GBPS link) = 400 ∧
      t.err (Reg.SILK_LINK.ERR.DEGRADED link) ∧ t.carriers link rx = [o] ∧ Frame [.silk] [0x0C0 + link] s t) ∧
  (∀ s link rx lambda, (Instr.wavelengthFail link rx lambda).wf → [2, 3, 4].contains (s.linkState link) → lambda ∈ s.carriers link rx →
    lambda ∉ (s.silkLink link).bad rx → s.spares link rx = [] →
    ((s.carriers link rx).all fun x => Nat.beq x lambda || ((s.silkLink link).bad rx).contains x) → Completes (.wavelengthFail link rx lambda) s fun t =>
      LinkFell link [] s t) ∧
  (∀ s link rx lambda, (Instr.wavelengthFail link rx lambda).wf → ([2, 3, 4].contains (s.linkState link) = false ∨ lambda ∉ s.carriers link rx ∨
    lambda ∈ (s.silkLink link).bad rx) → Completes (.wavelengthFail link rx lambda) s fun t => t = s) ∧
  (∀ s link rx w v, (Instr.spareSwitchDone link rx).wf →
    ((s.carriers link rx).filter fun x => ((s.silkLink link).bad rx).contains x).head? = some w → (s.spares link rx).head? = some v →
    Completes (.spareSwitchDone link rx) s fun t => w ∉ t.carriers link rx ∧ v ∈ t.carriers link rx ∧
      t.fld (Reg.SILK_LINK.SPARE_SWITCHES.COUNT link) = (s.fld (Reg.SILK_LINK.SPARE_SWITCHES.COUNT link) + 1) % 65536 ∧
      t.err (Reg.SILK_LINK.ERR.SPARE_USED link) ∧ Frame [] [0x0C0 + link] s t) ∧
  (∀ s link rx, (Instr.spareSwitchDone link rx).wf →
    (((s.carriers link rx).filter fun x => ((s.silkLink link).bad rx).contains x) = [] ∨ s.spares link rx = []) →
    Completes (.spareSwitchDone link rx) s fun t => t = s) ∧
  (∀ s link k, (Instr.opticalEngineFail link).wf → [1, 2, 3, 4].contains (s.linkState link) → (s.silkLink link).switching = false →
    s.isSet (Reg.SILK_LINK.CFG.SPARE_FIBRE link) → (s.freePairs link).head? = some k → Completes (.opticalEngineFail link) s fun t =>
      (t.silkLink link).switching ∧ (t.silkLink link).engineBad ∧ t.fld (Reg.SILK_LINK.LAMBDA.SPARE_INDEX link) = k ∧
      t.linkState link = s.linkState link ∧ t.isSet (Reg.SILK_LINK.LAMBDA.FIBRE_SPARE link) = false ∧
      t.boot.defects = s.boot.defects ++ [.optical (if s.isSet (Reg.SILK_LINK.LAMBDA.FIBRE_SPARE link) then
        spareEngine (link / 32) (s.fld (Reg.SILK_LINK.LAMBDA.SPARE_INDEX link)) else linkEngine link)] ∧ Frame [.silk, .boot] [0x0C0 + link] s t) ∧
  (∀ s link, (Instr.opticalEngineFail link).wf → [1, 2, 3, 4].contains (s.linkState link) → (s.silkLink link).switching = false →
    (s.isSet (Reg.SILK_LINK.CFG.SPARE_FIBRE link) = false ∨ s.freePairs link = []) → Completes (.opticalEngineFail link) s fun t =>
      LinkFell link [.boot] s t ∧ t.linkState link = 5 ∧ (s.freePairs link = [] → t.err (Reg.SILK_LINK.ERR.NO_SPARE link))) ∧
  (∀ s link, (Instr.opticalEngineFail link).wf → ([1, 2, 3, 4].contains (s.linkState link) = false ∨ (s.silkLink link).switching) →
    Completes (.opticalEngineFail link) s fun t => t = s) ∧
  (∀ s link, (Instr.spareFibreSwitchDone link).wf → (s.silkLink link).switching → Completes (.spareFibreSwitchDone link) s fun t =>
    (t.silkLink link).switching = false ∧ t.isSet (Reg.SILK_LINK.LAMBDA.FIBRE_SPARE link) ∧
      t.fld (Reg.SILK_LINK.SPARE_SWITCHES.COUNT link) = (s.fld (Reg.SILK_LINK.SPARE_SWITCHES.COUNT link) + 1) % 65536 ∧
      t.fld (Reg.SILK_LINK.RETRIES.COUNT link) = (if (s.silkLink link).retry.unacked = 0 then s.fld (Reg.SILK_LINK.RETRIES.COUNT link)
        else min (s.fld (Reg.SILK_LINK.RETRIES.COUNT link) + 1) (2 ^ (Reg.SILK_LINK.RETRIES.COUNT link).w - 1)) ∧
      t.err (Reg.SILK_LINK.ERR.SPARE_USED link) ∧ Frame [.silk] [0x0C0 + link] s t) ∧
  (∀ s link, (Instr.spareFibreSwitchDone link).wf → (s.silkLink link).switching = false → Completes (.spareFibreSwitchDone link) s fun t => t = s) ∧
  (∀ s link nb far rtt, (Instr.linkTrainingDone link true nb far rtt).wf → s.linkState link = 1 → rtt ≤ 100000 →
    Completes (.linkTrainingDone link true nb far rtt) s fun t =>
      t.linkState link = (if (s.expected link).any (fun x => !Nat.beq x nb) ∨ nb = s.deviceId then 4 else 2) ∧
      ((s.expected link).any (fun x => !Nat.beq x nb) → t.err (Reg.SILK_LINK.ERR.MISWIRED link)) ∧ (nb = s.deviceId → t.err Reg.SILK.ERR.ID_CONFLICT) ∧
      t.fld (Reg.SILK_LINK.NEIGHBOUR.ID link) = nb ∧ t.fld (Reg.SILK_LINK.NEIGHBOUR.LINK link) = far ∧
      t.fld (Reg.SILK_LINK.RTT_NS.NS link) = rtt ∧ t.fld (Reg.SILK_LINK.RATE.GBPS link) = 800 ∧ (t.carriers link true).length = 2 ∧
      (t.carriers link false).length = 2 ∧ Frame [.silk] [0x0C0, 0x0C0 + link] s t) ∧
  (∀ s link ok nb far rtt, (Instr.linkTrainingDone link ok nb far rtt).wf → s.linkState link = 1 → (ok = false ∨ 100000 < rtt) →
    Completes (.linkTrainingDone link ok nb far rtt) s fun t =>
      (s.fld Reg.BOOT.STATE.INSTAR < 5 → t.linkState link = 0 ∧ Frame [] [0x0C0 + link] s t) ∧
      (5 ≤ s.fld Reg.BOOT.STATE.INSTAR → LinkFell link [] s t)) ∧
  (∀ s link ok nb far rtt, (Instr.linkTrainingDone link ok nb far rtt).wf → s.linkState link ≠ 1 →
    Completes (.linkTrainingDone link ok nb far rtt) s fun t => t = s) ∧
  (∀ s link, (Instr.linkDown link).wf → [1, 2, 3, 4].contains (s.linkState link) → Completes (.linkDown link) s fun t => LinkFell link [] s t) ∧
  (∀ s link, (Instr.linkDown link).wf → [1, 2, 3, 4].contains (s.linkState link) = false → Completes (.linkDown link) s fun t => t = s) ∧
  (∀ s link f, (Instr.flitReceive link true true f).wf → s.linkMoves link → f.seq = (s.silkLink link).retry.rxSeq →
    Completes (.flitReceive link true true f) s fun t =>
      (t.silkLink link).retry.rxSeq = (f.seq + 1) % 65536 ∧
      (t.silkLink link).retry.unacked = (s.silkLink link).retry.unacked - (s.silkLink link).retry.released f.ack ∧
      Assoc.findD (α := Nat) f.share 0 (t.silkLink link).owedQuota = Assoc.findD (α := Nat) f.share 0 (s.silkLink link).owedQuota +
        (if (f.kind = 1 ∨ f.kind = 2) ∧ f.pool then 1 else 0) ∧
      Assoc.findD (α := Nat) f.vc 0 (t.silkLink link).owedReserve = Assoc.findD (α := Nat) f.vc 0 (s.silkLink link).owedReserve +
        (if (f.kind = 1 ∨ f.kind = 2) ∧ f.pool = false then 1 else 0) ∧
      Assoc.findD (α := Nat) f.retShare 0 (t.silkLink link).quotaUsed = Assoc.findD (α := Nat) f.retShare 0 (s.silkLink link).quotaUsed - f.retCount ∧
      t.fld (Reg.SILK_LINK.CRC_ERR.COUNT link) = s.fld (Reg.SILK_LINK.CRC_ERR.COUNT link) ∧
      t.fld (Reg.SILK_LINK.RETRIES.COUNT link) = (if f.nak then
        min (s.fld (Reg.SILK_LINK.RETRIES.COUNT link) + 1) (2 ^ (Reg.SILK_LINK.RETRIES.COUNT link).w - 1) else s.fld (Reg.SILK_LINK.RETRIES.COUNT link)) ∧
      (f.nak = false ∨ 0 < (s.silkLink link).retry.released f.ack ∨ (s.silkLink link).retry.naks < 7 →
        t.linkState link = s.linkState link ∧ Frame [.silk] [0x0C0 + link] s t)) ∧
  (∀ s link f, (Instr.flitReceive link true true f).wf → s.linkMoves link → f.seq ≠ (s.silkLink link).retry.rxSeq →
    Completes (.flitReceive link true true f) s fun t =>
      (t.silkLink link).retry.rxSeq = (s.silkLink link).retry.rxSeq ∧
      (t.silkLink link).retry.unacked = (s.silkLink link).retry.unacked - (s.silkLink link).retry.released f.ack ∧
      (t.silkLink link).owedQuota = (s.silkLink link).owedQuota ∧ (t.silkLink link).owedReserve = (s.silkLink link).owedReserve ∧
      (t.silkLink link).quotaUsed = (s.silkLink link).quotaUsed ∧ (t.silkLink link).reserveUsed = (s.silkLink link).reserveUsed ∧ t.out = s.out ∧
      Frame [.silk, .pod] [0x008, 0x0C0 + link] s t) ∧
  (∀ s link f, (Instr.flitReceive link true true f).wf → s.linkMoves link → f.nak → (s.silkLink link).retry.released f.ack = 0 →
    7 ≤ (s.silkLink link).retry.naks → Completes (.flitReceive link true true f) s fun t =>
      t.linkState link = 1 ∧ t.err (Reg.SILK_LINK.ERR.RETRY_FAIL link) ∧ Frame [.silk, .pod] [0x008, 0x0C0 + link] s t) ∧
  (∀ s link fecOk f, (Instr.flitReceive link fecOk false f).wf → s.linkMoves link → Completes (.flitReceive link fecOk false f) s fun t =>
    t.silk = s.silk ∧
      t.fld (Reg.SILK_LINK.CRC_ERR.COUNT link) = (if fecOk then min (s.fld (Reg.SILK_LINK.CRC_ERR.COUNT link) + 1) (2 ^ 32 - 1)
        else s.fld (Reg.SILK_LINK.CRC_ERR.COUNT link)) ∧
      t.fld (Reg.SILK_LINK.FEC_UNCORR.COUNT link) = (if fecOk then s.fld (Reg.SILK_LINK.FEC_UNCORR.COUNT link)
        else min (s.fld (Reg.SILK_LINK.FEC_UNCORR.COUNT link) + 1) (2 ^ 32 - 1)) ∧ t.out = s.out ∧ Frame [] [0x0C0 + link] s t) ∧
  (∀ s link f c lv, (Instr.flitReceive link true true f).wf → s.linkMoves link → f.seq = (s.silkLink link).retry.rxSeq → (f.kind = 1 ∨ f.kind = 2) →
    sharePolice (s.shareEntry link f.share) → police (slice (s.shareEntry link f.share) 16 16) (Assoc.find f.share (s.silkLink link).police)
      (counted 256 Config.silkOverhead) (s.mono / 8) = (c, lv) → Completes (.flitReceive link true true f) s fun t =>
      Assoc.find f.share (t.silkLink link).police = some lv ∧
      t.fld (Reg.SILK_LINK.POLICE_YELLOW.COUNT link) = (if c = .yellow then min (s.fld (Reg.SILK_LINK.POLICE_YELLOW.COUNT link) + 1) (2 ^ 32 - 1)
        else s.fld (Reg.SILK_LINK.POLICE_YELLOW.COUNT link)) ∧
      t.fld (Reg.SILK_LINK.POLICE_RED.COUNT link) = (if c = .red then min (s.fld (Reg.SILK_LINK.POLICE_RED.COUNT link) + 1) (2 ^ 32 - 1)
        else s.fld (Reg.SILK_LINK.POLICE_RED.COUNT link)) ∧
      t.out = s.out ++ (if c = .red ∧ f.vc / 2 = 2 then (if f.kind = 1 then [(f.header.src, f.header.tag)] else bodyHeaders f.body).map
        (fun h => Emit.remoteResp h.1 h.2 ⟨[], false, some 6⟩) else [])) ∧
  (∀ s link fecOk crcOk f, (Instr.flitReceive link fecOk crcOk f).wf → s.linkMoves link = false → Completes (.flitReceive link fecOk crcOk f) s fun t =>
    t = s) ∧
  (∀ s link service share, (Instr.flitTransmit link service share).wf → s.carriesService link service share → s.positionFor link service share →
    (2 ≤ service ∨ s.reserveFree link (2 * service) = false ∧ s.reserveFree link (2 * service + 1) = false) → s.quotaFree link share →
    Completes (.flitTransmit link service share) s fun t =>
      (t.out.getLast?.any fun e => match e with
        | .flit l vc x pool a b c => Nat.beq l link && Nat.beq (vc / 2) service && Nat.beq x share && pool &&
          ((a, b), c) == (s.silkLink link).returns
        | _ => false) ∧
      Assoc.findD (α := Nat) share 0 (t.silkLink link).quotaUsed = Assoc.findD (α := Nat) share 0 (s.silkLink link).quotaUsed + 1 ∧
      (t.silkLink link).reserveUsed = (s.silkLink link).reserveUsed ∧
      (t.silkLink link).retry.unacked = (s.silkLink link).retry.unacked + 1 ∧ (t.silkLink link).pos = ((s.silkLink link).pos + 1) % 64 ∧
      Frame [.silk] [] s t) ∧
  (∀ s link service share, (Instr.flitTransmit link service share).wf → s.carriesService link service share → s.positionFor link service share →
    service < 2 → s.reserveFree link (2 * service) → s.reserveFree link (2 * service + 1) → Completes (.flitTransmit link service share) s fun t =>
      (t.out.getLast?.any fun e => match e with
        | .flit l vc x pool a b c => Nat.beq l link && Nat.beq (vc / 2) service && Nat.beq x share && !pool &&
          ((a, b), c) == (s.silkLink link).returns &&
          Nat.beq (Assoc.findD (α := Nat) vc 0 (t.silkLink link).reserveUsed) (Assoc.findD (α := Nat) vc 0 (s.silkLink link).reserveUsed + 1)
        | _ => false) ∧
      (t.silkLink link).quotaUsed = (s.silkLink link).quotaUsed ∧
      (t.silkLink link).retry.unacked = (s.silkLink link).retry.unacked + 1 ∧ (t.silkLink link).pos = ((s.silkLink link).pos + 1) % 64 ∧
      Frame [.silk] [] s t) ∧
  (∀ s link service share, (Instr.flitTransmit link service share).wf → s.carriesService link service share →
    (s.positionFor link service share = false ∨ (s.quotaFree link share = false ∧
      (2 ≤ service ∨ s.reserveFree link (2 * service) = false ∧ s.reserveFree link (2 * service + 1) = false))) →
    Completes (.flitTransmit link service share) s fun t =>
      t.out = s.out ∧ t.silkLink link = { s.silkLink link with pos := ((s.silkLink link).pos + 1) % 64 } ∧ Frame [.silk] [] s t) ∧
  (∀ s link service share, (Instr.flitTransmit link service share).wf → s.carriesService link service share = false →
    Completes (.flitTransmit link service share) s fun t => t = s)

/-- R99, R345, R372, R373, R376–R378: a peer's load, store and atomic on local memory are performed and answered, the data of a copy is written and its
arrival counter raised, and a get request sends the bytes it names to its issuer, to this device or to a third. A request that no peer list admits, or
on a channel without a slot, is answered with KIND 0x03, uncorrected data with 0x04, a device no route leads to with 0x02.
R374, R377–R380, R385: a remote operation that is answered leaves its result, STATUS 1 and its counter increased, and applies its posts; one answered
with an error KIND, or at its bound, faults its job as the KIND says; a copy takes its data, or ends; an answer that nothing waits for is counted;
segments are set and cleared. -/
def Obligations.remote_operations_and_segments : Prop :=
  (∀ s r c, (Instr.remoteRequestArrival r).wf → r.op = 0x01 → s.target r.src r.share r.addr r.size = some c → s.targetSlots c r.addr r.size →
    Completes (.remoteRequestArrival r) s fun t =>
      t.out = s.out ++ [.remoteResp r.src r.tag (if s.bad r.addr r.size then ⟨[], false, some 4⟩ else ⟨s.rdBytes r.addr r.size, false, none⟩)] ∧
      Served [] s t) ∧
  (∀ s r c, (Instr.remoteRequestArrival r).wf → opAtomic r.op → s.targetWrite r.src r.share r.addr r.size = some c → s.targetSlots c r.addr r.size →
    s.bad r.addr r.size = false → Completes (.remoteRequestArrival r) s fun t =>
      t.rd r.addr r.size = atomicNew r.op r.size (s.rd r.addr r.size) (leNat r.data) (leNat r.compare) ∧
      t.out = s.out ++ [.remoteResp r.src r.tag ⟨s.rdBytes r.addr r.size, false, none⟩] ∧ SameMemory [(r.addr, r.size)] s t ∧
      Served [.mem, .cocoons] s t) ∧
  (∀ s r c, (Instr.remoteRequestArrival r).wf → opAtomic r.op → s.targetWrite r.src r.share r.addr r.size = some c → s.targetSlots c r.addr r.size →
    s.bad r.addr r.size → Completes (.remoteRequestArrival r) s fun t =>
      t.out = s.out ++ [.remoteResp r.src r.tag ⟨[], false, some 4⟩] ∧ Served [] s t) ∧
  (∀ s r c, (Instr.remoteRequestArrival r).wf → r.op = 0x02 → s.targetWrite r.src r.share r.addr r.size = some c → s.targetSlots c r.addr r.size →
    r.size ≤ r.data.length → Completes (.remoteRequestArrival r) s fun t =>
      ((s.store r.addr (r.data.take r.size)).2 → t.rdBytes r.addr r.size = r.data.take r.size) ∧
      ((s.store r.addr (r.data.take r.size)).2 = false → t.mem = s.mem) ∧
      t.out = s.out ++ [.remoteResp r.src r.tag ⟨[], false, none⟩] ∧ SameMemory [(r.addr, r.size)] s t ∧
      Frame [.mem, .cocoons, .sram, .poison] [] s t) ∧
  (∀ s r c, (Instr.remoteRequestArrival r).wf → r.op = 0 → s.targetWrite r.src r.share r.addr r.size = some c → s.targetSlots c r.addr r.size →
    r.size ≤ r.data.length → fieldAt r.compare 0 2 = 0xFFFF → Completes (.remoteRequestArrival r) s fun t =>
      ((s.store r.addr (r.data.take r.size)).2 → t.rdBytes r.addr r.size = r.data.take r.size) ∧
      t.out = s.out ++ [.remoteResp r.src r.tag ⟨[], (fieldAt r.compare 4 1).testBit 0, none⟩] ∧
      ((fieldAt r.compare 4 1).testBit 0 → t.err Reg.SILK.ERR.STALE) ∧ SameMemory [(r.addr, r.size)] s t ∧
      Frame [.mem, .cocoons, .sram, .poison] [0x0C0] s t) ∧
  (∀ s r c n k, (Instr.remoteRequestArrival r).wf → r.op = 0 → s.targetWrite r.src r.share r.addr r.size = some c → s.targetSlots c r.addr r.size →
    r.size ≤ r.data.length → fieldAt r.compare 0 2 = n → n < 2048 → s.holdsCore c n → [1, 5, 6].contains (s.coreState n) = false →
    fieldAt r.compare 2 1 % 128 = k → s.sramHits (counterAddr n k) 4 2 = [] → s.rd (counterAddr n k) 2 + fieldAt r.compare 3 1 ≤ 65535 →
    Completes (.remoteRequestArrival r) s fun t =>
      ((s.store r.addr (r.data.take r.size)).2 → t.rdBytes r.addr r.size = r.data.take r.size) ∧
      t.rd (counterAddr n k) 2 = s.rd (counterAddr n k) 2 + fieldAt r.compare 3 1 ∧
      ((fieldAt r.compare 4 1).testBit 0 → (t.rd (counterAddr n k) 4).testBit 31 ∧ t.err Reg.SILK.ERR.STALE) ∧
      t.out = s.out ++ [.remoteResp r.src r.tag ⟨[], (fieldAt r.compare 4 1).testBit 0, none⟩] ∧
      SameMemory [(r.addr, r.size), (counterAddr n k, 4)] s t ∧ Frame [.mem, .cocoons, .sram, .poison] (0x0C0 :: clusterPages) s t) ∧
  (∀ s r c, (Instr.remoteRequestArrival r).wf → r.op = 0 → s.targetWrite r.src r.share r.addr r.size = some c → s.targetSlots c r.addr r.size →
    fieldAt r.compare 0 2 ≠ 0xFFFF →
    (s.holdsCore c (fieldAt r.compare 0 2) = false ∨ [1, 5, 6].contains (s.coreState (fieldAt r.compare 0 2))) →
    Completes (.remoteRequestArrival r) s fun t =>
      t.out = s.out ++ [.remoteResp r.src r.tag ⟨[], false, some 3⟩] ∧ SameBut [.signals] s t) ∧
  (∀ s r, (Instr.remoteRequestArrival r).wf → ([0, 1, 2].contains r.op ∨ opAtomic r.op) →
    ((if r.op = 1 then s.target r.src r.share r.addr r.size else s.targetWrite r.src r.share r.addr r.size).all fun c =>
      !s.targetSlots c r.addr r.size) → Completes (.remoteRequestArrival r) s fun t =>
    t.out = s.out ++ [.remoteResp r.src r.tag ⟨[], false, some 3⟩] ∧ SameBut [.signals] s t) ∧
  (∀ s r, (Instr.remoteRequestArrival r).wf → [0, 1, 2].contains r.op = false → opAtomic r.op = false → Completes (.remoteRequestArrival r) s fun t =>
    t = s) ∧
  (∀ s src share tag addr len segment dst c, (Instr.getRequest src share tag addr len segment dst).wf → s.target src share addr len = some c →
    s.targetSlots c addr len → (segment = 0 ∨ (s.segmentAt c segment addr len).isSome) → s.bad addr len = false → deviceOf dst ≠ s.deviceId →
    Completes (.getRequest src share tag addr len segment dst) s fun t =>
      t.out = s.out ++ (if deviceOf dst = src then [.remoteResp src tag ⟨s.rdBytes addr len, false, none⟩]
        else if s.routable (deviceOf dst) then
          [.remote (deviceOf dst) tag 0 (localOf dst) len (s.rdBytes addr len) [], .remoteResp src tag ⟨[], false, none⟩]
        else [.remoteResp src tag ⟨[], false, some 2⟩]) ∧ Served [] s t) ∧
  (∀ s src share tag addr len segment dst c o, (Instr.getRequest src share tag addr len segment dst).wf → s.target src share addr len = some c →
    s.targetSlots c addr len → (segment = 0 ∨ (s.segmentAt c segment addr len).isSome) → s.bad addr len = false → deviceOf dst = s.deviceId →
    s.targetWrite src share (localOf dst) len = some o → s.bad (localOf dst) len = false → Completes (.getRequest src share tag addr len segment dst) s
    fun t => t.rdBytes (localOf dst) len = s.rdBytes addr len ∧ t.out = s.out ++ [.remoteResp src tag ⟨[], false, none⟩] ∧
      SameMemory [(localOf dst, len)] s t ∧ Served [.mem, .cocoons] s t) ∧
  (∀ s src share tag addr len segment dst, (Instr.getRequest src share tag addr len segment dst).wf →
    ((s.target src share addr len).all fun c => !s.targetSlots c addr len || (!Nat.beq segment 0 && (s.segmentAt c segment addr len).isNone)) →
    Completes (.getRequest src share tag addr len segment dst) s fun t =>
      t.out = s.out ++ [.remoteResp src tag ⟨[], false, some 3⟩] ∧ SameBut [.signals] s t) ∧
  (∀ s src share tag addr len segment dst c, (Instr.getRequest src share tag addr len segment dst).wf → s.target src share addr len = some c →
    s.targetSlots c addr len → (segment = 0 ∨ (s.segmentAt c segment addr len).isSome) →
    (s.bad addr len ∨ (deviceOf dst = s.deviceId ∧ s.targetWrite src share (localOf dst) len = none)) →
    Completes (.getRequest src share tag addr len segment dst) s fun t =>
      t.out = s.out ++ [.remoteResp src tag ⟨[], false, some (if s.bad addr len then 4 else 3)⟩] ∧ Served [] s t) ∧
  (∀ s core tag r x, (Instr.remoteResponseArrival core tag r).wf → s.replays core = false →
    ((s.core core).remotes.find? fun y => Nat.beq y.tag tag) = some x → x.dst ≠ s.deviceId → r.err = none → x.posts.all (fun w => !w.testBit 31) →
    x.local_ + x.size ≤ 0x200000 → x.status + 4 ≤ 0x200000 → x.local_ + x.size ≤ x.status ∨ x.status + 4 ≤ x.local_ →
    s.rd (counterAddr core x.ctr) 2 + x.inc ≤ 65535 → s.sramHits (counterAddr core x.ctr) 4 2 = [] → x.size ≤ r.data.length →
    Completes (.remoteResponseArrival core tag r) s fun t =>
      (x.op ≠ opStore → t.rdBytes (spBase core + x.local_) x.size = r.data.take x.size) ∧
      (x.op = opStore → t.rdBytes (spBase core + x.local_) x.size = s.rdBytes (spBase core + x.local_) x.size) ∧ t.rd (spBase core + x.status) 4 = 1 ∧
      t.rd (counterAddr core x.ctr) 2 = s.rd (counterAddr core x.ctr) 2 + x.inc ∧ ((t.core core).remotes.any fun y => Nat.beq y.tag tag) = false ∧
      SameMemory [(spBase core + x.local_, x.size), (spBase core + x.status, 4), (counterAddr core x.ctr, 2)] s t ∧ SameCores [core] s t ∧
      Frame [.mem, .cores, .sram, .poison] clusterPages s t) ∧
  (∀ s core tag r x k, (Instr.remoteResponseArrival core tag r).wf → ((s.core core).remotes.find? fun y => Nat.beq y.tag tag) = some x →
    x.dst ≠ s.deviceId → r.err = some k → k < 256 → Completes (.remoteResponseArrival core tag r) s fun t => EndedInError core x k s t) ∧
  (∀ s core tag r x, (Instr.remoteResponseArrival core tag r).wf →
    ((s.core core).remotes.any fun y => Nat.beq y.tag tag && !Nat.beq y.dst s.deviceId) = false →
    ((s.core core).copies.find? fun y => Nat.beq y.id tag) = some x → r.err = none → Completes (.remoteResponseArrival core tag r) s fun t =>
      (t.core core).copies = (s.core core).copies.map (fun y => if y.id = tag then
        { y with data := if r.data = [] then y.data else r.data, stale := y.stale || r.stale } else y) ∧ SameCores [core] s t ∧ SameBut [.cores] s t) ∧
  (∀ s core tag r x k, (Instr.remoteResponseArrival core tag r).wf →
    ((s.core core).remotes.any fun y => Nat.beq y.tag tag && !Nat.beq y.dst s.deviceId) = false →
    ((s.core core).copies.find? fun y => Nat.beq y.id tag) = some x → r.err = some k → Completes (.remoteResponseArrival core tag r) s fun t =>
      ((t.core core).copies.any fun y => Nat.beq y.id tag) = false ∧ (k ≠ 5 → Faulted t core 0x0C) ∧
      (k = 1 ∨ k = 2 → t.err Reg.SILK.ERR.DEAD_TARGET) ∧ (k = 5 → SameCores [core] s t ∧ SameBut [.cores] s t)) ∧
  (∀ s core tag r, (Instr.remoteResponseArrival core tag r).wf →
    ((s.core core).remotes.any fun y => Nat.beq y.tag tag && !Nat.beq y.dst s.deviceId) = false →
    ((s.core core).copies.any fun y => Nat.beq y.id tag) = false → Completes (.remoteResponseArrival core tag r) s fun t =>
      t.fld Reg.SILK.LATE_RESP.COUNT = min (s.fld Reg.SILK.LATE_RESP.COUNT + 1) (2 ^ Reg.SILK.LATE_RESP.COUNT.w - 1) ∧ Frame [] [0x0C0] s t) ∧
  (∀ s core tag x, (Instr.deadTargetTimeout core tag).wf → ((s.core core).remotes.find? fun y => Nat.beq y.tag tag) = some x → x.dst ≠ s.deviceId →
    Completes (.deadTargetTimeout core tag) s fun t => EndedInError core x 1 s t ∧ (t.core core).remotes = [] ∧ x.at_ ≤ t.mono) ∧
  (∀ s core tag x, (Instr.deadTargetTimeout core tag).wf → ((s.core core).remotes.any fun y => Nat.beq y.tag tag) = false →
    ((s.core core).copies.find? fun y => Nat.beq y.id tag) = some x → (deviceOf x.src ≠ s.deviceId ∨ deviceOf x.dst ≠ s.deviceId) →
    Completes (.deadTargetTimeout core tag) s fun t => Faulted t core 0x0C ∧ (t.core core).copies = [] ∧ t.err Reg.SILK.ERR.DEAD_TARGET ∧
      x.at_ ≤ t.mono) ∧
  (∀ s core tag, (Instr.deadTargetTimeout core tag).wf → (((s.core core).remotes.find? fun y => Nat.beq y.tag tag).all fun x => Nat.beq x.dst s.deviceId) →
    ((s.core core).remotes.any (fun y => Nat.beq y.tag tag) ∨ (((s.core core).copies.find? fun y => Nat.beq y.id tag).all fun x =>
      Nat.beq (deviceOf x.src) s.deviceId && Nat.beq (deviceOf x.dst) s.deviceId)) → Completes (.deadTargetTimeout core tag) s fun t => t = s) ∧
  (∀ s, s.segmentReason = none → Completes .segmentSet s fun t =>
    t.segment (s.fld Reg.SILK.SEG_SEL.COCOON) (s.fld Reg.SILK.SEG_SEL.INDEX) =
      ⟨true, s.fld Reg.SILK.SEG_BASE.BASE * 65536, s.fld Reg.SILK.SEG_LEN.LEN * 65536,
        (s.segment (s.fld Reg.SILK.SEG_SEL.COCOON) (s.fld Reg.SILK.SEG_SEL.INDEX)).gen⟩ ∧
      t.fld (refusalReason 0x0C0) = 0 ∧ Frame [.cocoons] [0x0C0] s t) ∧
  (∀ s c i base len, s.fld Reg.SILK.SEG_SEL.COCOON = c → s.fld Reg.SILK.SEG_SEL.INDEX = i → s.fld Reg.SILK.SEG_BASE.BASE * 65536 = base →
    s.fld Reg.SILK.SEG_LEN.LEN * 65536 = len →
    (i < 17 ∨ len = 0 ∨ s.cocoonState c = 0 ∨ s.inExtent c base len = false ∨
      (s.cocoon c).segments.any fun x => !Nat.beq x.1 i && x.2.valid && Nat.blt base (x.2.base + x.2.len) && Nat.blt x.2.base (base + len)) →
    Completes .segmentSet s fun t =>
      Refused t 0x0C0 (if i < 17 ∨ len = 0 then 0x01C0 else if s.cocoonState c = 0 ∨ s.inExtent c base len = false then 0x03C0 else 0x05C1) ∧
      Frame [] [0x0C0] s t) ∧
  (∀ s, 17 ≤ s.fld Reg.SILK.SEG_SEL.INDEX → Completes .segmentClear s fun t =>
    (t.segment (s.fld Reg.SILK.SEG_SEL.COCOON) (s.fld Reg.SILK.SEG_SEL.INDEX)).valid = false ∧ t.fld (refusalReason 0x0C0) = 0 ∧
      Frame [.cocoons] [0x0C0] s t) ∧
  (∀ s, s.fld Reg.SILK.SEG_SEL.INDEX < 17 → Completes .segmentClear s fun t => Refused t 0x0C0 0x01C0 ∧ Frame [] [0x0C0] s t)

/-- R414, R415, R418–R420, R422, R434: heartbeats go out numbered and raise a neighbour's score, a missing one lowers it; a suspect is voted on, and
the votes move on without a verdict; a keeper with a majority expels, or without budget holds; EXPEL, HOLD and READMIT change the device's place in
hardware mode; an expulsion leaves the budget window, and held devices are reviewed. -/
def Obligations.pod_heartbeats_and_verdicts : Prop :=
  (∀ s link, (Instr.heartbeatTransmit link).wf → [2, 3, 4].contains (s.linkState link) → Completes (.heartbeatTransmit link) s fun t =>
    t.out = s.out ++ [.pod (some (s.fld (Reg.SILK_LINK.NEIGHBOUR.ID link)))
      (.heartbeat link s.selfScore (s.silkLink link).beats (s.seq.beat % 2 ^ 32) (s.fld Reg.POD.STATE.STATE))] ∧
    (t.silkLink link).beats = ((s.silkLink link).beats + 1) % 65536 ∧ Frame [.silk] [] s t) ∧
  (∀ s link, (Instr.heartbeatTransmit link).wf → [2, 3, 4].contains (s.linkState link) = false → Completes (.heartbeatTransmit link) s fun t => t = s) ∧
  (∀ s link n self q beat st, (Instr.heartbeat link n self q beat st).wf → [2, 3, 4].contains (s.linkState link) → s.isNeighbour n →
    Completes (.heartbeat link n self q beat st) s fun t =>
      t.linkScore n = min 255 (s.linkScore n + 1) ∧ t.reportedScore n = self ∧ Rescored n s t ∧ Frame [.pod] [0x008] s t) ∧
  (∀ s link n self q beat st, (Instr.heartbeat link n self q beat st).wf → ([2, 3, 4].contains (s.linkState link) = false ∨ s.isNeighbour n = false) →
    Completes (.heartbeat link n self q beat st) s fun t => t = s) ∧
  (∀ s n, (Instr.heartbeatMissing n).wf → s.isNeighbour n → Completes (.heartbeatMissing n) s fun t =>
    t.linkScore n = s.linkScore n - 16 ∧ t.reportedScore n = s.reportedScore n ∧ Rescored n s t ∧ Frame [.pod] [0x008] s t) ∧
  (∀ s n, (Instr.heartbeatMissing n).wf → s.isNeighbour n = false → Completes (.heartbeatMissing n) s fun t => t = s) ∧
  (∀ s x yes, (Instr.voteSend x).wf → s.podHardware → s.isNeighbour x → s.suspect x → x ∉ s.pod.expelled → x ≠ s.deviceId →
    Nat.ble (s.health x) (s.fld Reg.POD.CFG.EXPEL_THR) = yes → s.voteDest x ≠ some s.deviceId → Completes (.voteSend x) s fun t =>
      t.out = s.out ++ (s.voteDest x).toList.map (fun k => Emit.pod (some k) (.vote x yes)) ∧
      Assoc.find x t.pod.yesSince = (if yes then some (Assoc.findD x s.mono s.pod.yesSince) else none) ∧ Frame [.pod] [] s t) ∧
  (∀ s x yes, (Instr.voteSend x).wf → s.podHardware → s.isNeighbour x → s.suspect x → x ∉ s.pod.expelled → x ≠ s.deviceId →
    Nat.ble (s.health x) (s.fld Reg.POD.CFG.EXPEL_THR) = yes → s.voteDest x = some s.deviceId →
    exec (.voteSend x) s = exec (.voteReceive s.deviceId x yes) { s with pod := { s.pod with
      yesSince := if yes then Assoc.upd x s.mono id s.pod.yesSince else Assoc.del x s.pod.yesSince } }) ∧
  (∀ s x, (Instr.voteSend x).wf → (s.podHardware = false ∨ s.isNeighbour x = false ∨ s.suspect x = false ∨ x ∈ s.pod.expelled ∨ x = s.deviceId) →
    Completes (.voteSend x) s fun t => t = s) ∧
  (∀ s voter x yes, (Instr.voteReceive voter x yes).wf → s.counts voter x → (s.counting voter x yes).majority x →
    s.inWindow.length < s.fld Reg.POD.CFG.BUDGET_E → Completes (.voteReceive voter x yes) s fun t =>
      Expelled x s t ∧ t.pod.spent = s.now :: s.inWindow ∧ t.out = s.out ++ [.pod none (.expel x ((s.counting voter x yes).yesVoters x))] ∧
      t.fld Reg.POD.BUDGET_USED.COUNT = (s.inWindow.length + 1) % 2 ^ Reg.POD.BUDGET_USED.COUNT.w ∧ Frame [.pod] [0x008] s t) ∧
  (∀ s voter x yes, (Instr.voteReceive voter x yes).wf → s.counts voter x → (s.counting voter x yes).majority x →
    s.fld Reg.POD.CFG.BUDGET_E ≤ s.inWindow.length → x ∉ s.pod.held → Completes (.voteReceive voter x yes) s fun t =>
      t.pod.held = x :: s.pod.held ∧ t.pod.expelled = s.pod.expelled ∧ t.out = s.out ++ [.pod none (.hold x)] ∧ t.err Reg.POD.ERR.BUDGET_SPENT ∧
      Frame [.pod] [0x008] s t) ∧
  (∀ s voter x yes, (Instr.voteReceive voter x yes).wf → s.counts voter x → ((s.counting voter x yes).majority x = false ∨
    (s.fld Reg.POD.CFG.BUDGET_E ≤ s.inWindow.length ∧ x ∈ s.pod.held)) → Completes (.voteReceive voter x yes) s fun t => t = s.counting voter x yes) ∧
  (∀ s voter x yes, (Instr.voteReceive voter x yes).wf → ¬s.counts voter x → Completes (.voteReceive voter x yes) s fun t => t = s) ∧
  (∀ s x y, (Instr.voteRedirect x).wf → Assoc.find x s.pod.yesSince = some y → Completes (.voteRedirect x) s fun t =>
    Assoc.findD (α := Nat) x 0 t.pod.moved = Assoc.findD (α := Nat) x 0 s.pod.moved + 1 ∧ Assoc.find x t.pod.yesSince = some t.mono ∧
      y + 1000000 ≤ t.mono ∧ Frame [.pod, .time] [] s t) ∧
  (∀ s x, (Instr.voteRedirect x).wf → Assoc.find x s.pod.yesSince = none → Completes (.voteRedirect x) s fun t => t = s) ∧
  (∀ s x voters, (Instr.expel x voters).wf → s.podHardware → x ∉ s.pod.expelled → Completes (.expel x voters) s fun t =>
      Expelled x s t ∧ t.out = s.out ∧ Frame [.pod] [0x008] s t) ∧
  (∀ s x voters, (Instr.expel x voters).wf → (s.podHardware = false ∨ x ∈ s.pod.expelled) → Completes (.expel x voters) s fun t => t = s) ∧
  (∀ s x, (Instr.hold x).wf → s.podHardware → x ∉ s.pod.expelled → x ∉ s.pod.held → Completes (.hold x) s fun t =>
    t.pod.held = x :: s.pod.held ∧ t.pod.expelled = s.pod.expelled ∧ t.fld Reg.POD.STATE.STATE = t.podState ∧ Frame [.pod] [0x008] s t) ∧
  (∀ s x, (Instr.hold x).wf → (s.podHardware = false ∨ x ∈ s.pod.expelled ∨ x ∈ s.pod.held) → Completes (.hold x) s fun t => t = s) ∧
  (∀ s x, (Instr.readmitMessage x).wf → s.podHardware → Completes (.readmitMessage x) s fun t =>
    x ∉ t.pod.expelled ∧ x ∉ t.pod.held ∧ (t.pod.votes.any fun v => Nat.beq v.suspect x) = false ∧
      t.routeWord x = fieldAt s.silk.fabric (fabOff s.silk.fabric 0 + 4 * x) 4 ∧ t.fld Reg.POD.STATE.STATE = t.podState ∧ Frame [.pod] [0x008] s t) ∧
  (∀ s x, (Instr.readmitMessage x).wf → s.podHardware = false → Completes (.readmitMessage x) s fun t => t = s) ∧
  (∀ s x u, s.pod.spent.getLast? = some x → s.advanceTo (x + s.fld Reg.POD.WINDOW.S * 1000000000) = u → s.pod.held = [] →
    Completes .budgetRelease s fun t =>
      t.pod.spent = u.inWindow ∧ t.fld Reg.POD.BUDGET_USED.COUNT = u.inWindow.length % 2 ^ Reg.POD.BUDGET_USED.COUNT.w ∧ x ∉ t.pod.spent ∧
      t.time = u.time ∧ Frame [.pod, .time] [0x008] s t) ∧
  (∀ s x y u, s.pod.spent.getLast? = some x → s.advanceTo (x + s.fld Reg.POD.WINDOW.S * 1000000000) = u → s.pod.held = [y] → y ∉ s.pod.expelled →
    Completes .budgetRelease s fun t =>
      (u.majority y = false → t.pod.held = [] ∧ t.pod.expelled = s.pod.expelled ∧ t.out = s.out ++ [.pod none (.readmit y)]) ∧
      (u.majority y → u.inWindow.length < s.fld Reg.POD.CFG.BUDGET_E → Expelled y s t ∧ t.out = s.out ++ [.pod none (.expel y (u.yesVoters y))]) ∧
      (u.majority y → s.fld Reg.POD.CFG.BUDGET_E ≤ u.inWindow.length → t.pod.held = [y] ∧ t.pod.expelled = s.pod.expelled) ∧
      Frame [.pod, .time] [0x008] s t) ∧
  (∀ s, s.pod.spent = [] → Completes .budgetRelease s fun t => t = s)

/-- R421, R422, R424, R434: a manager's record that verifies is held, and applied and flooded at its quorum; one that does not, or comes too late, is
refused; flooded records are taken one by one, each verified again; READMIT asks the keeper, or as keeper decides; a device is quarantined for a
cocoon, which ends what the cocoon has outstanding to it, and released. -/
def Obligations.pod_records_and_quarantine : Prop :=
  (∀ s v a ok late held agree, s.fld2 Reg.POD.VOTE_LO.ADDR Reg.POD.VOTE_HI.ADDR = a → parseVote (s.rdBytes a 128) = v → s.podHardware = false →
    s.inRegion 1 a 128 → ok ∈ [true, false] → (Nat.blt v.notAfter (s.now / 1000000000) ||
      (Assoc.find v.target s.pod.applied).any fun q => Nat.ble v.seq q) = late →
    (if s.pod.records.any (fun r => Nat.beq r.target v.target && Nat.beq r.verdict v.verdict && Nat.beq r.seq v.seq && Nat.beq r.manager v.manager)
      then s.pod.records else s.pod.records ++ [v]) = held →
    held.filter (fun r => Nat.beq r.target v.target && Nat.beq r.verdict v.verdict && Nat.beq r.seq v.seq) = agree → Completes .vote s fun t =>
      ok = (Nat.blt v.manager (podManagers s.pod.map) && Config.ed25519Verify (podKey s.pod.map v.manager) (voteSigned v) v.sig) →
      (ok = false → Refused t 0x008 0x07E0 ∧ t.err Reg.POD.ERR.VOTE_BAD ∧ t.pod = s.pod) ∧
      (ok → late → Refused t 0x008 0x07E1 ∧ t.pod = s.pod) ∧
      (ok → late = false → v.verdict = 2 → v.target ∉ s.pod.expelled → Refused t 0x008 0x04E1 ∧ t.pod = s.pod) ∧
      (ok → late = false → (v.verdict ≠ 2 ∨ v.target ∈ s.pod.expelled) → t.fld (refusalReason 0x008) = 0 ∧
        (agree.length < podQuorum s.pod.map ∨ ¬(v.verdict = 1 ∨ v.verdict = 2) → t.pod = { s.pod with records := held }) ∧
        (podQuorum s.pod.map ≤ agree.length → v.verdict = 1 ∨ v.verdict = 2 → Assoc.find v.target t.pod.applied = some v.seq ∧
          t.out = s.out ++ [.pod none (.records agree)] ∧ (v.target ∈ t.pod.expelled ↔ v.verdict = 1) ∧
          ∀ r ∈ t.pod.records, r.target ≠ v.target ∨ v.seq < r.seq)) ∧
      Frame [.pod] [0x008] s t) ∧
  (∀ s, (s.podHardware ∨ s.inRegion 1 (s.fld2 Reg.POD.VOTE_LO.ADDR Reg.POD.VOTE_HI.ADDR) 128 = false) → Completes .vote s fun t =>
    Refused t 0x008 (if s.podHardware then 0x04E2 else 0x03E0) ∧ Frame [] [0x008] s t) ∧
  (∀ s v, (Instr.voteRecordsFlood [v]).wf → s.podHardware = false → v.manager < podManagers s.pod.map → s.now / 1000000000 ≤ v.notAfter →
    Assoc.find v.target s.pod.applied = none → v.verdict = 1 → podQuorum s.pod.map = 1 → Completes (.voteRecordsFlood [v]) s fun t =>
      (if Config.ed25519Verify (podKey s.pod.map v.manager) (voteSigned v) v.sig
        then v.target ∈ t.pod.expelled ∧ Assoc.find v.target t.pod.applied = some v.seq
        else t.pod = s.pod ∧ t.err Reg.POD.ERR.VOTE_BAD) ∧ Frame [.pod] [0x008] s t) ∧
  (∀ s v, (Instr.voteRecordsFlood [v]).wf → s.podHardware = false → (podManagers s.pod.map ≤ v.manager ∨ v.notAfter < s.now / 1000000000 ∨
    (Assoc.find v.target s.pod.applied).any (fun q => Nat.ble v.seq q)) → Completes (.voteRecordsFlood [v]) s fun t =>
      t.pod = s.pod ∧ (podManagers s.pod.map ≤ v.manager → t.err Reg.POD.ERR.VOTE_BAD) ∧ Frame [] [0x008] s t) ∧
  (∀ s v l, (Instr.voteRecordsFlood (v :: l)).wf → Completes (.voteRecordsFlood [v]) s fun u =>
    exec (.voteRecordsFlood (v :: l)) s = exec (.voteRecordsFlood l) u) ∧
  (∀ s l, (Instr.voteRecordsFlood l).wf → (s.podHardware ∨ l = []) → Completes (.voteRecordsFlood l) s fun t => t = s) ∧
  (∀ s x k, s.fld Reg.POD.HSEL.DEVICE = x → s.podHardware → x ∈ s.pod.expelled → s.podLive.head? = some k → Completes .readmit s fun t =>
    t.fld (refusalReason 0x008) = 0 ∧
      (k ≠ s.deviceId → t.out = s.out ++ [.pod (some k) (.askReadmit x)] ∧ t.pod = s.pod) ∧
      (k = s.deviceId → (t.pod = s.pod ∧ t.out = s.out ∨
        x ∉ t.pod.expelled ∧ x ∉ t.pod.held ∧ t.out = s.out ++ [.pod none (.readmit x)]) ∧
        (s.isNeighbour x → s.reportedScore x ≤ s.fld Reg.POD.CFG.SUSPECT_THR → t.pod = s.pod)) ∧ Frame [.pod] [0x008] s t) ∧
  (∀ s, s.fld Reg.POD.HSEL.DEVICE ∉ s.pod.expelled → Completes .readmit s fun t => Refused t 0x008 0x04E1 ∧ Frame [] [0x008] s t) ∧
  (∀ s, s.fld Reg.POD.HSEL.DEVICE ∈ s.pod.expelled → (s.podHardware = false ∨ s.podLive = []) → Completes .readmit s fun t => t = s) ∧
  (∀ s fn device c, (Instr.quarantine fn device).wf → s.tenantBound fn → s.fnCocoon fn = c → device ∉ (s.cocoon c).quar →
    (s.cocoon c).quar.length < 16 → Completes (.quarantine fn device) s fun t =>
      (t.cocoon c).quar = (s.cocoon c).quar ++ [device] ∧ t.err Reg.POD.ERR.QUARANTINE ∧
      (∀ n ∈ s.cores.map (fun x => x.1), s.fld (coreOwnerFld n) = c → device ≠ s.deviceId →
        ((s.core n).remotes.any (fun r => Nat.beq r.dst device) ∨
          (s.core n).copies.any (fun y => Nat.beq (deviceOf y.src) device || Nat.beq (deviceOf y.dst) device)) →
        Faulted t n 0x08 ∧ (t.core n).remotes = [] ∧ (t.core n).copies = []) ∧
      ((s.outstanding (Nat.beq device)).all (fun x => !Nat.beq (s.fld (coreOwnerFld x.1)) c) → Frame [.cocoons] [0x008] s t)) ∧
  (∀ s fn device, (Instr.quarantine fn device).wf → s.tenantBound fn → device ∉ (s.cocoon (s.fnCocoon fn)).quar →
    16 ≤ (s.cocoon (s.fnCocoon fn)).quar.length → Completes (.quarantine fn device) s fun t =>
      Refused t (0x140 + fn) 0x05E0 ∧ Frame [] [0x140 + fn] s t) ∧
  (∀ s fn device, (Instr.quarantine fn device).wf → (s.tenantBound fn = false ∨ device ∈ (s.cocoon (s.fnCocoon fn)).quar) →
    Completes (.quarantine fn device) s fun t => t = s) ∧
  (∀ s fn device, (Instr.quarantineClear fn device).wf → s.tenantBound fn → Completes (.quarantineClear fn device) s fun t =>
    t.quarantined (s.fnCocoon fn) device = false ∧
      (∀ d ∈ (s.cocoon (s.fnCocoon fn)).quar, d ≠ device → t.quarantined (s.fnCocoon fn) d) ∧ Frame [.cocoons] [] s t) ∧
  (∀ s fn device, (Instr.quarantineClear fn device).wf → s.tenantBound fn = false → Completes (.quarantineClear fn device) s fun t => t = s)

/-- R425: the progress of a job: RESUME starts the clock, from a rollback too; a checkpoint that completes makes its pending time useful, a rollback
loses it; a mark out of order sets MARK_BAD; a function that is not bound marks nothing.
R432, R433: a partner's signature that equals this device's is counted; one that differs latches the first mismatch; one that finds no
match waits, or where 4,096 wait ends the comparing; so does one that finds no match in time. Signatures are taken one by one. -/
def Obligations.progress_marks_and_signatures : Prop :=
  (∀ s fn a f u o l p, Marks (.resume fn) fn ⟨.none, a, f, u, o, l, p⟩ (some ⟨.running, s.now, s.now, u, o, l, p⟩) s) ∧
  (∀ s fn a f u o l p, Marks (.resume fn) fn ⟨.rolledBack, a, f, u, o, l, p⟩ (some ⟨.running, s.now, f, u, o, l + (s.now - a), p⟩) s) ∧
  (∀ s fn a f u o l p, Marks (.resume fn) fn ⟨.running, a, f, u, o, l, p⟩ none s) ∧
  (∀ s fn a f u o l p, Marks (.resume fn) fn ⟨.checkpoint, a, f, u, o, l, p⟩ none s) ∧
  (∀ s fn a f u o l p, Marks (.ckptStart fn) fn ⟨.running, a, f, u, o, l, p⟩ (some ⟨.checkpoint, s.now, f, u, o, l, p + (s.now - a)⟩) s) ∧
  (∀ s fn k a f u o l p, k ∈ [Course.none, .checkpoint, .rolledBack] → Marks (.ckptStart fn) fn ⟨k, a, f, u, o, l, p⟩ none s) ∧
  (∀ s fn a f u o l p, Marks (.ckptDone fn) fn ⟨.checkpoint, a, f, u, o, l, p⟩ (some ⟨.running, s.now, f, u + p, o + (s.now - a), l, 0⟩) s) ∧
  (∀ s fn k a f u o l p, k ∈ [Course.none, .running, .rolledBack] → Marks (.ckptDone fn) fn ⟨k, a, f, u, o, l, p⟩ none s) ∧
  (∀ s fn k a f u o l p, k ∈ [Course.running, .checkpoint] → Marks (.rollback fn) fn ⟨k, a, f, u, o, l, p⟩
    (some ⟨.rolledBack, s.now, f, u, o, l + p + (s.now - a), 0⟩) s) ∧
  (∀ s fn a f u o l p, Marks (.rollback fn) fn ⟨.rolledBack, a, f, u, o, l, p⟩ (some ⟨.rolledBack, a, f, u, o, l, p⟩) s) ∧
  (∀ s fn a f u o l p, Marks (.rollback fn) fn ⟨.none, a, f, u, o, l, p⟩ none s) ∧
  (∀ s fn c, c ∈ [Instr.resume fn, .ckptStart fn, .ckptDone fn, .rollback fn] → c.wf → s.tenantBound fn = false → Completes c s fun t => t = s) ∧
  (∀ s pair r x, (Instr.signatureReceive pair [r]).wf → s.comparing pair → ((s.pair pair).own.find? fun y => y.tag == r.tag) = some x →
    Completes (.signatureReceive pair [r]) s fun t =>
      t.fld (Reg.LSTEP.COMPARED.COUNT pair) = min (s.fld (Reg.LSTEP.COMPARED.COUNT pair) + 1) (2 ^ (Reg.LSTEP.COMPARED.COUNT pair).w - 1) ∧
      (t.pair pair).own = (s.pair pair).own.erase x ∧ (t.pair pair).theirs = (s.pair pair).theirs ∧
      (x.sig = r.sig → t.fld (Reg.LSTEP.MISMATCHES.COUNT pair) = s.fld (Reg.LSTEP.MISMATCHES.COUNT pair) ∧ Frame [.pod] [0x009] s t) ∧
      (x.sig ≠ r.sig → Mismatched pair r.tag 0 s t ∧
        t.fld (Reg.LSTEP.STATUS.STATE pair) = (if s.fld (Reg.LSTEP.STATUS.STATE pair) = 1 then 2 else s.fld (Reg.LSTEP.STATUS.STATE pair)))) ∧
  (∀ s pair r, (Instr.signatureReceive pair [r]).wf → s.comparing pair → ((s.pair pair).own.find? fun y => y.tag == r.tag) = none →
    (s.pair pair).own.length + (s.pair pair).theirs.length < 4096 → Completes (.signatureReceive pair [r]) s fun t =>
      (t.pair pair) = { s.pair pair with theirs := (s.pair pair).theirs ++ [r] } ∧ SameBut [.pod] s t) ∧
  (∀ s pair r, (Instr.signatureReceive pair [r]).wf → s.comparing pair → ((s.pair pair).own.find? fun y => y.tag == r.tag) = none →
    4096 ≤ (s.pair pair).own.length + (s.pair pair).theirs.length → Completes (.signatureReceive pair [r]) s fun t =>
      (t.pair pair).stopped ∧ t.fld (Reg.LSTEP.STATUS.STATE pair) = 3 ∧ Mismatched pair r.tag 2 s t) ∧
  (∀ s pair r l, (Instr.signatureReceive pair (r :: l)).wf → Completes (.signatureReceive pair [r]) s fun u =>
    exec (.signatureReceive pair (r :: l)) s = exec (.signatureReceive pair l) u) ∧
  (∀ s pair l, (Instr.signatureReceive pair l).wf → (s.comparing pair = false ∨ l = []) → Completes (.signatureReceive pair l) s fun t => t = s) ∧
  (∀ s pair x, (Instr.signatureTimeout pair x.tag).wf → s.comparing pair → ((s.pair pair).own.find? fun y => y.tag == x.tag) = some x →
    Completes (.signatureTimeout pair x.tag) s fun t => (t.pair pair).own = (s.pair pair).own.erase x ∧ Mismatched pair x.tag 1 s t) ∧
  (∀ s pair x, (Instr.signatureTimeout pair x.tag).wf → s.comparing pair → ((s.pair pair).own.find? fun y => y.tag == x.tag) = none →
    ((s.pair pair).theirs.find? fun y => y.tag == x.tag) = some x → Completes (.signatureTimeout pair x.tag) s fun t =>
      (t.pair pair).theirs = (s.pair pair).theirs.erase x ∧ Mismatched pair x.tag 1 s t) ∧
  (∀ s pair tag, (Instr.signatureTimeout pair tag).wf → (s.comparing pair = false ∨ ((s.pair pair).own ++ (s.pair pair).theirs).all fun y => y.tag != tag) →
    Completes (.signatureTimeout pair tag) s fun t => t = s)

/-- R387, R388: a half that fails hands its flits to the other and the link runs at half rate until the half rejoins; the last half that fails leaves
no rate. A flit received in sequence moves its lane on, its ACK releases flits, its NAK replays, and where it fails retry its half fails; a damaged one
changes nothing, one beyond FEC is counted. A lane that is not up takes none. -/
def Obligations.staido_lanes_and_halves : Prop :=
  (∀ s h, (Instr.halfDown h).wf → s.linkUp → s.halfUp h → s.halfUp (1 - h) → Completes (.halfDown h) s fun t =>
    t.halfUp h = false ∧ t.halfUp (1 - h) ∧ t.fld Reg.STAIDO.STATE.STATE = (if s.fld Reg.STAIDO.STATE.STATE = 2 then 3 else s.fld Reg.STAIDO.STATE.STATE) ∧
    t.fld Reg.STAIDO.RATE.GBPS = 800 ∧ t.err Reg.STAIDO.ERR.HALF_DOWN ∧
    t.fld Reg.STAIDO.HALF_SWITCHES.COUNT = min (s.fld Reg.STAIDO.HALF_SWITCHES.COUNT + 1) (2 ^ Reg.STAIDO.HALF_SWITCHES.COUNT.w - 1) ∧
    t.fld Reg.STAIDO.REPLAYS.COUNT = min (s.fld Reg.STAIDO.REPLAYS.COUNT + ((s.lane (2 * h)).unacked + (s.lane (2 * h + 1)).unacked))
      (2 ^ Reg.STAIDO.REPLAYS.COUNT.w - 1) ∧
    t.lane (2 * h) = Retry.fresh ∧ t.lane (2 * h + 1) = Retry.fresh ∧
    t.lane (2 * (1 - h)) = (s.lane (2 * (1 - h))).sent ((s.lane (2 * h)).unacked + (s.lane (2 * h + 1)).unacked) ∧ Frame [] [] s t) ∧
  (∀ s h, (Instr.halfDown h).wf → s.linkUp → s.halfUp h → s.halfUp (1 - h) = false → Completes (.halfDown h) s fun t =>
    t.halfUp h = false ∧ t.halfUp (1 - h) = false ∧ t.fld Reg.STAIDO.RATE.GBPS = 0 ∧
    SameFields [Reg.STAIDO.LANES.UP, Reg.STAIDO.RATE.GBPS] s t ∧ Frame [] [] s t) ∧
  (∀ s h, (Instr.halfDown h).wf → (s.linkUp = false ∨ s.halfUp h = false) → Completes (.halfDown h) s fun t => t = s) ∧
  (∀ s h, (Instr.halfRejoin h).wf → s.linkUp → s.halfUp h = false → Completes (.halfRejoin h) s fun t =>
    t.halfUp h ∧ t.halfUp (1 - h) = s.halfUp (1 - h) ∧
    t.fld Reg.STAIDO.STATE.STATE = (if s.fld Reg.STAIDO.STATE.STATE = 3 ∧ s.halfUp (1 - h) then 2 else s.fld Reg.STAIDO.STATE.STATE) ∧
    t.fld Reg.STAIDO.RATE.GBPS = (if s.halfUp (1 - h) then 1600 else 800) ∧
    SameFields [Reg.STAIDO.LANES.UP, Reg.STAIDO.RATE.GBPS, Reg.STAIDO.STATE.STATE] s t ∧ Frame [] [] s t) ∧
  (∀ s h, (Instr.halfRejoin h).wf → (s.linkUp = false ∨ s.halfUp h) → Completes (.halfRejoin h) s fun t => t = s) ∧
  (∀ s lane seq ack, (Instr.staidoFlitReceive lane true true seq ack false).wf → s.linkUp → s.halfUp (lane / 2) →
    Completes (.staidoFlitReceive lane true true seq ack false) s fun t =>
      (t.lane lane).rxSeq = (if seq = (s.lane lane).rxSeq then ((s.lane lane).rxSeq + 1) % 65536 else (s.lane lane).rxSeq) ∧
      (t.lane lane).txSeq = (s.lane lane).txSeq ∧ SameFields [] s t ∧ Frame [] [] s t) ∧
  (∀ s lane seq k nak, (Instr.staidoFlitReceive lane true true seq (((s.lane lane).txSeq + 65536 - k) % 65536) nak).wf → s.linkUp →
    s.halfUp (lane / 2) → (s.lane lane).txSeq < 65536 → k ≤ (s.lane lane).unacked → (s.lane lane).unacked < 65536 → (nak → (s.lane lane).naks < 7) →
    Completes (.staidoFlitReceive lane true true seq (((s.lane lane).txSeq + 65536 - k) % 65536) nak) s fun t =>
      (t.lane lane).unacked = k ∧ (t.lane lane).txSeq = (s.lane lane).txSeq ∧
      (t.lane lane).naks = (if k = (s.lane lane).unacked then (if nak then (s.lane lane).naks + 1 else (s.lane lane).naks) else if nak then 1 else 0) ∧
      (nak → t.fld Reg.STAIDO.REPLAYS.COUNT = min (s.fld Reg.STAIDO.REPLAYS.COUNT + 1) (2 ^ Reg.STAIDO.REPLAYS.COUNT.w - 1)) ∧
      SameFields (if nak then [Reg.STAIDO.REPLAYS.COUNT] else []) s t ∧ Frame [] [] s t) ∧
  (∀ s lane seq, (Instr.staidoFlitReceive lane true true seq (((s.lane lane).txSeq + 65536 - (s.lane lane).unacked) % 65536) true).wf → s.linkUp →
    s.halfUp (lane / 2) → (s.lane lane).txSeq < 65536 → (s.lane lane).unacked < 65536 → 7 ≤ (s.lane lane).naks →
    Completes (.staidoFlitReceive lane true true seq (((s.lane lane).txSeq + 65536 - (s.lane lane).unacked) % 65536) true) s fun t =>
      t.halfUp (lane / 2) = false ∧ t.halfUp (1 - lane / 2) = s.halfUp (1 - lane / 2) ∧ (s.halfUp (1 - lane / 2) → t.err Reg.STAIDO.ERR.HALF_DOWN) ∧
      Frame [] [] s t) ∧
  (∀ s lane crcOk seq ack nak, (Instr.staidoFlitReceive lane false crcOk seq ack nak).wf → s.linkUp → s.halfUp (lane / 2) →
    Completes (.staidoFlitReceive lane false crcOk seq ack nak) s fun t =>
      t.lane lane = s.lane lane ∧
      t.fld Reg.STAIDO.FEC_UNCORR.COUNT = min (s.fld Reg.STAIDO.FEC_UNCORR.COUNT + 1) (2 ^ Reg.STAIDO.FEC_UNCORR.COUNT.w - 1) ∧
      SameFields [Reg.STAIDO.FEC_UNCORR.COUNT] s t ∧ Frame [] [] s t) ∧
  (∀ s lane seq ack nak, (Instr.staidoFlitReceive lane true false seq ack nak).wf → s.linkUp → s.halfUp (lane / 2) →
    Completes (.staidoFlitReceive lane true false seq ack nak) s fun t => t.lane lane = s.lane lane ∧ SameFields [] s t ∧ Frame [] [] s t) ∧
  (∀ s lane fecOk crcOk seq ack nak, (Instr.staidoFlitReceive lane fecOk crcOk seq ack nak).wf → (s.linkUp = false ∨ s.halfUp (lane / 2) = false) →
    Completes (.staidoFlitReceive lane fecOk crcOk seq ack nak) s fun t => t = s)

/-- R389, R393–R395, R398, R399, R408: a tail doorbell sets the tail and, where a read may go, reads the entry at HEAD; a tail beyond the queue halts
it; a malformed doorbell is counted; a head doorbell releases entries; a coalescing interval ends in the ring's vector, sent or, masked, pending;
unmasking a pending vector sends it. What a read brings goes to what asked for it: a queue, a copy, a request of the radio, a load of a core; to a
read that is not outstanding nothing.
R401, R402, R411, R412: translations are dropped and INVAL_BUSY shows it until the reads that used them have come; a function leaves ERROR once its
queues are disabled; queues and rings are enabled by a word that passes the check, refused with the first condition that fails, and disabled; a ring
that an enabled queue names stays. A disabled queue's or ring's word is written; one that is enabled keeps its own. -/
def Obligations.doorbells_rings_vectors_and_queues : Prop :=
  (∀ s fn q tail, (Instr.sqTailDoorbell fn (8 * q) 4 tail).wf → s.serves fn → q < queuesOf fn → s.sqOn fn q →
    tail % 65536 < 2 ^ s.fld (Reg.FN.SQ_CFG.SIZE_LOG2 fn q) → Completes (.sqTailDoorbell fn (8 * q) 4 tail) s fun t =>
      (t.queue fn q).tail = tail % 65536 ∧ (t.queue fn q).cmds = (s.queue fn q).cmds ∧ Frame [.fns] [] s t) ∧
  (∀ s fn q tail a pa v size p, (Instr.sqTailDoorbell fn (8 * q) 4 tail).wf → s.serves fn → q < queuesOf fn → s.sqOn fn q →
    tail % 65536 < 2 ^ s.fld (Reg.FN.SQ_CFG.SIZE_LOG2 fn q) → (s.queue fn q).halted = false → (s.queue fn q).reading = false →
    s.fld (Reg.FN.SQ_HEAD.HEAD fn q) ≠ tail % 65536 → 0 < s.ringFree fn (s.fld (Reg.FN.SQ_CFG.RING fn q)) →
    s.fld (Reg.FN.FN_STATUS.STATE fn) = 1 → s.fld Reg.STAIDO.STATE.STATE ≠ 4 → (s.fn fn).reads.length < 64 →
    s.fld2 (Reg.FN.SQ_BASE_LO.BASE fn q) (Reg.FN.SQ_BASE_HI.BASE fn q) +
      s.fld (Reg.FN.SQ_HEAD.HEAD fn q) % 2 ^ s.fld (Reg.FN.SQ_CFG.SIZE_LOG2 fn q) * entryBytes fn = a → (s.fn fn).tt = [⟨v, size, p, true⟩] →
    (fn = 256 ∧ pa = a - hostBase ∨ fn ≠ 256 ∧ hostBase + v ≤ a ∧ a < hostBase + v + size ∧ pa = p + (a - hostBase - v)) →
    Completes (.sqTailDoorbell fn (8 * q) 4 tail) s fun t =>
      (t.queue fn q).reading ∧ (fn, HostTxn.memRd (s.fn fn).nextTag pa (entryBytes fn)) ∈ t.staido.queue) ∧
  (∀ s fn q tail, (Instr.sqTailDoorbell fn (8 * q) 4 tail).wf → s.serves fn → q < queuesOf fn → s.sqOn fn q →
    tail % 65536 < 2 ^ s.fld (Reg.FN.SQ_CFG.SIZE_LOG2 fn q) → ((s.queue fn q).halted ∨ (s.queue fn q).reading ∨
      s.fld (Reg.FN.SQ_HEAD.HEAD fn q) = tail % 65536 ∨ s.ringFree fn (s.fld (Reg.FN.SQ_CFG.RING fn q)) = 0 ∨
      s.fld (Reg.FN.FN_STATUS.STATE fn) ≠ 1 ∨ s.fld Reg.STAIDO.STATE.STATE = 4 ∨ 64 ≤ (s.fn fn).reads.length) →
    Completes (.sqTailDoorbell fn (8 * q) 4 tail) s fun t =>
      (t.queue fn q).tail = tail % 65536 ∧ (t.queue fn q).reading = (s.queue fn q).reading ∧ t.staido = s.staido ∧ SameBut [.fns] s t) ∧
  (∀ s fn q tail, (Instr.sqTailDoorbell fn (8 * q) 4 tail).wf → s.serves fn → q < queuesOf fn → s.sqOn fn q →
    2 ^ s.fld (Reg.FN.SQ_CFG.SIZE_LOG2 fn q) ≤ tail % 65536 → Completes (.sqTailDoorbell fn (8 * q) 4 tail) s fun t =>
      (t.queue fn q).halted ∧ (t.queue fn q).tail = (s.queue fn q).tail ∧ (t.queue fn q).cmds = (s.queue fn q).cmds ∧
      t.isSet (Reg.FN.FN_STATUS.QHALT fn) ∧ t.err (Reg.FN.ERR.QHALT fn) ∧ Frame [.fns] [] s t) ∧
  (∀ s fn off size tail, (Instr.sqTailDoorbell fn off size tail).wf → s.serves fn →
    (size ≠ 4 ∨ off % 8 ≠ 0 ∨ queuesOf fn ≤ off / 8 ∨ s.sqOn fn (off / 8) = false) → Completes (.sqTailDoorbell fn off size tail) s fun t =>
      t.fld Reg.STAIDO.DB_BAD.COUNT = min (s.fld Reg.STAIDO.DB_BAD.COUNT + 1) (2 ^ Reg.STAIDO.DB_BAD.COUNT.w - 1) ∧ t.err Reg.STAIDO.ERR.DB_BAD ∧
      Frame [] [] s t) ∧
  (∀ s fn off size tail, (Instr.sqTailDoorbell fn off size tail).wf → s.serves fn = false → Completes (.sqTailDoorbell fn off size tail) s fun t => t = s) ∧
  (∀ s fn tag d q x, (Instr.memRdCompletion fn tag d).wf → s.linkUp → ((s.fn fn).reads.take 64).find? (fun x => Nat.beq x.tag tag) = some x →
    x.why = .sqEntry q → exec (.memRdCompletion fn tag d) s = exec (.sqEntryRead fn q (match d with
      | .data b => .data (slice b 0 x.len)
      | .error => .error)) s) ∧
  (∀ s fn q tag a b, (Instr.memRdCompletion fn tag (.data b)).wf → fn ≠ 257 → s.serves fn → s.sqOn fn q → (s.queue fn q).reading →
    (s.fn fn).reads = [⟨tag, a, 64, .sqEntry q⟩] → Completes (.memRdCompletion fn tag (.data b)) s fun t =>
      (t.queue fn q).cmds = (s.queue fn q).cmds ++ [slice b 0 64] ∧
      t.fld (Reg.FN.SQ_HEAD.HEAD fn q) = (s.fld (Reg.FN.SQ_HEAD.HEAD fn q) + 1) % 2 ^ s.fld (Reg.FN.SQ_CFG.SIZE_LOG2 fn q) %
        2 ^ (Reg.FN.SQ_HEAD.HEAD fn q).w ∧
      (t.ring fn (s.fld (Reg.FN.SQ_CFG.RING fn q))).reserved = (s.ring fn (s.fld (Reg.FN.SQ_CFG.RING fn q))).reserved + 1 ∧ Frame [.fns] [] s t) ∧
  (∀ s fn tag d a len, (Instr.memRdCompletion fn tag d).wf → s.linkUp → (s.fn fn).reads = [⟨tag, a, len, .other⟩] →
    Completes (.memRdCompletion fn tag d) s fun t => (t.fn fn).reads = [] ∧ SameBut [.fns] s t) ∧
  (∀ s fn tag b a len core id off, (Instr.memRdCompletion fn tag (.data b)).wf → s.linkUp → (s.fn fn).reads = [⟨tag, a, len, .copyData core id off⟩] →
    Completes (.memRdCompletion fn tag (.data b)) s fun t => (t.fn fn).reads = [] ∧
      (t.core core).copies = (s.core core).copies.map (fun c => if c.id = id then { c with data := placeAt c.data off (slice b 0 len) } else c) ∧
      SameBut [.fns, .cores] s t) ∧
  (∀ s fn tag a len core id off c, (Instr.memRdCompletion fn tag .error).wf → s.linkUp → (s.fn fn).reads = [⟨tag, a, len, .copyData core id off⟩] →
    ((s.core core).copies.find? fun c => Nat.beq c.id id) = some c → Completes (.memRdCompletion fn tag .error) s fun t =>
      (t.fn fn).reads = [] ∧ Faulted t core faultCopyError ∧ ((t.core core).copies.any fun c => Nat.beq c.id id) = false) ∧
  (∀ s fn tag a len core x, (Instr.memRdCompletion fn tag .error).wf → s.linkUp → (s.fn fn).reads = [⟨tag, a, len, .opData core x.tag⟩] →
    ((s.core core).remotes.find? fun r => Nat.beq r.tag x.tag) = some x → Completes (.memRdCompletion fn tag .error) s fun t =>
      (t.fn fn).reads = [] ∧ EndedInError core x 3 s t) ∧
  (∀ s fn tag b a len core x, (Instr.memRdCompletion fn tag (.data b)).wf → s.linkUp → (s.fn fn).reads = [⟨tag, a, len, .opData core x.tag⟩] →
    ((s.core core).remotes.find? fun r => Nat.beq r.tag x.tag) = some x → x.op = opLoad → s.sram = [] → x.posts = [] → x.size = len →
    x.local_ + x.size ≤ 0x200000 → x.status + 4 ≤ 0x200000 → (x.local_ + x.size ≤ x.status ∨ x.status + 4 ≤ x.local_) → core < 2048 →
    Completes (.memRdCompletion fn tag (.data b)) s fun t => (t.fn fn).reads = [] ∧
      ((t.core core).remotes.any fun r => Nat.beq r.tag x.tag) = false ∧
      t.rdBytes (spBase core + x.local_) x.size = slice b 0 len ∧ t.rd (spBase core + x.status) 4 = 1) ∧
  (∀ s tag d a len num off e, (Instr.memRdCompletion 257 tag d).wf → s.linkUp → (s.fn 257).reads = [⟨tag, a, len, .fapi num off⟩] →
    s.radio.inbox = [e] → e.num = num → Completes (.memRdCompletion 257 tag d) s fun t => (t.fn 257).reads = [] ∧
      t.radio.inbox = [match d with
        | .data b => { e with body := placeAt e.body off (slice b 0 len) }
        | .error => { e with failed := true }] ∧ SameBut [.fns, .radio] s t) ∧
  (∀ s fn tag d, (Instr.memRdCompletion fn tag d).wf → (s.linkUp = false ∨ (((s.fn fn).reads.take 64).any fun x => Nat.beq x.tag tag) = false) →
    Completes (.memRdCompletion fn tag d) s fun t => t = s) ∧
  (∀ s fn r d, (Instr.cqHeadDoorbell fn (0x800 + 8 * r) 4 (((s.ring fn r).released + d) % 2 ^ s.fld (Reg.FN.CQ_CFG.SIZE_LOG2 fn r))).wf → s.serves fn → r < queuesOf fn → s.cqOn fn r →
    s.fld (Reg.FN.CQ_CFG.SIZE_LOG2 fn r) ≤ 16 → d < 2 ^ s.fld (Reg.FN.CQ_CFG.SIZE_LOG2 fn r) →
    (s.ring fn r).released + d ≤ (s.ring fn r).written →
    Completes (.cqHeadDoorbell fn (0x800 + 8 * r) 4 (((s.ring fn r).released + d) % 2 ^ s.fld (Reg.FN.CQ_CFG.SIZE_LOG2 fn r))) s fun t =>
      (t.ring fn r).released = (s.ring fn r).released + d ∧ (t.ring fn r).written = (s.ring fn r).written ∧ Frame [.fns] [] s t) ∧
  (∀ s fn off size head, (Instr.cqHeadDoorbell fn off size head).wf → s.serves fn →
    (size ≠ 4 ∨ off < 0x800 ∨ (off - 0x800) % 8 ≠ 0 ∨ queuesOf fn ≤ (off - 0x800) / 8 ∨ s.cqOn fn ((off - 0x800) / 8) = false ∨
      2 ^ s.fld (Reg.FN.CQ_CFG.SIZE_LOG2 fn ((off - 0x800) / 8)) ≤ head % 65536 ∨
      (s.ring fn ((off - 0x800) / 8)).written < (s.ring fn ((off - 0x800) / 8)).released + s.releases fn ((off - 0x800) / 8) (head % 65536)) →
    Completes (.cqHeadDoorbell fn off size head) s fun t =>
      t.fld Reg.STAIDO.DB_BAD.COUNT = min (s.fld Reg.STAIDO.DB_BAD.COUNT + 1) (2 ^ Reg.STAIDO.DB_BAD.COUNT.w - 1) ∧ t.err Reg.STAIDO.ERR.DB_BAD ∧
      Frame [] [] s t) ∧
  (∀ s fn off size head, (Instr.cqHeadDoorbell fn off size head).wf → s.serves fn = false → Completes (.cqHeadDoorbell fn off size head) s fun t => t = s) ∧
  (∀ s fn r x v, (Instr.coalesceTimeout fn r).wf → s.linkUp → (s.ring fn r).countFrom = some x → s.fld (Reg.FN.CQ_COAL.TIME_US fn r) ≠ 0 →
    s.fld (Reg.FN.CQ_COAL.VEC fn r) = v → (s.fld (Reg.FN.SV_MASK.MASK fn (v / 32))).testBit (v % 32) = false →
    Completes (.coalesceTimeout fn r) s fun t =>
      (t.ring fn r).pendingCount = 0 ∧ (t.ring fn r).countFrom = none ∧ x + 1000 * s.fld (Reg.FN.CQ_COAL.TIME_US fn r) ≤ t.mono ∧
      (fn, HostTxn.signal (s.fld (Reg.FN.FN_CFG.SV_BASE fn) + v)) ∈ t.staido.queue ∧ SameFields [] s t ∧ Frame [.fns, .time] [] s t) ∧
  (∀ s fn r x v, (Instr.coalesceTimeout fn r).wf → (s.ring fn r).countFrom = some x → s.fld (Reg.FN.CQ_COAL.TIME_US fn r) ≠ 0 →
    s.fld (Reg.FN.CQ_COAL.VEC fn r) = v → v < 256 → (s.fld (Reg.FN.SV_MASK.MASK fn (v / 32))).testBit (v % 32) → Completes (.coalesceTimeout fn r) s fun t =>
      (t.ring fn r).pendingCount = 0 ∧ (t.ring fn r).countFrom = none ∧ x + 1000 * s.fld (Reg.FN.CQ_COAL.TIME_US fn r) ≤ t.mono ∧
      (t.fld (Reg.FN.SV_PEND.PEND fn (v / 32))).testBit (v % 32) ∧ t.staido = s.staido ∧ SameFields [Reg.FN.SV_PEND.PEND fn (v / 32)] s t ∧
      Frame [.fns, .time] [] s t) ∧
  (∀ s fn r, (Instr.coalesceTimeout fn r).wf → ((s.ring fn r).countFrom = none ∨ s.fld (Reg.FN.CQ_COAL.TIME_US fn r) = 0) →
    Completes (.coalesceTimeout fn r) s fun t => t = s) ∧
  (∀ s fn i w, (Instr.svMaskWrite fn i w).wf → s.serves fn → Completes (.svMaskWrite fn i w) s fun t =>
    t.fld (Reg.FN.SV_MASK.MASK fn i) = w.toNat ∧ t.fld (Reg.FN.SV_PEND.PEND fn i) = s.fld (Reg.FN.SV_PEND.PEND fn i) &&& w.toNat ∧
    (∀ j, j < 32 → (s.fld (Reg.FN.SV_PEND.PEND fn i)).testBit j → w.toNat.testBit j = false →
      (fn, HostTxn.signal (s.fld (Reg.FN.FN_CFG.SV_BASE fn) + 32 * i + j)) ∈ t.staido.queue) ∧
    SameFields [Reg.FN.SV_MASK.MASK fn i, Reg.FN.SV_PEND.PEND fn i] s t ∧ Frame [] [] s t) ∧
  (∀ s fn i w, (Instr.svMaskWrite fn i w).wf → s.serves fn = false → Completes (.svMaskWrite fn i w) s fun t => t = s) ∧
  (∀ s fn, (Instr.inval fn).wf → fn ≠ 256 → Completes (.inval fn) s fun t =>
    (t.fn fn).tt = [] ∧ t.fld (Reg.FN.TT_CTRL.INVAL_BUSY fn) = 1 ∧ (t.fn fn).inval = (s.fn fn).reads.map (fun x => x.tag) ∧
    SameFields [Reg.FN.TT_CTRL.INVAL_BUSY fn] s t ∧ Frame [.fns] [] s t) ∧
  (∀ s, Completes (.inval 256) s fun t => t = s) ∧
  (∀ s fn, (Instr.invalDone fn).wf → (s.fn fn).inval = [] → Completes (.invalDone fn) s fun t =>
    t.fld (Reg.FN.TT_CTRL.INVAL_BUSY fn) = 0 ∧ SameFields [Reg.FN.TT_CTRL.INVAL_BUSY fn] s t ∧ Frame [] [] s t) ∧
  (∀ s fn, (Instr.invalDone fn).wf → (s.fn fn).inval ≠ [] → Completes (.invalDone fn) s fun t => t = s) ∧
  (∀ s who fn, (Instr.functionClear who fn).wf → s.mayReach who (fnPage fn) → s.fld (Reg.FN.FN_STATUS.STATE fn) = 2 →
    ((List.range (queuesOf fn)).all fun q => !s.sqOn fn q) → Completes (.functionClear who fn) s fun t =>
      t.fld (Reg.FN.FN_STATUS.STATE fn) = 1 ∧ SameFields [Reg.FN.FN_STATUS.STATE fn] s t ∧ Frame [] [] s t) ∧
  (∀ s who fn, (Instr.functionClear who fn).wf → s.mayReach who (fnPage fn) → (s.fld (Reg.FN.FN_STATUS.STATE fn) ≠ 2 ∨
    ((List.range (queuesOf fn)).any fun q => s.sqOn fn q)) → Completes (.functionClear who fn) s fun t => t = s) ∧
  (∀ s who fn, DeniesAccess (.functionClear who fn) who (fnPage fn) false s) ∧
  (∀ s fn q w, (Instr.sqEnable fn q w).wf → s.serves fn → q < queuesOf fn → s.sqOn fn q = false → 4 ≤ bitsOf w.toNat 0 4 →
    bitsOf w.toNat 0 4 ≤ 12 → s.fld (Reg.FN.SQ_BASE_LO.BASE fn q) % 4096 = 0 → bitsOf w.toNat 8 6 < queuesOf fn → s.cqOn fn (bitsOf w.toNat 8 6) →
    s.fld (Reg.FN.FN_STATUS.STATE fn) = 1 → Completes (.sqEnable fn q w) s fun t =>
      t.sqOn fn q ∧ t.fld (Reg.FN.SQ_CFG.SIZE_LOG2 fn q) = bitsOf w.toNat 0 4 ∧ t.fld (Reg.FN.SQ_CFG.RING fn q) = bitsOf w.toNat 8 6 ∧
      t.fld (Reg.FN.SQ_HEAD.HEAD fn q) = 0 ∧ (t.queue fn q).tail = 0 ∧ (t.queue fn q).halted = false ∧ t.fld (refusalReason (fnPage fn)) = 0 ∧
      SameFields [Reg.FN.SQ_CFG.SIZE_LOG2 fn q, Reg.FN.SQ_CFG.RING fn q, Reg.FN.SQ_CFG.ENABLE fn q, Reg.FN.SQ_HEAD.HEAD fn q,
        Reg.FN.FN_STATUS.QHALT fn, refusalReason (fnPage fn), refusalOffset (fnPage fn)] s t ∧ Frame [.fns] [] s t) ∧
  (∀ s fn q w size off ring, (Instr.sqEnable fn q w).wf → s.serves fn → q < queuesOf fn → s.sqOn fn q = false →
    (Nat.blt (bitsOf w.toNat 0 4) 4 || Nat.blt 12 (bitsOf w.toNat 0 4)) = size →
    !Nat.beq (s.fld (Reg.FN.SQ_BASE_LO.BASE fn q) % 4096) 0 = off →
    (Nat.ble (queuesOf fn) (bitsOf w.toNat 8 6) || !s.cqOn fn (bitsOf w.toNat 8 6)) = ring →
    (size ∨ off ∨ ring ∨ s.fld (Reg.FN.FN_STATUS.STATE fn) ≠ 1) → Completes (.sqEnable fn q w) s fun t =>
      (size → Refused t (fnPage fn) 0x01D0) ∧ (size = false → off → Refused t (fnPage fn) 0x01D1) ∧ (size = false → off = false → ring → Refused t (fnPage fn) 0x02D0) ∧
      (size = false → off = false → ring = false → Refused t (fnPage fn) (if s.fld (Reg.FN.FN_STATUS.STATE fn) = 0 then 0x03D0 else 0x04D0)) ∧
      t.sqOn fn q = false ∧ Frame [] [fnPage fn] s t) ∧
  (∀ s fn q w, (Instr.sqEnable fn q w).wf → (s.serves fn = false ∨ queuesOf fn ≤ q ∨ s.sqOn fn q) → Completes (.sqEnable fn q w) s fun t => t = s) ∧
  (∀ s fn q w, (Instr.sqDisable fn q w).wf → s.serves fn → q < queuesOf fn → w.toNat.testBit 16 = false → s.sqOn fn q →
    Completes (.sqDisable fn q w) s fun t =>
      t.sqOn fn q = false ∧ (t.queue fn q).halted = false ∧ (t.queue fn q).reading = false ∧ (t.queue fn q).cmds = (s.queue fn q).cmds ∧
      SameFields [Reg.FN.SQ_CFG.ENABLE fn q, Reg.FN.FN_STATUS.QHALT fn] s t ∧ Frame [.fns] [] s t) ∧
  (∀ s fn q w, (Instr.sqDisable fn q w).wf → s.serves fn → q < queuesOf fn → w.toNat.testBit 16 = false → s.sqOn fn q = false →
    Completes (.sqDisable fn q w) s fun t => t.fld (Reg.FN.SQ_CFG.SIZE_LOG2 fn q) = bitsOf w.toNat 0 4 ∧
      t.fld (Reg.FN.SQ_CFG.RING fn q) = bitsOf w.toNat 8 6 ∧ SameFields [Reg.FN.SQ_CFG.SIZE_LOG2 fn q, Reg.FN.SQ_CFG.RING fn q] s t ∧ SameBut [.regs] s t) ∧
  (∀ s fn q w, (Instr.sqDisable fn q w).wf → (s.serves fn = false ∨ queuesOf fn ≤ q ∨ w.toNat.testBit 16) →
    Completes (.sqDisable fn q w) s fun t => t = s) ∧
  (∀ s fn r w, (Instr.cqEnable fn r w).wf → s.serves fn → r < queuesOf fn → s.cqOn fn r = false → 4 ≤ bitsOf w.toNat 0 5 →
    bitsOf w.toNat 0 5 ≤ 16 → s.fld (Reg.FN.CQ_COAL.COUNT fn r) ≠ 0 → s.fld (Reg.FN.CQ_COAL.VEC fn r) < s.fld (Reg.FN.FN_CFG.SV_COUNT fn) →
    s.fld (Reg.FN.CQ_BASE_LO.BASE fn r) % 4096 = 0 →
    (fn = 257 → 65536 ≤ s.fld (Reg.FN.RBODY_LEN.LEN fn r) ∧ s.fld (Reg.FN.RBODY_BASE_LO.BASE fn r) % 64 = 0) →
    s.fld (Reg.FN.FN_STATUS.STATE fn) = 1 → Completes (.cqEnable fn r w) s fun t =>
      t.cqOn fn r ∧ t.fld (Reg.FN.CQ_CFG.SIZE_LOG2 fn r) = bitsOf w.toNat 0 5 ∧ t.fld (Reg.FN.CQ_CFG.COAL_EN fn r) = bitsOf w.toNat 17 1 ∧
      (t.ring fn r).written = 0 ∧ (t.ring fn r).released = 0 ∧ t.fld (refusalReason (fnPage fn)) = 0 ∧
      SameFields [Reg.FN.CQ_CFG.SIZE_LOG2 fn r, Reg.FN.CQ_CFG.COAL_EN fn r, Reg.FN.CQ_CFG.ENABLE fn r, refusalReason (fnPage fn),
        refusalOffset (fnPage fn)] s t ∧ Frame [.fns] [] s t) ∧
  (∀ s fn r w value off, (Instr.cqEnable fn r w).wf → s.serves fn → r < queuesOf fn → s.cqOn fn r = false →
    (Nat.blt (bitsOf w.toNat 0 5) 4 || Nat.blt 16 (bitsOf w.toNat 0 5) || Nat.beq (s.fld (Reg.FN.CQ_COAL.COUNT fn r)) 0 ||
      Nat.ble (s.fld (Reg.FN.FN_CFG.SV_COUNT fn)) (s.fld (Reg.FN.CQ_COAL.VEC fn r)) ||
      (Nat.beq fn 257 && Nat.blt (s.fld (Reg.FN.RBODY_LEN.LEN fn r)) 65536)) = value →
    (!Nat.beq (s.fld (Reg.FN.CQ_BASE_LO.BASE fn r) % 4096) 0 || (Nat.beq fn 257 && !Nat.beq (s.fld (Reg.FN.RBODY_BASE_LO.BASE fn r) % 64) 0)) = off →
    (value ∨ off ∨ s.fld (Reg.FN.FN_STATUS.STATE fn) ≠ 1) → Completes (.cqEnable fn r w) s fun t =>
      (value → Refused t (fnPage fn) 0x01D0) ∧ (value = false → off → Refused t (fnPage fn) 0x01D1) ∧
      (value = false → off = false → Refused t (fnPage fn) (if s.fld (Reg.FN.FN_STATUS.STATE fn) = 0 then 0x03D0 else 0x04D0)) ∧
      t.cqOn fn r = false ∧ Frame [] [fnPage fn] s t) ∧
  (∀ s fn r w, (Instr.cqEnable fn r w).wf → (s.serves fn = false ∨ queuesOf fn ≤ r ∨ s.cqOn fn r) → Completes (.cqEnable fn r w) s fun t => t = s) ∧
  (∀ s fn r w, (Instr.cqDisable fn r w).wf → s.serves fn → r < queuesOf fn → w.toNat.testBit 16 = false → s.cqOn fn r →
    ((List.range (queuesOf fn)).all fun q => !s.sqOn fn q || !Nat.beq (s.fld (Reg.FN.SQ_CFG.RING fn q)) r) → Completes (.cqDisable fn r w) s fun t =>
      t.cqOn fn r = false ∧ SameFields [Reg.FN.CQ_CFG.ENABLE fn r] s t ∧ Frame [] [] s t) ∧
  (∀ s fn r q w, (Instr.cqDisable fn r w).wf → s.serves fn → r < queuesOf fn → w.toNat.testBit 16 = false → s.cqOn fn r → q < queuesOf fn →
    s.sqOn fn q → s.fld (Reg.FN.SQ_CFG.RING fn q) = r → Completes (.cqDisable fn r w) s fun t =>
      Refused t (fnPage fn) 0x04D0 ∧ t.cqOn fn r ∧ Frame [] [] s t) ∧
  (∀ s fn r w, (Instr.cqDisable fn r w).wf → s.serves fn → r < queuesOf fn → w.toNat.testBit 16 = false → s.cqOn fn r = false →
    Completes (.cqDisable fn r w) s fun t => t.fld (Reg.FN.CQ_CFG.SIZE_LOG2 fn r) = bitsOf w.toNat 0 5 ∧
      t.fld (Reg.FN.CQ_CFG.COAL_EN fn r) = bitsOf w.toNat 17 1 ∧ SameFields [Reg.FN.CQ_CFG.SIZE_LOG2 fn r, Reg.FN.CQ_CFG.COAL_EN fn r] s t ∧
      SameBut [.regs] s t) ∧
  (∀ s fn r w, (Instr.cqDisable fn r w).wf → (s.serves fn = false ∨ queuesOf fn ≤ r ∨ w.toNat.testBit 16) →
    Completes (.cqDisable fn r w) s fun t => t = s)

/-- R404–R407: a detach runs out and every function shows DETACHED with its queues gone and the tenants fenced; a removal does so at once, and the
requests of copies and operations with a host-window end come back in error; attaching trains the lanes and makes bound functions READY again. Each
does nothing where the link does not stand where it begins. -/
def Obligations.detach_removal_and_attach : Prop :=
  (∀ s, (s.fld Reg.STAIDO.STATE.STATE = 2 ∨ s.fld Reg.STAIDO.STATE.STATE = 3) → Completes .detach s fun t =>
    t.fld Reg.STAIDO.STATE.STATE = 4 ∧ SameFields [Reg.STAIDO.STATE.STATE] s t ∧ Frame [] [] s t) ∧
  (∀ s, s.fld Reg.STAIDO.STATE.STATE ≠ 2 → s.fld Reg.STAIDO.STATE.STATE ≠ 3 → Completes .detach s fun t =>
    Refused t 0x240 0x04D1 ∧ t.fld Reg.STAIDO.STATE.STATE = s.fld Reg.STAIDO.STATE.STATE ∧ Frame [] [] s t) ∧
  (∀ s, s.fld Reg.STAIDO.STATE.STATE = 4 → Completes .detachTimeout s fun t =>
    t.fld Reg.STAIDO.STATE.STATE = 0 ∧ t.fld Reg.STAIDO.LANES.UP = 0 ∧ t.fld Reg.STAIDO.RATE.GBPS = 0 ∧ t.fns = [] ∧ t.waits = [] ∧
    t.staido.queue = [] ∧ t.staido.owed ∧
    (∀ f, f < 258 → s.fld (Reg.FN.FN_STATUS.STATE f) ≠ 0 → t.fld (Reg.FN.FN_STATUS.STATE f) = 3) ∧
    (∀ c, c < 64 → 2 ≤ c → s.cocoonState c = 1 → t.cocoonState c = 2) ∧
    (s.absorbable → Frame [.fns, .runs, .waits] (0x011 :: cocoonPages) s t)) ∧
  (∀ s, s.fld Reg.STAIDO.STATE.STATE ≠ 4 → Completes .detachTimeout s fun t => t = s) ∧
  (∀ s, s.fld Reg.STAIDO.LANES.UP = 0 → s.linkUp → Completes .noLockTimeout s fun t =>
    t.fld Reg.STAIDO.STATE.STATE = 0 ∧ t.err Reg.STAIDO.ERR.REMOVED ∧ t.staido.queue = [] ∧ t.staido.owed ∧ t.fns = [] ∧
    (∀ f, f < 258 → s.fld (Reg.FN.FN_STATUS.STATE f) ≠ 0 → t.fld (Reg.FN.FN_STATUS.STATE f) = 3) ∧
    (∀ c, c < 64 → 2 ≤ c → s.cocoonState c = 1 → t.cocoonState c = 2) ∧
    (s.absorbable → Frame [.fns, .runs, .waits, .boot] (0x001 :: 0x011 :: cocoonPages) s t)) ∧
  (∀ s, (s.fld Reg.STAIDO.LANES.UP ≠ 0 ∨ s.linkUp = false) → Completes .noLockTimeout s fun t => t = s) ∧
  (∀ s, s.linkUp → Completes .presentDeassert s fun t =>
    t.staido.present = false ∧ t.fld Reg.STAIDO.STATE.STATE = 0 ∧ t.fld Reg.STAIDO.LANES.UP = 0 ∧ t.staido.queue = [] ∧ t.staido.owed ∧ t.fns = [] ∧
    t.err Reg.STAIDO.ERR.REMOVED ∧ (∀ f, f < 258 → s.fld (Reg.FN.FN_STATUS.STATE f) ≠ 0 → t.fld (Reg.FN.FN_STATUS.STATE f) = 3) ∧
    (∀ c, c < 64 → 2 ≤ c → s.cocoonState c = 1 → t.cocoonState c = 2) ∧
    (s.fld Reg.BOOT.STATE.INSTAR = 1 → t.fld Reg.BOOT.STATE.INSTAR = 0 ∧ t.fld Reg.BOOT.STATE.FAIL = 2) ∧
    (s.absorbable → Frame [.fns, .runs, .waits, .boot] (0x001 :: 0x011 :: cocoonPages) s t)) ∧
  (∀ s, s.linkUp = false → Completes .presentDeassert s fun t => t = { s with staido := { s.staido with present := false } }) ∧
  (∀ s, s.staido.owed → s.hostRemotes = [] → Completes .removalErrorTimeout s fun t =>
    t.staido.owed = false ∧ (∀ f ∈ t.fns, f.2.reads = [] ∧ f.2.inval = []) ∧ (∀ n ∈ t.cores, ∀ c ∈ n.2.copies, c.onHost = false) ∧ SameFields [] s t ∧
    Frame [.fns, .cores] [] s t) ∧
  (∀ s core x, s.staido.owed → s.hostRemotes = [(core, x)] → Completes .removalErrorTimeout s fun t =>
    t.staido.owed = false ∧ (∀ f ∈ t.fns, f.2.reads = []) ∧ EndedInError core x 5 s t ∧ (t.core core).faulted = (s.core core).faulted) ∧
  (∀ s, s.staido.owed = false → Completes .removalErrorTimeout s fun t => t = s) ∧
  (∀ s, s.fld Reg.STAIDO.STATE.STATE ≤ 1 → 1 ≤ s.fld Reg.BOOT.STATE.INSTAR → Completes .attach s fun t =>
    t.fld Reg.STAIDO.STATE.STATE = 2 ∧ t.fld Reg.STAIDO.LANES.UP = 15 ∧ t.fld Reg.STAIDO.RATE.GBPS = 1600 ∧ t.staido.present ∧ t.staido.owed = false ∧
    t.fld Reg.STAIDO.ATTACH_COUNT.COUNT = min (s.fld Reg.STAIDO.ATTACH_COUNT.COUNT + 1) (2 ^ Reg.STAIDO.ATTACH_COUNT.COUNT.w - 1) ∧
    (∀ f, f < 258 → s.fld (Reg.FN.FN_STATUS.STATE f) = 3 → t.fld (Reg.FN.FN_STATUS.STATE f) = 1) ∧
    (s.staido.owed = false → Frame [] [] s t) ∧ (s.hostRemotes = [] → Frame [.fns, .cores] [] s t)) ∧
  (∀ s, (2 ≤ s.fld Reg.STAIDO.STATE.STATE ∨ s.fld Reg.BOOT.STATE.INSTAR = 0) → Completes .attach s fun t => t = s)

/-- R439, R442, R455, R457, R464, R507: reset and the rails put the device at instar 0 with everything but the fuses at its reset value, a warm black-box
region kept; the lanes train, and LOAD reads the bundle piece by piece; with its last piece instar 1 begins, and a piece in error ends the load with
FAIL 0x02. Each does nothing where start-up does not stand where it begins. -/
def Obligations.resets_rails_and_bundle_load : Prop :=
  (∀ s, s.boot.powered → Completes .coldReset s fun t =>
    t.boot.powered ∧ Restarted s t ∧ t.thermTrip = s.thermTrip ∧
    (∀ base a, s.sound → s.bbox.region = some base → base + 0x800000 ≤ 0x004000000000 → base ≤ a → a < base + 0x800000 →
      t.mem.readByte a = s.mem.readByte a)) ∧
  (∀ s, s.boot.powered = false → Completes .coldReset s fun t => t = s) ∧
  (∀ s inOrder, s.boot.railsOn = 0 → Completes (.railPowerOn inOrder) s fun t =>
    t.boot.railsOn = 5 ∧ (inOrder → t.boot.powered) ∧ Restarted s t ∧ t.bbox.region = none) ∧
  (∀ s inOrder, s.boot.railsOn ≠ 0 → Completes (.railPowerOn inOrder) s fun t => t = s) ∧
  (∀ s, Completes .railPowerOff s fun t =>
    t.boot.railsOn = 0 ∧ t.boot.powered = false ∧ t.thermTrip = false ∧ Restarted s t ∧ t.bbox.region = none) ∧
  (∀ s, s.inInstar 0 → s.staido.present → s.fld Reg.STAIDO.STATE.STATE ≤ 1 → Completes .bootLanesTrained s fun t =>
    t.boot.lanesTrained ∧ t.fld Reg.STAIDO.STATE.STATE = 2 ∧ t.fld Reg.STAIDO.LANES.UP = 15 ∧ t.fld Reg.STAIDO.RATE.GBPS = 1600 ∧
    t.staido.owed = false ∧ (s.staido.owed = false → Frame [.boot] [] s t) ∧ (s.hostRemotes = [] → Frame [.boot, .fns, .cores] [] s t)) ∧
  (∀ s, (s.inInstar 0 = false ∨ s.staido.present = false ∨ 2 ≤ s.fld Reg.STAIDO.STATE.STATE) → Completes .bootLanesTrained s fun t => t = s) ∧
  (∀ s, s.inInstar 0 → s.linkUp → s.boot.loading = none → s.fld Reg.BOOT.BUNDLE_LEN.BYTES ≠ 0 → Completes .bundleLoad s fun t =>
    t.boot.loading = some [] ∧ (t.fn 256).reads.map (fun x => (x.addr, x.len)) = (s.fn 256).reads.map (fun x => (x.addr, x.len)) ++
      hostPieces (s.fld2 Reg.BOOT.BUNDLE_LO.ADDR Reg.BOOT.BUNDLE_HI.ADDR) (min bootBytes (s.fld Reg.BOOT.BUNDLE_LEN.BYTES)) ∧
    SameFields [] s t ∧ Frame [.boot, .fns] [] s t) ∧
  (∀ s, s.inInstar 0 → s.linkUp → s.boot.loading = none → s.fld Reg.BOOT.BUNDLE_LEN.BYTES ≠ 0 → (s.fn 256).reads = [] →
    s.fld Reg.BOOT.BUNDLE_LEN.BYTES ≤ 4096 → s.fld2 Reg.BOOT.BUNDLE_LO.ADDR Reg.BOOT.BUNDLE_HI.ADDR % 4096 = 0 →
    Completes .bundleLoad s fun t =>
      t.boot.loading = some [] ∧ (256, HostTxn.memRd (s.fn 256).nextTag (s.fld2 Reg.BOOT.BUNDLE_LO.ADDR Reg.BOOT.BUNDLE_HI.ADDR)
        (s.fld Reg.BOOT.BUNDLE_LEN.BYTES)) ∈ t.staido.queue ∧ SameFields [] s t ∧ Frame [.boot, .fns] [] s t) ∧
  (∀ s, s.inInstar 0 → s.linkUp → s.boot.loading = none → s.fld Reg.BOOT.BUNDLE_LEN.BYTES = 0 → Completes .bundleLoad s fun t =>
    t.boot.bundle = [] ∧ t.fld Reg.BOOT.STATE.INSTAR = 1 ∧ SameFields [Reg.BOOT.STATE.INSTAR] s t ∧ Frame [.boot] [0x001] s t) ∧
  (∀ s, (s.inInstar 0 = false ∨ s.linkUp = false ∨ s.boot.loading.isSome) → Completes .bundleLoad s fun t => t = s) ∧
  (∀ s tag a len b l off, (Instr.memRdCompletion 256 tag (.data b)).wf → s.linkUp → s.boot.loading = some l →
    (s.fn 256).reads = [⟨tag, a, len, .bundle off⟩] → Completes (.memRdCompletion 256 tag (.data b)) s fun t =>
      t.boot.loading = none ∧ t.boot.bundle = placeAt l off (slice b 0 len) ∧ t.fld Reg.BOOT.STATE.INSTAR = 1 ∧
      SameFields [Reg.BOOT.STATE.INSTAR] s t ∧ Frame [.boot, .fns] [0x001] s t) ∧
  (∀ s tag a len b l off y, (Instr.memRdCompletion 256 tag (.data b)).wf → s.linkUp → s.boot.loading = some l →
    (s.fn 256).reads = [⟨tag, a, len, .bundle off⟩, y] → y.tag ≠ tag → y.why.ofBundle → Completes (.memRdCompletion 256 tag (.data b)) s fun t =>
      t.boot.loading = some (placeAt l off (slice b 0 len)) ∧ (t.fn 256).reads = [y] ∧ SameFields [] s t ∧ Frame [.boot, .fns] [] s t) ∧
  (∀ s tag a len l off rest, (Instr.memRdCompletion 256 tag .error).wf → s.linkUp → s.boot.loading = some l →
    (s.fn 256).reads = ⟨tag, a, len, .bundle off⟩ :: rest → Completes (.memRdCompletion 256 tag .error) s fun t =>
      t.boot.loading = none ∧ t.fld Reg.BOOT.STATE.FAIL = 0x02 ∧ t.fld Reg.BOOT.STATE.INSTAR = s.fld Reg.BOOT.STATE.INSTAR ∧
      ((t.fn 256).reads.all fun x => !x.why.ofBundle) ∧ SameFields [Reg.BOOT.STATE.FAIL] s t ∧ Frame [.boot, .fns] [0x001] s t)

/-- R444, R445: the checks of instar 1 in their order: the first that fails gives its code and instar 0 again; a bundle that passes all leads to
instar 2. Outside instar 1 nothing is checked. -/
def Obligations.bundle_verification : Prop :=
  (∀ s, s.inInstar 1 → Completes .bundleVerification s fun t =>
    (let b := s.boot.bundle
     let f := s.boot.fuses
     let sig := fieldAt b 0x14 4
     let second := fieldAt b 6 1 = 1
     let failed (code : Nat) : Prop := t.fld Reg.BOOT.STATE.FAIL = code ∧ t.fld Reg.BOOT.STATE.INSTAR = 0 ∧
       t.fld Reg.BOOT.ATTEMPTS.COUNT = (s.fld Reg.BOOT.ATTEMPTS.COUNT + 1) % 2 ^ Reg.BOOT.ATTEMPTS.COUNT.w ∧ t.boot = s.boot
     if bundleFormed b (s.fld Reg.BOOT.BUNDLE_LEN.BYTES) = false then failed 0x01
     else if (second ∧ f.revoked1) ∨ (¬ second ∧ f.revoked0) then failed 0x03
     else if Config.sha384 (slice b sig 32) ≠ (if second then f.edHash1 else f.edHash0) ∨
         Config.sha384 (slice b (sig + 32) 1952) ≠ (if second then f.mldsaHash1 else f.mldsaHash0) then failed 0x04
     else if Config.ed25519Verify (slice b sig 32) (slice b 0 sig) (slice b (sig + 1984) 64) = false then failed 0x05
     else if Config.mldsaVerify (slice b (sig + 32) 1952) (slice b 0 sig) (slice b (sig + 2048) 3309) = false then failed 0x06
     else if fieldAt b 0x0C 1 < f.svn then failed 0x07
     else t.fld Reg.BOOT.STATE.INSTAR = 2 ∧ (t.boot.hdr.any fun h => Nat.beq h.svn (fieldAt b 0x0C 1) && Nat.beq h.version (fieldAt b 8 4)) ∧
       (t.boot.fuses.revoked0 = (f.revoked0 || ((fieldAt b 7 1).testBit 1 && fieldAt b 6 1 == 1)))) ∧
    Frame [.boot] [0x001, 0x003] s t) ∧
  (∀ s, s.inInstar 1 = false → Completes .bundleVerification s fun t => t = s)

/-- R439, R441, R446, R450, R451: instar 2 builds the map, a failed position giving way to a spare, the faulty cells of an array to a spare line; every
defect found is recorded beside those of the fuses; memory trains or start-up halts; the device emerges with cocoons 0 and 1 enabled, or halts.
Outside its instar each does nothing. -/
def Obligations.bring_up_and_emergence : Prop :=
  (∀ s, s.inInstar 2 → s.fused = [] → Completes (.dieBringUpDone .ok []) s fun t =>
    t.fld Reg.BOOT.STATE.INSTAR = 3 ∧ t.boot.defects = [] ∧ (∀ d, d < 32 → (List.range 64).all fun j => t.position d j == some j) ∧
    t.fld Reg.BOOT.EXPOSED.CORES = 2048 ∧ (∀ d, d < 32 → t.isSet (Reg.DIE.CLK_STATUS.CORE_LOCK d) ∧ t.isSet (Reg.DIE.CLK_STATUS.MESH_LOCK d))) ∧
  (∀ s d p, (Instr.dieBringUpDone .ok [.position d p]).wf → p < 64 → s.inInstar 2 → s.fused = [] →
    Completes (.dieBringUpDone .ok [.position d p]) s fun t =>
      t.fld Reg.BOOT.STATE.INSTAR = 3 ∧ t.position d p = some 64 ∧ t.err Reg.BOOT.ERR.NEW_DEFECT ∧ Defect.position d p ∈ t.boot.defects ∧
      t.isSet (Reg.CLUSTER.CORE.SPARE (8 * d + p / 8) (p % 8)) ∧ t.fld (Reg.DIE.DIE_INFO.SPARES_FREE d) = 1) ∧
  (∀ s d p r c, (Instr.dieBringUpDone .ok [.arrayCell d p r c]).wf → p < 64 → s.inInstar 2 → s.fused = [] →
    Completes (.dieBringUpDone .ok [.arrayCell d p r c]) s fun t =>
      t.fld Reg.BOOT.STATE.INSTAR = 3 ∧ t.boot.defects = [.arrayCol d p c 0] ∧ t.position d p = some p ∧
      t.isSet (Reg.CLUSTER.ARRAY.SCOL0_ON (8 * d + p / 8) (p % 8)) ∧ t.fld (Reg.CLUSTER.ARRAY.SCOL0_FOR (8 * d + p / 8) (p % 8)) = c) ∧
  (∀ s found, (Instr.dieBringUpDone .ok found).wf → s.inInstar 2 → Completes (.dieBringUpDone .ok found) s fun t =>
    t.fld Reg.BOOT.STATE.INSTAR = 3 ∧ (∀ x ∈ s.fused, x ∈ t.boot.defects) ∧
    (∀ x ∈ found, Defect.plain x → x ∈ t.boot.defects ∧ (x ∉ s.fused → t.err Reg.BOOT.ERR.NEW_DEFECT)) ∧
    (∀ d, d < 32 → t.isSet (Reg.DIE.CLK_STATUS.CORE_LOCK d) ∧ t.isSet (Reg.DIE.CLK_STATUS.MESH_LOCK d) ∧ t.fld (Reg.DIE.DIE_INFO.DIE d) = d) ∧
    Frame [.boot, .silk] (0x001 :: 0x003 :: 0x081 :: (List.range 64).map (fun l => 0x0C0 + l) ++ diePages ++ clusterPages) s t) ∧
  (∀ s r found, (Instr.dieBringUpDone r found).wf → s.inInstar 2 → r ≠ .ok → Completes (.dieBringUpDone r found) s fun t =>
    t.isSet Reg.BOOT.STATE.HALTED ∧ (r = .edgeFailed → t.fld Reg.BOOT.STATE.FAIL = 0x10) ∧ (r = .clockUnlocked → t.fld Reg.BOOT.STATE.FAIL = 0x11) ∧
    (r = .kdieFailed → t.fld Reg.BOOT.STATE.FAIL = 0x12) ∧ SameFields [Reg.BOOT.STATE.HALTED, Reg.BOOT.STATE.FAIL] s t ∧ Frame [] [0x001] s t) ∧
  (∀ s r found, (Instr.dieBringUpDone r found).wf → s.inInstar 2 = false → Completes (.dieBringUpDone r found) s fun t => t = s) ∧
  (∀ s m, (Instr.memoryTrainingDone m).wf → s.inInstar 3 → Completes (.memoryTrainingDone m) s fun t =>
    t.gddr.clamshell = m.clamshell ∧ t.gddr.density = m.density ∧
    (if (s.memoryConfigured m).checkMem = none ∧ (s.memoryConfigured m).memGroups ≠ [] then
      t.fld Reg.BOOT.STATE.INSTAR = 4 ∧ t.isSet (ctrlEnable 0x0A0) ∧ t.fld Reg.MEM.USABLE.UNITS = (s.memoryConfigured m).usable / 65536 % 2 ^ Reg.MEM.USABLE.UNITS.w ∧
      (∀ l, l < 64 → t.isSet (Reg.SILK_LINK.CFG.EN l) → t.linkState l = 1 ∨ t.linkState l = 5)
    else t.isSet Reg.BOOT.STATE.HALTED ∧ t.fld Reg.BOOT.STATE.FAIL = 0x20)) ∧
  (∀ s m, (Instr.memoryTrainingDone m).wf → s.inInstar 3 = false → Completes (.memoryTrainingDone m) s fun t => t = s) ∧
  (∀ s, s.inInstar 4 → Completes .emerge s fun t => t.fld Reg.BOOT.STATE.INSTAR = 5 ∧ (∀ l, l < 64 → t.linkState l = if s.linkState l = 1 then 0 else s.linkState l)) ∧
  (∀ s, s.inInstar 4 → s.isSet (ctrlEnable 0x100) = false → s.isSet (ctrlEnable 0x101) = false → Completes .emerge s fun t =>
    (t.isSet (ctrlEnable 0x100) ∧ t.isSet (ctrlEnable 0x101) ∧ t.isSet Reg.BOOT.STATE.HALTED = false ∧
        t.fld (Reg.FN.FN_STATUS.STATE 256) = (if s.linkUp then 1 else 3) ∧ t.fld (Reg.FN.FN_STATUS.COCOON 256) = 1 ∧
        t.fld (Reg.FN.FN_STATUS.COCOON 257) = 0 ∧ (∀ h, s.boot.hdr = some h → t.fld Reg.BOOT.VERSION.VERSION = h.version % 2 ^ Reg.BOOT.VERSION.VERSION.w) ∨
      (t.isSet (ctrlEnable 0x100) = false ∨ t.isSet (ctrlEnable 0x101) = false) ∧ t.isSet Reg.BOOT.STATE.HALTED ∧ t.fld Reg.BOOT.STATE.FAIL = 0x21)) ∧
  (∀ s, s.inInstar 4 = false → Completes .emerge s fun t => t = s)

/-- R135, R453, R455–R457: a retest or reset starts, unless refused with the first condition that fails, and page RESET is BUSY until it is done; a core
that fails its retest gives way to a spare, faulty cells to spare lines where a cover is left; a core or spare that passes comes back; a core reset
clears the core; a device reset is a fatal error of cause 6. -/
def Obligations.retests_and_resets : Prop :=
  (∀ s n d p, s.fld Reg.RESET.RETEST.CORE = n → s.retestTarget n = some (d, p) → (n < 2048 → s.tablesHold n = false) → s.isSet Reg.RESET.STATUS.BUSY = false →
    ((2048 ≤ n ∨ s.coreDisabled n) → s.fused.contains (Defect.position d p) = false) → Completes .retest s fun t =>
      t.boot.job = some (.retest n) ∧ t.isSet Reg.RESET.STATUS.BUSY ∧ SameFields [Reg.RESET.STATUS.BUSY] s t ∧ Frame [.boot] [0x002] s t) ∧
  (∀ s n, s.fld Reg.RESET.RETEST.CORE = n → (s.retestTarget n = none ∨ (n < 2048 ∧ s.tablesHold n) ∨ s.isSet Reg.RESET.STATUS.BUSY ∨
    ((2048 ≤ n ∨ s.coreDisabled n) ∧ (s.retestTarget n).any fun x => s.fused.contains (Defect.position x.1 x.2))) → Completes .retest s fun t =>
      Refused t 0x002 (if s.retestTarget n = none then 0x01F0 else if n < 2048 ∧ s.tablesHold n then 0x04F0
        else if s.isSet Reg.RESET.STATUS.BUSY then 0x04F3 else 0x08F0) ∧ Frame [] [0x002] s t) ∧
  (∀ s n, s.boot.job = some (.retest n) → n < 2048 → s.coreDisabled n = false → Completes (.retestDone true []) s fun t =>
    t.boot.job = none ∧ t.isSet Reg.RESET.STATUS.BUSY = false ∧ t.isSet Reg.RESET.STATUS.RETEST_FAIL = false ∧ n ∉ t.boot.lost ∧
    SameFields [Reg.RESET.STATUS.BUSY, Reg.RESET.STATUS.RETEST_FAIL] s t ∧ Frame [.boot] [0x002] s t) ∧
  (∀ s n d p cells fix, (Instr.retestDone true cells).wf → s.boot.job = some (.retest n) → s.retestTarget n = some (d, p) →
    s.arrayRepairs d p cells = some fix → (2048 ≤ n ∨ s.coreDisabled n ∨ fix ≠ []) → d < 32 → Completes (.retestDone true cells) s fun t =>
      t.boot.job = none ∧ t.isSet Reg.RESET.STATUS.BUSY = false ∧ t.isSet Reg.RESET.STATUS.RETEST_FAIL = false ∧
      (∀ x ∈ fix, x ∈ t.boot.defects) ∧ (fix ≠ [] → t.err Reg.BOOT.ERR.NEW_DEFECT) ∧
      (2048 ≤ n ∨ s.coreDisabled n → Defect.position d p ∉ t.boot.defects) ∧
      (n < 2048 → n ∉ t.boot.lost ∧ (s.coreDisabled n → t.coreDisabled n = false ∧ t.position d (n % 64) = some (n % 64))) ∧
      (n < 2048 ∨ fix ≠ [] → t.fld (Reg.DIE.DIE_INFO.MAP_GEN d) = (s.fld (Reg.DIE.DIE_INFO.MAP_GEN d) + 1) % 2 ^ (Reg.DIE.DIE_INFO.MAP_GEN d).w) ∧
      Frame [.boot] (0x001 :: 0x002 :: 0x003 :: diePages ++ clusterPages) s t) ∧
  (∀ s n cells pass, (Instr.retestDone pass cells).wf → s.boot.job = some (.retest n) → n < 2048 → s.coreDisabled n = false → s.boot.defects = [] →
    s.fld (physFld (n / 64) (n % 64)) < 64 → s.sparesUsed (n / 64) = [] → (pass = false ∨ coverOf cells 2 2 = none) →
    Completes (.retestDone pass cells) s fun t =>
      t.boot.job = none ∧ t.isSet Reg.RESET.STATUS.BUSY = false ∧ t.isSet Reg.RESET.STATUS.RETEST_FAIL ∧
      t.boot.defects = [.position (n / 64) (s.fld (physFld (n / 64) (n % 64)))] ∧ t.position (n / 64) (n % 64) = some 64 ∧
      t.err Reg.BOOT.ERR.NEW_DEFECT ∧
      t.fld (Reg.DIE.DIE_INFO.MAP_GEN (n / 64)) =
        (s.fld (Reg.DIE.DIE_INFO.MAP_GEN (n / 64)) + 1) % 2 ^ (Reg.DIE.DIE_INFO.MAP_GEN (n / 64)).w ∧
      Frame [.boot] (0x001 :: 0x002 :: 0x003 :: diePages ++ clusterPages) s t) ∧
  (∀ s n d p cells pass, (Instr.retestDone pass cells).wf → s.boot.job = some (.retest n) → s.retestTarget n = some (d, p) →
    (pass = false ∨ s.arrayRepairs d p cells = none) → Completes (.retestDone pass cells) s fun t =>
      t.boot.job = none ∧ t.isSet Reg.RESET.STATUS.BUSY = false ∧ t.isSet Reg.RESET.STATUS.RETEST_FAIL ∧ Defect.position d p ∈ t.boot.defects ∧
      t.err Reg.BOOT.ERR.NEW_DEFECT ∧ (n < 2048 → s.coreDisabled n → t.coreDisabled n) ∧
      Frame [.boot] (0x001 :: 0x002 :: 0x003 :: diePages ++ clusterPages) s t) ∧
  (∀ s n pass cells, (Instr.retestDone pass cells).wf → s.boot.job = some (.retest n) → s.retestTarget n = none → Completes (.retestDone pass cells) s fun t =>
    t.boot.job = none ∧ t.isSet Reg.RESET.STATUS.BUSY = false ∧ SameFields [Reg.RESET.STATUS.BUSY] s t ∧ Frame [.boot] [0x002] s t) ∧
  (∀ s pass cells, (Instr.retestDone pass cells).wf → (s.boot.job.all fun j => match j with | .retest _ => false | _ => true) →
    Completes (.retestDone pass cells) s fun t => t = s) ∧
  (∀ s, s.fld Reg.RESET.TARGET.INDEX < 2048 → s.isSet Reg.RESET.STATUS.BUSY = false → Completes .resetActionCore s fun t =>
    t.boot.job = some (.core (s.fld Reg.RESET.TARGET.INDEX)) ∧ t.isSet Reg.RESET.STATUS.BUSY ∧
    (t.core (s.fld Reg.RESET.TARGET.INDEX)).copies = [] ∧ (t.core (s.fld Reg.RESET.TARGET.INDEX)).remotes = [] ∧
    (∀ p ∈ t.posts, p.src ≠ s.fld Reg.RESET.TARGET.INDEX ∧ p.dst ≠ s.fld Reg.RESET.TARGET.INDEX) ∧
    SameCores [s.fld Reg.RESET.TARGET.INDEX] s t ∧ SameFields [Reg.RESET.STATUS.BUSY] s t ∧ Frame [.boot, .cores, .posts] [0x002] s t) ∧
  (∀ s, s.fld Reg.RESET.TARGET.INDEX < 256 → (s.seq.active.any fun t => t.radioIn (s.fld Reg.RESET.TARGET.INDEX)) = false →
    (s.seq.armed.any fun t => t.radioIn (s.fld Reg.RESET.TARGET.INDEX)) = false → s.isSet Reg.RESET.STATUS.BUSY = false → Completes .resetActionCluster s fun t =>
      t.boot.job = some (.cluster (s.fld Reg.RESET.TARGET.INDEX)) ∧ t.isSet Reg.RESET.STATUS.BUSY ∧
      SameCores (clusterCores (s.fld Reg.RESET.TARGET.INDEX)) s t ∧ SameFields [Reg.RESET.STATUS.BUSY] s t ∧
      Frame [.boot, .cores, .posts] [0x002] s t) ∧
  (∀ s, s.fld Reg.RESET.TARGET.INDEX < 64 → 2 ≤ s.fld Reg.RESET.TARGET.INDEX → s.cocoonState (s.fld Reg.RESET.TARGET.INDEX) ≠ 0 →
    s.isSet Reg.RESET.STATUS.BUSY = false → Completes .resetActionCocoon s fun t =>
      t.boot.job = some (.cocoon (s.fld Reg.RESET.TARGET.INDEX)) ∧ t.isSet Reg.RESET.STATUS.BUSY ∧
      SameCores (s.coresOfCocoon (s.fld Reg.RESET.TARGET.INDEX)) s t ∧ SameFields [Reg.RESET.STATUS.BUSY] s t ∧
      Frame [.boot, .cores, .posts] [0x002] s t) ∧
  (∀ s, s.isSet Reg.RESET.STATUS.BUSY = false → s.fatal = none → Completes .resetActionDevice s fun t =>
    t.boot.job = some .device ∧ t.fatal = some 6 ∧ t.bbox.frozen ∧ (t.bbox.flush.any fun f => Nat.beq f.cause 6) ∧ t.isSet Reg.BBOX.STATUS.FLUSHING ∧
    t.fld Reg.SEQ.STATE.STATE = 5 ∧ SameFields [Reg.RESET.STATUS.BUSY, Reg.BBOX.STATUS.FLUSHING, Reg.SEQ.STATE.STATE] s t ∧
    Frame [.boot, .fatal] [0x002, 0x005, 0x010] s t) ∧
  (∀ s, (2048 ≤ s.fld Reg.RESET.TARGET.INDEX ∨ s.isSet Reg.RESET.STATUS.BUSY) → Completes .resetActionCore s fun t =>
    Refused t 0x002 (if 2048 ≤ s.fld Reg.RESET.TARGET.INDEX then 0x01F0 else 0x04F3) ∧ Frame [] [0x002] s t) ∧
  (∀ s g held, s.fld Reg.RESET.TARGET.INDEX = g → (s.seq.active.any (fun t => t.radioIn g) || s.seq.armed.any fun t => t.radioIn g) = held →
    (256 ≤ g ∨ held ∨ s.isSet Reg.RESET.STATUS.BUSY) → Completes .resetActionCluster s fun t =>
      Refused t 0x002 (if 256 ≤ g then 0x01F0 else if held then 0x04F1 else 0x04F3) ∧ Frame [] [0x002] s t) ∧
  (∀ s c, s.fld Reg.RESET.TARGET.INDEX = c → (64 ≤ c ∨ c < 2 ∨ s.cocoonState c = 0 ∨ s.isSet Reg.RESET.STATUS.BUSY) → Completes .resetActionCocoon s fun t =>
    Refused t 0x002 (if 64 ≤ c then 0x01F0 else if c < 2 ∨ s.cocoonState c = 0 then 0x04F2 else 0x04F3) ∧ Frame [] [0x002] s t) ∧
  (∀ s, s.isSet Reg.RESET.STATUS.BUSY → Completes .resetActionDevice s fun t => Refused t 0x002 0x04F3 ∧ Frame [] [0x002] s t) ∧
  (∀ s c, s.isSet Reg.RESET.STATUS.BUSY = false → s.fatal = some c → Completes .resetActionDevice s fun t =>
    t.boot.job = some .device ∧ t.isSet Reg.RESET.STATUS.BUSY ∧ t.fatal = some c ∧ SameFields [Reg.RESET.STATUS.BUSY] s t ∧ Frame [.boot] [0x002] s t) ∧
  (∀ s n, s.boot.job = some (.core n) → n < 2048 → s.sound → Completes .resetDone s fun t =>
    t.boot.job = none ∧ t.isSet Reg.RESET.STATUS.BUSY = false ∧ t.coreState n = (if s.coreDisabled n then s.coreState n else 0) ∧ (t.core n).faulted = false ∧ (t.core n).copies = [] ∧
    (∀ k, k < 0x200000 → t.mem.readByte (spBase n + k) = 0) ∧ (∀ k, k < 0x40000 → t.mem.readByte (accBase n + k) = 0) ∧
    SameMemory [(spBase n, 0x200000), (accBase n, 0x40000), (cwBase n, 0x10000)] s t ∧ SameCores [n] s t ∧
    SameFields [Reg.RESET.STATUS.BUSY, coreStateFld n] s t ∧ Frame [.boot, .cores, .posts, .mem, .sram, .runs] (0x002 :: clusterPages) s t) ∧
  (∀ s g, s.boot.job = some (.cluster g) → g < 256 → s.sound → s.absorbable → Completes .resetDone s fun t =>
    t.boot.job = none ∧ t.isSet Reg.RESET.STATUS.BUSY = false ∧ (∀ n ∈ clusterCores g, s.coreDisabled n = false → t.coreState n = 0) ∧
    (∀ k, k < 0x1000000 → t.mem.readByte (csBase g + k) = 0) ∧ (∀ n ∈ clusterCores g, (t.core n).copies = [] ∧ (t.core n).remotes = []) ∧
    (∀ p ∈ t.posts, p.src ∉ clusterCores g ∧ p.dst ∉ clusterCores g) ∧ (t.crossing (.core (g / 8))).resync ∧ SameCores (clusterCores g) s t) ∧
  (∀ s c, s.boot.job = some (.cocoon c) → 2 ≤ c → c < 64 → s.cocoonState c = 1 → s.absorbable → Completes .resetDone s fun t =>
    t.boot.job = none ∧ t.isSet Reg.RESET.STATUS.BUSY = false ∧ t.cocoonState c = 2 ∧ t.isSet (Reg.SEQ_DEBT.DEBT.FENCED c) ∧
    t.fld (Reg.SEQ_DEBT.DEBT.DEBT_NS c) = 0 ∧ (∀ w ∈ t.waits, w.cocoon ≠ c) ∧ SameCores (s.coresOfCocoon c) s t) ∧
  (∀ s, (s.boot.job = none ∨ s.boot.job = some .device ∨ s.boot.job.any fun j => match j with | .retest _ => true | _ => false) →
    Completes .resetDone s fun t => t = s)

/-- R465, R467, R468, R474: readings show in their registers, and PKG_POWER is the mean of the last 1 ms of sums; a rail that reports a fault or stays
outside ±5 % for 100 µs sets RAIL_FAULT, a core rail's taking its die's clock domain down; a laser input low for 1 ms sets LOW, which 10 ms above the
threshold clear; a die at 110 °C trips, once.
R471–R473: above the package limit a die is lowered by one point, with none left to lower the tenants of a class on pinned dies are held, with none left
to hold LIMIT_UNMET shows; otherwise nothing changes until the power has been low long enough, and then the last step is undone. A die above the
throttle temperature loses one level per check, gets it back after 10 ms of cool, and pinned has its tenants held. -/
def Obligations.power_samples_and_thermal_levels : Prop :=
  (∀ s l, (Instr.railSample l).wf → (l.zipIdx.all fun x => !s.railBad x.2 x.1) → Completes (.railSample l) s fun t =>
    (∀ i, i < 36 → l[i]?.any fun r => Nat.beq (t.fld (Reg.PWR.RAIL.MV i)) (r.mv % 2 ^ (Reg.PWR.RAIL.MV i).w) &&
      Nat.beq (t.fld (Reg.PWR.RAIL.P i)) (r.decW % 2 ^ (Reg.PWR.RAIL.P i).w) &&
      (Assoc.find i t.power.railOut == if railOutside (s.railSetting i) r.mv then some ((Assoc.find i s.power.railOut).getD s.mono) else none)) ∧
    t.power.readings = ((l.map fun r => r.decW).sum :: s.power.readings).take 10 ∧
    t.fld Reg.PWR.PKG_POWER.W = t.power.readings.sum / t.power.readings.length % 2 ^ Reg.PWR.PKG_POWER.W.w ∧ Frame [.power] (0x004 :: diePages) s t) ∧
  (∀ s l i r, (Instr.railSample l).wf → l[i]? = some r → s.railBad i r → Completes (.railSample l) s fun t =>
    t.err Reg.PWR.ERR.RAIL_FAULT ∧ (i < 32 → (t.crossing (.core i)).down)) ∧
  (∀ s l, (Instr.laserSample l).wf → Completes (.laserSample l) s fun t =>
    (∀ i, i < 8 → t.fld (Reg.PWR.LASER.DBM i) = ofSigned 16 (l.getD i 0)) ∧
    (∀ i, i < 8 → (s.laserLow i l == s.isSet (Reg.PWR.LASER.LOW i)) →
      Assoc.find i t.power.laserSince = none ∧ t.fld (Reg.PWR.LASER.LOW i) = s.fld (Reg.PWR.LASER.LOW i)) ∧
    (∀ i, i < 8 → (s.laserLow i l != s.isSet (Reg.PWR.LASER.LOW i)) →
      s.mono < Assoc.findD (α := Nat) i s.mono s.power.laserSince + (if s.laserLow i l then 1000000 else 10000000) →
      Assoc.find i t.power.laserSince = some (Assoc.findD (α := Nat) i s.mono s.power.laserSince) ∧
        t.fld (Reg.PWR.LASER.LOW i) = s.fld (Reg.PWR.LASER.LOW i)) ∧
    (∀ i, i < 8 → (s.laserLow i l != s.isSet (Reg.PWR.LASER.LOW i)) →
      Assoc.findD (α := Nat) i s.mono s.power.laserSince + (if s.laserLow i l then 1000000 else 10000000) ≤ s.mono →
      Assoc.find i t.power.laserSince = none ∧ t.isSet (Reg.PWR.LASER.LOW i) = s.laserLow i l ∧
        (s.laserLow i l → t.err Reg.PWR.ERR.LASER_LOW)) ∧ Frame [.power] [0x004] s t) ∧
  (∀ s l, (Instr.temperatureSample l).wf → (l.zipIdx.all fun x => decide (x.1 < 1760) || s.power.tripped.contains x.2) →
    Completes (.temperatureSample l) s fun t =>
      (∀ d, d < 32 → t.fld (Reg.DIE.TEMP.DEGC d) = ofSigned 16 (l.getD d 0)) ∧
      (∀ d, d < 8 → t.fld (Reg.PWR.TEMP.DEGC d) = ofSigned 16 (l.getD (32 + d) 0)) ∧ Frame [] (0x004 :: diePages) s t) ∧
  (∀ s l d, (Instr.temperatureSample l).wf → d < 40 → 1760 ≤ l.getD d 0 → d ∉ s.power.tripped → Completes (.temperatureSample l) s fun t =>
    t.thermTrip ∧ d ∈ t.power.tripped ∧ (s.fatal = none → t.fatal = some 4 ∧ t.fld Reg.SEQ.STATE.STATE = 5) ∧
    (∀ c ∈ s.fatal.toList, t.fatal = some c)) ∧
  (∀ s, (s.overMean ∨ s.overPeak) → ((List.range 32).any s.canLower) → Completes .packageLimitCheck s fun t =>
      (t.power.steps.head?.any fun x => match x with
        | .lowered d p => s.canLower d && Nat.beq (p + 1) (s.point d) && ((List.range 32).filter s.canLower).all fun e => Nat.beq e d || s.lowerFirst d e
        | .held _ => false) ∧ t.power.steps.tail = s.power.steps ∧ t.err Reg.PWR.ERR.PKG_LIMIT ∧ (s.overMean → t.power.lastMean = some s.mono) ∧
      Frame [.power] (0x004 :: diePages) s t) ∧
  (∀ s k, (s.overMean ∨ s.overPeak) → ((List.range 32).any s.canLower) = false → s.heldSteps = k → k < 4 → s.canHold k →
    Completes .packageLimitCheck s fun t =>
      t.power.steps = .held k :: s.power.steps ∧ t.err Reg.PWR.ERR.PKG_LIMIT ∧ t.isSet Reg.PWR.THROTTLE.HOLD ∧
      (∀ n, n < 2048 → ∀ c ∈ [1, 2, 3, 63], s.pinnedBy (dieOf n) → s.throttleClass c = k → t.coreHeld n c) ∧
      Frame [.power] (0x004 :: diePages) s t) ∧
  (∀ s k, (s.overMean ∨ s.overPeak) → ((List.range 32).any s.canLower) = false → s.heldSteps = k → (4 ≤ k ∨ s.canHold k = false) →
    Completes .packageLimitCheck s fun t =>
      t.power.steps = s.power.steps ∧ t.err Reg.PWR.ERR.PKG_LIMIT ∧ t.err Reg.PWR.ERR.LIMIT_UNMET ∧ Frame [.power] [0x004] s t) ∧
  (∀ s, s.overMean = false → s.overPeak = false → (s.coolLong = false ∨ (s.power.lastUndo.any fun x => Nat.blt s.mono (x + 1000000))) →
    Completes .packageLimitCheck s fun t =>
      t.power.lowSince = (if s.lowMean then some (s.power.lowSince.getD s.mono) else none) ∧ t.power.steps = s.power.steps ∧ SameFields [] s t ∧
      Frame [.power] [] s t) ∧
  (∀ s x r, s.power.steps = x :: r → s.overMean = false → s.overPeak = false → s.coolLong →
    s.power.lastUndo.all (fun x => Nat.ble (x + 1000000) s.mono) → Completes .packageLimitCheck s fun t =>
      t.power.steps = r ∧ t.power.lastUndo = some s.mono ∧ Frame [.power] (0x004 :: diePages) s t) ∧
  (∀ s, s.power.steps = [] → s.overMean = false → s.overPeak = false → s.coolLong →
    s.power.lastUndo.all (fun x => Nat.ble (x + 1000000) s.mono) → Completes .packageLimitCheck s fun t =>
      t.power.steps = [] ∧ t.power.lastUndo = some s.mono ∧ SameFields [] s t ∧ Frame [.power] [] s t) ∧
  (∀ s d e, d < 32 → s.pinned d = false → d ∉ s.power.thermHolds → (Assoc.find d s.power.thermal).getD ⟨2, false, 0, none⟩ = e →
    (s.throttle16 < s.dieTemp d ∨ e.falling ∧ s.throttle16 - 80 ≤ s.dieTemp d) → Completes .thermalLevelCheck s fun t =>
      Assoc.find d t.power.thermal = some ⟨min e.level (s.point d) - 1, true, s.mono, none⟩ ∧ t.err Reg.PWR.ERR.THERM_THROTTLE ∧
      Frame [.power] (0x004 :: diePages) s t) ∧
  (∀ s d e, d < 32 → s.pinned d = false → d ∉ s.power.thermHolds → (Assoc.find d s.power.thermal).getD ⟨2, false, 0, none⟩ = e →
    s.dieTemp d ≤ s.throttle16 → (e.falling = false ∨ s.dieTemp d < s.throttle16 - 80) → Completes .thermalLevelCheck s fun t =>
      (e.level = 2 → Assoc.find d t.power.thermal = none) ∧
      (e.level ≠ 2 → s.throttle16 - 160 ≤ s.dieTemp d → Assoc.find d t.power.thermal = some ⟨e.level, false, e.lastMove, none⟩) ∧
      (e.level ≠ 2 → s.dieTemp d < s.throttle16 - 160 → s.mono < e.coolSince.getD s.mono + 10000000 →
        Assoc.find d t.power.thermal = some ⟨e.level, false, e.lastMove, some (e.coolSince.getD s.mono)⟩) ∧
      (e.level ≠ 2 → s.dieTemp d < s.throttle16 - 160 → e.coolSince.getD s.mono + 10000000 ≤ s.mono →
        Assoc.find d t.power.thermal = if e.level = 1 then none else some ⟨e.level + 1, false, s.mono, some s.mono⟩) ∧
      Frame [.power] (0x004 :: diePages) s t) ∧
  (∀ s d, d < 32 → (s.pinned d ∨ d ∈ s.power.thermHolds) → Completes .thermalLevelCheck s fun t =>
      (s.throttle16 < s.dieTemp d → d ∈ t.power.thermHolds ∧ t.err Reg.PWR.ERR.THERM_THROTTLE ∧ t.isSet Reg.PWR.THROTTLE.HOLD) ∧
      (s.dieTemp d < s.throttle16 - 80 → d ∉ t.power.thermHolds) ∧
      (s.dieTemp d ≤ s.throttle16 → s.throttle16 - 80 ≤ s.dieTemp d → (d ∈ t.power.thermHolds ↔ d ∈ s.power.thermHolds)) ∧
      Assoc.find d t.power.thermal = Assoc.find d s.power.thermal ∧ Frame [.power] (0x004 :: diePages) s t) ∧
  (∀ s d, 32 ≤ d → d < 40 → s.throttle16 < s.dieTemp d → Completes .thermalLevelCheck s fun t => t.err Reg.PWR.ERR.THERM_THROTTLE)

/-- R477–R480, R482: after a fatal error the rings go to their slot of the region and the device restarts; a snapshot writes the other slot and the device
goes on. Without a flush or snapshot asked for nothing is written, nor by rings that are not armed. -/
def Obligations.black_box_flush_and_snapshot : Prop :=
  (∀ s f, s.bbox.flush = some f → s.isSet Reg.BBOX.STATUS.ARMED = false → Completes .blackBoxFlush s fun t =>
    t.fld Reg.BOOT.STATE.INSTAR = 0 ∧ t.boot.fuses = s.boot.fuses ∧ t.fatal = none ∧ t.bbox.newest = s.bbox.newest ∧ t.bbox.seq = s.bbox.seq ∧
    t.err Reg.BBOX.ERR.HOST_FLUSH_FAIL = s.bbox.hostCut ∧ t.cores = [] ∧ t.cocoons = [] ∧ t.pages.file.shadow = []) ∧
  (∀ s f, s.bbox.flush = some f → s.isSet Reg.BBOX.STATUS.ARMED → Completes .blackBoxFlush s fun t =>
    t.fld Reg.BOOT.STATE.INSTAR = 0 ∧ t.boot.fuses = s.boot.fuses ∧ t.fatal = none ∧ t.bbox.newest = some f.slot ∧ t.bbox.seq = s.bbox.seq + 1 ∧
    t.err Reg.BBOX.ERR.HOST_FLUSH_FAIL = s.bbox.hostCut ∧ t.cores = [] ∧ t.cocoons = [] ∧ t.pages.file.shadow = []) ∧
  (∀ s, s.bbox.flush = none → Completes .blackBoxFlush s fun t => t = s) ∧
  (∀ s, s.isSet Reg.BBOX.STATUS.FLUSHING = false → s.isSet Reg.BBOX.STATUS.ARMED → Completes .snapshot s fun t =>
    t.isSet Reg.BBOX.STATUS.FLUSHING ∧ (t.bbox.snapshot.any fun f => Nat.beq f.cause 0 && f.rings == s.bbox.rings && f.written == s.bbox.written &&
      Nat.beq f.slot (match s.bbox.newest with | some n => 1 - n | none => 0)) ∧
    SameFields [Reg.BBOX.STATUS.FLUSHING] s t ∧ Frame [] [0x005] s t) ∧
  (∀ s, s.isSet Reg.BBOX.STATUS.FLUSHING → Completes .snapshot s fun t =>
    Refused t 0x005 0x0411 ∧ t.bbox.snapshot = s.bbox.snapshot ∧ Frame [] [0x005] s t) ∧
  (∀ s, s.isSet Reg.BBOX.STATUS.FLUSHING = false → s.isSet Reg.BBOX.STATUS.ARMED = false → Completes .snapshot s fun t => t = s) ∧
  (∀ s f, s.bbox.snapshot = some f → s.sound → f.slot < 2 → Completes .snapshotDone s fun t =>
    t.isSet Reg.BBOX.STATUS.FLUSHING = false ∧ t.bbox.snapshot = none ∧ t.bbox.newest = some f.slot ∧ t.bbox.seq = s.bbox.seq + 1 ∧
    t.fld Reg.BBOX.FLUSH_COUNT.COUNT = (s.bbox.seq + 1) % 2 ^ Reg.BBOX.FLUSH_COUNT.COUNT.w ∧
    t.rdBytes (s.bbBase + f.slot * 0x400000) 4 = leBytes 4 0x42425831 ∧
    SameMemory [(s.bbBase + f.slot * 0x400000, 0x400000)] s t ∧ SameFields [Reg.BBOX.STATUS.FLUSHING, Reg.BBOX.FLUSH_COUNT.COUNT] s t ∧
    Frame [.mem] [0x005] s t) ∧
  (∀ s, s.bbox.snapshot = none → Completes .snapshotDone s fun t => t = s)

/-- R262, R390, R410, R411, R486, R487, R489, R491, R513: a read returns the word a page shows to an issuer that reaches it, 0 at a page or offset that is
reserved; a read of a latching word is that command. A write of a word sets the RW fields in effect and the RWS fields in the shadow and clears W1C
bits, and does nothing else; a write of an action's word is that command; on page SEQ in HALTED a write does nothing at all (R75). An access that
is not an aligned word changes nothing, and sets a control core's ACCESS fault; a denied access is counted, and a denied read returns 0.
R297, R481, R510, R512: through the test port pages are read and written as by an issuer that reaches every page; the rings, the fuses and GDDR7 lines
come out; no key does; a fatal error can be asked for; without power, or with TRST_N low, nothing happens. -/
def Obligations.register_reads_writes_and_test_port : Prop :=
  (∀ s who page off, (Instr.regRd who page off).wf → s.mayReach who page → off % 4 = 0 → s.readCommand who page off = none →
    latchedNow page off = false → Completes (.regRd who page off) s fun t =>
      t.out = s.out ++ [.regData who (BitVec.ofNat 32 (s.shownWord page off))] ∧ (pageRun page = none → s.shownWord page off = 0) ∧
      SameFields [] s t ∧ SameBut [.signals] s t) ∧
  (∀ s who page off, (Instr.regRd who page off).wf → s.mayReach who page → latchedNow page off → Completes (.regRd who page off) s fun t =>
      t.out = s.out ++ [.regData who ((s.latched who page off).elim 0 fun l => BitVec.ofNat 32 l.val.toNat)] ∧ t.pages = s.pages ∧
      SameBut [.signals] s t) ∧
  (∀ s who page off c, (Instr.regRd who page off).wf → off % 4 = 0 → s.readCommand who page off = some c →
    Completes c s fun u => exec (.regRd who page off) s = .next u.drawn) ∧
  (∀ s who page k, DeniesAccess (.regRd who page (4 * k)) who page true s) ∧
  (∀ s n page off, (Instr.regRd (.core n) page off).wf → off % 4 ≠ 0 → Completes (.regRd (.core n) page off) s fun t =>
    t.out = s.out ∧ t.pages.file = s.pages.file ∧ n ∈ t.pages.ctlFaults ∧ SameBut [.regs, .signals] s t) ∧
  (∀ s f page off, (Instr.regRd (.fn f) page off).wf → s.mayReach (.fn f) page → off % 4 ≠ 0 → Completes (.regRd (.fn f) page off) s fun t =>
    t.out = s.out ++ [.regData (.fn f) 0] ∧ SameFields [] s t ∧ SameBut [.signals] s t) ∧
  (∀ s who page off w, (Instr.regWr who page off w).wf → s.mayReach who page → off % 4 = 0 → plainWord page off →
    (page = 0x010 → s.seqHalted = false) → Completes (.regWr who page off w) s fun t => Written who page off w s t ∧ OnlyPages [page] s t) ∧
  (∀ s who page off w fn, (Instr.regWr who page off w).wf → s.mayReach who page → off % 4 = 0 → pageFn page = some fn → s.plainFnWord fn off →
    Completes (.regWr who page off w) s fun t => Written who page off w s t ∧ OnlyPages [page] s t) ∧
  (∀ s who page off w c, (Instr.regWr who page off w).wf → s.mayReach who page → off % 4 = 0 → writeCommand who page off w = some c →
    exec (.regWr who page off w) s = exec c s) ∧
  (∀ s who page off w fn, (Instr.regWr who page off w).wf → s.mayReach who page → off % 4 = 0 → pageFn page = some fn → s.queueLocked fn off →
    off % 16 ≠ 8 → Completes (.regWr who page off w) s fun t => t = s) ∧
  (∀ s who fn w clash, (Instr.regWr who (fnPage fn) 0x100 w).wf → fn < 258 → s.mayReach who (fnPage fn) → managesPages who →
    ((List.range 258).any fun g => !Nat.beq g fn && Nat.blt (s.fld (Reg.FN.FN_CFG.SV_BASE g)) (bitsOf w.toNat 0 12 + bitsOf w.toNat 12 9) &&
      Nat.blt (bitsOf w.toNat 0 12) (s.fld (Reg.FN.FN_CFG.SV_BASE g) + s.fld (Reg.FN.FN_CFG.SV_COUNT g))) = clash →
    Completes (.regWr who (fnPage fn) 0x100 w) s fun t =>
      (if 256 < bitsOf w.toNat 12 9 ∨ 4096 < bitsOf w.toNat 0 12 + bitsOf w.toNat 12 9 ∨ bitsOf w.toNat 24 7 = 0 ∨ 64 < bitsOf w.toNat 24 7 then
        RefusedAt (fnPage fn) (0x01D0, 0x100) s t
      else if clash then RefusedAt (fnPage fn) (0x02D1, 0x100) s t
      else Written who (fnPage fn) 0x100 w s t ∧ OnlyPages [fnPage fn] s t)) ∧
  (∀ s f w, (Instr.regWr (.fn f) (fnPage f) 0x100 w).wf → f < 256 → s.mayReach (.fn f) (fnPage f) → Completes (.regWr (.fn f) (fnPage f) 0x100 w) s fun t => t = s) ∧
  (∀ s who i w, (Instr.regWr who 0x004 (0x120 + 4 * i) w).wf → i < 2 → s.mayReach who 0x004 → Completes (.regWr who 0x004 (0x120 + 4 * i) w) s fun t =>
    (∀ k, k < 16 → t.fld (Reg.PWR.DIE_REQ.REQ i k) = if bitsOf w.toNat (2 * k) 2 = 3 then s.fld (Reg.PWR.DIE_REQ.REQ i k) else bitsOf w.toNat (2 * k) 2) ∧
    ((List.range 16).any (fun k => Nat.beq (bitsOf w.toNat (2 * k) 2) 3) → Refused t 0x004 0x0110) ∧ Frame [.power] (0x004 :: diePages) s t) ∧
  (∀ s who u w, (Instr.regWr who 0x041 (0x108 + 16 * u) w).wf → u < 16 → s.mayReach who 0x041 → Completes (.regWr who 0x041 (0x108 + 16 * u) w) s fun t =>
    t.fld (Reg.TIME_CMP.CTRL.PERIODIC u) = bitsOf w.toNat 1 1 ∧ t.fld (Reg.TIME_CMP.CTRL.SIG u) = bitsOf w.toNat 2 1 ∧
    t.fld (Reg.TIME_CMP.CTRL.ARM u) = bitsOf w.toNat 0 1 ∧
    Assoc.find u t.time.cmp = (if w.toNat.testBit 0 ∧ s.isSet (Reg.TIME_CMP.CTRL.ARM u) = false
      then some (s.fld2 (Reg.TIME_CMP.TARGET_LO.T u) (Reg.TIME_CMP.TARGET_HI.T u)) else Assoc.find u s.time.cmp) ∧ Frame [.time] [0x041] s t) ∧
  (∀ s who u k w, (Instr.regWr who 0x041 (0x100 + 16 * u + k) w).wf → u < 16 → k ∈ [0, 4, 12] → s.mayReach who 0x041 →
    Completes (.regWr who 0x041 (0x100 + 16 * u + k) w) s fun t =>
      (k = 12 → w.toNat < 1000 → t = s) ∧ (k ≠ 12 ∨ 1000 ≤ w.toNat → Written who 0x041 (0x100 + 16 * u + k) w s t) ∧ OnlyPages [0x041] s t) ∧
  (∀ s who w, (Instr.regWr who 0x040 0x180 w).wf → s.mayReach who 0x040 → Completes (.regWr who 0x040 0x180 w) s fun t =>
    t.fld Reg.TIME.SYNCE.TX_QL = bitsOf w.toNat 8 4 ∧ (s.fld Reg.TIME.SYNCE.TX_QL ≠ bitsOf w.toNat 8 4 → t.time.qlPending = (List.range 64).filter s.txSyncE) ∧
    SameFields [Reg.TIME.SYNCE.TX_QL] s t ∧ Frame [.time] [0x040] s t) ∧
  (∀ s who c i w, (Instr.regWr who (0x100 + c) (0x170 + 4 * i) w).wf → c < 64 → i < 16 → s.mayReach who (0x100 + c) →
    Completes (.regWr who (0x100 + c) (0x170 + 4 * i) w) s fun t =>
      Assoc.find i (t.cocoon c).keyWords = some w ∧ SameFields [] s t ∧ SameBut [.cocoons] s t) ∧
  (∀ s who w, (Instr.regWr who 0x240 0x108 w).wf → s.mayReach who 0x240 → Completes (.regWr who 0x240 0x108 w) s fun t =>
    if w.toNat % 1024 = 0 ∨ 1000 < w.toNat % 1024 then RefusedAt 0x240 (0x01D0, 0x108) s t
    else Written who 0x240 0x108 w s t ∧ OnlyPages [0x240] s t) ∧
  (∀ s who page off w, (Instr.regWr who page off w).wf → s.mayReach who page → off % 4 = 0 → (wordFlds page off = [] ∧ 0x100 ≤ off ∨ pageRun page = none) →
    Completes (.regWr who page off w) s fun t => t = s) ∧
  (∀ s who page k w, DeniesAccess (.regWr who page (4 * k) w) who page false s) ∧
  (∀ s n page off w, (Instr.regWr (.core n) page off w).wf → off % 4 ≠ 0 → Completes (.regWr (.core n) page off w) s fun t =>
    t.out = s.out ∧ t.pages.file = s.pages.file ∧ n ∈ t.pages.ctlFaults ∧ SameBut [.regs] s t) ∧
  (∀ s f page off w, (Instr.regWr (.fn f) page off w).wf → s.mayReach (.fn f) page → off % 4 ≠ 0 → Completes (.regWr (.fn f) page off w) s fun t => t = s) ∧
  (∀ s who off w, (Instr.regWr who 0x010 off w).wf → s.mayReach who 0x010 → off % 4 = 0 → s.seqHalted → (off = 0x010 ∨ 0x100 ≤ off) →
    Completes (.regWr who 0x010 off w) s fun t => t = s) ∧
  (∀ s page off, (Instr.testPortAccess (.readPage page off)).wf → s.boot.powered → s.trst = false →
    exec (.testPortAccess (.readPage page off)) s = exec (.regRd .testPort page off) s) ∧
  (∀ s page off w, (Instr.testPortAccess (.writePage page off w)).wf → s.boot.powered → s.trst = false →
    exec (.testPortAccess (.writePage page off w)) s = exec (.regWr .testPort page off w) s) ∧
  (∀ s d, (Instr.testPortAccess (.readRing d)).wf → s.boot.powered → s.trst = false → Completes (.testPortAccess (.readRing d)) s fun t =>
    t.out = s.out ++ [.testPort (((Assoc.findD d [] s.bbox.rings).reverse).flatMap BbRecord.bytes)] ∧ SameBut [.signals] s t) ∧
  (∀ s i w, (Instr.testPortAccess (.readFuse i)).wf → s.boot.powered → s.trst = false → s.boot.fuses.bank[i]? = some w →
    Completes (.testPortAccess (.readFuse i)) s fun t => t.out = s.out ++ [.testPort (leBytes 4 w.toNat)] ∧ SameBut [.signals] s t) ∧
  (∀ s i, (Instr.testPortAccess (.readFuse i)).wf → s.boot.powered → s.trst = false → s.boot.fuses.bank[i]? = none →
    Completes (.testPortAccess (.readFuse i)) s fun t => t.out = s.out ++ [.testPort [0, 0, 0, 0]] ∧ SameBut [.signals] s t) ∧
  (∀ s a, (Instr.testPortAccess (.readLine a)).wf → s.boot.powered → s.trst = false → s.region (a / 64 * 64) = .gddr →
    (∀ c, c < 64 → s.live c = false ∨ s.inExtent c (a / 64 * 64) 64 = false ∨ s.isSet (Reg.COCOON.CFG.ENC c) = false) →
    Completes (.testPortAccess (.readLine a)) s fun t => t.out = s.out ++ [.testPort (s.rdBytes (a / 64 * 64) 64)] ∧ SameBut [.signals] s t) ∧
  (∀ s a c, (Instr.testPortAccess (.readLine a)).wf → s.boot.powered → s.trst = false → s.region (a / 64 * 64) = .gddr → s.live c →
    s.inExtent c (a / 64 * 64) 64 → (∀ d, d < c → s.live d = false ∨ s.inExtent d (a / 64 * 64) 64 = false) → c < 64 → s.isSet (Reg.COCOON.CFG.ENC c) →
    Completes (.testPortAccess (.readLine a)) s fun t =>
      t.out = s.out ++ [.testPort (((s.rdBytes (a / 64 * 64) 64).zipIdx).map fun x =>
        Config.xtsByte (Assoc.findD (s.fld (Reg.COCOON.CFG.KEY_SLOT c)) [] s.keys) (a / 64 * 64 + x.2) x.1)] ∧ SameBut [.signals] s t) ∧
  (∀ s a, (Instr.testPortAccess (.readLine a)).wf → s.boot.powered → s.trst = false → s.region (a / 64 * 64) ≠ .gddr →
    Completes (.testPortAccess (.readLine a)) s fun t => t = s) ∧
  (∀ s k, (Instr.testPortAccess (.readKeySlot k)).wf → s.boot.powered → s.trst = false → Completes (.testPortAccess (.readKeySlot k)) s fun t =>
    t.out = s.out ++ [.testPort (List.replicate 64 0)] ∧ SameBut [.signals] s t) ∧
  (∀ s, s.boot.powered → s.trst = false → s.fatal = none → Completes (.testPortAccess .requestFatal) s fun t =>
    t.fatal = some 7 ∧ t.bbox.frozen ∧ (t.bbox.flush.any fun f => Nat.beq f.cause 7) ∧ t.fld Reg.SEQ.STATE.STATE = 5 ∧
    Frame [.fatal] [0x005, 0x010] s t) ∧
  (∀ s, s.boot.powered → s.trst = false → s.fatal.isSome → Completes (.testPortAccess .requestFatal) s fun t => t = s) ∧
  (∀ s a, (Instr.testPortAccess a).wf → (s.boot.powered = false ∨ s.trst) → Completes (.testPortAccess a) s fun t => t = s)

/-- R6, R46, R74, R75, R200, R239, R254, R296, R364, R492–R498: CTRL and ERR. A page is enabled where its check allows it, and refused at the first condition
that fails; ENABLE cleared, its unit stops; a COMMIT waits for its boundary or its check, or is refused; BLOCK_RESET gives the fields their reset
values; a bit of ERR clears where 1 is written; a write of CTRL or ERR is these commands. Each does nothing on a page that does not implement it. -/
def Obligations.control_and_error_words : Prop :=
  (∀ s page, (Instr.enable page).wf → (s.mayReach (.core 0) page = false ∨ (pageRun page).any (fun r => r.hasE) = false ∨ s.isSet (ctrlEnable page)) →
    Completes (.enable page) s fun t => t = s) ∧
  (∀ s c, (Instr.enable (0x100 + c)).wf → c < 64 → s.mayReach (.core 0) (0x100 + c) → s.isSet (ctrlEnable (0x100 + c)) = false → s.checkCocoon c = none →
    Completes (.enable (0x100 + c)) s fun t =>
      t.isSet (ctrlEnable (0x100 + c)) ∧ t.fld (refusalReason (0x100 + c)) = 0 ∧
      t.fld (Reg.COCOON.EXT_COUNT.COUNT c) = (match Assoc.find (Reg.COCOON.EXT_COUNT.COUNT c).key s.pages.file.shadow with
        | some v => v % 2 ^ (Reg.COCOON.EXT_COUNT.COUNT c).w
        | none => s.fld (Reg.COCOON.EXT_COUNT.COUNT c)) ∧ Frame [] [0x100 + c] s t) ∧
  (∀ s c x, (Instr.enable (0x100 + c)).wf → c < 64 → s.mayReach (.core 0) (0x100 + c) → s.isSet (ctrlEnable (0x100 + c)) = false →
    s.checkCocoon c = some x → Completes (.enable (0x100 + c)) s fun t =>
      RefusedAt (0x100 + c) x s t ∧ t.isSet (ctrlEnable (0x100 + c)) = false) ∧
  (∀ s p, (Instr.enable (0x061 + p)).wf → p < 16 → s.mayReach (.core 0) (0x061 + p) → s.isSet (ctrlEnable (0x061 + p)) = false →
    Completes (.enable (0x061 + p)) s fun t =>
      (s.checkPort p false = none → t.isSet (ctrlEnable (0x061 + p)) ∧ t.fld (refusalReason (0x061 + p)) = 0 ∧ t.portMode p = s.shd (Reg.FH_PORT.PORT_CFG.MODE p) ∧
        (∀ i ∈ portIfaces p, t.ifExists i → (t.iface i).sched.image = s.shpImage (s.shd2 (Reg.FH_PORT.SCHED_LO.ADDR p) (Reg.FH_PORT.SCHED_HI.ADDR p))) ∧
        Frame [.fh] [0x061 + p] s t) ∧
      (∀ x ∈ (s.checkPort p false).toList, RefusedAt (0x061 + p) x s t ∧ t.isSet (ctrlEnable (0x061 + p)) = false)) ∧
  (∀ s, s.mayReach (.core 0) 0x0A0 → s.isSet (ctrlEnable 0x0A0) = false → Completes (.enable 0x0A0) s fun t =>
    (s.checkMem = none → t.isSet (ctrlEnable 0x0A0) ∧ t.fld (refusalReason 0x0A0) = 0 ∧ t.fld Reg.MEM.CFG.RATE = s.shd Reg.MEM.CFG.RATE ∧
      t.fld Reg.MEM.USABLE.UNITS = t.usable / 65536 % 2 ^ Reg.MEM.USABLE.UNITS.w ∧ Frame [] [0x0A0] s t) ∧
    (∀ x ∈ s.checkMem.toList, RefusedAt 0x0A0 x s t)) ∧
  (∀ s, s.mayReach (.core 0) 0x080 → s.isSet (ctrlEnable 0x080) = false → Completes (.enable 0x080) s fun t =>
    if s.radio.checking.isSome then t = s
    else if s.fld Reg.SEQ.STATE.STATE ≠ 4 ∨ s.fld Reg.SEQ.BEAT_CFG.FREE_RUN = 1 then RefusedAt 0x080 (0x0470, 0x010) s t
    else if s.checkRadio = none then (t.radio.checking.any fun x => x.2.2) ∧ t.radio.taken = s.pages.file.shadow ∧ SameBut [.radio] s t
    else s.checkRadio.any fun x => Nat.beq (t.fld (refusalReason 0x080)) (x.1 % 65536) && Nat.beq (t.fld (refusalOffset 0x080)) (x.2 % 65536)) ∧
  (∀ s, s.mayReach (.core 0) 0x010 → s.isSet (ctrlEnable 0x010) = false → Completes (.enable 0x010) s fun t =>
    if s.seqHalted then t = s
    else if s.fld Reg.SEQ.STATE.STATE = 6 then RefusedAt 0x010 (0x0406, 0x010) s t
    else if s.shd Reg.SEQ.TABLE_ADDR_LO.ADDR_LO % 256 ≠ 0 then RefusedAt 0x010 (0x0121, 0x108) s t
    else if s.isSet Reg.TIME.STATUS.ACQUIRED = false ∧ s.shd Reg.SEQ.BEAT_CFG.FREE_RUN ≠ 1 then RefusedAt 0x010 (0x0403, 0x010) s t
    else t.isSet (ctrlEnable 0x010) ∧ t.fld Reg.SEQ.STATE.STATE = 1 ∧ t.seq.loading.isSome ∧ t.seq.first ∧
      t.fld Reg.SEQ.BEAT_CFG.LEN = s.shd Reg.SEQ.BEAT_CFG.LEN ∧ t.fld Reg.SEQ.BEAT_CFG.FREE_RUN = s.shd Reg.SEQ.BEAT_CFG.FREE_RUN ∧
      (s.shd Reg.SEQ.BEAT_CFG.LEN ≠ s.fld Reg.SEQ.BEAT_CFG.LEN → t.seq.beat = t.now / t.L) ∧ Frame [.seq] [0x010] s t) ∧
  (∀ s page, (Instr.disable page).wf → (s.mayReach (.core 0) page = false ∨ (pageRun page).any (fun r => r.hasE) = false ∨ s.isSet (ctrlEnable page) = false) →
    Completes (.disable page) s fun t => t = s) ∧
  (∀ s, s.mayReach (.core 0) 0x080 → s.isSet (ctrlEnable 0x080) → Completes (.disable 0x080) s fun t =>
    t.isSet (ctrlEnable 0x080) = false ∧ t.fld Reg.RADIO.STATUS.RSTATE = 0 ∧ t.radio.cells = [] ∧ t.radio.reqs = [] ∧ t.radio.checking = none ∧
    t.demand = [] ∧ 0x080 ∉ t.pages.commits ∧ Frame [.radio, .demand] [0x080] s t) ∧
  (∀ s, s.mayReach (.core 0) 0x010 → s.isSet (ctrlEnable 0x010) → Completes (.disable 0x010) s fun t =>
    if s.seqHalted then t = s
    else if s.fld Reg.RADIO.STATUS.RSTATE ≠ 0 then RefusedAt 0x010 (0x0405, 0x010) s t
    else t.isSet (ctrlEnable 0x010) = false ∧ t.seq.loading = none ∧ t.seq.armed = none ∧ 0x010 ∉ t.pages.commits ∧
      t.fld Reg.SEQ.STATE.STATE = (if s.seq.active.isSome then 6 else 0) ∧
      t.seq.closeAt = (if s.seq.active.isSome then some (if s.fld Reg.SEQ.STATE.STATE = 3 then s.seq.next else (s.seq.beat / s.F + 1) * s.F) else none) ∧
      Frame [.seq, .power] (0x004 :: 0x010 :: diePages) s t) ∧
  (∀ s p, (Instr.disable (0x061 + p)).wf → p < 16 → s.mayReach (.core 0) (0x061 + p) → s.isSet (ctrlEnable (0x061 + p)) →
    Completes (.disable (0x061 + p)) s fun t => t.isSet (ctrlEnable (0x061 + p)) = false ∧ (∀ i ∈ portIfaces p, t.ifUp i = false) ∧
      ((portIfaces p).all (fun i => !s.ifUp i) → (∀ i ∈ s.slaveIface.toList, ifPort i ≠ p) → Frame [] [0x061 + p] s t)) ∧
  (∀ s, s.mayReach (.core 0) 0x0A0 → s.isSet (ctrlEnable 0x0A0) → Completes (.disable 0x0A0) s fun t =>
    t.isSet (ctrlEnable 0x0A0) = false ∧ 0x0A0 ∉ t.pages.commits ∧ SameFields [ctrlEnable 0x0A0] s t ∧ SameBut [.regs] s t) ∧
  (∀ s c, (Instr.disable (0x100 + c)).wf → c < 64 → s.mayReach (.core 0) (0x100 + c) → s.isSet (ctrlEnable (0x100 + c)) →
    Completes (.disable (0x100 + c)) s fun t =>
      if c < 2 ∨ (List.range 256).any (s.bound c) ∨ s.tablesName c then RefusedAt (0x100 + c) (0x04A1, 0x010) s t
      else t.isSet (ctrlEnable (0x100 + c)) = false ∧ t.cocoonState c = 3 ∧ t.isSet (Reg.COCOON.KEY_STATUS.VALID c) = false ∧
        Assoc.find (s.fld (Reg.COCOON.CFG.KEY_SLOT c)) t.keys = none ∧ (t.cocoon c).slots = [] ∧ (t.cocoon c).images = [] ∧
        (∀ r ∈ t.runs, r.cocoon ≠ c) ∧ (∀ y ∈ (t.cocoon c).segments, y.2.valid = false) ∧ Frame [.cocoons, .runs, .keys, .gddr] [0x100 + c] s t) ∧
  (∀ s page, (Instr.commit page).wf → (s.mayReach (.core 0) page = false ∨ (pageRun page).any (fun r => r.hasC) = false) →
    Completes (.commit page) s fun t => t = s) ∧
  (∀ s page, (Instr.commit page).wf → s.mayReach (.core 0) page → (pageRun page).any (fun r => r.hasC && r.hasE) → s.isSet (ctrlEnable page) = false →
    (page = 0x010 → s.seqHalted = false) → Completes (.commit page) s fun t => RefusedAt page (0x0421, 0x010) s t) ∧
  (∀ s page, (Instr.commit page).wf → boundaryPages.contains page → s.mayReach (.core 0) page → ((pageRun page).any (fun r => r.hasE) → s.isSet (ctrlEnable page)) →
    Completes (.commit page) s fun t =>
      (page ∈ s.pages.commits → RefusedAt page (0x0422, 0x010) s t ∧ t.pages.commits = s.pages.commits) ∧
      (page ∉ s.pages.commits → t.pages.commits = page :: s.pages.commits ∧ t.pages.file = s.pages.file ∧ SameBut [.regs] s t)) ∧
  (∀ s, s.mayReach (.core 0) 0x080 → s.isSet (ctrlEnable 0x080) → Completes (.commit 0x080) s fun t =>
    if s.radio.checking.isSome ∨ s.radio.next.isSome then RefusedAt 0x080 (0x0471, 0x010) s t
    else if s.checkRadio = none then (t.radio.checking.any fun x => !x.2.2) ∧ t.radio.taken = s.pages.file.shadow ∧
      t.pages.commits = 0x080 :: s.pages.commits ∧ t.pages.file = s.pages.file ∧ SameBut [.regs, .radio] s t
    else s.checkRadio.any fun x => Nat.beq (t.fld (refusalReason 0x080)) (x.1 % 65536) && Nat.beq (t.fld (refusalOffset 0x080)) (x.2 % 65536)) ∧
  (∀ s a, s.mayReach (.core 0) 0x060 → s.shd2 Reg.FH.RU_TBL_LO.ADDR_LO Reg.FH.RU_TBL_HI.ADDR_HI = a → Completes (.commit 0x060) s fun t =>
    if s.fh.ruNext.isSome then RefusedAt 0x060 (0x0481, 0x010) s t
    else if a % 256 ≠ 0 then RefusedAt 0x060 (0x0121, 0x100) s t
    else if s.shd Reg.FH.MAX_FRAME.BYTES < 1518 ∨ 9216 < s.shd Reg.FH.MAX_FRAME.BYTES then RefusedAt 0x060 (0x0180, 0x108) s t
    else if s.ruReason a (s.ruImage a) = none then t.fh.ruNext = some (s.frameAfter, s.ruImage a) ∧ t.isSet Reg.FH.STATUS.RU_PENDING ∧
      t.fld (refusalReason 0x060) = 0 ∧ t.fh.ru = s.fh.ru ∧ Frame [.fh] [0x060] s t
    else (s.ruReason a (s.ruImage a)).any fun r => Nat.beq (t.fld (refusalReason 0x060)) (r % 65536)) ∧
  (∀ s p, (Instr.commit (0x061 + p)).wf → p < 16 → s.mayReach (.core 0) (0x061 + p) → s.isSet (ctrlEnable (0x061 + p)) →
    Completes (.commit (0x061 + p)) s fun t =>
      (s.checkPort p true = none → t.fld (refusalReason (0x061 + p)) = 0 ∧ (∀ i ∈ portIfaces p, s.ifExists i →
        (t.iface i).sched.next = some (s.shpImage (s.shd2 (Reg.FH_PORT.SCHED_LO.ADDR p) (Reg.FH_PORT.SCHED_HI.ADDR p))) ∧
          (t.iface i).sched.image = (s.iface i).sched.image) ∧ Frame [.fh] [0x061 + p] s t) ∧
      (∀ x ∈ (s.checkPort p true).toList, RefusedAt (0x061 + p) x s t)) ∧
  (∀ s a, s.mayReach (.core 0) 0x0C0 → s.shd2 Reg.SILK.FAB_ADDR_LO.ADDR Reg.SILK.FAB_ADDR_HI.ADDR = a → Completes (.commit 0x0C0) s fun t =>
    if (Assoc.find 0x0C0 s.pages.taken).isSome then RefusedAt 0x0C0 (0x04C1, 0x010) s t
    else if a % 256 ≠ 0 then RefusedAt 0x0C0 (0x0121, 0x808) s t
    else if s.shd Reg.SILK.DEAD_US.US < 10 ∨ 10000 < s.shd Reg.SILK.DEAD_US.US then RefusedAt 0x0C0 (0x01C0, 0x804) s t
    else if s.shd Reg.SILK.DEVICE_ID.ID ≠ s.deviceId ∧ (List.range 64).any fun l => [2, 3, 4].contains (s.linkState l) then RefusedAt 0x0C0 (0x04C0, 0x800) s t
    else if s.noFibre 0 then RefusedAt 0x0C0 (0x08C0, 0x100) s t
    else if s.fabricReason a (s.fabImage a) = none then t.silk.next = some (s.fabImage a) ∧ t.isSet Reg.SILK.FAB_STATUS.PENDING ∧
      t.silk.fabric = s.silk.fabric ∧ t.deviceId = s.deviceId ∧ t.fld (refusalReason 0x0C0) = 0 ∧ Frame [.silk] [0x0C0] s t
    else (s.fabricReason a (s.fabImage a)).any fun r => Nat.beq (t.fld (refusalReason 0x0C0)) (r % 65536)) ∧
  (∀ s, s.mayReach (.core 0) 0x010 → s.isSet (ctrlEnable 0x010) → [1, 2, 3, 5].contains (s.fld Reg.SEQ.STATE.STATE) = false → Completes (.commit 0x010) s fun t =>
    if s.shd Reg.SEQ.TABLE_ADDR_LO.ADDR_LO % 256 ≠ 0 then RefusedAt 0x010 (0x0121, 0x108) s t
    else if s.shd Reg.SEQ.BEAT_CFG.LEN ≠ s.fld Reg.SEQ.BEAT_CFG.LEN then RefusedAt 0x010 (0x0404, 0x100) s t
    else t.fld Reg.SEQ.STATE.STATE = 1 ∧ t.seq.loading.isSome ∧ t.seq.first = false ∧ t.seq.active = s.seq.active ∧ 0x010 ∈ t.pages.commits ∧
      Frame [.seq] [0x010] s t) ∧
  (∀ s page, (Instr.blockReset page).wf → ([0x008, 0x010, 0x041, 0x060].contains page ∨ 0x048 ≤ page ∧ page < 0x058 ∨ 0x061 ≤ page ∧ page ≤ 0x070) →
    s.mayReach (.core 0) page → s.isSet (ctrlEnable page) = false → (page = 0x010 → s.seqHalted = false) → Completes (.blockReset page) s fun t =>
      AtReset page t ∧ t.fld (errWord page) = 0 ∧ OnlyPages [page] s t) ∧
  (∀ s page, (Instr.blockReset page).wf → (page = 0x009 ∨ page = 0x080 ∧ s.isSet (ctrlEnable 0x080) = false) → s.mayReach (.core 0) page →
    Completes (.blockReset page) s fun t => AtReset page t ∧ t.fld (errWord page) = 0 ∧ t.radio.checking = (if page = 0x080 then none else s.radio.checking) ∧
      SameBut [.regs, .pod, .radio] s t) ∧
  (∀ s, s.mayReach (.core 0) 0x040 → s.timeBusy = false → Completes (.blockReset 0x040) s fun t =>
    ((pageFlds 0x040).all fun x => !(x.2.acc == .rws) || ((resetOf x.1).all fun v => Nat.beq (t.fld x.1) (v % 2 ^ x.1.w))) ∧ 0x040 ∉ t.pages.commits ∧ t.slaveIface = none) ∧
  (∀ s, s.mayReach (.core 0) 0x040 → s.timeBusy → Completes (.blockReset 0x040) s fun t => RefusedAt 0x040 (0x0490, 0x010) s t) ∧
  (∀ s l, (Instr.blockReset (0x0C0 + l)).wf → l < 64 → s.mayReach (.core 0) (0x0C0 + l) → Completes (.blockReset (0x0C0 + l)) s fun t =>
    AtReset (0x0C0 + l) t ∧ (s.isSet (Reg.SILK_LINK.CFG.EN l) → [1, 2, 3, 4].contains (s.linkState l) → s.noEngine l = false → t.linkState l = 0) ∧
    (s.isSet (Reg.SILK_LINK.CFG.EN l) = false → t.fld (errWord (0x0C0 + l)) = 0 ∧ OnlyPages [0x0C0 + l] s t)) ∧
  (∀ s page, (Instr.blockReset page).wf → ([0x010, 0x080].contains page ∨ 0x061 ≤ page ∧ page ≤ 0x070) → s.mayReach (.core 0) page →
    s.isSet (ctrlEnable page) → (page = 0x010 → s.seqHalted = false) → Completes (.blockReset page) s fun t => RefusedAt page (0x0420, 0x010) s t) ∧
  (∀ s page, (Instr.blockReset page).wf → (s.mayReach (.core 0) page = false ∨ (pageRun page).any (fun r => r.hasB) = false ∨ page = 0x010 ∧ s.seqHalted) →
    Completes (.blockReset page) s fun t => t = s) ∧
  (∀ s page w, (Instr.errWrite page w).wf → (pageRun page).isSome → s.mayReach (.core 0) page → Completes (.errWrite page w) s fun t =>
    (∀ b, b < 32 → (t.fld (errWord page)).testBit b = ((s.fld (errWord page)).testBit b && !w.toNat.testBit b)) ∧
    (t.fld (errWord page) = 0 → t.isSet (errFirstValid page) = false) ∧
    SameFields [errWord page, errFirstBit page, errFirstValid page, errTime page] s t ∧ SameBut [.regs] s t) ∧
  (∀ s page w, (Instr.errWrite page w).wf → (pageRun page = none ∨ s.mayReach (.core 0) page = false) → Completes (.errWrite page w) s fun t => t = s) ∧
  (∀ s who page w, (Instr.regWr who page 0x020 w).wf → (pageRun page).isSome → s.mayReach who page → s.mayReach (.core 0) page →
    exec (.regWr who page 0x020 w) s = exec (.errWrite page w) s) ∧
  (∀ s who page w r change c b, (Instr.regWr who page 0x010 w).wf → pageRun page = some r → s.mayReach who page → s.mayReach (.core 0) page →
    (page = 0x010 → s.seqHalted = false) → ctrlAsks r (s.isSet (ctrlEnable page)) w = (change, c, b) → Completes (.regWr who page 0x010 w) s fun t =>
      ((b ∧ (c ∨ change)) ∨ (c ∧ change ∧ s.isSet (ctrlEnable page)) → RefusedAt page (0x0423, 0x010) s t) ∧
      (change → b = false → s.isSet (ctrlEnable page) = false → exec (.regWr who page 0x010 w) s = exec (.enable page) s) ∧
      (change → b = false → c = false → s.isSet (ctrlEnable page) → exec (.regWr who page 0x010 w) s = exec (.disable page) s) ∧
      (change = false → c → b = false → exec (.regWr who page 0x010 w) s = exec (.commit page) s) ∧
      (change = false → c = false → b → exec (.regWr who page 0x010 w) s = exec (.blockReset page) s) ∧
      (change = false → c = false → b = false → t = s)) ∧
  (∀ s who page w, (Instr.regWr who page 0x024 w).wf → (pageRun page).isSome → s.mayReach who page → Completes (.regWr who page 0x024 w) s fun t =>
    t.fld (errMask page) = w.toNat ∧ SameFields [errMask page] s t ∧ SameBut [.regs] s t) ∧
  (∀ s who page w, (Instr.regWr who page 0x030 w).wf → (pageRun page).isSome → s.mayReach who page → (isFnPage page = false ∨ managesPages who) →
    Completes (.regWr who page 0x030 w) s fun t => t.fld (signalVec page) = w.toNat % 4096 ∧ t.fld (signalEn page) = w.toNat / 2 ^ 31 ∧
      SameFields [signalVec page, signalEn page] s t ∧ SameBut [.regs] s t) ∧
  (∀ s who page off w, (Instr.regWr who page off w).wf → s.mayReach who page → off % 4 = 0 → off < 0x100 →
    ([0x010, 0x020, 0x024, 0x030].contains off = false ∨ off = 0x030 ∧ isFnPage page ∧ managesPages who = false) →
    Completes (.regWr who page off w) s fun t => t = s)

/-- The step law: a step takes the command at the front of the queue and answers what exec answers on the rest; with nothing waiting 8 ns pass (the
model's choice, log entry 2), and one transaction may leave on the host link. -/
def Obligations.step_takes_commands_in_order : Prop :=
  (∀ s c rest, s.pending = c :: rest → step s = exec c { s with pending := rest }) ∧
  (∀ s, s.pending = [] → ∃ t, step s = .next t ∧ t.pending = [] ∧ t.time.t = s.time.t + 8 * 65536 ∧ t.time.res = s.time.res + 8 * 65536 ∧
    (s.linkUp = false → SameBut [.time] s t) ∧ SameFields [] s t ∧ Frame [.time, .fns] [] s t)

/-- No command stops the block: every one answers a next state, in every state. -/
def Obligations.every_command_answers_a_next_state : Prop :=
  ∀ c s, ∃ t, exec c s = .next t

/-- What reset leaves: every field at its table's reset value, instar 0, the sequencer disabled, no device time, memory with nothing listed and in its
canonical form, the queue empty. That a byte nothing has written reads 0 is the model's choice (log entry 9), and so are the values of the fields that
start-up sets (log entry 4). -/
def Obligations.reset_leaves_the_tables_values : Prop :=
  (∀ f v, resetOf f = some v → State.reset.fld f = v % 2 ^ f.w) ∧
  State.reset.fld Reg.BOOT.STATE.INSTAR = 0 ∧
  State.reset.fld Reg.SEQ.STATE.STATE = 0 ∧
  State.reset.fld Reg.STAIDO.STATE.STATE = 0 ∧
  State.reset.now = 0 ∧
  State.reset.seq.beat = 0 ∧
  State.reset.mem.cells = [] ∧
  State.reset.sram = [] ∧
  State.reset.poison = [] ∧
  (∀ a, 0x004000000000 ≤ a → State.reset.mem.readByte a = 0) ∧
  State.reset.pending = [] ∧
  State.reset.sound

/-- Every step keeps memory in its canonical form: addresses strictly rising, nothing listed that an unlisted address reads as. -/
def Obligations.every_step_keeps_memory_canonical : Prop :=
  ∀ s t, s.sound → step s = .next t → t.sound

/-- No command touches the queue of waiting commands, and nothing that has left the part comes back. -/
def Obligations.commands_leave_the_queue_alone : Prop :=
  ∀ c s t, exec c s = .next t → t.pending = s.pending ∧ ∃ l, t.out = s.out ++ l

/-- R43: the table of beat lengths. -/
def Obligations.beat_length_table : Prop :=
  ∀ s : State, (s.fld Reg.SEQ.BEAT_CFG.LEN = 0 → s.L = 62500 ∧ s.F = 160 ∧ 1000000 / s.L = 16) ∧
    (s.fld Reg.SEQ.BEAT_CFG.LEN = 1 → s.L = 125000 ∧ s.F = 80 ∧ 1000000 / s.L = 8) ∧
    (s.fld Reg.SEQ.BEAT_CFG.LEN = 2 → s.L = 250000 ∧ s.F = 40 ∧ 1000000 / s.L = 4) ∧
    (s.fld Reg.SEQ.BEAT_CFG.LEN = 3 → s.L = 500000 ∧ s.F = 20 ∧ 1000000 / s.L = 2) ∧
    s.fld Reg.SEQ.BEAT_CFG.LEN < 4 ∧ s.L * s.F = 10000000

/-- R246: the counted length of a frame: its bytes and OVERHEAD, a signed value, at least 1; OVERHEAD resets to 20. -/
def Obligations.counted_length_of_a_frame : Prop :=
  (∀ (s : State) (p len : Nat), -32 ≤ s.overhead p → s.overhead p ≤ 255 ∧
    ((counted len (s.overhead p) : Int) = if (len : Int) + s.overhead p < 1 then 1 else len + s.overhead p)) ∧
  (∀ p, p < 16 → State.reset.overhead p = 20)

/-- R416: the self-score: 255 less the penalties, 0 if negative. -/
def Obligations.self_score_and_its_penalties : Prop :=
  ∀ s : State, (s.selfScore : Int) = max 0 (255 - (if s.fatal.isSome then 255 else 0) -
    48 * ((List.range 24).filter fun c => Nat.beq (s.fld (Reg.MEM_CH.STATE.STATE c)) 4).length -
    8 * ((List.range 64).filter fun l => Nat.beq (s.fld (Reg.SILK_LINK.STATE.STATE l)) 5).length - s.fld Reg.POD.SELF.PENALTY)

/-- R487: a reserved offset and a page that is not implemented read 0 and ignore writes, without an error. -/
def Obligations.reserved_words_read_zero : Prop :=
  (∀ s who page off, (Instr.regRd who page off).wf → s.mayReach who page → off % 4 = 0 → reservedWord page off →
    Completes (.regRd who page off) s fun t => t.out = s.out ++ [.regData who 0] ∧ SameFields [] s t ∧ SameBut [.signals] s t) ∧
  (∀ s who page off w, (Instr.regWr who page off w).wf → s.mayReach who page → off % 4 = 0 → reservedWord page off →
    Completes (.regWr who page off w) s fun t => t = s)

/-- R56: COMMIT is refused while a table is loading, armed or draining; CANCEL acts by the state. In HALTED neither does anything (R75). -/
def Obligations.commit_and_cancel_by_state : Prop :=
  (∀ s, [1, 2, 3].contains (s.fld Reg.SEQ.STATE.STATE) → s.isSet (ctrlEnable 0x010) → s.mayReach (.core 0) 0x010 → Completes (.commit 0x010) s fun t =>
    Refused t 0x010 0x0401 ∧ t.seq = s.seq ∧ t.fld Reg.SEQ.STATE.STATE = s.fld Reg.SEQ.STATE.STATE ∧ Frame [] [0x010] s t) ∧
  (∀ s, s.seqHalted → Completes (.commit 0x010) s fun t => t = s) ∧
  (∀ s, s.fld Reg.SEQ.STATE.STATE = 1 → Completes .cancel s fun t =>
    t.seq.loading = none ∧ t.seq.armed = none ∧ t.seq.active = s.seq.active ∧ t.fld Reg.SEQ.STATE.STATE = (if s.seq.first then 0 else 4) ∧
    (s.seq.first → t.isSet (ctrlEnable 0x010) = false) ∧ Frame [.seq] [0x010] s t) ∧
  (∀ s tb, s.fld Reg.SEQ.STATE.STATE = 2 → s.seq.armed = some tb → s.seq.beat < s.seq.next - tb.preempt → Completes .cancel s fun t =>
    t.seq.loading = none ∧ t.seq.armed = none ∧ t.seq.active = s.seq.active ∧ t.fld Reg.SEQ.STATE.STATE = (if s.seq.first then 0 else 4) ∧
    (s.seq.first → t.isSet (ctrlEnable 0x010) = false) ∧ Frame [.seq, .power] (0x004 :: 0x010 :: diePages) s t) ∧
  (∀ s tb, (s.fld Reg.SEQ.STATE.STATE = 2 ∧ s.seq.next - tb.preempt ≤ s.seq.beat ∨ s.fld Reg.SEQ.STATE.STATE = 3) → s.seq.armed = some tb →
    Completes .cancel s fun t => Refused t 0x010 0x0402 ∧ t.seq = s.seq ∧ t.fld Reg.SEQ.STATE.STATE = s.fld Reg.SEQ.STATE.STATE ∧
      Frame [] [0x010] s t) ∧
  (∀ s, [0, 4, 5, 6].contains (s.fld Reg.SEQ.STATE.STATE) → Completes .cancel s fun t => t = s)
end

