-- ==== Sys2Proof/Laws/State.lean ====
section
/-!
SUPPORT. The fields of the state after each of its updates, and register fields after a write: what later proofs rewrite with in place of unfolding
an update.
-/
namespace Sys2Proof.Machine

/-! ### withLive -/

@[simp] theorem State.withLive_pending (s : State) (m : Assoc Nat) : (s.withLive m).pending = s.pending := rfl
@[simp] theorem State.withLive_mem (s : State) (m : Assoc Nat) : (s.withLive m).mem = s.mem := rfl
@[simp] theorem State.withLive_sram (s : State) (m : Assoc Nat) : (s.withLive m).sram = s.sram := rfl
@[simp] theorem State.withLive_poison (s : State) (m : Assoc Nat) : (s.withLive m).poison = s.poison := rfl
@[simp] theorem State.withLive_poisonB (s : State) (m : Assoc Nat) : (s.withLive m).poisonB = s.poisonB := rfl
@[simp] theorem State.withLive_gddr (s : State) (m : Assoc Nat) : (s.withLive m).gddr = s.gddr := rfl
@[simp] theorem State.withLive_fh (s : State) (m : Assoc Nat) : (s.withLive m).fh = s.fh := rfl
@[simp] theorem State.withLive_radio (s : State) (m : Assoc Nat) : (s.withLive m).radio = s.radio := rfl
@[simp] theorem State.withLive_silk (s : State) (m : Assoc Nat) : (s.withLive m).silk = s.silk := rfl
@[simp] theorem State.withLive_pod (s : State) (m : Assoc Nat) : (s.withLive m).pod = s.pod := rfl
@[simp] theorem State.withLive_demand (s : State) (m : Assoc Nat) : (s.withLive m).demand = s.demand := rfl
@[simp] theorem State.withLive_crossings (s : State) (m : Assoc Nat) : (s.withLive m).crossings = s.crossings := rfl
@[simp] theorem State.withLive_time (s : State) (m : Assoc Nat) : (s.withLive m).time = s.time := rfl
@[simp] theorem State.withLive_seq (s : State) (m : Assoc Nat) : (s.withLive m).seq = s.seq := rfl
@[simp] theorem State.withLive_power (s : State) (m : Assoc Nat) : (s.withLive m).power = s.power := rfl
@[simp] theorem State.withLive_bbox (s : State) (m : Assoc Nat) : (s.withLive m).bbox = s.bbox := rfl
@[simp] theorem State.withLive_boot (s : State) (m : Assoc Nat) : (s.withLive m).boot = s.boot := rfl
@[simp] theorem State.withLive_staido (s : State) (m : Assoc Nat) : (s.withLive m).staido = s.staido := rfl
@[simp] theorem State.withLive_fns (s : State) (m : Assoc Nat) : (s.withLive m).fns = s.fns := rfl
@[simp] theorem State.withLive_cocoons (s : State) (m : Assoc Nat) : (s.withLive m).cocoons = s.cocoons := rfl
@[simp] theorem State.withLive_keys (s : State) (m : Assoc Nat) : (s.withLive m).keys = s.keys := rfl
@[simp] theorem State.withLive_runs (s : State) (m : Assoc Nat) : (s.withLive m).runs = s.runs := rfl
@[simp] theorem State.withLive_nextRun (s : State) (m : Assoc Nat) : (s.withLive m).nextRun = s.nextRun := rfl
@[simp] theorem State.withLive_waits (s : State) (m : Assoc Nat) : (s.withLive m).waits = s.waits := rfl
@[simp] theorem State.withLive_cores (s : State) (m : Assoc Nat) : (s.withLive m).cores = s.cores := rfl
@[simp] theorem State.withLive_posts (s : State) (m : Assoc Nat) : (s.withLive m).posts = s.posts := rfl
@[simp] theorem State.withLive_mesh (s : State) (m : Assoc Nat) : (s.withLive m).mesh = s.mesh := rfl
@[simp] theorem State.withLive_fatal (s : State) (m : Assoc Nat) : (s.withLive m).fatal = s.fatal := rfl
@[simp] theorem State.withLive_thermTrip (s : State) (m : Assoc Nat) : (s.withLive m).thermTrip = s.thermTrip := rfl
@[simp] theorem State.withLive_trst (s : State) (m : Assoc Nat) : (s.withLive m).trst = s.trst := rfl
@[simp] theorem State.withLive_out (s : State) (m : Assoc Nat) : (s.withLive m).out = s.out := rfl
@[simp] theorem State.withLive_draws (s : State) (m : Assoc Nat) : (s.withLive m).draws = s.draws := rfl

/-! ### withShadow -/

@[simp] theorem State.withShadow_pending (s : State) (m : Assoc Nat) : (s.withShadow m).pending = s.pending := rfl
@[simp] theorem State.withShadow_mem (s : State) (m : Assoc Nat) : (s.withShadow m).mem = s.mem := rfl
@[simp] theorem State.withShadow_sram (s : State) (m : Assoc Nat) : (s.withShadow m).sram = s.sram := rfl
@[simp] theorem State.withShadow_poison (s : State) (m : Assoc Nat) : (s.withShadow m).poison = s.poison := rfl
@[simp] theorem State.withShadow_poisonB (s : State) (m : Assoc Nat) : (s.withShadow m).poisonB = s.poisonB := rfl
@[simp] theorem State.withShadow_gddr (s : State) (m : Assoc Nat) : (s.withShadow m).gddr = s.gddr := rfl
@[simp] theorem State.withShadow_fh (s : State) (m : Assoc Nat) : (s.withShadow m).fh = s.fh := rfl
@[simp] theorem State.withShadow_radio (s : State) (m : Assoc Nat) : (s.withShadow m).radio = s.radio := rfl
@[simp] theorem State.withShadow_silk (s : State) (m : Assoc Nat) : (s.withShadow m).silk = s.silk := rfl
@[simp] theorem State.withShadow_pod (s : State) (m : Assoc Nat) : (s.withShadow m).pod = s.pod := rfl
@[simp] theorem State.withShadow_demand (s : State) (m : Assoc Nat) : (s.withShadow m).demand = s.demand := rfl
@[simp] theorem State.withShadow_crossings (s : State) (m : Assoc Nat) : (s.withShadow m).crossings = s.crossings := rfl
@[simp] theorem State.withShadow_time (s : State) (m : Assoc Nat) : (s.withShadow m).time = s.time := rfl
@[simp] theorem State.withShadow_seq (s : State) (m : Assoc Nat) : (s.withShadow m).seq = s.seq := rfl
@[simp] theorem State.withShadow_power (s : State) (m : Assoc Nat) : (s.withShadow m).power = s.power := rfl
@[simp] theorem State.withShadow_bbox (s : State) (m : Assoc Nat) : (s.withShadow m).bbox = s.bbox := rfl
@[simp] theorem State.withShadow_boot (s : State) (m : Assoc Nat) : (s.withShadow m).boot = s.boot := rfl
@[simp] theorem State.withShadow_staido (s : State) (m : Assoc Nat) : (s.withShadow m).staido = s.staido := rfl
@[simp] theorem State.withShadow_fns (s : State) (m : Assoc Nat) : (s.withShadow m).fns = s.fns := rfl
@[simp] theorem State.withShadow_cocoons (s : State) (m : Assoc Nat) : (s.withShadow m).cocoons = s.cocoons := rfl
@[simp] theorem State.withShadow_keys (s : State) (m : Assoc Nat) : (s.withShadow m).keys = s.keys := rfl
@[simp] theorem State.withShadow_runs (s : State) (m : Assoc Nat) : (s.withShadow m).runs = s.runs := rfl
@[simp] theorem State.withShadow_nextRun (s : State) (m : Assoc Nat) : (s.withShadow m).nextRun = s.nextRun := rfl
@[simp] theorem State.withShadow_waits (s : State) (m : Assoc Nat) : (s.withShadow m).waits = s.waits := rfl
@[simp] theorem State.withShadow_cores (s : State) (m : Assoc Nat) : (s.withShadow m).cores = s.cores := rfl
@[simp] theorem State.withShadow_posts (s : State) (m : Assoc Nat) : (s.withShadow m).posts = s.posts := rfl
@[simp] theorem State.withShadow_mesh (s : State) (m : Assoc Nat) : (s.withShadow m).mesh = s.mesh := rfl
@[simp] theorem State.withShadow_fatal (s : State) (m : Assoc Nat) : (s.withShadow m).fatal = s.fatal := rfl
@[simp] theorem State.withShadow_thermTrip (s : State) (m : Assoc Nat) : (s.withShadow m).thermTrip = s.thermTrip := rfl
@[simp] theorem State.withShadow_trst (s : State) (m : Assoc Nat) : (s.withShadow m).trst = s.trst := rfl
@[simp] theorem State.withShadow_out (s : State) (m : Assoc Nat) : (s.withShadow m).out = s.out := rfl
@[simp] theorem State.withShadow_draws (s : State) (m : Assoc Nat) : (s.withShadow m).draws = s.draws := rfl

/-! ### setFld -/

@[simp] theorem State.setFld_pending (s : State) (f : Fld) (v : Nat) : (s.setFld f v).pending = s.pending := rfl
@[simp] theorem State.setFld_mem (s : State) (f : Fld) (v : Nat) : (s.setFld f v).mem = s.mem := rfl
@[simp] theorem State.setFld_sram (s : State) (f : Fld) (v : Nat) : (s.setFld f v).sram = s.sram := rfl
@[simp] theorem State.setFld_poison (s : State) (f : Fld) (v : Nat) : (s.setFld f v).poison = s.poison := rfl
@[simp] theorem State.setFld_poisonB (s : State) (f : Fld) (v : Nat) : (s.setFld f v).poisonB = s.poisonB := rfl
@[simp] theorem State.setFld_gddr (s : State) (f : Fld) (v : Nat) : (s.setFld f v).gddr = s.gddr := rfl
@[simp] theorem State.setFld_fh (s : State) (f : Fld) (v : Nat) : (s.setFld f v).fh = s.fh := rfl
@[simp] theorem State.setFld_radio (s : State) (f : Fld) (v : Nat) : (s.setFld f v).radio = s.radio := rfl
@[simp] theorem State.setFld_silk (s : State) (f : Fld) (v : Nat) : (s.setFld f v).silk = s.silk := rfl
@[simp] theorem State.setFld_pod (s : State) (f : Fld) (v : Nat) : (s.setFld f v).pod = s.pod := rfl
@[simp] theorem State.setFld_demand (s : State) (f : Fld) (v : Nat) : (s.setFld f v).demand = s.demand := rfl
@[simp] theorem State.setFld_crossings (s : State) (f : Fld) (v : Nat) : (s.setFld f v).crossings = s.crossings := rfl
@[simp] theorem State.setFld_time (s : State) (f : Fld) (v : Nat) : (s.setFld f v).time = s.time := rfl
@[simp] theorem State.setFld_seq (s : State) (f : Fld) (v : Nat) : (s.setFld f v).seq = s.seq := rfl
@[simp] theorem State.setFld_power (s : State) (f : Fld) (v : Nat) : (s.setFld f v).power = s.power := rfl
@[simp] theorem State.setFld_bbox (s : State) (f : Fld) (v : Nat) : (s.setFld f v).bbox = s.bbox := rfl
@[simp] theorem State.setFld_boot (s : State) (f : Fld) (v : Nat) : (s.setFld f v).boot = s.boot := rfl
@[simp] theorem State.setFld_staido (s : State) (f : Fld) (v : Nat) : (s.setFld f v).staido = s.staido := rfl
@[simp] theorem State.setFld_fns (s : State) (f : Fld) (v : Nat) : (s.setFld f v).fns = s.fns := rfl
@[simp] theorem State.setFld_cocoons (s : State) (f : Fld) (v : Nat) : (s.setFld f v).cocoons = s.cocoons := rfl
@[simp] theorem State.setFld_keys (s : State) (f : Fld) (v : Nat) : (s.setFld f v).keys = s.keys := rfl
@[simp] theorem State.setFld_runs (s : State) (f : Fld) (v : Nat) : (s.setFld f v).runs = s.runs := rfl
@[simp] theorem State.setFld_nextRun (s : State) (f : Fld) (v : Nat) : (s.setFld f v).nextRun = s.nextRun := rfl
@[simp] theorem State.setFld_waits (s : State) (f : Fld) (v : Nat) : (s.setFld f v).waits = s.waits := rfl
@[simp] theorem State.setFld_cores (s : State) (f : Fld) (v : Nat) : (s.setFld f v).cores = s.cores := rfl
@[simp] theorem State.setFld_posts (s : State) (f : Fld) (v : Nat) : (s.setFld f v).posts = s.posts := rfl
@[simp] theorem State.setFld_mesh (s : State) (f : Fld) (v : Nat) : (s.setFld f v).mesh = s.mesh := rfl
@[simp] theorem State.setFld_fatal (s : State) (f : Fld) (v : Nat) : (s.setFld f v).fatal = s.fatal := rfl
@[simp] theorem State.setFld_thermTrip (s : State) (f : Fld) (v : Nat) : (s.setFld f v).thermTrip = s.thermTrip := rfl
@[simp] theorem State.setFld_trst (s : State) (f : Fld) (v : Nat) : (s.setFld f v).trst = s.trst := rfl
@[simp] theorem State.setFld_out (s : State) (f : Fld) (v : Nat) : (s.setFld f v).out = s.out := rfl
@[simp] theorem State.setFld_draws (s : State) (f : Fld) (v : Nat) : (s.setFld f v).draws = s.draws := rfl

/-! ### setShd -/

@[simp] theorem State.setShd_pending (s : State) (f : Fld) (v : Nat) : (s.setShd f v).pending = s.pending := rfl
@[simp] theorem State.setShd_mem (s : State) (f : Fld) (v : Nat) : (s.setShd f v).mem = s.mem := rfl
@[simp] theorem State.setShd_sram (s : State) (f : Fld) (v : Nat) : (s.setShd f v).sram = s.sram := rfl
@[simp] theorem State.setShd_poison (s : State) (f : Fld) (v : Nat) : (s.setShd f v).poison = s.poison := rfl
@[simp] theorem State.setShd_poisonB (s : State) (f : Fld) (v : Nat) : (s.setShd f v).poisonB = s.poisonB := rfl
@[simp] theorem State.setShd_gddr (s : State) (f : Fld) (v : Nat) : (s.setShd f v).gddr = s.gddr := rfl
@[simp] theorem State.setShd_fh (s : State) (f : Fld) (v : Nat) : (s.setShd f v).fh = s.fh := rfl
@[simp] theorem State.setShd_radio (s : State) (f : Fld) (v : Nat) : (s.setShd f v).radio = s.radio := rfl
@[simp] theorem State.setShd_silk (s : State) (f : Fld) (v : Nat) : (s.setShd f v).silk = s.silk := rfl
@[simp] theorem State.setShd_pod (s : State) (f : Fld) (v : Nat) : (s.setShd f v).pod = s.pod := rfl
@[simp] theorem State.setShd_demand (s : State) (f : Fld) (v : Nat) : (s.setShd f v).demand = s.demand := rfl
@[simp] theorem State.setShd_crossings (s : State) (f : Fld) (v : Nat) : (s.setShd f v).crossings = s.crossings := rfl
@[simp] theorem State.setShd_time (s : State) (f : Fld) (v : Nat) : (s.setShd f v).time = s.time := rfl
@[simp] theorem State.setShd_seq (s : State) (f : Fld) (v : Nat) : (s.setShd f v).seq = s.seq := rfl
@[simp] theorem State.setShd_power (s : State) (f : Fld) (v : Nat) : (s.setShd f v).power = s.power := rfl
@[simp] theorem State.setShd_bbox (s : State) (f : Fld) (v : Nat) : (s.setShd f v).bbox = s.bbox := rfl
@[simp] theorem State.setShd_boot (s : State) (f : Fld) (v : Nat) : (s.setShd f v).boot = s.boot := rfl
@[simp] theorem State.setShd_staido (s : State) (f : Fld) (v : Nat) : (s.setShd f v).staido = s.staido := rfl
@[simp] theorem State.setShd_fns (s : State) (f : Fld) (v : Nat) : (s.setShd f v).fns = s.fns := rfl
@[simp] theorem State.setShd_cocoons (s : State) (f : Fld) (v : Nat) : (s.setShd f v).cocoons = s.cocoons := rfl
@[simp] theorem State.setShd_keys (s : State) (f : Fld) (v : Nat) : (s.setShd f v).keys = s.keys := rfl
@[simp] theorem State.setShd_runs (s : State) (f : Fld) (v : Nat) : (s.setShd f v).runs = s.runs := rfl
@[simp] theorem State.setShd_nextRun (s : State) (f : Fld) (v : Nat) : (s.setShd f v).nextRun = s.nextRun := rfl
@[simp] theorem State.setShd_waits (s : State) (f : Fld) (v : Nat) : (s.setShd f v).waits = s.waits := rfl
@[simp] theorem State.setShd_cores (s : State) (f : Fld) (v : Nat) : (s.setShd f v).cores = s.cores := rfl
@[simp] theorem State.setShd_posts (s : State) (f : Fld) (v : Nat) : (s.setShd f v).posts = s.posts := rfl
@[simp] theorem State.setShd_mesh (s : State) (f : Fld) (v : Nat) : (s.setShd f v).mesh = s.mesh := rfl
@[simp] theorem State.setShd_fatal (s : State) (f : Fld) (v : Nat) : (s.setShd f v).fatal = s.fatal := rfl
@[simp] theorem State.setShd_thermTrip (s : State) (f : Fld) (v : Nat) : (s.setShd f v).thermTrip = s.thermTrip := rfl
@[simp] theorem State.setShd_trst (s : State) (f : Fld) (v : Nat) : (s.setShd f v).trst = s.trst := rfl
@[simp] theorem State.setShd_out (s : State) (f : Fld) (v : Nat) : (s.setShd f v).out = s.out := rfl
@[simp] theorem State.setShd_draws (s : State) (f : Fld) (v : Nat) : (s.setShd f v).draws = s.draws := rfl

/-! ### resetFld -/

@[simp] theorem State.resetFld_pending (s : State) (f : Fld) : (s.resetFld f).pending = s.pending := rfl
@[simp] theorem State.resetFld_mem (s : State) (f : Fld) : (s.resetFld f).mem = s.mem := rfl
@[simp] theorem State.resetFld_sram (s : State) (f : Fld) : (s.resetFld f).sram = s.sram := rfl
@[simp] theorem State.resetFld_poison (s : State) (f : Fld) : (s.resetFld f).poison = s.poison := rfl
@[simp] theorem State.resetFld_poisonB (s : State) (f : Fld) : (s.resetFld f).poisonB = s.poisonB := rfl
@[simp] theorem State.resetFld_gddr (s : State) (f : Fld) : (s.resetFld f).gddr = s.gddr := rfl
@[simp] theorem State.resetFld_fh (s : State) (f : Fld) : (s.resetFld f).fh = s.fh := rfl
@[simp] theorem State.resetFld_radio (s : State) (f : Fld) : (s.resetFld f).radio = s.radio := rfl
@[simp] theorem State.resetFld_silk (s : State) (f : Fld) : (s.resetFld f).silk = s.silk := rfl
@[simp] theorem State.resetFld_pod (s : State) (f : Fld) : (s.resetFld f).pod = s.pod := rfl
@[simp] theorem State.resetFld_demand (s : State) (f : Fld) : (s.resetFld f).demand = s.demand := rfl
@[simp] theorem State.resetFld_crossings (s : State) (f : Fld) : (s.resetFld f).crossings = s.crossings := rfl
@[simp] theorem State.resetFld_time (s : State) (f : Fld) : (s.resetFld f).time = s.time := rfl
@[simp] theorem State.resetFld_seq (s : State) (f : Fld) : (s.resetFld f).seq = s.seq := rfl
@[simp] theorem State.resetFld_power (s : State) (f : Fld) : (s.resetFld f).power = s.power := rfl
@[simp] theorem State.resetFld_bbox (s : State) (f : Fld) : (s.resetFld f).bbox = s.bbox := rfl
@[simp] theorem State.resetFld_boot (s : State) (f : Fld) : (s.resetFld f).boot = s.boot := rfl
@[simp] theorem State.resetFld_staido (s : State) (f : Fld) : (s.resetFld f).staido = s.staido := rfl
@[simp] theorem State.resetFld_fns (s : State) (f : Fld) : (s.resetFld f).fns = s.fns := rfl
@[simp] theorem State.resetFld_cocoons (s : State) (f : Fld) : (s.resetFld f).cocoons = s.cocoons := rfl
@[simp] theorem State.resetFld_keys (s : State) (f : Fld) : (s.resetFld f).keys = s.keys := rfl
@[simp] theorem State.resetFld_runs (s : State) (f : Fld) : (s.resetFld f).runs = s.runs := rfl
@[simp] theorem State.resetFld_nextRun (s : State) (f : Fld) : (s.resetFld f).nextRun = s.nextRun := rfl
@[simp] theorem State.resetFld_waits (s : State) (f : Fld) : (s.resetFld f).waits = s.waits := rfl
@[simp] theorem State.resetFld_cores (s : State) (f : Fld) : (s.resetFld f).cores = s.cores := rfl
@[simp] theorem State.resetFld_posts (s : State) (f : Fld) : (s.resetFld f).posts = s.posts := rfl
@[simp] theorem State.resetFld_mesh (s : State) (f : Fld) : (s.resetFld f).mesh = s.mesh := rfl
@[simp] theorem State.resetFld_fatal (s : State) (f : Fld) : (s.resetFld f).fatal = s.fatal := rfl
@[simp] theorem State.resetFld_thermTrip (s : State) (f : Fld) : (s.resetFld f).thermTrip = s.thermTrip := rfl
@[simp] theorem State.resetFld_trst (s : State) (f : Fld) : (s.resetFld f).trst = s.trst := rfl
@[simp] theorem State.resetFld_out (s : State) (f : Fld) : (s.resetFld f).out = s.out := rfl
@[simp] theorem State.resetFld_draws (s : State) (f : Fld) : (s.resetFld f).draws = s.draws := rfl

/-! ### countMod -/

@[simp] theorem State.countMod_pending (s : State) (f : Fld) (n : Nat) : (s.countMod f n).pending = s.pending := rfl
@[simp] theorem State.countMod_mem (s : State) (f : Fld) (n : Nat) : (s.countMod f n).mem = s.mem := rfl
@[simp] theorem State.countMod_sram (s : State) (f : Fld) (n : Nat) : (s.countMod f n).sram = s.sram := rfl
@[simp] theorem State.countMod_poison (s : State) (f : Fld) (n : Nat) : (s.countMod f n).poison = s.poison := rfl
@[simp] theorem State.countMod_poisonB (s : State) (f : Fld) (n : Nat) : (s.countMod f n).poisonB = s.poisonB := rfl
@[simp] theorem State.countMod_gddr (s : State) (f : Fld) (n : Nat) : (s.countMod f n).gddr = s.gddr := rfl
@[simp] theorem State.countMod_fh (s : State) (f : Fld) (n : Nat) : (s.countMod f n).fh = s.fh := rfl
@[simp] theorem State.countMod_radio (s : State) (f : Fld) (n : Nat) : (s.countMod f n).radio = s.radio := rfl
@[simp] theorem State.countMod_silk (s : State) (f : Fld) (n : Nat) : (s.countMod f n).silk = s.silk := rfl
@[simp] theorem State.countMod_pod (s : State) (f : Fld) (n : Nat) : (s.countMod f n).pod = s.pod := rfl
@[simp] theorem State.countMod_demand (s : State) (f : Fld) (n : Nat) : (s.countMod f n).demand = s.demand := rfl
@[simp] theorem State.countMod_crossings (s : State) (f : Fld) (n : Nat) : (s.countMod f n).crossings = s.crossings := rfl
@[simp] theorem State.countMod_time (s : State) (f : Fld) (n : Nat) : (s.countMod f n).time = s.time := rfl
@[simp] theorem State.countMod_seq (s : State) (f : Fld) (n : Nat) : (s.countMod f n).seq = s.seq := rfl
@[simp] theorem State.countMod_power (s : State) (f : Fld) (n : Nat) : (s.countMod f n).power = s.power := rfl
@[simp] theorem State.countMod_bbox (s : State) (f : Fld) (n : Nat) : (s.countMod f n).bbox = s.bbox := rfl
@[simp] theorem State.countMod_boot (s : State) (f : Fld) (n : Nat) : (s.countMod f n).boot = s.boot := rfl
@[simp] theorem State.countMod_staido (s : State) (f : Fld) (n : Nat) : (s.countMod f n).staido = s.staido := rfl
@[simp] theorem State.countMod_fns (s : State) (f : Fld) (n : Nat) : (s.countMod f n).fns = s.fns := rfl
@[simp] theorem State.countMod_cocoons (s : State) (f : Fld) (n : Nat) : (s.countMod f n).cocoons = s.cocoons := rfl
@[simp] theorem State.countMod_keys (s : State) (f : Fld) (n : Nat) : (s.countMod f n).keys = s.keys := rfl
@[simp] theorem State.countMod_runs (s : State) (f : Fld) (n : Nat) : (s.countMod f n).runs = s.runs := rfl
@[simp] theorem State.countMod_nextRun (s : State) (f : Fld) (n : Nat) : (s.countMod f n).nextRun = s.nextRun := rfl
@[simp] theorem State.countMod_waits (s : State) (f : Fld) (n : Nat) : (s.countMod f n).waits = s.waits := rfl
@[simp] theorem State.countMod_cores (s : State) (f : Fld) (n : Nat) : (s.countMod f n).cores = s.cores := rfl
@[simp] theorem State.countMod_posts (s : State) (f : Fld) (n : Nat) : (s.countMod f n).posts = s.posts := rfl
@[simp] theorem State.countMod_mesh (s : State) (f : Fld) (n : Nat) : (s.countMod f n).mesh = s.mesh := rfl
@[simp] theorem State.countMod_fatal (s : State) (f : Fld) (n : Nat) : (s.countMod f n).fatal = s.fatal := rfl
@[simp] theorem State.countMod_thermTrip (s : State) (f : Fld) (n : Nat) : (s.countMod f n).thermTrip = s.thermTrip := rfl
@[simp] theorem State.countMod_trst (s : State) (f : Fld) (n : Nat) : (s.countMod f n).trst = s.trst := rfl
@[simp] theorem State.countMod_out (s : State) (f : Fld) (n : Nat) : (s.countMod f n).out = s.out := rfl
@[simp] theorem State.countMod_draws (s : State) (f : Fld) (n : Nat) : (s.countMod f n).draws = s.draws := rfl

/-! ### countSat -/

@[simp] theorem State.countSat_pending (s : State) (f : Fld) (n : Nat) : (s.countSat f n).pending = s.pending := rfl
@[simp] theorem State.countSat_mem (s : State) (f : Fld) (n : Nat) : (s.countSat f n).mem = s.mem := rfl
@[simp] theorem State.countSat_sram (s : State) (f : Fld) (n : Nat) : (s.countSat f n).sram = s.sram := rfl
@[simp] theorem State.countSat_poison (s : State) (f : Fld) (n : Nat) : (s.countSat f n).poison = s.poison := rfl
@[simp] theorem State.countSat_poisonB (s : State) (f : Fld) (n : Nat) : (s.countSat f n).poisonB = s.poisonB := rfl
@[simp] theorem State.countSat_gddr (s : State) (f : Fld) (n : Nat) : (s.countSat f n).gddr = s.gddr := rfl
@[simp] theorem State.countSat_fh (s : State) (f : Fld) (n : Nat) : (s.countSat f n).fh = s.fh := rfl
@[simp] theorem State.countSat_radio (s : State) (f : Fld) (n : Nat) : (s.countSat f n).radio = s.radio := rfl
@[simp] theorem State.countSat_silk (s : State) (f : Fld) (n : Nat) : (s.countSat f n).silk = s.silk := rfl
@[simp] theorem State.countSat_pod (s : State) (f : Fld) (n : Nat) : (s.countSat f n).pod = s.pod := rfl
@[simp] theorem State.countSat_demand (s : State) (f : Fld) (n : Nat) : (s.countSat f n).demand = s.demand := rfl
@[simp] theorem State.countSat_crossings (s : State) (f : Fld) (n : Nat) : (s.countSat f n).crossings = s.crossings := rfl
@[simp] theorem State.countSat_time (s : State) (f : Fld) (n : Nat) : (s.countSat f n).time = s.time := rfl
@[simp] theorem State.countSat_seq (s : State) (f : Fld) (n : Nat) : (s.countSat f n).seq = s.seq := rfl
@[simp] theorem State.countSat_power (s : State) (f : Fld) (n : Nat) : (s.countSat f n).power = s.power := rfl
@[simp] theorem State.countSat_bbox (s : State) (f : Fld) (n : Nat) : (s.countSat f n).bbox = s.bbox := rfl
@[simp] theorem State.countSat_boot (s : State) (f : Fld) (n : Nat) : (s.countSat f n).boot = s.boot := rfl
@[simp] theorem State.countSat_staido (s : State) (f : Fld) (n : Nat) : (s.countSat f n).staido = s.staido := rfl
@[simp] theorem State.countSat_fns (s : State) (f : Fld) (n : Nat) : (s.countSat f n).fns = s.fns := rfl
@[simp] theorem State.countSat_cocoons (s : State) (f : Fld) (n : Nat) : (s.countSat f n).cocoons = s.cocoons := rfl
@[simp] theorem State.countSat_keys (s : State) (f : Fld) (n : Nat) : (s.countSat f n).keys = s.keys := rfl
@[simp] theorem State.countSat_runs (s : State) (f : Fld) (n : Nat) : (s.countSat f n).runs = s.runs := rfl
@[simp] theorem State.countSat_nextRun (s : State) (f : Fld) (n : Nat) : (s.countSat f n).nextRun = s.nextRun := rfl
@[simp] theorem State.countSat_waits (s : State) (f : Fld) (n : Nat) : (s.countSat f n).waits = s.waits := rfl
@[simp] theorem State.countSat_cores (s : State) (f : Fld) (n : Nat) : (s.countSat f n).cores = s.cores := rfl
@[simp] theorem State.countSat_posts (s : State) (f : Fld) (n : Nat) : (s.countSat f n).posts = s.posts := rfl
@[simp] theorem State.countSat_mesh (s : State) (f : Fld) (n : Nat) : (s.countSat f n).mesh = s.mesh := rfl
@[simp] theorem State.countSat_fatal (s : State) (f : Fld) (n : Nat) : (s.countSat f n).fatal = s.fatal := rfl
@[simp] theorem State.countSat_thermTrip (s : State) (f : Fld) (n : Nat) : (s.countSat f n).thermTrip = s.thermTrip := rfl
@[simp] theorem State.countSat_trst (s : State) (f : Fld) (n : Nat) : (s.countSat f n).trst = s.trst := rfl
@[simp] theorem State.countSat_out (s : State) (f : Fld) (n : Nat) : (s.countSat f n).out = s.out := rfl
@[simp] theorem State.countSat_draws (s : State) (f : Fld) (n : Nat) : (s.countSat f n).draws = s.draws := rfl

/-! ### setMem -/

@[simp] theorem State.setMem_pending (s : State) (m : Memory) : (s.setMem m).pending = s.pending := rfl
@[simp] theorem State.setMem_pages (s : State) (m : Memory) : (s.setMem m).pages = s.pages := rfl
@[simp] theorem State.setMem_sram (s : State) (m : Memory) : (s.setMem m).sram = s.sram := rfl
@[simp] theorem State.setMem_poison (s : State) (m : Memory) : (s.setMem m).poison = s.poison := rfl
@[simp] theorem State.setMem_poisonB (s : State) (m : Memory) : (s.setMem m).poisonB = s.poisonB := rfl
@[simp] theorem State.setMem_gddr (s : State) (m : Memory) : (s.setMem m).gddr = s.gddr := rfl
@[simp] theorem State.setMem_fh (s : State) (m : Memory) : (s.setMem m).fh = s.fh := rfl
@[simp] theorem State.setMem_radio (s : State) (m : Memory) : (s.setMem m).radio = s.radio := rfl
@[simp] theorem State.setMem_silk (s : State) (m : Memory) : (s.setMem m).silk = s.silk := rfl
@[simp] theorem State.setMem_pod (s : State) (m : Memory) : (s.setMem m).pod = s.pod := rfl
@[simp] theorem State.setMem_demand (s : State) (m : Memory) : (s.setMem m).demand = s.demand := rfl
@[simp] theorem State.setMem_crossings (s : State) (m : Memory) : (s.setMem m).crossings = s.crossings := rfl
@[simp] theorem State.setMem_time (s : State) (m : Memory) : (s.setMem m).time = s.time := rfl
@[simp] theorem State.setMem_seq (s : State) (m : Memory) : (s.setMem m).seq = s.seq := rfl
@[simp] theorem State.setMem_power (s : State) (m : Memory) : (s.setMem m).power = s.power := rfl
@[simp] theorem State.setMem_bbox (s : State) (m : Memory) : (s.setMem m).bbox = s.bbox := rfl
@[simp] theorem State.setMem_boot (s : State) (m : Memory) : (s.setMem m).boot = s.boot := rfl
@[simp] theorem State.setMem_staido (s : State) (m : Memory) : (s.setMem m).staido = s.staido := rfl
@[simp] theorem State.setMem_fns (s : State) (m : Memory) : (s.setMem m).fns = s.fns := rfl
@[simp] theorem State.setMem_cocoons (s : State) (m : Memory) : (s.setMem m).cocoons = s.cocoons := rfl
@[simp] theorem State.setMem_keys (s : State) (m : Memory) : (s.setMem m).keys = s.keys := rfl
@[simp] theorem State.setMem_runs (s : State) (m : Memory) : (s.setMem m).runs = s.runs := rfl
@[simp] theorem State.setMem_nextRun (s : State) (m : Memory) : (s.setMem m).nextRun = s.nextRun := rfl
@[simp] theorem State.setMem_waits (s : State) (m : Memory) : (s.setMem m).waits = s.waits := rfl
@[simp] theorem State.setMem_cores (s : State) (m : Memory) : (s.setMem m).cores = s.cores := rfl
@[simp] theorem State.setMem_posts (s : State) (m : Memory) : (s.setMem m).posts = s.posts := rfl
@[simp] theorem State.setMem_mesh (s : State) (m : Memory) : (s.setMem m).mesh = s.mesh := rfl
@[simp] theorem State.setMem_fatal (s : State) (m : Memory) : (s.setMem m).fatal = s.fatal := rfl
@[simp] theorem State.setMem_thermTrip (s : State) (m : Memory) : (s.setMem m).thermTrip = s.thermTrip := rfl
@[simp] theorem State.setMem_trst (s : State) (m : Memory) : (s.setMem m).trst = s.trst := rfl
@[simp] theorem State.setMem_out (s : State) (m : Memory) : (s.setMem m).out = s.out := rfl
@[simp] theorem State.setMem_draws (s : State) (m : Memory) : (s.setMem m).draws = s.draws := rfl

/-! ### setCore -/

@[simp] theorem State.setCore_pending (s : State) (n : Nat) (c : Core) : (s.setCore n c).pending = s.pending := rfl
@[simp] theorem State.setCore_pages (s : State) (n : Nat) (c : Core) : (s.setCore n c).pages = s.pages := rfl
@[simp] theorem State.setCore_mem (s : State) (n : Nat) (c : Core) : (s.setCore n c).mem = s.mem := rfl
@[simp] theorem State.setCore_sram (s : State) (n : Nat) (c : Core) : (s.setCore n c).sram = s.sram := rfl
@[simp] theorem State.setCore_poison (s : State) (n : Nat) (c : Core) : (s.setCore n c).poison = s.poison := rfl
@[simp] theorem State.setCore_poisonB (s : State) (n : Nat) (c : Core) : (s.setCore n c).poisonB = s.poisonB := rfl
@[simp] theorem State.setCore_gddr (s : State) (n : Nat) (c : Core) : (s.setCore n c).gddr = s.gddr := rfl
@[simp] theorem State.setCore_fh (s : State) (n : Nat) (c : Core) : (s.setCore n c).fh = s.fh := rfl
@[simp] theorem State.setCore_radio (s : State) (n : Nat) (c : Core) : (s.setCore n c).radio = s.radio := rfl
@[simp] theorem State.setCore_silk (s : State) (n : Nat) (c : Core) : (s.setCore n c).silk = s.silk := rfl
@[simp] theorem State.setCore_pod (s : State) (n : Nat) (c : Core) : (s.setCore n c).pod = s.pod := rfl
@[simp] theorem State.setCore_demand (s : State) (n : Nat) (c : Core) : (s.setCore n c).demand = s.demand := rfl
@[simp] theorem State.setCore_crossings (s : State) (n : Nat) (c : Core) : (s.setCore n c).crossings = s.crossings := rfl
@[simp] theorem State.setCore_time (s : State) (n : Nat) (c : Core) : (s.setCore n c).time = s.time := rfl
@[simp] theorem State.setCore_seq (s : State) (n : Nat) (c : Core) : (s.setCore n c).seq = s.seq := rfl
@[simp] theorem State.setCore_power (s : State) (n : Nat) (c : Core) : (s.setCore n c).power = s.power := rfl
@[simp] theorem State.setCore_bbox (s : State) (n : Nat) (c : Core) : (s.setCore n c).bbox = s.bbox := rfl
@[simp] theorem State.setCore_boot (s : State) (n : Nat) (c : Core) : (s.setCore n c).boot = s.boot := rfl
@[simp] theorem State.setCore_staido (s : State) (n : Nat) (c : Core) : (s.setCore n c).staido = s.staido := rfl
@[simp] theorem State.setCore_fns (s : State) (n : Nat) (c : Core) : (s.setCore n c).fns = s.fns := rfl
@[simp] theorem State.setCore_cocoons (s : State) (n : Nat) (c : Core) : (s.setCore n c).cocoons = s.cocoons := rfl
@[simp] theorem State.setCore_keys (s : State) (n : Nat) (c : Core) : (s.setCore n c).keys = s.keys := rfl
@[simp] theorem State.setCore_runs (s : State) (n : Nat) (c : Core) : (s.setCore n c).runs = s.runs := rfl
@[simp] theorem State.setCore_nextRun (s : State) (n : Nat) (c : Core) : (s.setCore n c).nextRun = s.nextRun := rfl
@[simp] theorem State.setCore_waits (s : State) (n : Nat) (c : Core) : (s.setCore n c).waits = s.waits := rfl
@[simp] theorem State.setCore_posts (s : State) (n : Nat) (c : Core) : (s.setCore n c).posts = s.posts := rfl
@[simp] theorem State.setCore_mesh (s : State) (n : Nat) (c : Core) : (s.setCore n c).mesh = s.mesh := rfl
@[simp] theorem State.setCore_fatal (s : State) (n : Nat) (c : Core) : (s.setCore n c).fatal = s.fatal := rfl
@[simp] theorem State.setCore_thermTrip (s : State) (n : Nat) (c : Core) : (s.setCore n c).thermTrip = s.thermTrip := rfl
@[simp] theorem State.setCore_trst (s : State) (n : Nat) (c : Core) : (s.setCore n c).trst = s.trst := rfl
@[simp] theorem State.setCore_out (s : State) (n : Nat) (c : Core) : (s.setCore n c).out = s.out := rfl
@[simp] theorem State.setCore_draws (s : State) (n : Nat) (c : Core) : (s.setCore n c).draws = s.draws := rfl

/-! ### setCocoon -/

@[simp] theorem State.setCocoon_pending (s : State) (c : Nat) (k : Cocoon) : (s.setCocoon c k).pending = s.pending := rfl
@[simp] theorem State.setCocoon_pages (s : State) (c : Nat) (k : Cocoon) : (s.setCocoon c k).pages = s.pages := rfl
@[simp] theorem State.setCocoon_mem (s : State) (c : Nat) (k : Cocoon) : (s.setCocoon c k).mem = s.mem := rfl
@[simp] theorem State.setCocoon_sram (s : State) (c : Nat) (k : Cocoon) : (s.setCocoon c k).sram = s.sram := rfl
@[simp] theorem State.setCocoon_poison (s : State) (c : Nat) (k : Cocoon) : (s.setCocoon c k).poison = s.poison := rfl
@[simp] theorem State.setCocoon_poisonB (s : State) (c : Nat) (k : Cocoon) : (s.setCocoon c k).poisonB = s.poisonB := rfl
@[simp] theorem State.setCocoon_gddr (s : State) (c : Nat) (k : Cocoon) : (s.setCocoon c k).gddr = s.gddr := rfl
@[simp] theorem State.setCocoon_fh (s : State) (c : Nat) (k : Cocoon) : (s.setCocoon c k).fh = s.fh := rfl
@[simp] theorem State.setCocoon_radio (s : State) (c : Nat) (k : Cocoon) : (s.setCocoon c k).radio = s.radio := rfl
@[simp] theorem State.setCocoon_silk (s : State) (c : Nat) (k : Cocoon) : (s.setCocoon c k).silk = s.silk := rfl
@[simp] theorem State.setCocoon_pod (s : State) (c : Nat) (k : Cocoon) : (s.setCocoon c k).pod = s.pod := rfl
@[simp] theorem State.setCocoon_demand (s : State) (c : Nat) (k : Cocoon) : (s.setCocoon c k).demand = s.demand := rfl
@[simp] theorem State.setCocoon_crossings (s : State) (c : Nat) (k : Cocoon) : (s.setCocoon c k).crossings = s.crossings := rfl
@[simp] theorem State.setCocoon_time (s : State) (c : Nat) (k : Cocoon) : (s.setCocoon c k).time = s.time := rfl
@[simp] theorem State.setCocoon_seq (s : State) (c : Nat) (k : Cocoon) : (s.setCocoon c k).seq = s.seq := rfl
@[simp] theorem State.setCocoon_power (s : State) (c : Nat) (k : Cocoon) : (s.setCocoon c k).power = s.power := rfl
@[simp] theorem State.setCocoon_bbox (s : State) (c : Nat) (k : Cocoon) : (s.setCocoon c k).bbox = s.bbox := rfl
@[simp] theorem State.setCocoon_boot (s : State) (c : Nat) (k : Cocoon) : (s.setCocoon c k).boot = s.boot := rfl
@[simp] theorem State.setCocoon_staido (s : State) (c : Nat) (k : Cocoon) : (s.setCocoon c k).staido = s.staido := rfl
@[simp] theorem State.setCocoon_fns (s : State) (c : Nat) (k : Cocoon) : (s.setCocoon c k).fns = s.fns := rfl
@[simp] theorem State.setCocoon_keys (s : State) (c : Nat) (k : Cocoon) : (s.setCocoon c k).keys = s.keys := rfl
@[simp] theorem State.setCocoon_runs (s : State) (c : Nat) (k : Cocoon) : (s.setCocoon c k).runs = s.runs := rfl
@[simp] theorem State.setCocoon_nextRun (s : State) (c : Nat) (k : Cocoon) : (s.setCocoon c k).nextRun = s.nextRun := rfl
@[simp] theorem State.setCocoon_waits (s : State) (c : Nat) (k : Cocoon) : (s.setCocoon c k).waits = s.waits := rfl
@[simp] theorem State.setCocoon_cores (s : State) (c : Nat) (k : Cocoon) : (s.setCocoon c k).cores = s.cores := rfl
@[simp] theorem State.setCocoon_posts (s : State) (c : Nat) (k : Cocoon) : (s.setCocoon c k).posts = s.posts := rfl
@[simp] theorem State.setCocoon_mesh (s : State) (c : Nat) (k : Cocoon) : (s.setCocoon c k).mesh = s.mesh := rfl
@[simp] theorem State.setCocoon_fatal (s : State) (c : Nat) (k : Cocoon) : (s.setCocoon c k).fatal = s.fatal := rfl
@[simp] theorem State.setCocoon_thermTrip (s : State) (c : Nat) (k : Cocoon) : (s.setCocoon c k).thermTrip = s.thermTrip := rfl
@[simp] theorem State.setCocoon_trst (s : State) (c : Nat) (k : Cocoon) : (s.setCocoon c k).trst = s.trst := rfl
@[simp] theorem State.setCocoon_out (s : State) (c : Nat) (k : Cocoon) : (s.setCocoon c k).out = s.out := rfl
@[simp] theorem State.setCocoon_draws (s : State) (c : Nat) (k : Cocoon) : (s.setCocoon c k).draws = s.draws := rfl

/-! ### setFn -/

@[simp] theorem State.setFn_pending (s : State) (f : Nat) (k : FnState) : (s.setFn f k).pending = s.pending := rfl
@[simp] theorem State.setFn_pages (s : State) (f : Nat) (k : FnState) : (s.setFn f k).pages = s.pages := rfl
@[simp] theorem State.setFn_mem (s : State) (f : Nat) (k : FnState) : (s.setFn f k).mem = s.mem := rfl
@[simp] theorem State.setFn_sram (s : State) (f : Nat) (k : FnState) : (s.setFn f k).sram = s.sram := rfl
@[simp] theorem State.setFn_poison (s : State) (f : Nat) (k : FnState) : (s.setFn f k).poison = s.poison := rfl
@[simp] theorem State.setFn_poisonB (s : State) (f : Nat) (k : FnState) : (s.setFn f k).poisonB = s.poisonB := rfl
@[simp] theorem State.setFn_gddr (s : State) (f : Nat) (k : FnState) : (s.setFn f k).gddr = s.gddr := rfl
@[simp] theorem State.setFn_fh (s : State) (f : Nat) (k : FnState) : (s.setFn f k).fh = s.fh := rfl
@[simp] theorem State.setFn_radio (s : State) (f : Nat) (k : FnState) : (s.setFn f k).radio = s.radio := rfl
@[simp] theorem State.setFn_silk (s : State) (f : Nat) (k : FnState) : (s.setFn f k).silk = s.silk := rfl
@[simp] theorem State.setFn_pod (s : State) (f : Nat) (k : FnState) : (s.setFn f k).pod = s.pod := rfl
@[simp] theorem State.setFn_demand (s : State) (f : Nat) (k : FnState) : (s.setFn f k).demand = s.demand := rfl
@[simp] theorem State.setFn_crossings (s : State) (f : Nat) (k : FnState) : (s.setFn f k).crossings = s.crossings := rfl
@[simp] theorem State.setFn_time (s : State) (f : Nat) (k : FnState) : (s.setFn f k).time = s.time := rfl
@[simp] theorem State.setFn_seq (s : State) (f : Nat) (k : FnState) : (s.setFn f k).seq = s.seq := rfl
@[simp] theorem State.setFn_power (s : State) (f : Nat) (k : FnState) : (s.setFn f k).power = s.power := rfl
@[simp] theorem State.setFn_bbox (s : State) (f : Nat) (k : FnState) : (s.setFn f k).bbox = s.bbox := rfl
@[simp] theorem State.setFn_boot (s : State) (f : Nat) (k : FnState) : (s.setFn f k).boot = s.boot := rfl
@[simp] theorem State.setFn_staido (s : State) (f : Nat) (k : FnState) : (s.setFn f k).staido = s.staido := rfl
@[simp] theorem State.setFn_cocoons (s : State) (f : Nat) (k : FnState) : (s.setFn f k).cocoons = s.cocoons := rfl
@[simp] theorem State.setFn_keys (s : State) (f : Nat) (k : FnState) : (s.setFn f k).keys = s.keys := rfl
@[simp] theorem State.setFn_runs (s : State) (f : Nat) (k : FnState) : (s.setFn f k).runs = s.runs := rfl
@[simp] theorem State.setFn_nextRun (s : State) (f : Nat) (k : FnState) : (s.setFn f k).nextRun = s.nextRun := rfl
@[simp] theorem State.setFn_waits (s : State) (f : Nat) (k : FnState) : (s.setFn f k).waits = s.waits := rfl
@[simp] theorem State.setFn_cores (s : State) (f : Nat) (k : FnState) : (s.setFn f k).cores = s.cores := rfl
@[simp] theorem State.setFn_posts (s : State) (f : Nat) (k : FnState) : (s.setFn f k).posts = s.posts := rfl
@[simp] theorem State.setFn_mesh (s : State) (f : Nat) (k : FnState) : (s.setFn f k).mesh = s.mesh := rfl
@[simp] theorem State.setFn_fatal (s : State) (f : Nat) (k : FnState) : (s.setFn f k).fatal = s.fatal := rfl
@[simp] theorem State.setFn_thermTrip (s : State) (f : Nat) (k : FnState) : (s.setFn f k).thermTrip = s.thermTrip := rfl
@[simp] theorem State.setFn_trst (s : State) (f : Nat) (k : FnState) : (s.setFn f k).trst = s.trst := rfl
@[simp] theorem State.setFn_out (s : State) (f : Nat) (k : FnState) : (s.setFn f k).out = s.out := rfl
@[simp] theorem State.setFn_draws (s : State) (f : Nat) (k : FnState) : (s.setFn f k).draws = s.draws := rfl

/-! ### drawn -/

@[simp] theorem State.drawn_pending (s : State) : (s.drawn ).pending = s.pending := rfl
@[simp] theorem State.drawn_pages (s : State) : (s.drawn ).pages = s.pages := rfl
@[simp] theorem State.drawn_mem (s : State) : (s.drawn ).mem = s.mem := rfl
@[simp] theorem State.drawn_sram (s : State) : (s.drawn ).sram = s.sram := rfl
@[simp] theorem State.drawn_poison (s : State) : (s.drawn ).poison = s.poison := rfl
@[simp] theorem State.drawn_poisonB (s : State) : (s.drawn ).poisonB = s.poisonB := rfl
@[simp] theorem State.drawn_gddr (s : State) : (s.drawn ).gddr = s.gddr := rfl
@[simp] theorem State.drawn_fh (s : State) : (s.drawn ).fh = s.fh := rfl
@[simp] theorem State.drawn_radio (s : State) : (s.drawn ).radio = s.radio := rfl
@[simp] theorem State.drawn_silk (s : State) : (s.drawn ).silk = s.silk := rfl
@[simp] theorem State.drawn_pod (s : State) : (s.drawn ).pod = s.pod := rfl
@[simp] theorem State.drawn_demand (s : State) : (s.drawn ).demand = s.demand := rfl
@[simp] theorem State.drawn_crossings (s : State) : (s.drawn ).crossings = s.crossings := rfl
@[simp] theorem State.drawn_time (s : State) : (s.drawn ).time = s.time := rfl
@[simp] theorem State.drawn_seq (s : State) : (s.drawn ).seq = s.seq := rfl
@[simp] theorem State.drawn_power (s : State) : (s.drawn ).power = s.power := rfl
@[simp] theorem State.drawn_bbox (s : State) : (s.drawn ).bbox = s.bbox := rfl
@[simp] theorem State.drawn_boot (s : State) : (s.drawn ).boot = s.boot := rfl
@[simp] theorem State.drawn_staido (s : State) : (s.drawn ).staido = s.staido := rfl
@[simp] theorem State.drawn_fns (s : State) : (s.drawn ).fns = s.fns := rfl
@[simp] theorem State.drawn_cocoons (s : State) : (s.drawn ).cocoons = s.cocoons := rfl
@[simp] theorem State.drawn_keys (s : State) : (s.drawn ).keys = s.keys := rfl
@[simp] theorem State.drawn_runs (s : State) : (s.drawn ).runs = s.runs := rfl
@[simp] theorem State.drawn_nextRun (s : State) : (s.drawn ).nextRun = s.nextRun := rfl
@[simp] theorem State.drawn_waits (s : State) : (s.drawn ).waits = s.waits := rfl
@[simp] theorem State.drawn_cores (s : State) : (s.drawn ).cores = s.cores := rfl
@[simp] theorem State.drawn_posts (s : State) : (s.drawn ).posts = s.posts := rfl
@[simp] theorem State.drawn_mesh (s : State) : (s.drawn ).mesh = s.mesh := rfl
@[simp] theorem State.drawn_fatal (s : State) : (s.drawn ).fatal = s.fatal := rfl
@[simp] theorem State.drawn_thermTrip (s : State) : (s.drawn ).thermTrip = s.thermTrip := rfl
@[simp] theorem State.drawn_trst (s : State) : (s.drawn ).trst = s.trst := rfl
@[simp] theorem State.drawn_out (s : State) : (s.drawn ).out = s.out := rfl

/-! ### emit -/

@[simp] theorem State.emit_pending (s : State) (e : Emit) : (s.emit e).pending = s.pending := rfl
@[simp] theorem State.emit_pages (s : State) (e : Emit) : (s.emit e).pages = s.pages := rfl
@[simp] theorem State.emit_mem (s : State) (e : Emit) : (s.emit e).mem = s.mem := rfl
@[simp] theorem State.emit_sram (s : State) (e : Emit) : (s.emit e).sram = s.sram := rfl
@[simp] theorem State.emit_poison (s : State) (e : Emit) : (s.emit e).poison = s.poison := rfl
@[simp] theorem State.emit_poisonB (s : State) (e : Emit) : (s.emit e).poisonB = s.poisonB := rfl
@[simp] theorem State.emit_gddr (s : State) (e : Emit) : (s.emit e).gddr = s.gddr := rfl
@[simp] theorem State.emit_fh (s : State) (e : Emit) : (s.emit e).fh = s.fh := rfl
@[simp] theorem State.emit_radio (s : State) (e : Emit) : (s.emit e).radio = s.radio := rfl
@[simp] theorem State.emit_silk (s : State) (e : Emit) : (s.emit e).silk = s.silk := rfl
@[simp] theorem State.emit_pod (s : State) (e : Emit) : (s.emit e).pod = s.pod := rfl
@[simp] theorem State.emit_demand (s : State) (e : Emit) : (s.emit e).demand = s.demand := rfl
@[simp] theorem State.emit_crossings (s : State) (e : Emit) : (s.emit e).crossings = s.crossings := rfl
@[simp] theorem State.emit_time (s : State) (e : Emit) : (s.emit e).time = s.time := rfl
@[simp] theorem State.emit_seq (s : State) (e : Emit) : (s.emit e).seq = s.seq := rfl
@[simp] theorem State.emit_power (s : State) (e : Emit) : (s.emit e).power = s.power := rfl
@[simp] theorem State.emit_bbox (s : State) (e : Emit) : (s.emit e).bbox = s.bbox := rfl
@[simp] theorem State.emit_boot (s : State) (e : Emit) : (s.emit e).boot = s.boot := rfl
@[simp] theorem State.emit_staido (s : State) (e : Emit) : (s.emit e).staido = s.staido := rfl
@[simp] theorem State.emit_fns (s : State) (e : Emit) : (s.emit e).fns = s.fns := rfl
@[simp] theorem State.emit_cocoons (s : State) (e : Emit) : (s.emit e).cocoons = s.cocoons := rfl
@[simp] theorem State.emit_keys (s : State) (e : Emit) : (s.emit e).keys = s.keys := rfl
@[simp] theorem State.emit_runs (s : State) (e : Emit) : (s.emit e).runs = s.runs := rfl
@[simp] theorem State.emit_nextRun (s : State) (e : Emit) : (s.emit e).nextRun = s.nextRun := rfl
@[simp] theorem State.emit_waits (s : State) (e : Emit) : (s.emit e).waits = s.waits := rfl
@[simp] theorem State.emit_cores (s : State) (e : Emit) : (s.emit e).cores = s.cores := rfl
@[simp] theorem State.emit_posts (s : State) (e : Emit) : (s.emit e).posts = s.posts := rfl
@[simp] theorem State.emit_mesh (s : State) (e : Emit) : (s.emit e).mesh = s.mesh := rfl
@[simp] theorem State.emit_fatal (s : State) (e : Emit) : (s.emit e).fatal = s.fatal := rfl
@[simp] theorem State.emit_thermTrip (s : State) (e : Emit) : (s.emit e).thermTrip = s.thermTrip := rfl
@[simp] theorem State.emit_trst (s : State) (e : Emit) : (s.emit e).trst = s.trst := rfl
@[simp] theorem State.emit_draws (s : State) (e : Emit) : (s.emit e).draws = s.draws := rfl

/-! ### advanceTo -/

@[simp] theorem State.advanceTo_pending (s : State) (n : Nat) : (s.advanceTo n).pending = s.pending := rfl
@[simp] theorem State.advanceTo_pages (s : State) (n : Nat) : (s.advanceTo n).pages = s.pages := rfl
@[simp] theorem State.advanceTo_mem (s : State) (n : Nat) : (s.advanceTo n).mem = s.mem := rfl
@[simp] theorem State.advanceTo_sram (s : State) (n : Nat) : (s.advanceTo n).sram = s.sram := rfl
@[simp] theorem State.advanceTo_poison (s : State) (n : Nat) : (s.advanceTo n).poison = s.poison := rfl
@[simp] theorem State.advanceTo_poisonB (s : State) (n : Nat) : (s.advanceTo n).poisonB = s.poisonB := rfl
@[simp] theorem State.advanceTo_gddr (s : State) (n : Nat) : (s.advanceTo n).gddr = s.gddr := rfl
@[simp] theorem State.advanceTo_fh (s : State) (n : Nat) : (s.advanceTo n).fh = s.fh := rfl
@[simp] theorem State.advanceTo_radio (s : State) (n : Nat) : (s.advanceTo n).radio = s.radio := rfl
@[simp] theorem State.advanceTo_silk (s : State) (n : Nat) : (s.advanceTo n).silk = s.silk := rfl
@[simp] theorem State.advanceTo_pod (s : State) (n : Nat) : (s.advanceTo n).pod = s.pod := rfl
@[simp] theorem State.advanceTo_demand (s : State) (n : Nat) : (s.advanceTo n).demand = s.demand := rfl
@[simp] theorem State.advanceTo_crossings (s : State) (n : Nat) : (s.advanceTo n).crossings = s.crossings := rfl
@[simp] theorem State.advanceTo_seq (s : State) (n : Nat) : (s.advanceTo n).seq = s.seq := rfl
@[simp] theorem State.advanceTo_power (s : State) (n : Nat) : (s.advanceTo n).power = s.power := rfl
@[simp] theorem State.advanceTo_bbox (s : State) (n : Nat) : (s.advanceTo n).bbox = s.bbox := rfl
@[simp] theorem State.advanceTo_boot (s : State) (n : Nat) : (s.advanceTo n).boot = s.boot := rfl
@[simp] theorem State.advanceTo_staido (s : State) (n : Nat) : (s.advanceTo n).staido = s.staido := rfl
@[simp] theorem State.advanceTo_fns (s : State) (n : Nat) : (s.advanceTo n).fns = s.fns := rfl
@[simp] theorem State.advanceTo_cocoons (s : State) (n : Nat) : (s.advanceTo n).cocoons = s.cocoons := rfl
@[simp] theorem State.advanceTo_keys (s : State) (n : Nat) : (s.advanceTo n).keys = s.keys := rfl
@[simp] theorem State.advanceTo_runs (s : State) (n : Nat) : (s.advanceTo n).runs = s.runs := rfl
@[simp] theorem State.advanceTo_nextRun (s : State) (n : Nat) : (s.advanceTo n).nextRun = s.nextRun := rfl
@[simp] theorem State.advanceTo_waits (s : State) (n : Nat) : (s.advanceTo n).waits = s.waits := rfl
@[simp] theorem State.advanceTo_cores (s : State) (n : Nat) : (s.advanceTo n).cores = s.cores := rfl
@[simp] theorem State.advanceTo_posts (s : State) (n : Nat) : (s.advanceTo n).posts = s.posts := rfl
@[simp] theorem State.advanceTo_mesh (s : State) (n : Nat) : (s.advanceTo n).mesh = s.mesh := rfl
@[simp] theorem State.advanceTo_fatal (s : State) (n : Nat) : (s.advanceTo n).fatal = s.fatal := rfl
@[simp] theorem State.advanceTo_thermTrip (s : State) (n : Nat) : (s.advanceTo n).thermTrip = s.thermTrip := rfl
@[simp] theorem State.advanceTo_trst (s : State) (n : Nat) : (s.advanceTo n).trst = s.trst := rfl
@[simp] theorem State.advanceTo_out (s : State) (n : Nat) : (s.advanceTo n).out = s.out := rfl
@[simp] theorem State.advanceTo_draws (s : State) (n : Nat) : (s.advanceTo n).draws = s.draws := rfl

/-! ### The updated fields -/

@[simp] theorem State.setMem_mem (s : State) (m : Memory) : (s.setMem m).mem = m := rfl
@[simp] theorem State.setCore_cores (s : State) (n : Nat) (c : Core) : (s.setCore n c).cores = Assoc.put n c s.cores := rfl
@[simp] theorem State.setCocoon_cocoons (s : State) (c : Nat) (k : Cocoon) : (s.setCocoon c k).cocoons = Assoc.put c k s.cocoons := rfl
@[simp] theorem State.setFn_fns (s : State) (f : Nat) (k : FnState) : (s.setFn f k).fns = Assoc.put f k s.fns := rfl
@[simp] theorem State.drawn_draws (s : State) : s.drawn.draws = s.draws + 1 := rfl
@[simp] theorem State.emit_out (s : State) (e : Emit) : (s.emit e).out = s.out ++ [e] := rfl
@[simp] theorem State.withLive_live (s : State) (m : Assoc Nat) : (s.withLive m).pages.file.live = m := rfl
@[simp] theorem State.withLive_shadow (s : State) (m : Assoc Nat) : (s.withLive m).pages.file.shadow = s.pages.file.shadow := rfl
@[simp] theorem State.setFld_shadow (s : State) (f : Fld) (v : Nat) : (s.setFld f v).pages.file.shadow = s.pages.file.shadow := rfl
@[simp] theorem State.setFld_live (s : State) (f : Fld) (v : Nat) :
    (s.setFld f v).pages.file.live = Assoc.put f.key (v % 2 ^ f.w) s.pages.file.live := rfl

/-! ### Finite maps -/

@[simp] theorem Assoc.find_put_same {α : Type} (k : Nat) (v : α) (m : Assoc α) : Assoc.find k (Assoc.put k v m) = some v := by
  induction m with
  | nil => simp [Assoc.put, Assoc.find]
  | cons e r ih =>
    obtain ⟨k', v'⟩ := e
    simp only [Assoc.put]
    split
    · simp [Assoc.find]
    · split
      · simp [Assoc.find]
      · simp [Assoc.find, *]

theorem Assoc.find_put_other {α : Type} {j k : Nat} (h : j ≠ k) (v : α) (m : Assoc α) : Assoc.find j (Assoc.put k v m) = Assoc.find j m := by
  induction m with
  | nil => simp [Assoc.put, Assoc.find, h.symm]
  | cons e r ih =>
    obtain ⟨k', v'⟩ := e
    simp only [Assoc.put]
    split
    · subst_vars; simp [Assoc.find, h.symm]
    · split
      · simp [Assoc.find, h.symm]
      · simp [Assoc.find, ih]

@[simp] theorem Assoc.find_del_same {α : Type} (k : Nat) (m : Assoc α) : Assoc.find k (Assoc.del k m) = none := by
  induction m with
  | nil => rfl
  | cons e r ih =>
    obtain ⟨k', v'⟩ := e
    by_cases h : k' = k
    · subst h; simpa [Assoc.del, Nat.beq_eq] using ih
    · have : (Nat.beq k' k) = false := by
        cases hb : Nat.beq k' k with
        | false => rfl
        | true => exact absurd (Nat.eq_of_beq_eq_true hb) h
      simp [Assoc.del, this, Assoc.find, h]
      simpa [Assoc.del] using ih

/-! ### Register fields -/

@[simp] theorem State.fld_setFld (s : State) (f : Fld) (v : Nat) : (s.setFld f v).fld f = v % 2 ^ f.w := by
  simp [State.fld, State.setFld]

theorem State.fld_setFld_other {f g : Fld} (h : g.key ≠ f.key) (s : State) (v : Nat) : (s.setFld f v).fld g = s.fld g := by
  simp [State.fld, State.setFld, State.unwritten, Assoc.find_put_other h]

theorem State.fld_congr {s t : State} (f : Fld) (h : t.pages.file.live = s.pages.file.live) (d : t.draws = s.draws) : t.fld f = s.fld f := by
  simp [State.fld, State.unwritten, h, d]

@[simp] theorem State.emit_fld (s : State) (e : Emit) (f : Fld) : (s.emit e).fld f = s.fld f := rfl
@[simp] theorem State.setMem_fld (s : State) (m : Memory) (f : Fld) : (s.setMem m).fld f = s.fld f := rfl
@[simp] theorem State.setCore_fld (s : State) (n : Nat) (c : Core) (f : Fld) : (s.setCore n c).fld f = s.fld f := rfl
@[simp] theorem State.setCocoon_fld (s : State) (c : Nat) (k : Cocoon) (f : Fld) : (s.setCocoon c k).fld f = s.fld f := rfl
@[simp] theorem State.setFn_fld (s : State) (n : Nat) (k : FnState) (f : Fld) : (s.setFn n k).fld f = s.fld f := rfl
@[simp] theorem State.advanceTo_fld (s : State) (n : Nat) (f : Fld) : (s.advanceTo n).fld f = s.fld f := rfl

end Sys2Proof.Machine
end

