-- ==== Sys2Proof/Laws/Frames.lean ====
section
/-!
SUPPORT. The frame relation and, for each shared operation on registers and signals, one lemma that says everything it can change.
-/
namespace Sys2Proof.Machine

/-! ### The relation -/

theorem Frame.refl (ps : List Part) (pages : List Nat) (s : State) : Frame ps pages s s := ⟨rfl, fun _ _ => rfl, rfl⟩

theorem Frame.trans {ps : List Part} {pages : List Nat} {s t u : State} (h : Frame ps pages s t) (k : Frame ps pages t u) : Frame ps pages s u :=
  ⟨h.1.trans k.1, fun x hx => (k.2.1 x hx).trans (h.2.1 x hx), k.2.2.trans h.2.2⟩

theorem Frame.more_pages {ps : List Part} {l m : List Nat} {s t : State} (h : Frame ps l s t) (sub : ∀ p ∈ l, p ∈ m) : Frame ps m s t := by
  refine ⟨h.1, fun x hx => h.2.1 x ?_, h.2.2⟩
  simp only [Bool.and_eq_true, Bool.not_eq_true', List.contains_eq_mem, decide_eq_false_iff_not] at hx ⊢
  exact ⟨fun hm => hx.1 (sub _ hm), hx.2⟩

/-- A field lies inside its page and its word. -/
def Fld.ok (f : Fld) : Prop := f.off < 4096 ∧ f.lo < 32

theorem Fld.key_page {f : Fld} (h : f.ok) : f.key / 131072 = f.page := by
  obtain ⟨h1, h2⟩ := h
  simp only [Fld.key]
  omega

/-- Two fields of different pages have different keys. -/
theorem Fld.key_ne_of_page {f g : Fld} (hf : f.ok) (hg : g.ok) (h : f.page ≠ g.page) : f.key ≠ g.key := by
  intro e
  exact h (by rw [← Fld.key_page hf, ← Fld.key_page hg, e])

/-! ### Register fields -/

theorem setFld_frame {f : Fld} (h : f.ok) (s : State) (v : Nat) : Frame [] [f.page] s (s.setFld f v) := by
  refine ⟨rfl, fun k hk => ?_, rfl⟩
  simp only [State.setFld_live]
  apply Assoc.find_put_other
  intro e
  simp [e, Fld.key_page h] at hk

theorem drawn_frame (s : State) : Frame [] [] s s.drawn := ⟨rfl, fun _ _ => rfl, rfl⟩

theorem emit_frame (s : State) (e : Emit) : Frame [] [] s (s.emit e) := ⟨rfl, fun _ _ => rfl, rfl⟩

/-! ### The black box -/

theorem recordOn_frame (s : State) (die cls page code detail : Nat) : Frame [] [] s (s.recordOn die cls page code detail) := by
  unfold State.recordOn
  split
  · exact ⟨rfl, fun _ _ => rfl, rfl⟩
  · exact Frame.refl _ _ _

@[simp] theorem recordOn_pages (s : State) (die cls page code detail : Nat) : (s.recordOn die cls page code detail).pages = s.pages := by
  unfold State.recordOn
  split <;> rfl

@[simp] theorem recordOn_draws (s : State) (die cls page code detail : Nat) : (s.recordOn die cls page code detail).draws = s.draws := by
  unfold State.recordOn
  split <;> rfl

@[simp] theorem record_fld (s : State) (cls page code detail : Nat) (f : Fld) : (s.record cls page code detail).fld f = s.fld f :=
  State.fld_congr f (by simp [State.record]) (by simp [State.record])

theorem enter_frame {f : Fld} (h : f.ok) (s : State) (v : Nat) : Frame [] [f.page] s (s.enter f v) := by
  unfold State.enter
  split
  · exact Frame.refl _ _ _
  · exact (setFld_frame h s v).trans ((recordOn_frame _ _ _ _ _ _).more_pages (by simp))

theorem enter_fld {f : Fld} (s : State) {v : Nat} (h : v < 2 ^ f.w) : (s.enter f v).fld f = v := by
  unfold State.enter
  split
  · assumption
  · simp [Nat.mod_eq_of_lt h]

/-! ### Vectors (R397, R398) -/

theorem toHost_frame (s : State) (fn : Nat) (x : HostTxn) : Frame [] [] s (s.toHost fn x) := by
  unfold State.toHost
  split
  · exact ⟨rfl, fun _ _ => rfl, rfl⟩
  · exact Frame.refl _ _ _

theorem sendSignal_frame (s : State) (fn v : Nat) : Frame [] [] s (s.sendSignal fn v) := by
  unfold State.sendSignal
  split
  · exact Frame.refl _ _ _
  · exact toHost_frame _ _ _

/-- A write to a page on which vectors show is outside every frame. -/
theorem setFld_frame_vector {f : Fld} (h : f.ok) (hv : vectorPage f.page = true) (s : State) (v : Nat) : Frame [] [] s (s.setFld f v) := by
  refine ⟨rfl, fun k hk => ?_, rfl⟩
  simp only [State.setFld_live]
  apply Assoc.find_put_other
  intro e
  simp [e, Fld.key_page h, hv] at hk

theorem vectorPage_fnPage {f : Nat} (h : f < 258) : vectorPage (fnPage f) = true := by
  simp only [vectorPage, fnPage]
  split
  · simp [Nat.ble_eq]; omega
  · split <;> rfl

theorem raiseIndex_frame (s : State) {fn i : Nat} (h : fn < 258) (hi : i < 512) : Frame [] [] s (s.raiseIndex fn i) := by
  unfold State.raiseIndex
  split
  · refine setFld_frame_vector ?_ (vectorPage_fnPage h) _ _
    simp only [Fld.ok, Reg.FN.SV_PEND.PEND]
    omega
  · exact sendSignal_frame _ _ _

theorem fld_lt (s : State) (f : Fld) : s.fld f < 2 ^ f.w := Nat.mod_lt _ (Nat.two_pow_pos _)

theorem raiseOwned_frame (s : State) (v : Nat) : Frame [] [] s (s.raiseOwned v) := by
  unfold State.raiseOwned
  split
  · rename_i fn h
    have hf : fn < 258 := by
      have := List.mem_of_find?_eq_some h
      simpa using this
    have hb := List.find?_some h
    simp only [Bool.and_eq_true] at hb
    refine raiseIndex_frame s hf ?_
    have h1 : v < s.fld (Reg.FN.FN_CFG.SV_BASE fn) + s.fld (Reg.FN.FN_CFG.SV_COUNT fn) := Nat.le_of_ble_eq_true hb.2
    have h2 := fld_lt s (Reg.FN.FN_CFG.SV_COUNT fn)
    simp only [Reg.FN.FN_CFG.SV_COUNT] at h1 h2 ⊢
    omega
  · exact Frame.refl _ _ _

/-! ### Error bits (R492, R493) -/

theorem errWord_ok (p : Nat) : (errWord p).ok := by simp [Fld.ok, errWord]
theorem errFirstBit_ok (p : Nat) : (errFirstBit p).ok := by simp [Fld.ok, errFirstBit]
theorem errFirstValid_ok (p : Nat) : (errFirstValid p).ok := by simp [Fld.ok, errFirstValid]
theorem errTime_ok (p : Nat) : (errTime p).ok := by simp [Fld.ok, errTime]
theorem refusalReason_ok (p : Nat) : (refusalReason p).ok := by simp [Fld.ok, refusalReason]
theorem refusalOffset_ok (p : Nat) : (refusalOffset p).ok := by simp [Fld.ok, refusalOffset]

theorem setErrQuiet_frame (s : State) (page bit : Nat) : Frame [] [page] s (s.setErrQuiet page bit) := by
  unfold State.setErrQuiet
  extract_lets e u
  have h : Frame [] [page] s u := (setFld_frame (errWord_ok page) s _).trans ((recordOn_frame _ _ _ _ _ _).more_pages (by simp))
  split
  · exact h
  · exact ((h.trans (setFld_frame (errFirstBit_ok page) _ _)).trans (setFld_frame (errFirstValid_ok page) _ _)).trans
      (setFld_frame (errTime_ok page) _ _)

/-- Setting a bit on a page on which vectors show is outside every frame. -/
theorem Frame.drop_vector {ps : List Part} {p : Nat} {s t : State} (h : Frame ps [p] s t) (hv : vectorPage p = true) : Frame ps [] s t := by
  refine ⟨h.1, fun k hk => h.2.1 k ?_, h.2.2⟩
  simp only [Bool.and_eq_true, Bool.not_eq_true', List.contains_eq_mem, decide_eq_false_iff_not, List.mem_singleton] at hk ⊢
  refine ⟨fun e => ?_, hk.2⟩
  rw [e, hv] at hk
  exact Bool.noConfusion hk.2

theorem raisePage_frame (s : State) (page : Nat) : Frame [] [] s (s.raisePage page) := by
  unfold State.raisePage
  split
  · split
    · exact raiseOwned_frame _ _
    · split
      · exact Frame.refl _ _ _
      · have h := (setErrQuiet_frame s 0x240 4).drop_vector rfl
        simp only
        split
        · exact h.trans (raiseOwned_frame _ _)
        · exact h
  · exact Frame.refl _ _ _

/-- Raising an error bit changes its page, the pages on which vectors show, the black box and the host link's queue. -/
theorem raiseErr_frame (s : State) (f : Fld) : Frame [] [f.page] s (s.raiseErr f) := by
  unfold State.raiseErr
  split
  · exact Frame.refl _ _ _
  · have h := setErrQuiet_frame s f.page f.lo
    simp only
    split
    · exact h
    · exact h.trans ((raisePage_frame _ _).more_pages (by simp))

theorem refuse_frame (s : State) (page reason off : Nat) : Frame [] [page] s (s.refuse page reason off) := by
  unfold State.refuse
  exact (((setFld_frame (refusalReason_ok page) s reason).trans (setFld_frame (refusalOffset_ok page) _ off)).trans
    ((recordOn_frame _ _ _ _ _ _).more_pages (by simp))).trans ((raisePage_frame _ _).more_pages (by simp))

theorem passed_frame (s : State) (page : Nat) : Frame [] [page] s (s.passed page) :=
  (setFld_frame (refusalReason_ok page) s 0).trans (setFld_frame (refusalOffset_ok page) _ 0)

/-! ### Error bits stay set -/

theorem lt_of_testBit {x w b : Nat} (h : x < 2 ^ w) (t : x.testBit b = true) : b < w := by
  cases Nat.lt_or_ge b w with
  | inl g => exact g
  | inr g =>
    rw [Nat.testBit_lt_two_pow (Nat.lt_of_lt_of_le h (Nat.pow_le_pow_right (by omega) g))] at t
    exact Bool.noConfusion t

/-- Every error bit of `s` stands in `t`. -/
def ErrsKept (s t : State) : Prop := ∀ p b, (s.fld (errWord p)).testBit b = true → (t.fld (errWord p)).testBit b = true

theorem ErrsKept.refl (s : State) : ErrsKept s s := fun _ _ h => h
theorem ErrsKept.trans {s t u : State} (h : ErrsKept s t) (k : ErrsKept t u) : ErrsKept s u := fun p b x => k p b (h p b x)
theorem ErrsKept.of_fld {s t : State} (h : ∀ p, t.fld (errWord p) = s.fld (errWord p)) : ErrsKept s t := fun p _ x => by rw [h p]; exact x
theorem ErrsKept.err {s t : State} (h : ErrsKept s t) {f : Fld} (e : s.err f = true) : t.err f = true := h _ _ e

theorem errWord_key_ne {f : Fld} (h : f.ok) (ho : f.off ≠ 0x20) (p : Nat) : (errWord p).key ≠ f.key := by
  obtain ⟨h1, h2⟩ := h
  simp only [Fld.key, errWord]
  omega

theorem setFld_errs {f : Fld} (h : f.ok) (ho : f.off ≠ 0x20) (s : State) (v : Nat) : ErrsKept s (s.setFld f v) :=
  .of_fld fun p => State.fld_setFld_other (errWord_key_ne h ho p) s v

theorem recordOn_fld (s : State) (die cls page code detail : Nat) (f : Fld) : (s.recordOn die cls page code detail).fld f = s.fld f :=
  State.fld_congr f (by simp) (by simp)

theorem recordOn_errs (s : State) (die cls page code detail : Nat) : ErrsKept s (s.recordOn die cls page code detail) :=
  .of_fld fun _ => recordOn_fld _ _ _ _ _ _ _

theorem toHost_errs (s : State) (fn : Nat) (x : HostTxn) : ErrsKept s (s.toHost fn x) := by
  unfold State.toHost
  split <;> exact .of_fld fun _ => rfl

theorem sendSignal_errs (s : State) (fn v : Nat) : ErrsKept s (s.sendSignal fn v) := by
  unfold State.sendSignal
  split
  · exact .refl _
  · exact toHost_errs _ _ _

theorem raiseOwned_errs (s : State) (v : Nat) : ErrsKept s (s.raiseOwned v) := by
  unfold State.raiseOwned
  split
  · rename_i fn h
    have hb := List.find?_some h
    simp only [Bool.and_eq_true] at hb
    have h1 : v < s.fld (Reg.FN.FN_CFG.SV_BASE fn) + s.fld (Reg.FN.FN_CFG.SV_COUNT fn) := Nat.le_of_ble_eq_true hb.2
    have h2 := fld_lt s (Reg.FN.FN_CFG.SV_COUNT fn)
    unfold State.raiseIndex
    split
    · refine setFld_errs ?_ ?_ _ _ <;> simp only [Fld.ok, Reg.FN.SV_PEND.PEND, Reg.FN.FN_CFG.SV_COUNT] at h1 h2 ⊢ <;> omega
    · exact sendSignal_errs _ _ _
  · exact .refl _

theorem setErrQuiet_errs (s : State) (page bit : Nat) : ErrsKept s (s.setErrQuiet page bit) := by
  have first : ErrsKept s (s.setFld (errWord page) (s.fld (errWord page) ||| 2 ^ bit)) := by
    intro p b h
    by_cases e : p = page
    · subst e
      have hb : b < 32 := lt_of_testBit (fld_lt s (errWord p)) h
      rw [State.fld_setFld, Nat.testBit_mod_two_pow, Nat.testBit_or, h]
      simp [errWord, hb]
    · rw [State.fld_setFld_other]
      · exact h
      · exact Fld.key_ne_of_page (errWord_ok p) (errWord_ok page) e
  unfold State.setErrQuiet
  extract_lets e u
  have h : ErrsKept s u := first.trans (recordOn_errs _ _ _ _ _ _)
  split
  · exact h
  · exact ((h.trans (setFld_errs (errFirstBit_ok page) (by simp [errFirstBit]) _ _)).trans
      (setFld_errs (errFirstValid_ok page) (by simp [errFirstValid]) _ _)).trans (setFld_errs (errTime_ok page) (by simp [errTime]) _ _)

theorem raisePage_errs (s : State) (page : Nat) : ErrsKept s (s.raisePage page) := by
  unfold State.raisePage
  split
  · split
    · exact raiseOwned_errs _ _
    · split
      · exact .refl _
      · extract_lets u
        have h : ErrsKept s u := setErrQuiet_errs s 0x240 4
        split
        · exact h.trans (raiseOwned_errs _ _)
        · exact h
  · exact .refl _

theorem setErrQuiet_err (s : State) (page : Nat) {bit : Nat} (hb : bit < 32) : ((s.setErrQuiet page bit).fld (errWord page)).testBit bit = true := by
  have first : ((s.setFld (errWord page) (s.fld (errWord page) ||| 2 ^ bit)).fld (errWord page)).testBit bit = true := by
    rw [State.fld_setFld, Nat.testBit_mod_two_pow, Nat.testBit_or, Nat.testBit_two_pow_self]
    simp [errWord, hb]
  unfold State.setErrQuiet
  extract_lets e u
  have h : (u.fld (errWord page)).testBit bit = true := recordOn_errs _ _ _ _ _ _ _ _ first
  split
  · exact h
  · exact ((setFld_errs (errFirstBit_ok page) (by simp [errFirstBit]) _ _).trans
      ((setFld_errs (errFirstValid_ok page) (by simp [errFirstValid]) _ _).trans (setFld_errs (errTime_ok page) (by simp [errTime]) _ _))) _ _ h

/-- After an error bit is raised it is set, and no other is cleared. -/
theorem raiseErr_errs (s : State) (f : Fld) : ErrsKept s (s.raiseErr f) := by
  unfold State.raiseErr
  split
  · exact .refl _
  · have h := setErrQuiet_errs s f.page f.lo
    simp only
    split
    · exact h
    · exact h.trans (raisePage_errs _ _)

theorem raiseErr_err (s : State) {f : Fld} (hb : f.lo < 32) : (s.raiseErr f).err f = true := by
  unfold State.raiseErr
  split
  · assumption
  · have h := setErrQuiet_err s f.page hb
    simp only
    split
    · exact h
    · exact raisePage_errs _ _ _ _ h

end Sys2Proof.Machine
end

