-- ==== Sys2Proof/Laws/Memory.lean ====
section
/-!
SUPPORT. Memory: every operation keeps the canonical form, a byte written reads back, and what an operation does not reach reads as before.
-/
namespace Sys2Proof.Machine

/-! ### Association lists -/

theorem Assoc.find_eq_none {α : Type} {k : Nat} {m : Assoc α} (h : ∀ e ∈ m, e.1 ≠ k) : Assoc.find k m = none := by
  induction m with
  | nil => rfl
  | cons e r ih =>
    obtain ⟨k', v⟩ := e
    have h1 : k' ≠ k := h (k', v) (by simp)
    simp only [Assoc.find, if_neg h1]
    exact ih fun e he => h e (by simp [he])

theorem Assoc.mem_put {α : Type} {k : Nat} {v : α} {m : Assoc α} {e : Nat × α} (h : e ∈ Assoc.put k v m) : e = (k, v) ∨ e ∈ m := by
  induction m with
  | nil => simpa [Assoc.put] using h
  | cons x r ih =>
    obtain ⟨k', v'⟩ := x
    simp only [Assoc.put] at h
    split at h
    · rcases List.mem_cons.mp h with h | h
      · exact .inl h
      · exact .inr (by simp [h])
    · split at h
      · rcases List.mem_cons.mp h with h | h
        · exact .inl h
        · exact .inr h
      · rcases List.mem_cons.mp h with h | h
        · exact .inr (by simp [h])
        · exact (ih h).imp id fun h => by simp [h]

/-- Strictly rising keys stay so. -/
theorem Assoc.put_pairwise {α : Type} {k : Nat} {v : α} {m : Assoc α} (h : m.Pairwise fun a b => a.1 < b.1) :
    (Assoc.put k v m).Pairwise fun a b => a.1 < b.1 := by
  induction m with
  | nil => simp [Assoc.put]
  | cons x r ih =>
    obtain ⟨k', v'⟩ := x
    obtain ⟨h1, h2⟩ := List.pairwise_cons.mp h
    simp only [Assoc.put]
    split
    · next e => subst e; exact List.pairwise_cons.mpr ⟨h1, h2⟩
    · split
      · next hlt =>
        refine List.pairwise_cons.mpr ⟨fun e he => ?_, h⟩
        rcases List.mem_cons.mp he with he | he
        · simpa [he] using hlt
        · exact Nat.lt_trans hlt (h1 e he)
      · next hne hge =>
        refine List.pairwise_cons.mpr ⟨fun e he => ?_, ih h2⟩
        rcases Assoc.mem_put he with he | he
        · simp only [he]; omega
        · exact h1 e he

theorem Assoc.find_filter {α : Type} {k : Nat} {p : Nat × α → Bool} {m : Assoc α} (h : ∀ v, p (k, v) = true) :
    Assoc.find k (m.filter p) = Assoc.find k m := by
  induction m with
  | nil => rfl
  | cons e r ih =>
    obtain ⟨k', v⟩ := e
    by_cases he : k' = k
    · subst he; simp [Assoc.find, h v]
    · by_cases hp : p (k', v) = true
      · simp [hp, Assoc.find, he, ih]
      · simp [hp, Assoc.find, he, ih]

/-! ### Undefined stretches -/

theorem outside_iff {a len c : Nat} : (!(Nat.ble a c && Nat.blt c (a + len))) = true ↔ c < a ∨ a + len ≤ c := by
  rw [Bool.not_eq_true', ← Bool.not_eq_true, Bool.and_eq_true, Nat.ble_eq, Nat.blt_eq]
  omega

theorem Undef.has_iff {u : Undef} {a : Nat} : u.has a = true ↔ u.base ≤ a ∧ a < u.base + u.len := by
  simp [Undef.has, Nat.ble_eq, Nat.blt_eq]

/-- What a cut leaves holds an address exactly where the stretch held it outside the range cut. -/
theorem Undef.mem_cut {a len : Nat} {u w : Undef} (h : w ∈ u.cut a len) {x : Nat} (hx : w.has x = true) :
    u.has x = true ∧ (x < a ∨ a + len ≤ x) := by
  rw [Undef.has_iff] at hx ⊢
  simp only [Undef.cut, List.mem_append] at h
  rcases h with h | h
  · split at h
    · simp only [List.mem_singleton] at h
      subst h
      simp only at hx
      omega
    · simp at h
  · split at h
    · simp only [List.mem_singleton] at h
      subst h
      simp only at hx
      omega
    · simp at h

theorem Undef.mem_moved {src dst len : Nat} {u w : Undef} (h : w ∈ u.moved src dst len) {x : Nat} (hx : w.has x = true) :
    dst ≤ x ∧ x < dst + len ∧ u.has (x - dst + src) = true := by
  rw [Undef.has_iff] at hx ⊢
  simp only [Undef.moved] at h
  split at h
  · simp only [List.mem_singleton] at h
    subst h
    simp only at hx
    omega
  · simp at h

/-! ### The canonical form -/

theorem cellsRise_iff {lo : Nat} {l : List Host.Cell} :
    cellsRise lo l = true ↔ (∀ c ∈ l, lo ≤ c.1) ∧ l.Pairwise fun a b => a.1 < b.1 := by
  induction l generalizing lo with
  | nil => simp [cellsRise]
  | cons c r ih =>
    simp only [cellsRise, Bool.and_eq_true, Nat.ble_eq, ih, List.mem_cons, forall_eq_or_imp, List.pairwise_cons]
    constructor
    · rintro ⟨h1, h2, h3⟩
      exact ⟨⟨h1, fun e he => by have := h2 e he; omega⟩, fun e he => by have := h2 e he; omega, h3⟩
    · rintro ⟨⟨h1, _⟩, h3, h4⟩
      exact ⟨h1, fun e he => by have := h3 e he; omega, h4⟩

theorem Memory.wf_iff {m : Memory} :
    m.wf = true ↔ (m.cells.Pairwise fun a b => a.1 < b.1) ∧ ∀ c ∈ m.cells, c.2 ≠ 0 ∧ ∀ u ∈ m.undef, u.has c.1 = false := by
  simp only [Memory.wf, Bool.and_eq_true, cellsRise_iff, List.all_eq_true, Bool.not_eq_true', beq_eq_false_iff_ne, List.any_eq_false,
    Bool.not_eq_true]
  constructor
  · rintro ⟨⟨_, h2⟩, h3⟩
    exact ⟨h2, h3⟩
  · rintro ⟨h2, h3⟩
    exact ⟨⟨fun _ _ => Nat.zero_le _, h2⟩, h3⟩

theorem Memory.define_wf {m : Memory} (h : m.wf = true) (a len : Nat) : (m.define a len).wf = true := by
  rw [Memory.wf_iff] at h ⊢
  refine ⟨h.1, fun c hc => ⟨(h.2 c hc).1, fun u hu => ?_⟩⟩
  obtain ⟨w, hw, hu⟩ := List.mem_flatMap.mp hu
  rw [← Bool.not_eq_true]
  intro hx
  have := (Undef.mem_cut hu hx).1
  simp [(h.2 c hc).2 w hw] at this

theorem Memory.clear_wf {m : Memory} (h : m.wf = true) (a len : Nat) : (m.clear a len).wf = true := by
  have h' := Memory.define_wf h a len
  rw [Memory.wf_iff] at h' ⊢
  exact ⟨h'.1.filter _, fun c hc => h'.2 c (List.mem_filter.mp hc).1⟩

theorem Memory.writeByte_wf {m : Memory} (h : m.wf = true) (a : Nat) (b : Byte) : (m.writeByte a b).wf = true := by
  have h' := Memory.define_wf h a 1
  simp only [Memory.writeByte]
  rw [Memory.wf_iff] at h'
  split
  · rw [Memory.wf_iff]
    exact ⟨h'.1.filter _, fun c hc => h'.2 c (List.mem_filter.mp hc).1⟩
  · next hb =>
    rw [Memory.wf_iff]
    refine ⟨Assoc.put_pairwise h'.1, fun c hc => ?_⟩
    rcases Assoc.mem_put hc with hc | hc
    · subst hc
      refine ⟨hb, fun u hu => ?_⟩
      obtain ⟨w, _, hu⟩ := List.mem_flatMap.mp hu
      rw [← Bool.not_eq_true]
      intro hx
      have := (Undef.mem_cut hu hx).2
      omega
    · exact h'.2 c hc

theorem Memory.write_wf {m : Memory} (h : m.wf = true) (a : Nat) (b : List Byte) : (m.write a b).wf = true := by
  induction b generalizing m a with
  | nil => exact h
  | cons x r ih => exact ih (Memory.writeByte_wf h a x) (a + 1)

theorem Memory.writeLe_wf {m : Memory} (h : m.wf = true) (a n v : Nat) : (m.writeLe a n v).wf = true := Memory.write_wf h a _

theorem Memory.undefine_wf {m : Memory} (h : m.wf = true) (a len stretch : Nat) : (m.undefine a len stretch).wf = true := by
  have h' := Memory.clear_wf h a len
  simp only [Memory.undefine]
  rw [Memory.wf_iff] at h' ⊢
  refine ⟨h'.1, fun c hc => ⟨(h'.2 c hc).1, fun u hu => ?_⟩⟩
  rcases List.mem_cons.mp hu with hu | hu
  · subst hu
    have := (List.mem_filter.mp hc).2
    rw [← Bool.not_eq_true]
    intro hx
    rw [Undef.has_iff] at hx
    rw [outside_iff] at this
    simp only at hx
    omega
  · exact (h'.2 c hc).2 u hu

theorem Memory.foldl_put_wf {l : List Host.Cell} {f : Nat → Nat} {cells : List Host.Cell} {undef : List Undef}
    (h : (Memory.mk cells undef).wf = true) (hl : ∀ c ∈ l, c.2 ≠ 0 ∧ ∀ u ∈ undef, u.has (f c.1) = false) :
    (Memory.mk (l.foldl (fun acc c => Assoc.put (f c.1) c.2 acc) cells) undef).wf = true := by
  induction l generalizing cells with
  | nil => exact h
  | cons x r ih =>
    refine ih ?_ fun c hc => hl c (by simp [hc])
    rw [Memory.wf_iff] at h ⊢
    refine ⟨Assoc.put_pairwise h.1, fun c hc => ?_⟩
    rcases Assoc.mem_put hc with hc | hc
    · subst hc
      exact hl x (by simp)
    · exact h.2 c hc

theorem Memory.copy_wf {m : Memory} (h : m.wf = true) (src dst len : Nat) : (m.copy src dst len).wf = true := by
  have h' := Memory.clear_wf h dst len
  have hm := Memory.wf_iff.mp h
  refine Memory.foldl_put_wf (f := fun a => a - src + dst) ?_ fun c hc => ?_
  · rw [Memory.wf_iff] at h' ⊢
    refine ⟨h'.1, fun c hc => ⟨(h'.2 c hc).1, fun u hu => ?_⟩⟩
    rcases List.mem_append.mp hu with hu | hu
    · obtain ⟨w, _, hu⟩ := List.mem_flatMap.mp hu
      have out := (List.mem_filter.mp hc).2
      rw [← Bool.not_eq_true]
      intro hx
      have := Undef.mem_moved hu hx
      rw [outside_iff] at out
      omega
    · exact (h'.2 c hc).2 u hu
  · obtain ⟨hc, inside⟩ := List.mem_filter.mp hc
    simp only [Bool.and_eq_true, Nat.ble_eq, Nat.blt_eq] at inside
    refine ⟨(hm.2 c hc).1, fun u hu => ?_⟩
    rw [← Bool.not_eq_true]
    intro hx
    rcases List.mem_append.mp hu with hu | hu
    · obtain ⟨w, hw, hu⟩ := List.mem_flatMap.mp hu
      have := (Undef.mem_moved hu hx).2.2
      rw [show c.1 - src + dst - dst + src = c.1 by omega] at this
      simp [(hm.2 c hc).2 w hw] at this
    · obtain ⟨w, _, hu⟩ := List.mem_flatMap.mp hu
      have := (Undef.mem_cut hu hx).2
      omega

theorem Memory.restart_wf {m : Memory} (h : m.wf = true) (region : Option Nat) (stretch : Nat) : (m.restart region stretch).wf = true := by
  cases region with
  | none => rfl
  | some base =>
    rw [Memory.wf_iff] at h
    rw [Memory.restart, Memory.wf_iff]
    refine ⟨h.1.filter _, fun c hc => ?_⟩
    obtain ⟨hc, inside⟩ := List.mem_filter.mp hc
    simp only [Bool.and_eq_true, Nat.ble_eq, Nat.blt_eq] at inside
    refine ⟨(h.2 c hc).1, fun u hu => ?_⟩
    rw [← Bool.not_eq_true]
    intro hx
    rcases List.mem_append.mp hu with hu | hu
    · obtain ⟨w, hw, hu⟩ := List.mem_flatMap.mp hu
      have := (Undef.mem_moved hu hx).2.2
      rw [show c.1 - base + base = c.1 by omega] at this
      simp [(h.2 c hc).2 w hw] at this
    · simp only [Memory.clear] at hu
      obtain ⟨w, _, hu⟩ := List.mem_flatMap.mp hu
      have := (Undef.mem_cut hu hx).2
      omega

theorem State.reset_mem_wf : State.reset.mem.wf = true := rfl

/-! ### Reading -/

/-- What is unlisted outside a cut range reads as before. -/
theorem Memory.unlisted_cut {m : Memory} {cells : List Host.Cell} {a len x : Nat} (h : x < a ∨ a + len ≤ x) :
    (Memory.mk cells (m.undef.flatMap (Undef.cut a len))).unlisted x = m.unlisted x := by
  simp only [Memory.unlisted]
  generalize m.undef = l
  induction l with
  | nil => rfl
  | cons u r ih =>
    simp only [List.flatMap_cons, List.find?_append]
    by_cases hu : u.has x = true
    · have hu' := hu
      rw [Undef.has_iff] at hu
      simp only [List.find?_cons, hu']
      rcases h with h | h
      · have h1 : u.base < a := by omega
        simp only [Undef.cut, h1, ↓reduceIte, List.singleton_append]
        have h2 : Undef.has ⟨u.base, min (u.base + u.len) a - u.base, u.stretch, u.origin⟩ x = true := by
          rw [Undef.has_iff]
          simp only
          omega
        simp [h2]
      · have h1 : a + len < u.base + u.len := by omega
        have h2 : ((if u.base < a then [(⟨u.base, min (u.base + u.len) a - u.base, u.stretch, u.origin⟩ : Undef)] else []).find? fun w => w.has x) = none := by
          split
          · simp only [List.find?_eq_none, List.mem_singleton, forall_eq]
            rw [Undef.has_iff]
            simp only
            omega
          · rfl
        simp only [Undef.cut, h1, ↓reduceIte, List.find?_append, h2, Option.none_or]
        have h3 : Undef.has ⟨max u.base (a + len), u.base + u.len - max u.base (a + len), u.stretch,
            u.origin + (max u.base (a + len) - u.base)⟩ x = true := by
          rw [Undef.has_iff]
          simp only
          omega
        simp only [List.find?_cons, h3, Option.some_or]
        congr 1
        omega
    · simp only [List.find?_cons, Bool.eq_false_iff.mpr hu]
      have : ((u.cut a len).find? fun w => w.has x) = none := by
        rw [List.find?_eq_none]
        intro w hw hx
        exact hu (Undef.mem_cut hw hx).1
      rw [this, Option.none_or]
      exact ih

/-- Inside a range that has been cut an unlisted byte reads 0. -/
theorem Memory.unlisted_cut_inside {m : Memory} {cells : List Host.Cell} {a len x : Nat} (h1 : a ≤ x) (h2 : x < a + len) :
    (Memory.mk cells (m.undef.flatMap (Undef.cut a len))).unlisted x = 0 := by
  simp only [Memory.unlisted]
  rw [List.find?_eq_none.mpr]
  intro u hu hx
  obtain ⟨w, _, hu⟩ := List.mem_flatMap.mp hu
  have := (Undef.mem_cut hu hx).2
  omega

theorem Memory.readByte_writeByte_self (m : Memory) (a : Nat) (b : Byte) : (m.writeByte a b).readByte a = b := by
  simp only [Memory.writeByte, Memory.define]
  split
  · next hb =>
    simp only [Memory.readByte, Assoc.find_del_same]
    rw [Memory.unlisted_cut_inside (Nat.le_refl a) (by omega), hb]
  · simp [Memory.readByte]

theorem Memory.readByte_writeByte_ne {m : Memory} {a x : Nat} (b : Byte) (h : x ≠ a) : (m.writeByte a b).readByte x = m.readByte x := by
  have hu : ∀ cells, (Memory.mk cells (m.undef.flatMap (Undef.cut a 1))).unlisted x = m.unlisted x :=
    fun cells => Memory.unlisted_cut (by omega)
  simp only [Memory.writeByte, Memory.define]
  split
  · have : Assoc.find x (Assoc.del a m.cells) = Assoc.find x m.cells := Assoc.find_filter fun v => by
      rw [Bool.not_eq_true', ← Bool.not_eq_true, Nat.beq_eq]
      exact h
    simp only [Memory.readByte, this, hu]
  · simp only [Memory.readByte, Assoc.find_put_other h, hu]

/-- A write leaves every byte outside it. -/
theorem Memory.readByte_write_outside {m : Memory} {a x : Nat} (b : List Byte) (h : x < a ∨ a + b.length ≤ x) :
    (m.write a b).readByte x = m.readByte x := by
  induction b generalizing m a with
  | nil => rfl
  | cons y r ih =>
    simp only [List.length_cons] at h
    rw [Memory.write, ih (by omega), Memory.readByte_writeByte_ne y (by omega)]

/-- A write is what its bytes read as. -/
theorem Memory.readByte_write_inside {m : Memory} {a i : Nat} {b : List Byte} (h : i < b.length) : (m.write a b).readByte (a + i) = b[i] := by
  induction b generalizing m a i with
  | nil => simp at h
  | cons y r ih =>
    cases i with
    | zero => simp [Memory.write, Memory.readByte_write_outside, Memory.readByte_writeByte_self]
    | succ i =>
      rw [Memory.write, show a + (i + 1) = a + 1 + i by omega]
      simpa using ih (by simpa using h)

theorem Memory.readByte_clear_outside {m : Memory} {a len x : Nat} (h : x < a ∨ a + len ≤ x) : (m.clear a len).readByte x = m.readByte x := by
  have : Assoc.find x (m.cells.filter fun c => !(Nat.ble a c.1 && Nat.blt c.1 (a + len))) = Assoc.find x m.cells :=
    Assoc.find_filter fun v => by
      rw [outside_iff]
      omega
  simp only [Memory.clear, Memory.readByte, this, Memory.unlisted_cut h]

theorem Memory.readByte_clear_inside {m : Memory} {a len x : Nat} (h1 : a ≤ x) (h2 : x < a + len) : (m.clear a len).readByte x = 0 := by
  have : Assoc.find x (m.cells.filter fun c => !(Nat.ble a c.1 && Nat.blt c.1 (a + len))) = none :=
    Assoc.find_eq_none fun e he => by
      have := (List.mem_filter.mp he).2
      rw [outside_iff] at this
      omega
  simp only [Memory.clear, Memory.readByte, this, Memory.unlisted_cut_inside h1 h2]

end Sys2Proof.Machine
end

