-- ==== Sys2Proof/Tests/Slice0.lean ====
section
/-!
SUPPORT. Tests: commands that name no unit of the Y40 are refused by the check of `WellFormed`; a few single steps against the worked examples of the
spec; and for every statement of `Obligations` with hypotheses a witness, one state and operands per clause that meet them together.
-/
open Sys2Proof Sys2Proof.Machine

set_option Elab.async false

namespace Sys2Proof.Tests

/-! ### Commands that the check refuses -/

/-- One command for each check on numbers of the package, the wingbeat and the core. -/
theorem test_wf_refuses_core_commands : ([.clockUnlock 32, .meshEdgeDown 80, .cdcTimeout (.edge 80) 0, .cdcTimeout (.edge 0) 40, .crossingResync (.core 32), .operatingPointChangeDone 32,
    .windowStart 16384 0, .windowStart 0 2048, .windowEnd 16384 0, .workEntryStart 16384, .restoreGroupDone 64 0 0, .restoreGroupDone 0 4 0,
    .restoreGroupDone 0 0 65536, .runawayStride 2048 0, .chrysalisSaveStart 2048, .chrysalisSaveDone 2048, .drainTimeout 2048, .branch 0 true 4096,
    .branch 2048 true 0, .call 0 4096, .ret 2048, .repeatBody 0 0 (.imm 1), .repeatBody 0 257 (.imm 1), .repeatBody 0 1 (.reg 32), .yield 2048,
    .endRoutine 2048, .rets 2048, .rshr 0 32 0 (.imm 1), .rshr 0 0 32 (.imm 1), .narrow 0 0 0 (some 32) 0 true, .narrow 0 0 0 none 64 false,
    .norm 0 0 32 0 .int16, .expx 0 0 32 .fp32, .bexp 0 16 0 64, .bexp 0 0 0 1, .bexp 0 0 0 65, .rng 0 16 0 0 0 false, .rng 0 0 0 65536 0 false,
    .rng 0 0 0 0 65536 false, .sample 0 0 0x200000 1 0 0, .sample 0 0 0 0 0 0, .sample 0 0 0 65 0 0, .scratchpadLoad 0 (.scalar 32) 0 .linear,
    .scratchpadLoad 0 (.vector 16) 0 .linear, .scratchpadStore 0 (.scalar 0) 8 .linear, .scalarOperation 0 .add 32 0 (.imm 0),
    .scalarOperation 0 .add 0 32 (.imm 0), .multiplyAccumulate 0 .mul32 0 0 32, .signalTake 2048] : List Instr).all (fun c => !c.wf) = true := by decide

/-- One command for each check of firing, queues, radio, fronthaul and time. -/
theorem test_wf_refuses_unit_commands : ([.arrayProduct 0 256, .vectorOperation 2048 0, .copyFire 0 256, .sequencerRoutine 0 256, .remoteLoad 0 256,
    .remoteStore 0 256, .atomicAdd 0 256, .atomicSwap 0 256, .atomicCas 0 256, .atomicMin 0 256, .atomicMax 0 256, .arrayOccupancyEnd 2048,
    .feederRefill 0 32, .epilogueStart 2048, .operationComplete 0 3, .postArrival 2048 0, .postArrival 0 2048, .copySourceRelease 2048 0, .copyLanding 2048 0,
    .sqEntryRead 258 0 .error, .invoke 0 64, .loadProgram 258 0, .unloadProgram 0 64, .unloadProgramComplete 64 0, .slotSet 258 0, .contextOpen 258 0,
    .contextClose 258 0, .contextCloseComplete 64 0, .copy 258 0, .barrier 0 64, .coreReset 258 0, .attest 258 0, .rxDataIndication ⟨1024, 0, 0⟩,
    .crcIndication ⟨0, 1024, 0⟩, .uciIndication ⟨1024, 0, 0⟩, .rachIndication ⟨0, 1024, 0⟩, .rxUlschIndication ⟨1024, 0, 0⟩, .ldpcDecode 48 ⟨0, 0, 0⟩ 0 0,
    .ldpcDecode 0 ⟨1024, 0, 0⟩ 0 0, .ldpcDecode 0 ⟨0, 0, 0⟩ 65536 0, .prachDetection ⟨0, 1024, 0⟩, .radioFallback 1024, .engineSelfCheckFail 4 0,
    .engineSelfCheckFail 1 16, .interfaceLinkDown 64, .frameEligible 1024 0 .uDown 0 0, .frameEligible 0 0 .cDown 0 14,
    .frameStartLimit 64 0, .frameTransmit 64 0, .ecpriDelayRequest 64 0 0 0, .delayReq 64 0 ⟨0, 0, 0, 0, 0, 0, false⟩,
    .sync 64 0 ⟨0, 0, 0, 0, 0, 0, false⟩, .syncTransmit 64, .announceTransmit 64, .compareArm 16, .compareFire 16, .esmcReceive 16, .esmcInformationPdu 64, .esmcEventPdu 64,
    .nowFracRead (.core 16), .latchRead (.fn 258) 0 0, .latchedHighRead .testPort 1024 0, .lfcLoRead (.core 16)] : List Instr).all (fun c => !c.wf) = true := by
  decide

/-- One command for each check of the cocoons, memory, silk, Staido, the pod, start-up, power and the pages. -/
theorem test_wf_refuses_system_commands : ([.cocoonDestroyFillDone 64, .keyLoad 64, .keyErase 64, .keySlotChange 64 0, .bind 64 0, .bind 0 258, .unbind 0 258,
    .unfence 64, .wayClearDone 256 0, .wayClearDone 0 16, .tdmSlotBoundary 16, .dirtyCfgWrite 256 true, .dirtyLogConfigWrite 0 4096 0, .dirtyLogDrained 256,
    .gddr7Access 0 1 .read ⟨0, 0, 0, 0⟩ ⟨0, 0, 0, 0⟩, .gddr7Access 0 0 (.writeLine [0]) ⟨0, 0, 0, 0⟩ ⟨0, 0, 0, 0⟩,
    .gddr7Access 0 0 (.writePart 64 [0]) ⟨0, 0, 0, 0⟩ ⟨0, 0, 0, 0⟩, .gddr7Refresh 24 0, .gddr7Refresh 0 16, .retrainDue 24 0 0, .retrainStep 24 true,
    .retrainStarved 24, .patrolScrub 0 0 [] true, .retrainNow 24, .retrainNowDone 24 true, .wavelengthFail 0 true 3, .spareSwitchDone 64 true,
    .opticalEngineFail 64, .linkTrainingDone 0 true 65536 0 0, .linkDown 64, .flitTransmit 0 8 0, .flitTransmit 0 0 64,
    .remoteRequestArrival ⟨65536, 0, 0, 1, 0, 4, [], []⟩, .remoteRequestArrival ⟨0, 0, 0, 1, 2 ^ 48, 4, [], []⟩, .getRequest 0 0 0 0 0 1024 0,
    .remoteResponseArrival 2048 0 ⟨[], false, none⟩, .deadTargetTimeout 2048 0, .halfDown 2, .halfRejoin 2, .staidoFlitReceive 4 true true 0 0 false,
    .sqTailDoorbell 258 0 4 0, .cqHeadDoorbell 0 4096 4 0, .regRd (.fn 258) 0 0, .regWr .testPort 0 4096 0, .memRdCompletion 258 0 .error, .svMaskWrite 0 8 0,
    .coalesceTimeout 0 64, .inval 258, .functionClear .testPort 258, .sqEnable 0 64 0, .cqDisable 258 0 0, .heartbeatTransmit 64, .heartbeat 0 0 256 0 0 0,
    .heartbeatMissing 65536, .voteSend 65536, .voteReceive 65536 0 true, .voteRedirect 65536, .expel 0 [65536], .hold 65536, .readmitMessage 65536,
    .voteRecordsFlood [⟨0, 1, 0, 0, 0, []⟩], .quarantine 256 0, .quarantineClear 0 65536, .resume 256, .ckptStart 256, .ckptDone 256, .rollback 256,
    .signatureReceive 4 [], .signatureTimeout 4 ⟨0, 0, 0, 0⟩, .dieBringUpDone .ok [.position 0 66], .retestDone true [(32, 0)], .retestDone true [(0, 32)],
    .dieBringUpDone .ok [.arrayRow 0 0 32 0], .dieBringUpDone .ok [.cluster 32 0], .dieBringUpDone .ok [.engine 4 0], .dieBringUpDone .ok [.optical 72], .memoryTrainingDone ⟨[24], false, false⟩, .railSample [],
    .laserSample [], .temperatureSample [], .enable 1024, .disable 1024, .commit 1024, .blockReset 1024, .errWrite 1024 0, .testPortAccess (.readRing 40),
    .testPortAccess (.readPage 1024 0), .testPortAccess (.writePage 0 4096 0), .testPortAccess (.readLine (2 ^ 48)), .handoverEnd 2048,
    .cocoonClearDone 64] : List Instr).all (fun c => !c.wf) = true := by decide

/-- A frame of 64 bytes that is well formed. -/
def rxFrame : RxFrame := ⟨64, true, true, 0, 0, 0, false, false, false, false, 0, false, true, false, false, [], 0, false, true, 0, 0, 0, 0, 0, 0, 0, []⟩

/-- The checks on a received frame and on a flit. -/
theorem test_wf_refuses_frames_and_flits : ([
    .frameReceive 64 rxFrame, .frameReceive 0 { rxFrame with dst := 2 ^ 48 }, .frameReceive 0 { rxFrame with srcMac := 2 ^ 48 },
    .frameReceive 0 { rxFrame with seqId := 256 }, .frameReceive 0 { rxFrame with eaxc := 65536 },
    .flitReceive 0 true true ⟨65536, 0, 0, false, false, 0, 0, 0, 0, 0, ⟨0, 0, 0, 0, 0, false, false, false, 0⟩, []⟩,
    .flitReceive 0 true true ⟨0, 0, 8, false, false, 0, 0, 0, 0, 0, ⟨0, 0, 0, 0, 0, false, false, false, 0⟩, []⟩,
    .flitReceive 0 true true ⟨0, 0, 0, false, false, 0, 64, 0, 0, 0, ⟨0, 0, 0, 0, 0, false, false, false, 0⟩, []⟩,
    .flitReceive 0 true true ⟨0, 0, 0, false, false, 0, 0, 0, 0, 0, ⟨0, 0, 0, 0, 0, false, false, false, 0⟩, List.replicate 257 0⟩] :
    List Instr).all (fun c => !c.wf) = true := by decide +kernel

/-! ### Small states -/

/-- emerged, powered, a BEAT_CFG of 0 -/
def sE : State := { State.reset.setFld Reg.BOOT.STATE.INSTAR 5 with mem := { cells := [], undef := [] } }
def run0 (id c n : Nat) : Run := { id := id, cocoon := c, kind := .invoke, slot := 0, prog := 0, cmd := some ⟨0,0,List.replicate 64 0,0⟩, inv := 1, arg := 0, cores := [n], ctxs := [0], append := 0, maxLen := 0, step0 := 0, entry := 0, passes := [], stride := none, needLaunch := false, staged := true, suspended := false, fault := none, ending := none, strides := 0, beats := 0, lastBeat := none, logged := 0, replay := false, ran := [] }
/-- `foldl crcByte` with every partial result computed before the next byte. -/
def forceFold : List Byte → Word → Word
  | [], c => c
  | b :: r, c => if (crcByte c b).toNat = 0 then forceFold r 0 else forceFold r (crcByte c b)
theorem forceFold_eq (l : List Byte) (c : Word) : forceFold l c = l.foldl crcByte c := by
  induction l generalizing c with
  | nil => rfl
  | cons b r ih =>
    rw [forceFold, List.foldl_cons]
    split
    · rename_i h
      rw [ih, show crcByte c b = 0 from BitVec.eq_of_toNat_eq h]
    · exact ih _
theorem imageCrc_eq (l : List Byte) (off : Nat) :
    imageCrc l off = (~~~(forceFold (l.take off ++ [0, 0, 0, 0] ++ l.drop (off + 4)) 0xFFFFFFFF#32)).toNat := by
  rw [forceFold_eq]; rfl
/-- What a command that answers a next state leaves. -/
def after (c : Instr) (s : State) : State :=
  match exec c s with
  | .next t => t
  | _ => State.reset

/-! ### Worked examples of the spec -/

/-- The example of R22: the scratchpad of logical core 1,117 begins at 0x0040_8BA0_0000. -/
theorem test_scratchpad_base : spBase (17 * 64 + 3 * 8 + 5) = 0x00408BA00000 := by decide

/-- The example of R122: 2^24 + 1 ties to 2^24 at each addition. -/
theorem test_accumulation_ties_to_even :
    enc32 (((Fp.ofNat 16777216).add32 (Fp.ofNat 1)).add32 (Fp.ofNat 1)) = enc32 (Fp.ofNat 16777216) := by decide +kernel

/-- The example after R91: 2,621 and −3,000 have 3 redundant sign bits; NORM of 0x0A3D gives 0x51E8. -/
theorem test_block_exponent : redundant 16 2621 = 3 ∧ redundant 16 (-3000) = 3 ∧ 0x0A3D <<< 3 = 0x51E8 := by decide

/-- The same example: right shifts by 4 round to nearest, ties to even. -/
theorem test_rshr_rounds : rshr 2621 4 = 164 ∧ rshr (-3000) 4 = -188 ∧ rshr 40 4 = 2 ∧ rshr 56 4 = 4 := by decide

/-- A core with a routine, and generator 3 circular as in the example after R88. -/
def agState (off stride : Nat) : State :=
  let s := sE.setCore 6 { sE.core 6 with routine := some ⟨3, [], false⟩ }
  (((s.wr (cwBase 6 + agOff 3) 4 0x1000).wr (cwBase 6 + agOff 3 + 4) 4 96).wr (cwBase 6 + agOff 3 + 8) 4 stride).wr (cwBase 6 + agOff 3 + 12) 4 off

/-- That example: from OFFSET 80 a stride of 40 leads to 24, and from 0 one of −40 to 56. -/
theorem test_circular_generator :
    (((after (.scratchpadLoad 6 (.scalar 1) 3 .circular) (agState 80 40)).core 6).landings.map fun x => x.bytes).contains (leBytes 4 24) ∧
      (((after (.scratchpadLoad 6 (.scalar 1) 3 .circular) (agState 0 0xFFFFFFD8)).core 6).landings.map fun x => x.bytes).contains (leBytes 4 56) := by
  decide +kernel

/-- The example of R186: of four candidates the draw 0xB400_0000 picks candidate 1. -/
theorem test_sample_picks : samplePick [.ofNat 10, .ofNat 9, .ofNat 8, .ofNat 6] (.ofNat 1) (dec32 0x3F666666) 0xB4000000 = some 1 := by decide +kernel

/-- The example of R284: at 25,041,700,000 ns LFC_LO reads 0x0001_5400 and LFC_HI 0x0002_01C8. -/
theorem test_legacy_frame_counter :
    ({ sE.setFld Reg.LFC.LFC_OFFSET.TS 0 with time := { sE.time with t := 65536 * 25041700000 } } : State).lfcLo = 0x00015400 ∧
      ({ sE.setFld Reg.LFC.LFC_OFFSET.TS 0 with time := { sE.time with t := 65536 * 25041700000 } } : State).lfcHi = 0x000201C8 := by decide +kernel

/-- The example of R213: delay 1,300 ns, 2,556 T_c, at μ = 1 is a timing advance of 5. -/
theorem test_timing_advance : timingAdvance 0 2556 1 = 5 := by decide

/-- The check value of the CRC-32 of IEEE 802.3 (R49): that of "123456789". -/
theorem test_crc32_check_value : (crc32 [0x31, 0x32, 0x33, 0x34, 0x35, 0x36, 0x37, 0x38, 0x39]).toNat = 0xCBF43926 := by decide +kernel

/-- FIPS 197, appendix C.1: the cipher that R185 names. -/
theorem test_aes128_vector : aes128 ((List.range 16).map (BitVec.ofNat 8)) ((List.range 16).map fun k => BitVec.ofNat 8 (17 * k)) =
    [0x69, 0xC4, 0xE0, 0xD8, 0x6A, 0x7B, 0x04, 0x30, 0xD8, 0xCD, 0xB7, 0x80, 0x70, 0xB4, 0xC5, 0x5A] := by decide +kernel

/-- R27: a loss of the reference sets the level on a C-die page, and its return clears it. -/
theorem test_reference_loss : (after .referenceLoss sE).fld (Reg.DIE.CLK_STATUS.REF_HOLD 31) = 1 ∧
    (after .referenceReturn (after .referenceLoss sE)).fld (Reg.DIE.CLK_STATUS.REF_HOLD 31) = 0 := by decide +kernel

/-- R454: a cold reset leaves instar 0. -/
theorem test_cold_reset : (after .coldReset sE).fld Reg.BOOT.STATE.INSTAR = 0 := by decide +kernel

/-! ### Witnesses -/

namespace W01

def sMesh : State :=
  let s := sE
  let s := { s with posts := [⟨0, 64, 0, 0, 1, 5, 0, 0⟩] }
  s.issuePosts
def sX : State := match execCdcTimeout (.edge 3) 3 sE with | .next t => t | _ => sE
def sT : State := sE.setFlds [(Reg.DIE.TEMP.DEGC 0, 1000), (Reg.DIE.TEMP.DEGC 1, 0)]
def opS (die p now : Nat) : State := {(sE.setFlds [(Reg.DIE.OPPOINT.CUR die, now)]) with power := {sE.power with changes := [(die,p)]}}

theorem witness_clocks_edges_and_operating_points :
    (∃ (_ : State) (die : Nat), (Instr.clockUnlock die).wf) ∧
    (∃ (s : State) (e : Nat), ((Instr.meshEdgeDown e).wf) ∧ (s.fld Reg.BOOT.STATE.INSTAR = 5) ∧ (s.fatal = none)) ∧
    (∃ (s : State) (e : Nat) (d : Nat), ((Instr.cdcTimeout (.edge e) d).wf) ∧ (((edgeEnds e).1 = d ∨ (edgeEnds e).2 = d)) ∧ ((s.crossing (.edge e)).down =
      false)) ∧
    (∃ (s : State) (d : Nat), ((Instr.cdcTimeout (.core d) d).wf) ∧ ((s.crossing (.core d)).down = false)) ∧
    (∃ (s : State) (x : Crossing), ((Instr.crossingResync x).wf) ∧ ((s.crossing x).resync ∨ (s.crossing x).down)) ∧
    (∃ (s : State) (x : Crossing) (core : Nat) (mask : Nat), ((Instr.crossingResync x).wf) ∧ (core < 2048) ∧ (mask < 8) ∧ ((s.crossing x).resync) ∧
      ((s.crossing x).events = [⟨core, mask, false⟩])) ∧
    (∃ (s : State) (e : Nat), (e < 80) ∧ (320 < max (s.dieTemp (edgeEnds e).1 - s.dieTemp (edgeEnds e).2) (s.dieTemp (edgeEnds e).2 - s.dieTemp (edgeEnds
      e).1)) ∧ (Assoc.findD (α := Nat) e 0 s.power.pairWait ≤ s.mono)) ∧
    (∃ (s : State) (die : Nat) (p : Nat), ((Instr.operatingPointChangeDone die).wf) ∧ (p ≤ 2) ∧ (s.point die < p) ∧ (s.power.changes = [(die, p)])) ∧
    (∃ (s : State) (die : Nat) (p : Nat), ((Instr.operatingPointChangeDone die).wf) ∧ (p ≤ s.point die) ∧ (s.power.changes = [(die, p)])) :=
  ⟨⟨sE, 31, by decide +kernel⟩,
   ⟨sE, 0, by decide +kernel⟩,
   ⟨sMesh, 0, 0, by decide +kernel⟩,
   ⟨sE, 31, by decide +kernel⟩,
   ⟨sX, .edge 3, by decide +kernel⟩,
   ⟨(sE.setCrossing (.core 2) ⟨false, true, true, [⟨130, 4, false⟩], 3⟩), .core 2, 130, 4, by decide +kernel⟩,
   ⟨sT, 0, by decide +kernel⟩,
   ⟨(opS 5 1 0), 5, 1, by decide +kernel⟩,
   ⟨(opS 5 0 0), 5, 0, by decide +kernel⟩⟩

end W01

namespace W02

def mkRun (s : State) (n : Nat) : State := s.setCore n { s.core n with routine := some ⟨3, [], false⟩ }
def r0 (n : Nat) : State := (mkRun sE n).setPc n 100
def wS (s : State) (n k v : Nat) : State := s.wr (scalarAddr n k) 4 v
def withDelay (s : State) (n : Nat) (d : Option (Nat × Option Nat)) : State := s.setCore n { s.core n with delay := d }
def rep1 (n cnt : Nat) : State := (r0 n).setRepeat n 0 90 100 cnt
def rep4 (n : Nat) : State := ((((r0 n).setRepeat n 0 90 110 2).setRepeat n 1 91 109 3).setRepeat n 2 92 108 3).setRepeat n 3 93 107 4
def hdl (n : Nat) : State := (r0 n).setCore n { (r0 n).core n with handler := some ⟨true, 77⟩, landings := [⟨0, 0xA400, [1,2,3,4]⟩, ⟨9, 0xA404, [1,2,3,4]⟩] }
def sg (p : Nat) (en : Nat) : State := (((sE.setPc 4 55).wr (signalAddr 4) 4 p).wr (handlerAddr 4 false) 4 en).wr (handlerAddr 4 true) 4 en
def ar : State := wS (wS (wS (r0 5) 5 1 0x80000000) 5 2 0x00018000) 5 3 0x7F800000
def arV : State := ar.wr (vectorAddr 5 3) 8 0xFF0032345678
def agS (n g base len stride off : Nat) : State := (((((r0 n).wr (cwBase n + agOff g) 4 base).wr (cwBase n + agOff g + 4) 4 len).wr (cwBase n + agOff g + 8) 4 stride).wr (cwBase n + agOff g + 12) 4 off)
def runS (n : Nat) : State := { (r0 n).setFld (Reg.COCOON.CTX_BASE.BASE 5) 1 with runs := [run0 1 5 n] }
def smS : State := (runS 8).wr (spBase 8 + 0x1FF000 + 512) 4 77
def cand (s : State) (n addr k : Nat) : List Fp := (List.range k).map (fun i => dec32 ((s.land n).rd (spBase n + addr + 4 * i) 4))
def busyV : State := ar.setCore 5 { ar.core 5 with vector := some .epilogue }

theorem witness_transfers_repeats_and_program_counter :
    (∃ (s : State) (core : Nat) (target : Nat), ((Instr.branch core true target).wf) ∧ (s.canIssue core) ∧ ((s.core core).delay = none) ∧ ((s.land
      core).lastThree core = false) ∧ ((s.land core).insideBody core target)) ∧
    (∃ (s : State) (core : Nat) (target : Nat), ((Instr.branch core false target).wf) ∧ (s.canIssue core) ∧ ((s.core core).delay = none) ∧ ((s.land
      core).lastThree core = false)) ∧
    (∃ (s : State) (core : Nat) (target : Nat), ((Instr.call core target).wf) ∧ (s.canIssue core) ∧ ((s.core core).delay = none) ∧ ((s.land core).lastThree
      core = false)) ∧
    (∃ (s : State) (core : Nat), ((Instr.ret core).wf) ∧ (s.canIssue core) ∧ ((s.core core).delay = none) ∧ ((s.land core).lastThree core = false)) ∧
    (∃ (s : State) (core : Nat) (a : Nat) (rest : List Nat), ((Instr.ret core).wf) ∧ (s.canIssue core) ∧ ((s.core core).delay = none) ∧ ((s.land
      core).lastThree core = false) ∧ ((s.core core).calls = a :: rest)) ∧
    (∃ (s : State) (core : Nat) (op : ScalarOp) (rd : Nat) (ra : Nat) (b : Src), ((Instr.scalarOperation core op rd ra b).wf) ∧ (s.canIssue core) ∧
      (s.unpoisoned core) ∧ ((s.core core).delay = none) ∧ ((s.land core).repeatDepth core = 0)) ∧
    (∃ (s : State) (core : Nat) (op : ScalarOp) (rd : Nat) (ra : Nat) (b : Src) (k : Nat) (a : Option Nat), ((Instr.scalarOperation core op rd ra b).wf) ∧
      (s.canIssue core) ∧ (s.unpoisoned core) ∧ ((s.core core).delay = some (k + 2, a))) ∧
    (∃ (s : State) (core : Nat) (op : ScalarOp) (rd : Nat) (ra : Nat) (b : Src) (a : Nat), ((Instr.scalarOperation core op rd ra b).wf) ∧ (s.canIssue core)
      ∧ (s.unpoisoned core) ∧ ((s.core core).delay = some (1, some a))) ∧
    (∃ (s : State) (core : Nat) (op : ScalarOp) (rd : Nat) (ra : Nat) (b : Src), ((Instr.scalarOperation core op rd ra b).wf) ∧ (s.canIssue core) ∧
      (s.unpoisoned core) ∧ ((s.core core).delay = some (1, none))) ∧
    (∃ (s : State) (core : Nat) (op : ScalarOp) (rd : Nat) (ra : Nat) (b : Src) (d : Nat) (first : Nat) (last : Nat) (count : Nat), ((Instr.scalarOperation
      core op rd ra b).wf) ∧ (s.canIssue core) ∧ (s.unpoisoned core) ∧ ((s.core core).delay = none) ∧ ((s.land core).repeatDepth core = d + 1) ∧
      ((s.land core).repeatEntry core d = (first, last, count + 2)) ∧ ((s.land core).pc core = last)) ∧
    (∃ (s : State) (core : Nat) (op : ScalarOp) (rd : Nat) (ra : Nat) (b : Src) (first : Nat) (last : Nat), ((Instr.scalarOperation core op rd ra b).wf) ∧
      (s.canIssue core) ∧ (s.unpoisoned core) ∧ ((s.core core).delay = none) ∧ ((s.land core).repeatDepth core = 1) ∧ ((s.land core).repeatEntry core
      0 = (first, last, 1)) ∧ ((s.land core).pc core = last)) ∧
    (∃ (s : State) (core : Nat) (body : Nat) (count : Src), ((Instr.repeatBody core body count).wf) ∧ (s.canIssue core) ∧ (s.unpoisoned core) ∧ ((s.core
      core).delay = none) ∧ ((s.land core).repeatDepth core < 4) ∧ ((s.land core).srcVal core count % 65536 ≠ 0) ∧ ((∀ i, i < 4 → (s.land
      core).repeatDepth core ≤ i → ((s.land core).repeatEntry core i).2.2 = 0))) ∧
    (∃ (s : State) (core : Nat) (body : Nat) (count : Src), ((Instr.repeatBody core body count).wf) ∧ (s.canIssue core) ∧ (s.unpoisoned core) ∧ ((s.core
      core).delay = none) ∧ ((s.land core).repeatDepth core = 0) ∧ ((s.land core).srcVal core count % 65536 = 0)) :=
  ⟨⟨(r0 0), 0, 4095, by decide +kernel⟩,
   ⟨(r0 0), 0, 4095, by decide +kernel⟩,
   ⟨(r0 0), 0, 4095, by decide +kernel⟩,
   ⟨(r0 0), 0, by decide +kernel⟩,
   ⟨((r0 0).setCore 0 { (r0 0).core 0 with calls := [5,6]}), 0, 5, [6], by decide +kernel⟩,
   ⟨(r0 0), 0, .shra, 31, 1, .imm 33, by decide +kernel⟩,
   ⟨(withDelay (r0 5) 5 (some (2,none))), 5, .shra, 31, 1, .imm 33, 0, none, by decide +kernel⟩,
   ⟨(withDelay (r0 5) 5 (some (1,some 9))), 5, .shra, 31, 1, .imm 33, 9, by decide +kernel⟩,
   ⟨(withDelay (r0 5) 5 (some (1,none))), 5, .shra, 31, 1, .imm 33, by decide +kernel⟩,
   ⟨(rep1 5 3), 5, .shra, 31, 1, .imm 33, 0, 90, 100, 1, by decide +kernel⟩,
   ⟨(rep1 5 1), 5, .shra, 31, 1, .imm 33, 90, 100, by decide +kernel⟩,
   ⟨(r0 0), 0, 256, .imm 1, by decide +kernel⟩,
   ⟨(wS (r0 0) 0 4 0x10000), 0, 256, .reg 4, by decide +kernel⟩⟩

theorem witness_signal_points_and_handlers :
    (∃ (s : State) (core : Nat), ((Instr.yield core).wf) ∧ (s.canIssue core) ∧ ((s.core core).delay = none)) ∧
    (∃ (s : State) (core : Nat), ((Instr.endRoutine core).wf) ∧ (s.canIssue core) ∧ ((s.core core).handler = none)) ∧
    (∃ (s : State) (core : Nat) (h : Handler), ((Instr.endRoutine core).wf) ∧ (s.canIssue core) ∧ ((s.core core).handler = some h)) ∧
    (∃ (s : State) (core : Nat) (h : Handler), ((Instr.rets core).wf) ∧ (s.canIssue core) ∧ ((s.core core).handler = some h)) ∧
    (∃ (s : State) (core : Nat), ((Instr.rets core).wf) ∧ (s.canIssue core) ∧ ((s.core core).handler = none)) ∧
    (∃ (s : State) (core : Nat) (c : Instr), ((Instr.yield core).wf) ∧ (c ∈ [Instr.yield core, .endRoutine core, .rets core]) ∧ (s.canIssue core = false)) ∧
    (∃ (s : State) (core : Nat), ((Instr.signalTake core).wf) ∧ (((s.core core).atPoint = false ∨ s.signals core = 0))) ∧
    (∃ (s : State) (core : Nat), ((Instr.signalTake core).wf) ∧ ((s.core core).atPoint) ∧ ((s.signals core).testBit 0)) ∧
    (∃ (s : State) (core : Nat) (e : Nat), ((Instr.signalTake core).wf) ∧ ((s.core core).atPoint) ∧ ((s.signals core).testBit 0 = false) ∧ ((s.signals
      core).testBit 1) ∧ (s.handlerEntry core false = some e)) ∧
    (∃ (s : State) (core : Nat) (e : Nat), ((Instr.signalTake core).wf) ∧ ((s.core core).atPoint) ∧ ((s.signals core).testBit 0 = false) ∧ (((s.signals
      core).testBit 1 → s.handlerEntry core false = none)) ∧ ((s.signals core).testBit 2) ∧ (s.handlerEntry core true = some e)) ∧
    (∃ (s : State) (core : Nat), ((Instr.signalTake core).wf) ∧ ((s.core core).atPoint) ∧ ((s.signals core).testBit 0 = false) ∧ (s.signals core ≠ 0) ∧
      (((s.signals core).testBit 1 → s.handlerEntry core false = none)) ∧ (((s.signals core).testBit 2 → s.handlerEntry core true = none))) :=
  ⟨⟨(r0 0), 0, by decide +kernel⟩,
   ⟨(rep1 3 2), 3, by decide +kernel⟩,
   ⟨(hdl 0), 0, ⟨true, 77⟩, by decide +kernel⟩,
   ⟨(hdl 0), 0, ⟨true, 77⟩, by decide +kernel⟩,
   ⟨(r0 0), 0, by decide +kernel⟩,
   ⟨sE, 7, .rets 7, by decide +kernel⟩,
   ⟨(sg 0 0), 4, by decide +kernel⟩,
   ⟨(sg 7 0), 4, by decide +kernel⟩,
   ⟨(sg 6 0x80000010), 4, 16, by decide +kernel⟩,
   ⟨(sg 4 0x80000010), 4, 16, by decide +kernel⟩,
   ⟨(sg 2 0x10), 4, by decide +kernel⟩⟩

theorem witness_scalar_results_and_latencies :
    (∃ (s : State) (core : Nat) (op : ScalarOp) (rd : Nat) (ra : Nat) (b : Src), ((Instr.scalarOperation core op rd ra b).wf) ∧ (s.canIssue core) ∧
      (s.unpoisoned core)) ∧
    (∃ (s : State) (core : Nat) (rd : Nat) (ra : Nat) (rb : Nat), ((Instr.multiplyAccumulate core .mul32 rd ra rb).wf) ∧ (s.canIssue core) ∧ (s.unpoisoned
      core)) ∧
    (∃ (s : State) (core : Nat) (rd : Nat) (ra : Nat) (rb : Nat), ((Instr.multiplyAccumulate core .q15mul rd ra rb).wf) ∧ (s.canIssue core) ∧ (s.unpoisoned
      core)) ∧
    (∃ (s : State) (core : Nat) (rd : Nat) (ra : Nat) (rb : Nat), ((Instr.multiplyAccumulate core .q15mac rd ra rb).wf) ∧ (s.canIssue core) ∧ (s.unpoisoned
      core)) ∧
    (∃ (s : State) (core : Nat) (rd : Nat) (rs : Nat) (n : Src), ((Instr.rshr core rd rs n).wf) ∧ (s.canIssue core) ∧ (s.unpoisoned core)) ∧
    (∃ (s : State) (core : Nat) (rd : Nat) (lo : Nat) (hi : Option Nat) (n : Nat) (wide : Bool) (x : Int), ((Instr.narrow core rd lo hi n wide).wf) ∧
      (s.canIssue core) ∧ (s.unpoisoned core) ∧
      (x = rshr (match hi with | none => toSigned 32 ((s.land core).scalar core lo) | some h => toSigned 64 ((s.land core).scalar core lo + 2 ^ 32 * (s.land core).scalar core h)) n)) ∧
    (∃ (s : State) (core : Nat) (rd : Nat) (rc : Nat) (rs : Nat), ((Instr.norm core rd rc rs .int32).wf) ∧ (s.canIssue core) ∧ (s.unpoisoned core)) ∧
    (∃ (s : State) (core : Nat) (rd : Nat) (rc : Nat) (rs : Nat), ((Instr.norm core rd rc rs .int16).wf) ∧ (s.canIssue core) ∧ (s.unpoisoned core)) ∧
    (∃ (s : State) (core : Nat) (rd : Nat) (rs : Nat), ((Instr.expx core rd rs .int16).wf) ∧ (s.canIssue core) ∧ (s.unpoisoned core)) ∧
    (∃ (s : State) (core : Nat) (rd : Nat) (rs : Nat), ((Instr.expx core rd rs .int32).wf) ∧ (s.canIssue core) ∧ (s.unpoisoned core)) ∧
    (∃ (s : State) (core : Nat) (rd : Nat) (rs : Nat) (kind : NumKind), ((Instr.expx core rd rs kind).wf) ∧ (s.canIssue core) ∧ (s.unpoisoned core) ∧
      ((kind = .fp32 ∧ bitsOf ((s.land core).scalar core rs) 23 8 = 255 ∨ kind = .fp16 ∧ bitsOf ((s.land core).scalar core rs) 10 5 = 31 ∨ kind =
      .bf16 ∧ bitsOf ((s.land core).scalar core rs) 7 8 = 255))) ∧
    (∃ (s : State) (core : Nat) (rd : Nat) (rs : Nat) (kind : NumKind) (x : Int), ((Instr.expx core rd rs kind).wf) ∧ (s.canIssue core) ∧ (s.unpoisoned
      core) ∧ (kind ≠ .int16) ∧ (kind ≠ .int32) ∧ (expxOf kind ((s.land core).scalar core rs) = (x, false))) ∧
    (∃ (s : State) (core : Nat) (vd : Nat) (vs : Nat) (group : Nat), ((Instr.bexp core vd vs group).wf) ∧ (s.canIssue core) ∧ (s.unpoisoned core) ∧
      ((s.core core).vector = none)) ∧
    (∃ (s : State) (core : Nat) (vd : Nat) (vs : Nat) (group : Nat), ((Instr.bexp core vd vs group).wf) ∧ ((s.core core).vector.isSome)) ∧
    (∃ (s : State) (core : Nat) (vd : Nat) (ci : Nat) (layer : Nat) (d : Nat) (hi : Bool), ((Instr.rng core vd ci layer d hi).wf) ∧ ((s.core
      core).vector.isSome)) ∧
    (∃ (s : State) (core : Nat) (vd : Nat) (ci : Nat) (layer : Nat) (d : Nat) (hi : Bool) (step : Nat) (seed : List Byte), ((Instr.rng core vd ci layer d
      hi).wf) ∧ (s.canIssue core) ∧ ((s.core core).vector = none) ∧ ((s.land core).seedOf core ci = some (step, seed))) ∧
    (∃ (s : State) (core : Nat) (vd : Nat) (ci : Nat) (layer : Nat) (d : Nat) (hi : Bool), ((Instr.rng core vd ci layer d hi).wf) ∧ (s.canIssue core) ∧
      ((s.core core).vector = none) ∧ ((s.land core).seedOf core ci = none)) ∧
    (∃ (s : State) (core : Nat) (rd : Nat) (addr : Nat) (k : Nat) (ci : Nat) (j : Nat), ((Instr.sample core rd addr k ci j).wf) ∧ (s.canIssue core) ∧
      (s.sampleReadable core addr k)) ∧
    (∃ (s : State) (core : Nat) (rd : Nat) (addr : Nat) (k : Nat) (ci : Nat) (j : Nat) (v : List Fp) (step : Nat) (seed : List Byte) (i : Nat),
      ((Instr.sample core rd addr k ci j).wf) ∧ (s.canIssue core) ∧ (s.sampleReadable core addr k) ∧ ((List.range k).map (fun i => dec32 ((s.land
      core).rd (spBase core + addr + 4 * i) 4)) = v) ∧ ((∀ x ∈ v, x.isNan = false)) ∧ ((s.samplePoint core 56).lt Fp.zero = false) ∧ ((s.land
      core).seedOf core ci = some (step, seed)) ∧ (samplePick v (s.samplePoint core 56) (s.samplePoint core 60) (draw seed step 0xFFFF 0xFFF 0 j) =
      some i)) ∧
    (∃ (s : State) (core : Nat) (rd : Nat) (addr : Nat) (k : Nat) (ci : Nat) (j : Nat) (r : Run) (c : Cmd), ((Instr.sample core rd addr k ci j).wf) ∧
      (s.canIssue core) ∧ (s.sampleReadable core addr k) ∧ (s.runOn core = some r) ∧ (r.cmd = some c) ∧ (fieldAt c.bytes 56 4 = 0) ∧ ((∀ i, i < k →
      (dec32 ((s.land core).rd (spBase core + addr + 4 * i) 4)).isNan = false))) ∧
    (∃ (s : State) (core : Nat) (rd : Nat) (addr : Nat) (k : Nat) (ci : Nat) (j : Nat), ((Instr.sample core rd addr k ci j).wf) ∧ (s.canIssue core) ∧
      (s.sampleReadable core addr k) ∧ (((List.range k).any fun i => (dec32 ((s.land core).rd (spBase core + addr + 4 * i) 4)).isNan) ∨ (s.samplePoint
      core 56).lt Fp.zero)) :=
  ⟨⟨ar, 5, .shra, 31, 1, .imm 33, by decide +kernel⟩,
   ⟨ar, 5, 4, 1, 2, by decide +kernel⟩,
   ⟨ar, 5, 4, 2, 2, by decide +kernel⟩,
   ⟨ar, 5, 4, 2, 1, by decide +kernel⟩,
   ⟨ar, 5, 4, 1, .imm 31, by decide +kernel⟩,
   ⟨ar, 5, 4, 1, none, 3, false, rshr (-2147483648) 3, by decide +kernel⟩,
   ⟨ar, 5, 4, 4, 2, by decide +kernel⟩,
   ⟨ar, 5, 4, 6, 2, by decide +kernel⟩,
   ⟨ar, 5, 4, 2, by decide +kernel⟩,
   ⟨ar, 5, 4, 2, by decide +kernel⟩,
   ⟨ar, 5, 4, 3, .fp32, by decide +kernel⟩,
   ⟨(wS ar 5 3 0x3F80), 5, 4, 3, .bf16, 0, by decide +kernel⟩,
   ⟨arV, 5, 4, 3, 64, by decide +kernel⟩,
   ⟨busyV, 5, 1, 2, 4, by decide +kernel⟩,
   ⟨busyV, 5, 1, 2, 4, 6, false, by decide +kernel⟩,
   ⟨(runS 8), 8, 3, 0, 7, 9, true, 0, List.replicate 16 0, by decide +kernel⟩,
   ⟨(r0 8), 8, 3, 0, 7, 9, true, by decide +kernel⟩,
   ⟨smS, 8, 3, 0x1FF000, 4, 0, 7, by decide +kernel⟩,
   ⟨smS, 8, 3, 0x1FF000, 4, 0, 7, cand smS 8 0x1FF000 4, 0, List.replicate 16 0, 0, by decide +kernel⟩,
   ⟨smS, 8, 3, 0x1FF000, 4, 0, 7, run0 1 5 8, ⟨0,0,List.replicate 64 0,0⟩, by decide +kernel⟩,
   ⟨((r0 8).wr (spBase 8 + 12) 4 0x7FC00000), 8, 3, 0, 4, 0, 7, by decide +kernel⟩⟩

theorem witness_loads_and_stores_through_generators :
    (∃ (s : State) (core : Nat) (rd : LsReg) (ag : Nat) (base : Nat) (len : Nat) (stride : Int) (off : Int), ((Instr.scratchpadLoad core rd ag .linear).wf)
      ∧ (s.canIssue core) ∧ (s.unpoisoned core) ∧ ((s.land core).ag core ag = (base, len, stride, off)) ∧ (0 ≤ off) ∧ (off < len) ∧ (base + off.toNat
      + lsBytes rd ≤ 0x200000) ∧ ((s.land core).bad (spBase core + (base + off.toNat)) (lsBytes rd) = false)) ∧
    (∃ (s : State) (core : Nat) (rs : LsReg) (ag : Nat) (base : Nat) (len : Nat) (stride : Int) (off : Int), ((Instr.scratchpadStore core rs ag
      .linear).wf) ∧ (s.canIssue core) ∧ (s.unpoisoned core) ∧ ((s.land core).ag core ag = (base, len, stride, off)) ∧ (0 ≤ off) ∧ (off < len) ∧ (base
      + off.toNat + lsBytes rs ≤ 0x200000)) ∧
    (∃ (s : State) (core : Nat) (rs : LsReg) (ag : Nat) (base : Nat) (len : Nat) (stride : Int) (off : Int), ((Instr.scratchpadStore core rs ag
      .circular).wf) ∧ (s.canIssue core) ∧ (s.unpoisoned core) ∧ ((s.land core).ag core ag = (base, len, stride, off)) ∧ (0 < len) ∧ (0 ≤ (base : Int)
      + off) ∧ (((base : Int) + off).toNat + lsBytes rs ≤ 0x200000)) :=
  ⟨⟨(agS 6 2 0x1FFF00 1 5 0), 6, .vector 15, 2, 0x1FFF00, 1, 5, 0, by decide +kernel⟩,
   ⟨((agS 6 2 0x1FFF00 1 5 0).wr (vectorAddr 6 15) 8 12345678900), 6, .vector 15, 2, 0x1FFF00, 1, 5, 0, by decide +kernel⟩,
   ⟨(wS (agS 2047 7 0x1000 96 0xFFFFFFD8 0) 2047 31 12345678), 2047, .scalar 31, 7, 0x1000, 96, -40, 0, by decide +kernel⟩⟩

theorem witness_sequencer_faults :
    (∃ (s : State) (core : Nat) (taken : Bool) (target : Nat), ((Instr.branch core taken target).wf) ∧ (s.canIssue core) ∧ (((s.core core).delay.isSome ∨
      (s.land core).lastThree core))) ∧
    (∃ (s : State) (core : Nat) (target : Nat), ((Instr.branch core true target).wf) ∧ (s.canIssue core) ∧ ((s.core core).delay = none) ∧ ((s.land
      core).lastThree core = false) ∧ ((s.land core).insideBody core target = false)) ∧
    (∃ (s : State) (core : Nat) (target : Nat), ((Instr.call core target).wf) ∧ (s.canIssue core) ∧ (((s.core core).delay.isSome ∨ (s.land core).lastThree
      core))) ∧
    (∃ (s : State) (core : Nat), ((Instr.ret core).wf) ∧ (s.canIssue core) ∧ (((s.core core).delay.isSome ∨ (s.land core).lastThree core))) ∧
    (∃ (s : State) (core : Nat) (body : Nat) (count : Src), ((Instr.repeatBody core body count).wf) ∧ (s.canIssue core) ∧ (s.unpoisoned core) ∧ ((s.core
      core).delay.isSome)) ∧
    (∃ (s : State) (core : Nat) (body : Nat) (count : Src), ((Instr.repeatBody core body count).wf) ∧ (s.canIssue core) ∧ (s.unpoisoned core) ∧ ((s.core
      core).delay = none) ∧ ((s.land core).repeatDepth core = 4)) ∧
    (∃ (s : State) (core : Nat), ((Instr.yield core).wf) ∧ (s.canIssue core) ∧ ((s.core core).delay.isSome)) ∧
    (∃ (s : State) (core : Nat) (rd : Nat) (rc : Nat) (rs : Nat) (kind : NumKind), ((Instr.norm core rd rc rs kind).wf) ∧ (s.canIssue core) ∧ (s.unpoisoned
      core) ∧ (kind ≠ .int16) ∧ (kind ≠ .int32)) ∧
    (∃ (s : State) (core : Nat) (op : ScalarOp) (rd : Nat) (ra : Nat) (b : Src), ((Instr.scalarOperation core op rd ra b).wf) ∧ (s.canIssue core) ∧
      ((s.land core).sramHits (cwBase core + scalarOff ra) 4 2 ≠ [])) ∧
    (∃ (s : State) (core : Nat) (rd : LsReg) (ag : Nat) (base : Nat) (len : Nat) (stride : Int) (off : Int), ((Instr.scratchpadLoad core rd ag .linear).wf)
      ∧ (s.canIssue core) ∧ (s.unpoisoned core) ∧ ((s.land core).ag core ag = (base, len, stride, off)) ∧ ((len : Int) ≤ off)) ∧
    (∃ (s : State) (core : Nat) (rs : LsReg) (ag : Nat) (base : Nat) (len : Nat) (stride : Int) (off : Int), ((Instr.scratchpadStore core rs ag
      .circular).wf) ∧ (s.canIssue core) ∧ (s.unpoisoned core) ∧ ((s.land core).ag core ag = (base, len, stride, off)) ∧ (0x200000 < (base : Int) +
      off + lsBytes rs)) ∧
    (∃ (s : State) (core : Nat) (rd : LsReg) (ag : Nat) (base : Nat) (len : Nat) (stride : Int) (off : Int), ((Instr.scratchpadLoad core rd ag .linear).wf)
      ∧ (s.canIssue core) ∧ (s.unpoisoned core) ∧ ((s.land core).ag core ag = (base, len, stride, off)) ∧ (0 ≤ off) ∧ (off < len) ∧ (base + off.toNat
      + lsBytes rd ≤ 0x200000) ∧ ((s.land core).bad (spBase core + (base + off.toNat)) (lsBytes rd))) :=
  ⟨⟨(withDelay (r0 5) 5 (some (1,none))), 5, false, 4, by decide +kernel⟩,
   ⟨((r0 5).setRepeat 5 0 90 110 2), 5, 4, by decide +kernel⟩,
   ⟨(rep1 5 2), 5, 4, by decide +kernel⟩,
   ⟨(rep1 5 2), 5, by decide +kernel⟩,
   ⟨(withDelay (r0 5) 5 (some (1,none))), 5, 4, .imm 3, by decide +kernel⟩,
   ⟨(rep4 5), 5, 4, .imm 3, by decide +kernel⟩,
   ⟨(withDelay (r0 5) 5 (some (1,none))), 5, by decide +kernel⟩,
   ⟨(r0 5), 5, 1, 2, 3, .bf16, by decide +kernel⟩,
   ⟨{ (r0 8) with sram := [(scalarAddr 8 4 / 8, 2)] }, 8, .add, 1, 4, .imm 3, by decide +kernel⟩,
   ⟨(agS 6 2 0x1FFF00 1 5 1), 6, .vector 15, 2, 0x1FFF00, 1, 5, 1, by decide +kernel⟩,
   ⟨(agS 6 2 0x1FFF04 1 5 1), 6, .vector 15, 2, 0x1FFF04, 1, 5, 1, by decide +kernel⟩,
   ⟨{agS 6 2 0 1 5 0 with sram := [((spBase 6) / 8, 2)]}, 6, .vector 15, 2, 0, 1, 5, 0, by decide +kernel⟩⟩

end W02

namespace W03

def win0 (n c : Nat) : OpenWin := ⟨0, n, c, 0, 0, 1000, 1000000, 0, false, false, 0⟩
/-- core n running for cocoon c, with slot i holding descriptor bytes d and block b at scratchpad 64 -/
def fireS (n c i : Nat) (d b : List Byte) : State :=
  let s := (((sE.setFld Reg.SILK.DEVICE_ID.ID 7).setFld (coreStateFld n) 2).setFld (coreOwnerFld n) c).setFld (Reg.COCOON.CTX_BASE.BASE c) 2
  let s := s.setCore n { s.core n with eligible := some 0 }
  let s := { s with seq := { s.seq with openWins := [win0 n c] } }
  (s.wrBytes (slotAddr n i) d).wrBytes (spBase n + 64) b
def desc (unit flags : Nat) (c0 : Nat) : List Byte := [BitVec.ofNat 8 (unit + flags), 0] ++ leBytes 2 2 ++ leBytes 4 c0 ++ leBytes 4 0 ++ leBytes 4 0 ++ leBytes 4 0 ++ leBytes 4 0xC0000105 ++ leBytes 4 0 ++ leBytes 4 0
def prodB : List Byte := [1, 1, 0, 0] ++ leBytes 2 1 ++ [0, 0] ++ leBytes 4 0x1000 ++ leBytes 4 64 ++ leBytes 4 0x4000 ++ leBytes 4 1024 ++ leBytes 4 0 ++ leBytes 4 0 ++ [2, 2] ++ leBytes 2 0 ++ leBytes 2 0xFFFF ++ List.replicate 26 0
def vopB : List Byte := [0, 3, 1, 0] ++ leBytes 4 0 ++ leBytes 4 0 ++ [2, 2] ++ leBytes 2 0x80 ++ List.replicate 16 0
def vS : State := (fireS 3 5 9 (desc 2 0 0) vopB).wrBytes (spBase 3 + 0x1000) ([0, 0, 0, 7] ++ List.replicate 20 0 ++ leBytes 4 32 ++ List.replicate 260 0)
def proBlk : List Byte := [1, 0, 4, 7] ++ List.replicate 20 0 ++ leBytes 4 32 ++ List.replicate 36 0 ++ [3] ++ List.replicate 223 0
def proS : State := (fireS 3 5 9 (desc 1 0 0) (prodB.take 36 ++ leBytes 2 0x80 ++ List.replicate 26 0)).wrBytes (spBase 3 + 0x1000) proBlk
def proB : State := proS.setCore 3 { proS.core 3 with vector := some .epilogue }
def cS : State := (fireS 3 5 255 (desc 4 0x80 (3 * 65536 + 0x600 + 17)) (leBytes 2 4095)).wr (tokenAddr 3 17) 2 5
def copyB (a b : Nat) : List Byte := leBytes 8 a ++ leBytes 8 b ++ leBytes 4 64 ++ leBytes 2 0xFFFF ++ [3, 1] ++ leBytes 4 0 ++ leBytes 4 0
def loc (x : Nat) : Nat := 7 * 2^48 + spBase 3 + x
def rem (x : Nat) : Nat := 9 * 2^48 + x
def cpF (a b : Nat) : State := fireS 3 5 0 (desc 3 0 0) (copyB a b)
def fab : List Byte := (leBytes 16 0 ++ leBytes 4 0x40 ++ leBytes 4 65536 ++ leBytes 4 0x80 ++ leBytes 4 64 ++ List.replicate 32 0) ++ ((List.range 16).flatMap fun _ => leBytes 4 0x80000000) ++ leBytes 8 1 ++ leBytes 2 0 ++ [1] ++ List.replicate 5 0
def fabS (s : State) : State := { s.setFld (Reg.SILK_LINK.STATE.STATE 0) 2 with silk := { s.silk with fabric := fab } }
def hst : Nat := 7 * 2^48 + hostBase
def gCp : State := (((cpF (loc 0) (7 * 2^48)).setFlds [(Reg.MEM.GROUP.VALID 0, 1), (Reg.MEM.GROUP.CHANNELS 0, 3), (Reg.MEM_CH.STATE.STATE 0, 2), (Reg.MEM_CH.STATE.STATE 1, 2), (Reg.COCOON.EXT_COUNT.COUNT 5, 1), (Reg.COCOON.EXT_BASE.BASE 5 0, 0), (Reg.COCOON.EXT_LEN.LEN 5 0, 0x100), (Reg.COCOON.CTX_BASE.BASE 5, 0x80)]))
def remB (op : Nat) : List Byte := leBytes 8 (9 * 2^48 + 64) ++ [BitVec.ofNat 8 op, 4, 3, 1] ++ leBytes 4 0 ++ leBytes 4 8 ++ leBytes 4 0 ++ leBytes 8 5
def remS (op : Nat) : State := fabS (fireS 3 5 0 (desc 5 0 0) (remB op))
def hereB (op : Nat) : List Byte := leBytes 8 (7 * 2^48 + spBase 4 + 64) ++ [BitVec.ofNat 8 op, 8, 3, 1] ++ leBytes 4 0 ++ leBytes 4 8 ++ leBytes 4 0 ++ leBytes 8 5
def desc0 : List Byte := [5, 0] ++ leBytes 2 2 ++ List.replicate 28 0
def hereS (op : Nat) : State :=
  let s := fireS 3 5 0 desc0 (hereB op)
  let s := { s.setFld (coreOwnerFld 4) 5 with seq := { s.seq with openWins := [win0 3 5, win0 4 5] } }
  (s.wr (spBase 4 + 64) 8 0x123456789).wr (spBase 3) 8 0x123456789
def aOp : ArrayOp := ArrayOp.fresh 0 [] prodB false
def pS : State := let s := fireS 3 5 0 (desc 1 0 0) []; s.setCore 3 { s.core 3 with array := some aOp }
def fedA : ArrayOp := { aOp with fed := (List.range 32).map (fun r => (r, 64)), planes := 1 }
def pW : State := (pS.setCore 3 { pS.core 3 with array := some fedA })
def stB : List Byte := prodB.take 36 ++ leBytes 2 4 ++ List.replicate 26 0
def sOp : ArrayOp := ArrayOp.fresh 1 [] stB false
def tS : State := let s := fireS 3 5 0 (desc 1 0 0) []; s.setCore 3 { s.core 3 with tail := [aOp, sOp] }
def vO : State := vS.setCore 3 { vS.core 3 with vector := some (.op 1 [0,0] vopB) }
def rO (k : Nat) : State := (tS.setCore 3 { tS.core 3 with routine := some ⟨1, [0xC0000205], true⟩ }).wr (tokenAddr 3 5) 2 k
def pst (id src dst : Nat) : Post := ⟨id, src, dst, 255, 1, 5, 2, 0⟩
def po (st : Nat) : State := { (tS.setFld (coreStateFld 3) st) with posts := [pst 0 9 3, pst 1 1999 3] }
def poW : State := (po 5).setFld (coreOwnerFld 9) 5
def poC : State := (po 2).setCrossing (.core 0) ⟨false, true, false, [], 0⟩
def cx (rel st : Bool) (dev cc : Nat) : CopyOp := ⟨4, 0, [0, 0], 7 * 2^48 + spBase 3, dev * 2^48 + spBase 3 + 0x1000, 64, cc, 3, 1, 0, 0, rel, List.replicate 64 9, st, 0⟩
def cpy (x : CopyOp) : State := let s := fireS 3 5 0 (desc 1 0 0) [1,2,3]; s.setCore 3 { s.core 3 with copies := [x] }
def cxR : CopyOp := { cx false false 7 0xFFFF with src := rem 0 }
def cxH : CopyOp := { cx false false 7 0xFFFF with src := hst, data := [] }

theorem witness_ready_slots_fire_their_operation :
    (∃ (s : State) (core : Nat) (slot : Nat), ((Instr.arrayProduct core slot).wf) ∧ (s.firesClean core slot 1 64) ∧ (s.productFits core (s.slotBlock core
      slot 64)) ∧ (((parseProduct (s.slotBlock core slot 64)).staged = false ∨ stageOn (s.stageBlock core (parseProduct (s.slotBlock core slot
      64)).stage) 0 = false))) ∧
    (∃ (s : State) (core : Nat) (slot : Nat), ((Instr.arrayProduct core slot).wf) ∧ (s.firesClean core slot 1 64) ∧ (s.productFits core (s.slotBlock core
      slot 64)) ∧ ((parseProduct (s.slotBlock core slot 64)).staged) ∧ (stageOn (s.stageBlock core (parseProduct (s.slotBlock core slot 64)).stage) 0)
      ∧ (((s.core core).vector.isSome ∨ (s.core core).vecHeld))) ∧
    (∃ (s : State) (core : Nat) (slot : Nat), ((Instr.arrayProduct core slot).wf) ∧ (s.firesClean core slot 1 64) ∧ (s.productFits core (s.slotBlock core
      slot 64)) ∧ ((parseProduct (s.slotBlock core slot 64)).staged) ∧ (stageOn (s.stageBlock core (parseProduct (s.slotBlock core slot 64)).stage) 0)
      ∧ ((s.core core).vector = none) ∧ ((s.core core).vecHeld = false)) ∧
    (∃ (s : State) (core : Nat) (slot : Nat), ((Instr.vectorOperation core slot).wf) ∧ (s.firesClean core slot 2 32) ∧ (s.vectorFits core (s.slotBlock core
      slot 32))) ∧
    (∃ (s : State) (core : Nat) (slot : Nat), ((Instr.sequencerRoutine core slot).wf) ∧ (s.firesClean core slot 4 32) ∧ (fieldAt (s.slotBlock core slot 32)
      0 2 < 4096) ∧ (fieldAt (s.slotBlock core slot 32) 2 30 = 0)) ∧
    (∃ (s : State) (core : Nat) (slot : Nat) (w : Nat), ((Instr.sequencerRoutine core slot).wf) ∧ (s.firesClean core slot 4 32) ∧ (fieldAt (s.slotBlock
      core slot 32) 0 2 < 4096) ∧ (fieldAt (s.slotBlock core slot 32) 2 30 = 0) ∧ (condWords (s.slotDesc core slot) = [w, 0, 0, 0]) ∧ (w.testBit 8 =
      false) ∧ (w.testBit 9) ∧ (w.testBit 10)) ∧
    (∃ (s : State) (core : Nat) (slot : Nat), ((Instr.sequencerRoutine core slot).wf) ∧ (s.firesClean core slot 4 32) ∧ (fieldAt (s.slotBlock core slot 32)
      0 2 < 4096) ∧ (fieldAt (s.slotBlock core slot 32) 2 30 = 0) ∧ ((fieldAt (s.slotDesc core slot) 0 1).testBit 7)) ∧
    (∃ (s : State) (core : Nat) (slot : Nat), ((Instr.arrayProduct core slot).wf) ∧ (s.fires core slot 1) ∧ (s.bad (slotAddr core slot) 32 = false) ∧
      (((condReads core (s.slotDesc core slot)).all fun r => (s.sramHits r.1 r.2 2).isEmpty)) ∧ (descOk (s.slotDesc core slot) = false)) ∧
    (∃ (s : State) (core : Nat) (slot : Nat), ((Instr.arrayProduct core slot).wf) ∧ (descUnit (s.slotDesc core slot) < 6) ∧ (s.fires core slot 1 = false)) ∧
    (∃ (s : State) (core : Nat) (slot : Nat), ((Instr.vectorOperation core slot).wf) ∧ (s.fires core slot 2) ∧ (s.bad (slotAddr core slot) 32 = false) ∧
      (((condReads core (s.slotDesc core slot)).all fun r => (s.sramHits r.1 r.2 2).isEmpty)) ∧ (descOk (s.slotDesc core slot) = false)) ∧
    (∃ (s : State) (core : Nat) (slot : Nat), ((Instr.vectorOperation core slot).wf) ∧ (descUnit (s.slotDesc core slot) < 6) ∧ (s.fires core slot 2 =
      false)) ∧
    (∃ (s : State) (core : Nat) (slot : Nat), ((Instr.copyFire core slot).wf) ∧ (s.fires core slot 3) ∧ (s.bad (slotAddr core slot) 32 = false) ∧
      (((condReads core (s.slotDesc core slot)).all fun r => (s.sramHits r.1 r.2 2).isEmpty)) ∧ (descOk (s.slotDesc core slot) = false)) ∧
    (∃ (s : State) (core : Nat) (slot : Nat), ((Instr.copyFire core slot).wf) ∧ (descUnit (s.slotDesc core slot) < 6) ∧ (s.fires core slot 3 = false)) ∧
    (∃ (s : State) (core : Nat) (slot : Nat), ((Instr.sequencerRoutine core slot).wf) ∧ (s.fires core slot 4) ∧ (s.bad (slotAddr core slot) 32 = false) ∧
      (((condReads core (s.slotDesc core slot)).all fun r => (s.sramHits r.1 r.2 2).isEmpty)) ∧ (descOk (s.slotDesc core slot) = false)) ∧
    (∃ (s : State) (core : Nat) (slot : Nat), ((Instr.sequencerRoutine core slot).wf) ∧ (descUnit (s.slotDesc core slot) < 6) ∧ (s.fires core slot 4 =
      false)) ∧
    (∃ (s : State) (core : Nat) (slot : Nat), ((Instr.arrayProduct core slot).wf) ∧ (s.firesClean core slot 1 64) ∧ (s.productFits core (s.slotBlock core
      slot 64) = false)) ∧
    (∃ (s : State) (core : Nat) (slot : Nat), ((Instr.vectorOperation core slot).wf) ∧ (s.firesClean core slot 2 32) ∧ (s.vectorFits core (s.slotBlock core
      slot 32) = false)) ∧
    (∃ (s : State) (core : Nat) (slot : Nat), ((Instr.sequencerRoutine core slot).wf) ∧ (s.firesClean core slot 4 32) ∧ ((4096 ≤ fieldAt (s.slotBlock core
      slot 32) 0 2 ∨ fieldAt (s.slotBlock core slot 32) 2 30 ≠ 0))) ∧
    (∃ (s : State) (core : Nat) (slot : Nat), ((Instr.copyFire core slot).wf) ∧ (s.firesClean core slot 3 32) ∧ (copyOk (s.slotBlock core slot 32) = false)) :=
  ⟨⟨(fireS 3 5 9 (desc 1 0 0) prodB), 3, 9, by decide +kernel⟩,
   ⟨proB, 3, 9, by decide +kernel⟩,
   ⟨proS, 3, 9, by decide +kernel⟩,
   ⟨vS, 3, 9, by decide +kernel⟩,
   ⟨(fireS 3 5 255 (desc 4 0 0) (leBytes 2 4095)), 3, 255, by decide +kernel⟩,
   ⟨cS, 3, 255, (3 * 65536 + 0x600 + 17), by decide +kernel⟩,
   ⟨cS, 3, 255, by decide +kernel⟩,
   ⟨(fireS 3 5 255 (desc 1 0x10 0) []), 3, 255, by decide +kernel⟩,
   ⟨(fireS 3 5 255 (desc 1 0x10 0) []), 3, 254, by decide +kernel⟩,
   ⟨(fireS 3 5 255 (desc 2 0x10 0) []), 3, 255, by decide +kernel⟩,
   ⟨(fireS 3 5 255 (desc 2 0x10 0) []), 3, 254, by decide +kernel⟩,
   ⟨(fireS 3 5 255 (desc 3 0x10 0) []), 3, 255, by decide +kernel⟩,
   ⟨(fireS 3 5 255 (desc 3 0x10 0) []), 3, 254, by decide +kernel⟩,
   ⟨(fireS 3 5 255 (desc 4 0x10 0) []), 3, 255, by decide +kernel⟩,
   ⟨(fireS 3 5 255 (desc 4 0x10 0) []), 3, 254, by decide +kernel⟩,
   ⟨(fireS 3 5 255 (desc 1 0 0) []), 3, 255, by decide +kernel⟩,
   ⟨(fireS 3 5 255 (desc 2 0 0) []), 3, 255, by decide +kernel⟩,
   ⟨(fireS 3 5 255 (desc 4 0 0) (leBytes 2 4096)), 3, 255, by decide +kernel⟩,
   ⟨(fireS 3 5 255 (desc 3 0 0) []), 3, 255, by decide +kernel⟩⟩

theorem witness_copies_and_remote_operations_start :
    (∃ (s : State) (core : Nat) (slot : Nat) (b : List Byte) (src : Nat) (dst : Nat) (len : Nat), ((Instr.copyFire core slot).wf) ∧ (s.firesClean core slot
      3 32) ∧ (s.slotBlock core slot 32 = b) ∧ (copyOk b) ∧ (fieldAt b 0 8 = src) ∧ (fieldAt b 8 8 = dst) ∧ (fieldAt b 16 4 = len) ∧ ((deviceOf src =
      s.deviceId → localOf src < hostBase ∧ s.jobReaches core (localOf src) len ∧ s.jobSlots core (localOf src) len ∧ (fieldAt b 24 4 = 0 ∨
      (s.segmentAt (s.fld (coreOwnerFld core)) (fieldAt b 24 4) (localOf src) len).isSome))) ∧ ((deviceOf src ≠ s.deviceId → s.quarantined (s.fld
      (coreOwnerFld core)) (deviceOf src) = false ∧ s.routable (deviceOf src))) ∧ ((deviceOf dst = s.deviceId → s.jobWrites core (localOf dst) len ∧
      s.jobSlots core (localOf dst) len)) ∧ ((deviceOf dst ≠ s.deviceId → s.quarantined (s.fld (coreOwnerFld core)) (deviceOf dst) = false ∧
      s.routable (deviceOf dst)))) ∧
    (∃ (s : State) (core : Nat) (slot : Nat) (b : List Byte), ((Instr.copyFire core slot).wf) ∧ (s.firesClean core slot 3 32) ∧ (s.slotBlock core slot 32 =
      b) ∧ (copyOk b) ∧ (deviceOf (fieldAt b 0 8) = s.deviceId) ∧ (hostBase ≤ localOf (fieldAt b 0 8)) ∧ (deviceOf (fieldAt b 8 8) = s.deviceId)) ∧
    (∃ (s : State) (core : Nat) (slot : Nat) (b : List Byte), ((Instr.copyFire core slot).wf) ∧ (s.firesClean core slot 3 32) ∧ (s.slotBlock core slot 32 =
      b) ∧ (copyOk b) ∧ ((deviceOf (fieldAt b 0 8) = s.deviceId ∧ s.jobReaches core (localOf (fieldAt b 0 8)) (fieldAt b 16 4) = false ∨ deviceOf
      (fieldAt b 8 8) = s.deviceId ∧ s.jobWrites core (localOf (fieldAt b 8 8)) (fieldAt b 16 4) = false))) ∧
    (∃ (s : State) (core : Nat) (slot : Nat) (b : List Byte), ((Instr.copyFire core slot).wf) ∧ (s.firesClean core slot 3 32) ∧ (s.slotBlock core slot 32 =
      b) ∧ (copyOk b) ∧ (deviceOf (fieldAt b 0 8) = s.deviceId) ∧ (s.jobReaches core (localOf (fieldAt b 0 8)) (fieldAt b 16 4)) ∧ (deviceOf (fieldAt
      b 8 8) = s.deviceId) ∧ (s.jobWrites core (localOf (fieldAt b 8 8)) (fieldAt b 16 4)) ∧ (s.jobSlots core (localOf (fieldAt b 8 8)) (fieldAt b 16
      4) = false)) ∧
    (∃ (s : State) (core : Nat) (slot : Nat), ((Instr.remoteLoad core slot).wf) ∧ (s.firesClean core slot 5 32) ∧ (remoteBlockOk (s.slotBlock core slot
      32)) ∧ ([0x01].contains (fieldAt (s.slotBlock core slot 32) 8 1)) ∧ (s.replays core = false) ∧ (s.bad (spBase core + fieldAt (s.slotBlock core
      slot 32) 12 4) (fieldAt (s.slotBlock core slot 32) 9 1) = false) ∧ (deviceOf (fieldAt (s.slotBlock core slot 32) 0 8) ≠ s.deviceId) ∧
      (s.quarantined (s.fld (coreOwnerFld core)) (deviceOf (fieldAt (s.slotBlock core slot 32) 0 8)) = false) ∧ (s.routable (deviceOf (fieldAt
      (s.slotBlock core slot 32) 0 8)))) ∧
    (∃ (s : State) (core : Nat) (slot : Nat), ((Instr.remoteStore core slot).wf) ∧ (s.firesClean core slot 5 32) ∧ (remoteBlockOk (s.slotBlock core slot
      32)) ∧ ([0x02].contains (fieldAt (s.slotBlock core slot 32) 8 1)) ∧ (s.replays core = false) ∧ (s.bad (spBase core + fieldAt (s.slotBlock core
      slot 32) 12 4) (fieldAt (s.slotBlock core slot 32) 9 1) = false) ∧ (deviceOf (fieldAt (s.slotBlock core slot 32) 0 8) ≠ s.deviceId) ∧
      (s.quarantined (s.fld (coreOwnerFld core)) (deviceOf (fieldAt (s.slotBlock core slot 32) 0 8)) = false) ∧ (s.routable (deviceOf (fieldAt
      (s.slotBlock core slot 32) 0 8)))) ∧
    (∃ (s : State) (core : Nat) (slot : Nat), ((Instr.atomicAdd core slot).wf) ∧ (s.firesClean core slot 5 32) ∧ (remoteBlockOk (s.slotBlock core slot 32))
      ∧ ([0x10].contains (fieldAt (s.slotBlock core slot 32) 8 1)) ∧ (s.replays core = false) ∧ (s.bad (spBase core + fieldAt (s.slotBlock core slot
      32) 12 4) (fieldAt (s.slotBlock core slot 32) 9 1) = false) ∧ (deviceOf (fieldAt (s.slotBlock core slot 32) 0 8) ≠ s.deviceId) ∧ (s.quarantined
      (s.fld (coreOwnerFld core)) (deviceOf (fieldAt (s.slotBlock core slot 32) 0 8)) = false) ∧ (s.routable (deviceOf (fieldAt (s.slotBlock core slot
      32) 0 8)))) ∧
    (∃ (s : State) (core : Nat) (slot : Nat), ((Instr.atomicSwap core slot).wf) ∧ (s.firesClean core slot 5 32) ∧ (remoteBlockOk (s.slotBlock core slot
      32)) ∧ ([0x11].contains (fieldAt (s.slotBlock core slot 32) 8 1)) ∧ (s.replays core = false) ∧ (s.bad (spBase core + fieldAt (s.slotBlock core
      slot 32) 12 4) (fieldAt (s.slotBlock core slot 32) 9 1) = false) ∧ (deviceOf (fieldAt (s.slotBlock core slot 32) 0 8) ≠ s.deviceId) ∧
      (s.quarantined (s.fld (coreOwnerFld core)) (deviceOf (fieldAt (s.slotBlock core slot 32) 0 8)) = false) ∧ (s.routable (deviceOf (fieldAt
      (s.slotBlock core slot 32) 0 8)))) ∧
    (∃ (s : State) (core : Nat) (slot : Nat), ((Instr.atomicCas core slot).wf) ∧ (s.firesClean core slot 5 32) ∧ (remoteBlockOk (s.slotBlock core slot 32))
      ∧ ([0x12].contains (fieldAt (s.slotBlock core slot 32) 8 1)) ∧ (s.replays core = false) ∧ (s.bad (spBase core + fieldAt (s.slotBlock core slot
      32) 12 4) (fieldAt (s.slotBlock core slot 32) 9 1) = false) ∧ (deviceOf (fieldAt (s.slotBlock core slot 32) 0 8) ≠ s.deviceId) ∧ (s.quarantined
      (s.fld (coreOwnerFld core)) (deviceOf (fieldAt (s.slotBlock core slot 32) 0 8)) = false) ∧ (s.routable (deviceOf (fieldAt (s.slotBlock core slot
      32) 0 8)))) ∧
    (∃ (s : State) (core : Nat) (slot : Nat), ((Instr.atomicMin core slot).wf) ∧ (s.firesClean core slot 5 32) ∧ (remoteBlockOk (s.slotBlock core slot 32))
      ∧ ([0x13, 0x15].contains (fieldAt (s.slotBlock core slot 32) 8 1)) ∧ (s.replays core = false) ∧ (s.bad (spBase core + fieldAt (s.slotBlock core
      slot 32) 12 4) (fieldAt (s.slotBlock core slot 32) 9 1) = false) ∧ (deviceOf (fieldAt (s.slotBlock core slot 32) 0 8) ≠ s.deviceId) ∧
      (s.quarantined (s.fld (coreOwnerFld core)) (deviceOf (fieldAt (s.slotBlock core slot 32) 0 8)) = false) ∧ (s.routable (deviceOf (fieldAt
      (s.slotBlock core slot 32) 0 8)))) ∧
    (∃ (s : State) (core : Nat) (slot : Nat), ((Instr.atomicMax core slot).wf) ∧ (s.firesClean core slot 5 32) ∧ (remoteBlockOk (s.slotBlock core slot 32))
      ∧ ([0x14, 0x16].contains (fieldAt (s.slotBlock core slot 32) 8 1)) ∧ (s.replays core = false) ∧ (s.bad (spBase core + fieldAt (s.slotBlock core
      slot 32) 12 4) (fieldAt (s.slotBlock core slot 32) 9 1) = false) ∧ (deviceOf (fieldAt (s.slotBlock core slot 32) 0 8) ≠ s.deviceId) ∧
      (s.quarantined (s.fld (coreOwnerFld core)) (deviceOf (fieldAt (s.slotBlock core slot 32) 0 8)) = false) ∧ (s.routable (deviceOf (fieldAt
      (s.slotBlock core slot 32) 0 8)))) ∧
    (∃ (s : State) (core : Nat) (slot : Nat) (m : Nat) (b : List Byte) (u : State), ((Instr.remoteLoad core slot).wf) ∧ (s.firesClean core slot 5 32) ∧
      (s.slotBlock core slot 32 = b) ∧ (s.fired core slot = u) ∧ (remoteBlockOk b) ∧ ([0x01].contains (fieldAt b 8 1)) ∧ (s.replays core = false) ∧
      (s.sram = []) ∧ (s.bad (spBase core + fieldAt b 12 4) (fieldAt b 9 1) = false) ∧ (deviceOf (fieldAt b 0 8) = s.deviceId) ∧ (m ≠ core) ∧ (m <
      2048) ∧ (spBase m ≤ localOf (fieldAt b 0 8)) ∧ (localOf (fieldAt b 0 8) + fieldAt b 9 1 ≤ spBase m + 0x200000) ∧ (s.jobReaches core (localOf
      (fieldAt b 0 8)) (fieldAt b 9 1)) ∧ (s.jobSlots core (localOf (fieldAt b 0 8)) (fieldAt b 9 1)) ∧ ((s.diesAt (localOf (fieldAt b 0 8))).all
      (s.meshUp (dieOf core))) ∧ ((fieldAt b 12 4 + fieldAt b 9 1 ≤ fieldAt b 16 4 ∨ fieldAt b 16 4 + 4 ≤ fieldAt b 12 4)) ∧ (u.rd (counterAddr core
      (fieldAt b 10 1)) 2 + fieldAt b 11 1 ≤ 65535) ∧ ((postWords (s.slotDesc core slot)).all (fun w => !w.testBit 31))) ∧
    (∃ (s : State) (core : Nat) (slot : Nat) (m : Nat) (b : List Byte) (u : State), ((Instr.remoteStore core slot).wf) ∧ (s.firesClean core slot 5 32) ∧
      (s.slotBlock core slot 32 = b) ∧ (s.fired core slot = u) ∧ (remoteBlockOk b) ∧ ([0x02].contains (fieldAt b 8 1)) ∧ (s.replays core = false) ∧
      (s.sram = []) ∧ (s.bad (spBase core + fieldAt b 12 4) (fieldAt b 9 1) = false) ∧ (deviceOf (fieldAt b 0 8) = s.deviceId) ∧ (m ≠ core) ∧ (m <
      2048) ∧ (spBase m ≤ localOf (fieldAt b 0 8)) ∧ (localOf (fieldAt b 0 8) + fieldAt b 9 1 ≤ spBase m + 0x200000) ∧ (s.jobReaches core (localOf
      (fieldAt b 0 8)) (fieldAt b 9 1)) ∧ (s.jobSlots core (localOf (fieldAt b 0 8)) (fieldAt b 9 1)) ∧ ((s.diesAt (localOf (fieldAt b 0 8))).all
      (s.meshUp (dieOf core))) ∧ ((fieldAt b 12 4 + fieldAt b 9 1 ≤ fieldAt b 16 4 ∨ fieldAt b 16 4 + 4 ≤ fieldAt b 12 4)) ∧ (u.rd (counterAddr core
      (fieldAt b 10 1)) 2 + fieldAt b 11 1 ≤ 65535) ∧ ((postWords (s.slotDesc core slot)).all (fun w => !w.testBit 31))) ∧
    (∃ (s : State) (core : Nat) (slot : Nat) (m : Nat) (b : List Byte) (u : State), ((Instr.atomicAdd core slot).wf) ∧ (s.firesClean core slot 5 32) ∧
      (s.slotBlock core slot 32 = b) ∧ (s.fired core slot = u) ∧ (remoteBlockOk b) ∧ ([0x10].contains (fieldAt b 8 1)) ∧ (s.replays core = false) ∧
      (s.sram = []) ∧ (s.bad (spBase core + fieldAt b 12 4) (fieldAt b 9 1) = false) ∧ (deviceOf (fieldAt b 0 8) = s.deviceId) ∧ (m ≠ core) ∧ (m <
      2048) ∧ (spBase m ≤ localOf (fieldAt b 0 8)) ∧ (localOf (fieldAt b 0 8) + fieldAt b 9 1 ≤ spBase m + 0x200000) ∧ (s.jobReaches core (localOf
      (fieldAt b 0 8)) (fieldAt b 9 1)) ∧ (s.jobSlots core (localOf (fieldAt b 0 8)) (fieldAt b 9 1)) ∧ ((s.diesAt (localOf (fieldAt b 0 8))).all
      (s.meshUp (dieOf core))) ∧ ((fieldAt b 12 4 + fieldAt b 9 1 ≤ fieldAt b 16 4 ∨ fieldAt b 16 4 + 4 ≤ fieldAt b 12 4)) ∧ (u.rd (counterAddr core
      (fieldAt b 10 1)) 2 + fieldAt b 11 1 ≤ 65535) ∧ ((postWords (s.slotDesc core slot)).all (fun w => !w.testBit 31))) ∧
    (∃ (s : State) (core : Nat) (slot : Nat) (m : Nat) (b : List Byte) (u : State), ((Instr.atomicSwap core slot).wf) ∧ (s.firesClean core slot 5 32) ∧
      (s.slotBlock core slot 32 = b) ∧ (s.fired core slot = u) ∧ (remoteBlockOk b) ∧ ([0x11].contains (fieldAt b 8 1)) ∧ (s.replays core = false) ∧
      (s.sram = []) ∧ (s.bad (spBase core + fieldAt b 12 4) (fieldAt b 9 1) = false) ∧ (deviceOf (fieldAt b 0 8) = s.deviceId) ∧ (m ≠ core) ∧ (m <
      2048) ∧ (spBase m ≤ localOf (fieldAt b 0 8)) ∧ (localOf (fieldAt b 0 8) + fieldAt b 9 1 ≤ spBase m + 0x200000) ∧ (s.jobReaches core (localOf
      (fieldAt b 0 8)) (fieldAt b 9 1)) ∧ (s.jobSlots core (localOf (fieldAt b 0 8)) (fieldAt b 9 1)) ∧ ((s.diesAt (localOf (fieldAt b 0 8))).all
      (s.meshUp (dieOf core))) ∧ ((fieldAt b 12 4 + fieldAt b 9 1 ≤ fieldAt b 16 4 ∨ fieldAt b 16 4 + 4 ≤ fieldAt b 12 4)) ∧ (u.rd (counterAddr core
      (fieldAt b 10 1)) 2 + fieldAt b 11 1 ≤ 65535) ∧ ((postWords (s.slotDesc core slot)).all (fun w => !w.testBit 31))) ∧
    (∃ (s : State) (core : Nat) (slot : Nat) (m : Nat) (b : List Byte) (u : State), ((Instr.atomicCas core slot).wf) ∧ (s.firesClean core slot 5 32) ∧
      (s.slotBlock core slot 32 = b) ∧ (s.fired core slot = u) ∧ (remoteBlockOk b) ∧ ([0x12].contains (fieldAt b 8 1)) ∧ (s.replays core = false) ∧
      (s.sram = []) ∧ (s.bad (spBase core + fieldAt b 12 4) (fieldAt b 9 1) = false) ∧ (deviceOf (fieldAt b 0 8) = s.deviceId) ∧ (m ≠ core) ∧ (m <
      2048) ∧ (spBase m ≤ localOf (fieldAt b 0 8)) ∧ (localOf (fieldAt b 0 8) + fieldAt b 9 1 ≤ spBase m + 0x200000) ∧ (s.jobReaches core (localOf
      (fieldAt b 0 8)) (fieldAt b 9 1)) ∧ (s.jobSlots core (localOf (fieldAt b 0 8)) (fieldAt b 9 1)) ∧ ((s.diesAt (localOf (fieldAt b 0 8))).all
      (s.meshUp (dieOf core))) ∧ ((fieldAt b 12 4 + fieldAt b 9 1 ≤ fieldAt b 16 4 ∨ fieldAt b 16 4 + 4 ≤ fieldAt b 12 4)) ∧ (u.rd (counterAddr core
      (fieldAt b 10 1)) 2 + fieldAt b 11 1 ≤ 65535) ∧ ((postWords (s.slotDesc core slot)).all (fun w => !w.testBit 31))) ∧
    (∃ (s : State) (core : Nat) (slot : Nat) (m : Nat) (b : List Byte) (u : State), ((Instr.atomicMin core slot).wf) ∧ (s.firesClean core slot 5 32) ∧
      (s.slotBlock core slot 32 = b) ∧ (s.fired core slot = u) ∧ (remoteBlockOk b) ∧ ([0x13, 0x15].contains (fieldAt b 8 1)) ∧ (s.replays core =
      false) ∧ (s.sram = []) ∧ (s.bad (spBase core + fieldAt b 12 4) (fieldAt b 9 1) = false) ∧ (deviceOf (fieldAt b 0 8) = s.deviceId) ∧ (m ≠ core) ∧
      (m < 2048) ∧ (spBase m ≤ localOf (fieldAt b 0 8)) ∧ (localOf (fieldAt b 0 8) + fieldAt b 9 1 ≤ spBase m + 0x200000) ∧ (s.jobReaches core
      (localOf (fieldAt b 0 8)) (fieldAt b 9 1)) ∧ (s.jobSlots core (localOf (fieldAt b 0 8)) (fieldAt b 9 1)) ∧ ((s.diesAt (localOf (fieldAt b 0
      8))).all (s.meshUp (dieOf core))) ∧ ((fieldAt b 12 4 + fieldAt b 9 1 ≤ fieldAt b 16 4 ∨ fieldAt b 16 4 + 4 ≤ fieldAt b 12 4)) ∧ (u.rd
      (counterAddr core (fieldAt b 10 1)) 2 + fieldAt b 11 1 ≤ 65535) ∧ ((postWords (s.slotDesc core slot)).all (fun w => !w.testBit 31))) ∧
    (∃ (s : State) (core : Nat) (slot : Nat) (m : Nat) (b : List Byte) (u : State), ((Instr.atomicMax core slot).wf) ∧ (s.firesClean core slot 5 32) ∧
      (s.slotBlock core slot 32 = b) ∧ (s.fired core slot = u) ∧ (remoteBlockOk b) ∧ ([0x14, 0x16].contains (fieldAt b 8 1)) ∧ (s.replays core =
      false) ∧ (s.sram = []) ∧ (s.bad (spBase core + fieldAt b 12 4) (fieldAt b 9 1) = false) ∧ (deviceOf (fieldAt b 0 8) = s.deviceId) ∧ (m ≠ core) ∧
      (m < 2048) ∧ (spBase m ≤ localOf (fieldAt b 0 8)) ∧ (localOf (fieldAt b 0 8) + fieldAt b 9 1 ≤ spBase m + 0x200000) ∧ (s.jobReaches core
      (localOf (fieldAt b 0 8)) (fieldAt b 9 1)) ∧ (s.jobSlots core (localOf (fieldAt b 0 8)) (fieldAt b 9 1)) ∧ ((s.diesAt (localOf (fieldAt b 0
      8))).all (s.meshUp (dieOf core))) ∧ ((fieldAt b 12 4 + fieldAt b 9 1 ≤ fieldAt b 16 4 ∨ fieldAt b 16 4 + 4 ≤ fieldAt b 12 4)) ∧ (u.rd
      (counterAddr core (fieldAt b 10 1)) 2 + fieldAt b 11 1 ≤ 65535) ∧ ((postWords (s.slotDesc core slot)).all (fun w => !w.testBit 31))) :=
  ⟨⟨cpF (loc 0) (loc 4096), 3, 0, copyB (loc 0) (loc 4096), loc 0, loc 4096, 64, by decide +kernel⟩,
   ⟨cpF hst (loc 4096), 3, 0, copyB hst (loc 4096), by decide +kernel⟩,
   ⟨cpF (loc (2^21)) (loc 4096), 3, 0, copyB (loc (2^21)) (loc 4096), by decide +kernel⟩,
   ⟨gCp, 3, 0, copyB (loc 0) (7 * 2^48), by decide +kernel⟩,
   ⟨(remS 0x01), 3, 0, by decide +kernel⟩,
   ⟨(remS 0x02), 3, 0, by decide +kernel⟩,
   ⟨(remS 0x10), 3, 0, by decide +kernel⟩,
   ⟨(remS 0x11), 3, 0, by decide +kernel⟩,
   ⟨(remS 0x12), 3, 0, by decide +kernel⟩,
   ⟨(remS  0x15), 3, 0, by decide +kernel⟩,
   ⟨(remS  0x16), 3, 0, by decide +kernel⟩,
   ⟨(hereS 0x01), 3, 0, 4, hereB 0x01, (hereS 0x01).fired 3 0, by decide +kernel⟩,
   ⟨(hereS 0x02), 3, 0, 4, hereB 0x02, (hereS 0x02).fired 3 0, by decide +kernel⟩,
   ⟨(hereS 0x10), 3, 0, 4, hereB 0x10, (hereS 0x10).fired 3 0, by decide +kernel⟩,
   ⟨(hereS 0x11), 3, 0, 4, hereB 0x11, (hereS 0x11).fired 3 0, by decide +kernel⟩,
   ⟨(hereS 0x12), 3, 0, 4, hereB 0x12, (hereS 0x12).fired 3 0, by decide +kernel⟩,
   ⟨(hereS 0x15), 3, 0, 4, hereB 0x15, (hereS 0x15).fired 3 0, by decide +kernel⟩,
   ⟨(hereS 0x16), 3, 0, 4, hereB 0x16, (hereS 0x16).fired 3 0, by decide +kernel⟩⟩

theorem witness_array_occupancy_and_epilogue :
    (∃ (s : State) (core : Nat) (a : ArrayOp) (u : ArrayOp), ((Instr.arrayOccupancyEnd core).wf) ∧ (s.sram = []) ∧ ((s.core core).array = some a) ∧
      (a.prologue = false) ∧ (a.whole) ∧ (s.tileRead core (parseProduct a.block).tile = false) ∧ (a.badA = []) ∧ (a.badB = []) ∧ ((parseProduct
      a.block).mv ≤ 32) ∧ ((parseProduct a.block).nv ≤ (if (parseProduct a.block).mode = 6 then 16 else 32)) ∧ ((parseProduct a.block).tile < 64) ∧
      (((parseProduct a.block).mode = 6 → (parseProduct a.block).mv ≤ 16)) ∧ ((s.loadPlanes core { a with cycles := (parseProduct a.block).cycles }
      (parseProduct a.block).blocks).2 = u)) ∧
    (∃ (s : State) (core : Nat) (a : ArrayOp), ((Instr.arrayOccupancyEnd core).wf) ∧ ((s.core core).array = some a) ∧ ((a.prologue ∨ a.whole = false ∨
      s.tileRead core (parseProduct a.block).tile))) ∧
    (∃ (s : State) (core : Nat) (row : Nat) (a : ArrayOp), ((Instr.feederRefill core row).wf) ∧ ((s.core core).array = some a) ∧ (a.prologue = false) ∧
      (row < 32) ∧ (a.fedOf row = 0) ∧ (0 < (parseProduct a.block).rowBytes)) ∧
    (∃ (s : State) (core : Nat) (row : Nat) (a : ArrayOp), ((Instr.feederRefill core row).wf) ∧ ((s.core core).array = some a) ∧ (a.prologue = false) ∧
      ((parseProduct a.block).rowBytes ≤ a.fedOf row)) ∧
    (∃ (s : State) (core : Nat) (a : ArrayOp), ((Instr.epilogueStart core).wf) ∧ ((s.core core).vector = none) ∧ ((s.core core).vecHeld = false) ∧
      (((s.core core).tail.find? fun x => (parseProduct x.block).staged && !x.epilogue) = some a)) ∧
    (∃ (s : State) (core : Nat), ((Instr.epilogueStart core).wf) ∧ (((s.core core).vector.isSome ∨ (s.core core).vecHeld))) :=
  ⟨⟨pW, 3, fedA, (pW.loadPlanes 3 { fedA with cycles := (parseProduct prodB).cycles } (parseProduct prodB).blocks).2, by decide +kernel⟩,
   ⟨pS, 3, aOp, by decide +kernel⟩,
   ⟨pS, 3, 31, aOp, by decide +kernel⟩,
   ⟨pW, 3, 31, fedA, by decide +kernel⟩,
   ⟨tS, 3, sOp, by decide +kernel⟩,
   ⟨proB, 3, by decide +kernel⟩⟩

theorem witness_operations_complete_and_posts_arrive :
    (∃ (s : State) (core : Nat) (i : Nat) (a : ArrayOp), ((Instr.operationComplete core 1).wf) ∧ (((s.core core).tail.findIdx? fun x => !(parseProduct
      x.block).staged) = some i) ∧ ((s.core core).tail[i]? = some a)) ∧
    (∃ (s : State) (core : Nat) (slot : Nat) (posts : List Nat) (b : List Byte), ((Instr.operationComplete core 2).wf) ∧ ((s.core core).vector = some (.op
      slot posts b))) ∧
    (∃ (s : State) (core : Nat) (a : ArrayOp), ((Instr.operationComplete core 2).wf) ∧ ((s.core core).vector = some .epilogue) ∧ (((s.core core).tail.find?
      fun x => x.epilogue) = some a)) ∧
    (∃ (s : State) (core : Nat) (slot : Nat) (w : Nat), ((Instr.operationComplete core 4).wf) ∧ ((s.core core).routine = some ⟨slot, [w], true⟩) ∧ ((s.core
      core).landings = []) ∧ ((s.core core).array = none) ∧ ((s.core core).faulted = false) ∧ (w.testBit 31) ∧ (w.testBit 30) ∧ (s.sramHits (tokenAddr
      core (w % 256)) 2 2 = []) ∧ (s.rd (tokenAddr core (w % 256)) 2 + bitsOf w 8 8 ≤ 65535)) ∧
    (∃ (s : State) (core : Nat) (slot : Nat) (w : Nat), ((Instr.operationComplete core 4).wf) ∧ ((s.core core).routine = some ⟨slot, [w], true⟩) ∧ ((s.core
      core).landings = []) ∧ ((s.core core).array = none) ∧ ((s.core core).faulted = false) ∧ (w.testBit 31) ∧ (w.testBit 30) ∧ (s.sramHits (tokenAddr
      core (w % 256)) 2 2 = []) ∧ (65535 < s.rd (tokenAddr core (w % 256)) 2 + bitsOf w 8 8)) ∧
    (∃ (s : State) (core : Nat), ((Instr.operationComplete core 4).wf) ∧ (((s.core core).routine.all fun r => !r.ended))) ∧
    (∃ (s : State) (u : State) (src : Nat) (core : Nat) (p : Post), ((Instr.postArrival src core).wf) ∧ (s.issuePosts = u) ∧ ((u.posts.find? fun x =>
      Nat.beq x.src src && Nat.beq x.dst core) = some p) ∧ (u.postFree p) ∧ ((u.meshArrive (.post p.id)).2) ∧ (s.holdsCore p.cocoon core) ∧
      (s.coreState core ≠ 5) ∧ (s.coreState core ≠ 1) ∧ (s.sramHits (tokenAddr core p.token) 2 2 = []) ∧ (s.rd (tokenAddr core p.token) 2 + p.inc ≤
      65535)) ∧
    (∃ (s : State) (u : State) (src : Nat) (core : Nat) (p : Post), ((Instr.postArrival src core).wf) ∧ (s.issuePosts = u) ∧ ((u.posts.find? fun x =>
      Nat.beq x.src src && Nat.beq x.dst core) = some p) ∧ (u.postFree p) ∧ ((u.meshArrive (.post p.id)).2) ∧ (s.holdsCore p.cocoon core) ∧
      (s.coreState core ≠ 5) ∧ (s.coreState core ≠ 1) ∧ (s.sramHits (tokenAddr core p.token) 2 2 = []) ∧ (65535 < s.rd (tokenAddr core p.token) 2 +
      p.inc)) ∧
    (∃ (s : State) (u : State) (src : Nat) (core : Nat) (p : Post), ((Instr.postArrival src core).wf) ∧ (s.issuePosts = u) ∧ ((u.posts.find? fun x =>
      Nat.beq x.src src && Nat.beq x.dst core) = some p) ∧ (u.postFree p) ∧ ((u.meshArrive (.post p.id)).2) ∧ ((s.holdsCore p.cocoon core = false ∨
      s.coreState core = 5 ∨ s.coreState core = 1)) ∧ (s.fld (coreOwnerFld src) = p.cocoon)) ∧
    (∃ (s : State) (u : State) (src : Nat) (core : Nat) (p : Post), ((Instr.postArrival src core).wf) ∧ (s.issuePosts = u) ∧ ((u.posts.find? fun x =>
      Nat.beq x.src src && Nat.beq x.dst core) = some p) ∧ (u.postFree p) ∧ ((u.meshArrive (.post p.id)).2) ∧ ((s.holdsCore p.cocoon core = false ∨
      s.coreState core = 5 ∨ s.coreState core = 1)) ∧ (s.fld (coreOwnerFld src) ≠ p.cocoon)) ∧
    (∃ (s : State) (u : State) (src : Nat) (core : Nat) (p : Post), ((Instr.postArrival src core).wf) ∧ (s.issuePosts = u) ∧ ((u.posts.find? fun x =>
      Nat.beq x.src src && Nat.beq x.dst core) = some p) ∧ ((u.postFree p = false ∨ (u.meshArrive (.post p.id)).2 = false))) :=
  ⟨⟨tS, 3, 0, aOp, by decide +kernel⟩,
   ⟨vO, 3, 1, [0,0], vopB, by decide +kernel⟩,
   ⟨(tS.setCore 3 { tS.core 3 with vector := some .epilogue, tail := [aOp, { sOp with epilogue := true }] }), 3, { sOp with epilogue := true },
      by decide +kernel⟩,
   ⟨(rO 65533), 3, 1, 0xC0000205, by decide +kernel⟩,
   ⟨(rO 65534), 3, 1, 0xC0000205, by decide +kernel⟩,
   ⟨tS, 3, by decide +kernel⟩,
   ⟨(po 2), (po 2).issuePosts, 9, 3, pst 0 9 3, by decide +kernel⟩,
   ⟨(po 2).wr (tokenAddr 3 255) 2 65535, ((po 2).wr (tokenAddr 3 255) 2 65535).issuePosts, 9, 3, pst 0 9 3, by decide +kernel⟩,
   ⟨poW, poW.issuePosts, 9, 3, pst 0 9 3, by decide +kernel⟩,
   ⟨(po 5), (po 5).issuePosts, 9, 3, pst 0 9 3, by decide +kernel⟩,
   ⟨poC, poC.issuePosts, 1999, 3, pst 1 1999 3, by decide +kernel⟩⟩

theorem witness_copies_release_and_land :
    (∃ (s : State) (core : Nat) (id : Nat) (x : CopyOp) (g : Option Segment), ((Instr.copySourceRelease core id).wf) ∧ (((s.core core).copies.find? fun y
      => Nat.beq y.id id) = some x) ∧ (x.released = false) ∧ (deviceOf x.src = s.deviceId) ∧ (localOf x.src < hostBase) ∧ (s.jobReaches core (localOf
      x.src) x.len) ∧ (s.bad (localOf x.src) x.len = false) ∧ (s.segmentAt (s.fld (coreOwnerFld core)) x.segment (localOf x.src) x.len = g) ∧
      ((x.segment = 0 ∨ g.isSome)) ∧ ((s.copyDies x).all (fun d => (meshRoute d.1 d.2).all fun h => !(s.crossing h.x).down)) ∧ ((x.posts.all fun w =>
      !w.testBit 31))) ∧
    (∃ (s : State) (core : Nat) (id : Nat) (x : CopyOp), ((Instr.copySourceRelease core id).wf) ∧ (((s.core core).copies.find? fun y => Nat.beq y.id id) =
      some x) ∧ (x.released = false) ∧ (deviceOf x.src = s.deviceId) ∧ (localOf x.src < hostBase) ∧ ((s.jobReaches core (localOf x.src) x.len = false
      ∨ s.bad (localOf x.src) x.len))) ∧
    (∃ (s : State) (core : Nat) (id : Nat) (x : CopyOp), ((Instr.copySourceRelease core id).wf) ∧ (((s.core core).copies.find? fun y => Nat.beq y.id id) =
      some x) ∧ (x.released = false) ∧ (deviceOf x.src ≠ s.deviceId) ∧ ((x.posts.all fun w => !w.testBit 31))) ∧
    (∃ (s : State) (core : Nat) (id : Nat) (x : CopyOp), ((Instr.copySourceRelease core id).wf) ∧ (((s.core core).copies.find? fun y => Nat.beq y.id id) =
      some x) ∧ (x.released = false) ∧ (deviceOf x.src = s.deviceId) ∧ (hostBase ≤ localOf x.src) ∧ (((s.jobFn core).any (fun fn => s.reading fn
      (RdWhy.ofCopy core id)) ∨ x.data.length < x.len))) ∧
    (∃ (s : State) (core : Nat) (id : Nat) (x : CopyOp) (m : Nat) (n : Nat), ((Instr.copyLanding core id).wf) ∧ (((s.core core).copies.find? fun y =>
      Nat.beq y.id id) = some x) ∧ (x.released) ∧ (((s.core core).copies.any fun y => Nat.blt y.id x.id && s.sameLane y x) = false) ∧ ((s.meshArrive
      (.copy core id)).2) ∧ (deviceOf x.dst = s.deviceId) ∧ (m < 2048) ∧ (spBase m ≤ localOf x.dst) ∧ (localOf x.dst + x.len ≤ spBase m + 0x200000) ∧
      (s.jobWrites core (localOf x.dst) x.len) ∧ (x.data.length = x.len) ∧ (x.stale = false) ∧ ((if x.ctrCore = 0xFFFF then core else x.ctrCore) = n)
      ∧ (n < 2048) ∧ ((n = core ∨ s.holdsCore (s.fld (coreOwnerFld core)) n ∧ s.coreState n ≠ 1 ∧ s.coreState n ≠ 5 ∧ s.coreState n ≠ 6)) ∧
      (s.sramHits (counterAddr n x.ctr) 4 2 = []) ∧ (s.rd (counterAddr n x.ctr) 2 + x.inc ≤ 65535)) ∧
    (∃ (s : State) (core : Nat) (id : Nat) (x : CopyOp), ((Instr.copyLanding core id).wf) ∧ (((s.core core).copies.find? fun y => Nat.beq y.id id) = some
      x) ∧ (x.released) ∧ (((s.core core).copies.any fun y => Nat.blt y.id x.id && s.sameLane y x) = false) ∧ ((s.meshArrive (.copy core id)).2) ∧
      (deviceOf x.dst ≠ s.deviceId) ∧ (x.stale = false) ∧ (x.ctrCore = 0xFFFF) ∧ (s.sramHits (counterAddr core x.ctr) 4 2 = []) ∧ (s.rd (counterAddr
      core x.ctr) 2 + x.inc ≤ 65535)) ∧
    (∃ (s : State) (core : Nat) (id : Nat) (x : CopyOp), ((Instr.copyLanding core id).wf) ∧ (((s.core core).copies.find? fun y => Nat.beq y.id id) = some
      x) ∧ (x.released) ∧ (((s.core core).copies.any fun y => Nat.blt y.id x.id && s.sameLane y x) = false) ∧ ((s.meshArrive (.copy core id)).2) ∧
      (deviceOf x.dst ≠ s.deviceId) ∧ (x.stale) ∧ (x.ctrCore ≠ 0xFFFF)) ∧
    (∃ (s : State) (core : Nat) (id : Nat) (x : CopyOp), ((Instr.copyLanding core id).wf) ∧ (((s.core core).copies.find? fun y => Nat.beq y.id id) = some
      x) ∧ ((x.released = false ∨ ((s.core core).copies.any fun y => Nat.blt y.id x.id && s.sameLane y x)))) :=
  ⟨⟨(cpy (cx false false 7 0xFFFF)), 3, 4, cx false false 7 0xFFFF, none, by decide +kernel⟩,
   ⟨{ cpy (cx false false 7 0xFFFF) with sram := [(spBase 3 / 8, 2)] }, 3, 4, cx false false 7 0xFFFF, by decide +kernel⟩,
   ⟨cpy cxR, 3, 4, cxR, by decide +kernel⟩,
   ⟨cpy cxH, 3, 4, cxH, by decide +kernel⟩,
   ⟨(cpy (cx true false 7 0xFFFF)), 3, 4, cx true false 7 0xFFFF, 3, 3, by decide +kernel⟩,
   ⟨(cpy (cx true false 9 0xFFFF)), 3, 4, cx true false 9 0xFFFF, by decide +kernel⟩,
   ⟨(cpy (cx true true 9 3)), 3, 4, cx true true 9 3, by decide +kernel⟩,
   ⟨(cpy (cx false false 7 0xFFFF)), 3, 4, cx false false 7 0xFFFF, by decide +kernel⟩⟩

end W03

namespace W04

def tb1 : SchedTable := ⟨0, 2, 10000, 0, (List.range 160).map fun _ => ⟨0, 1, 1, 0, 0, 0, 0, 0, 0, false, false⟩, [BitVec.ofNat 2048 (2^5 + 2^7)], [⟨3, 0, 10, 50000⟩], [⟨3, 2, 0, 10, 0, 0⟩], [], [], []⟩
def sP : State := { sE with boot := { sE.boot with powered := true } }
def sA : State := { sP with seq := { sP.seq with active := some tb1 } }.setFld Reg.SEQ.STATE.STATE 4
def sRe : State := {sA with seq := {sA.seq with realign := some 625000}}
def sAr : State := ({ sA with seq := { sA.seq with armed := some tb1, next := 160, beat := 159 }}).setFld Reg.SEQ.STATE.STATE 3
def sW0 : State := match windowStart 0 7 sA with | s => s
def sSt : State := { sP with time := { sP.time with stepRequested := true, samples := [100000000000] } }
def sDr : State := ({ sA with seq := { sA.seq with armed := some { tb1 with preempt := 2 }, next := 160, beat := 157 }}).setFld Reg.SEQ.STATE.STATE 2
def sCl (b : Nat) : State := ({ sA with seq := { sA.seq with closeAt := some 160, beat := b }}).setFld Reg.SEQ.STATE.STATE 6
def sStR : State := ({ sW0 with time := sSt.time }).setFlds [(ctrlEnable 0x010, 1)]
def sLo : State := { sA with seq := {sA.seq with loading := some (List.replicate 256 0)}}
def sLate : State := { sA with runs := [{ run0 4 0 7 with cmd := none, stride := some ⟨false, 0, 0, 0, 0, 0, false⟩ }] }
def sW : State := match windowStart 0 7 sA with | s => s
def se (b : Nat) : StrideEntry := ⟨b, 0, 1, 2, 0, 3, 0⟩
def prog1 : Program := ⟨0, 0, 0, 1, 0, 1, false, [], [0], [se 100], 0, 0, false⟩
def s0h : Nat := 0
def run1 : Run := { run0 4 3 7 with cmd := none }
def sS : State :=
  let s := sW.setFld (Reg.COCOON.STATE.STATE 3) 1
  let s := s.setFld (coreStateFld 7) 0
  let s := s.setCocoon 3 { s.cocoon 3 with slots := [(0, ⟨0, 0, 0, 0, 0, 0, [(0, prog1)]⟩)] }
  { s with runs := [run1] }
def stopped (k : Nat) : State :=
  let s := strideStart 4 2000 sS
  let s := (s.wr (tokenAddr 7 1) 2 5)
  { s with runs := s.runs.map fun r => { r with passes := if k = 0 then [] else [(0, 2)] } }
def xr (k : Nat) : Run := (stopped k).runs.getD 0 run1
def stF : State := let s := (stopped 0).faultRun 7 0x06 0; s
def stRa : State := { stopped 1 with runs := (stopped 1).runs.map fun r => { r with cores := [5, 7], stride := r.stride.map fun x => { x with runaway := true } } }
def tb0 : SchedTable := { tb1 with rows := tb1.rows.take 1 }
def imC (ab : Bool) (r : Option Nat) : ChryImage := ⟨1, 0x81000000, 5, [⟨7, false, ab, r, 0xFFFF, 0⟩], [], [9], []⟩
def im (st : Nat) : ChryImage := ⟨1, 0x81000000, 5, [⟨7, false, false, none, 0xFFFF, 0⟩], [], if st = 3 then [9] else [], []⟩
def sC (st : Nat) (started : Bool) : State :=
  let s := sP.setCocoon 3 { sP.cocoon 3 with images := [im st] }
  let s := s.setFlds [(Reg.COCOON.CHRY_STAT.STATE 3 1, st), (Reg.COCOON.CHRY_LEN.LEN 3, 1000), (Reg.COCOON.CHRY_BASE.BASE 3, 16)]
  let s := (s.wr (spBase 7 + 4) 4 0x12345678).wr (recordAddr (s.imageBase 3 1) 0 + 12) 4 0x9876
  { s with seq := { s.seq with drains := [⟨7, 3, started, false⟩] } }
def sD : State := let s := sC 1 false; s.setCore 7 { s.core 7 with copies := [⟨4, 0, [0, 0], spBase 3, spBase 3 + 0x1000, 64, 9, 3, 1, 0, 0, false, List.replicate 64 9, false, 0⟩] }
def wkS (kind : Nat) : State × SchedTable × Work :=
  let w : Work := ⟨3, kind, 0, 10, (if kind = 4 then 0x81000000 else s0h), 9⟩
  let tb := { tb1 with works := [w] }
  let s := { sS with runs := [], seq := { sS.seq with active := some tb } }
  (s, tb, w)
def imR (n : Nat) : ChryImage := ⟨1, 0x81000000, 5, ([⟨7, false, false, none, 0xFFFF, 0⟩, ⟨6, false, false, none, 0xFFFF, 0⟩] : List ChryEntry).take n, [], [], []⟩
def wkR (n : Nat) : State := ((wkS 4).1.setCocoon 3 { (wkS 4).1.cocoon 3 with images := [imR n] }).setFlds [(Reg.COCOON.CHRY_STAT.STATE 3 1, 2)]
def sCr (ab : Bool) (r : Option Nat) : State :=
  let s := sC 3 true
  let s := s.setCocoon 3 { s.cocoon 3 with images := [imC ab r] }
  { s.setFld (Reg.COCOON.STATE.STATE 3) 1 with runs := if r.isSome then [{ run0 4 3 7 with cores := [7 + 4096], suspended := true }] else [] }

theorem witness_beat_boundaries_epochs_and_time_steps :
    (∃ (s : State), (s.boot.powered) ∧ (s.fld Reg.SEQ.STATE.STATE ≠ 5) ∧ (s.seq.realign = none) ∧ (s.pages.commits.contains 0x040 = false)) ∧
    (∃ (s : State) (stop : Nat), (s.boot.powered) ∧ (s.fld Reg.SEQ.STATE.STATE ≠ 5) ∧ (s.seq.realign = some stop) ∧ (s.pages.commits.contains 0x040 =
      false)) ∧
    (∃ (s : State), (s.boot.powered) ∧ (s.fld Reg.SEQ.STATE.STATE ≠ 5) ∧ (s.pages.commits.contains 0x040)) ∧
    (∃ (s : State), s.fld Reg.SEQ.STATE.STATE = 5) ∧
    (∃ (s : State), s.boot.powered = false) ∧
    (∃ (s : State) (new : SchedTable), (s.boot.powered) ∧ ((s.fld Reg.SEQ.STATE.STATE = 2 ∨ s.fld Reg.SEQ.STATE.STATE = 3)) ∧ (s.seq.realign = none) ∧
      (s.seq.closeAt = none) ∧ (s.pages.commits = []) ∧ (s.pages.taken = []) ∧ (s.seq.armed = some new) ∧ (s.seq.next ≤ s.seq.beat + 1)) ∧
    (∃ (s : State) (new : SchedTable), (s.boot.powered) ∧ (s.fld Reg.SEQ.STATE.STATE = 2) ∧ (s.seq.realign = none) ∧ (s.seq.closeAt = none) ∧
      (s.pages.commits = []) ∧ (s.pages.taken = []) ∧ (s.seq.armed = some new) ∧ (s.seq.next ≤ s.seq.beat + 1 + new.preempt) ∧ (s.seq.beat + 1 <
      s.seq.next)) ∧
    (∃ (s : State) (at_ : Nat), (s.boot.powered) ∧ (s.fld Reg.SEQ.STATE.STATE = 6) ∧ (s.seq.realign = none) ∧ (s.seq.closeAt = some at_) ∧
      (s.seq.closingDrain = none) ∧ (s.seq.armed = none) ∧ (s.pages.commits = []) ∧ (s.pages.taken = []) ∧ ((s.seq.beat + 1) % s.F = 0)) ∧
    (∃ (s : State) (at_ : Nat), (s.boot.powered) ∧ (s.fld Reg.SEQ.STATE.STATE = 6) ∧ (s.seq.realign = none) ∧ (s.seq.closeAt = some at_) ∧
      (s.seq.closingDrain = none) ∧ (s.seq.armed = none) ∧ (s.pages.commits = []) ∧ (s.pages.taken = []) ∧ ((s.seq.beat + 1) % s.F ≠ 0)) ∧
    (∃ (s : State), (s.time.stepRequested) ∧ (s.fld Reg.SEQ.STATE.STATE ≠ 5) ∧ (s.isSet (ctrlEnable 0x010) = false)) ∧
    (∃ (s : State), (s.time.stepRequested) ∧ (s.isSet (ctrlEnable 0x010)) ∧ (s.fld Reg.SEQ.STATE.STATE = 4) ∧ (s.seq.realign = none) ∧ (s.radioOn = false)) ∧
    (∃ (s : State), (s.time.stepRequested) ∧ (s.isSet (ctrlEnable 0x010)) ∧ (s.fld Reg.SEQ.STATE.STATE ≠ 5) ∧ ((s.fld Reg.SEQ.STATE.STATE ≠ 4 ∨
      s.seq.realign.isSome))) ∧
    (∃ (s : State), (s.time.stepRequested = false ∨ s.fld Reg.SEQ.STATE.STATE = 5)) :=
  ⟨⟨sA, by decide +kernel⟩,
   ⟨sRe, 625000, by decide +kernel⟩,
   ⟨{ sA with pages := { sA.pages with commits := [0x040] } }, by decide +kernel⟩,
   ⟨(sA.setFld Reg.SEQ.STATE.STATE 5), by decide +kernel⟩,
   ⟨{ sA with boot := { sA.boot with powered := false } }, by decide +kernel⟩,
   ⟨sAr, tb1, by decide +kernel⟩,
   ⟨sDr, { tb1 with preempt := 2 }, by decide +kernel⟩,
   ⟨(sCl 159), 160, by decide +kernel⟩,
   ⟨(sCl 157), 160, by decide +kernel⟩,
   ⟨sSt, by decide +kernel⟩,
   ⟨sStR, by decide +kernel⟩,
   ⟨{ sStR with seq := { sStR.seq with realign := some 5000000 } }, by decide +kernel⟩,
   ⟨(sStR.setFld Reg.SEQ.STATE.STATE 5), by decide +kernel⟩⟩

theorem witness_loaded_tables_timers_and_parity :
    (∃ (s : State) (b : List Byte) (chk : Option Fail), (s.seq.loading = some b) ∧ (s.fld Reg.SEQ.STATE.STATE ≠ 5) ∧ (s.checkTable b (Assoc.findD (α :=
      Nat) Reg.SEQ.TABLE_ADDR_LO.ADDR_LO.key 0 s.seq.taken) (s.fld Reg.SEQ.BEAT_CFG.LEN) = chk)) ∧
    (∃ (s : State), (s.seq.loading = none ∨ s.fld Reg.SEQ.STATE.STATE = 5)) ∧
    (∃ (s : State), s.fld Reg.SEQ.STATE.STATE = 1) ∧
    (∃ (s : State) (tb : SchedTable), (s.fld Reg.SEQ.STATE.STATE = 2) ∧ (s.seq.armed = some tb) ∧ (s.seq.beat < s.seq.next - tb.preempt)) ∧
    (∃ (s : State) (tb : SchedTable), ((s.fld Reg.SEQ.STATE.STATE = 3 ∨ s.fld Reg.SEQ.STATE.STATE = 2 ∧ s.seq.next - tb.preempt ≤ s.seq.beat)) ∧
      (s.seq.armed = some tb)) ∧
    (∃ (s : State), (s.fld Reg.SEQ.STATE.STATE = 0 ∨ 4 ≤ s.fld Reg.SEQ.STATE.STATE)) ∧
    (∃ (s : State) (core : Nat) (now : Nat) (r : Run) (x : StrideRun), ((Instr.runawayStride core now).wf) ∧ (s.runOn core = some r) ∧ (r.stride = some x)
      ∧ (r.cocoon ≠ 0) ∧ (r.cocoon < 64) ∧ ((s.core core).faulted = false) ∧ (x.start + x.bound + s.fld Reg.SEQ.LIVE.GUARD_NS ≤ (s.advanceTo now).now)
      ∧ (s.fld Reg.SEQ.STATE.STATE ≠ 5) ∧ ((s.seq.openWins.any fun w => Nat.beq w.core core && w.waiting) = false)) ∧
    (∃ (s : State) (core : Nat) (now : Nat), ((Instr.runawayStride core now).wf) ∧ (((s.runOn core).all fun r => r.stride.all fun x => Nat.beq r.cocoon 0
      || !s.working core || Nat.blt (s.advanceTo now).now (x.start + x.bound + s.fld Reg.SEQ.LIVE.GUARD_NS)))) ∧
    (∃ (s : State) (tb : SchedTable), (s.seq.active = some tb) ∧ (s.fld Reg.SEQ.STATE.STATE ≠ 5) ∧ ((tb.fits s.L s.F s.demand (fun n => !s.coreDisabled n)
      fun _ _ => true).isSome)) ∧
    (∃ (s : State), (s.fld Reg.SEQ.STATE.STATE = 5 ∨ (s.seq.active.all fun tb => (tb.fits s.L s.F s.demand (fun n => !s.coreDisabled n) fun _ _ =>
      true).isNone))) ∧
    (∃ (s : State), (s.seq.active.isSome) ∧ (s.fld Reg.SEQ.STATE.STATE ≠ 5) ∧ (s.fatal = none)) ∧
    (∃ (s : State), s.seq.active = none) :=
  ⟨⟨sLo, List.replicate 256 0, some (0x205, 0, 0), by decide +kernel⟩,
   ⟨(sLo.setFld Reg.SEQ.STATE.STATE 5), by decide +kernel⟩,
   ⟨(sLo.setFld Reg.SEQ.STATE.STATE 1), by decide +kernel⟩,
   ⟨{ sAr.setFld Reg.SEQ.STATE.STATE 2 with seq := {sAr.seq with first := true, beat := 157}}, tb1, by decide +kernel⟩,
   ⟨sAr, tb1, by decide +kernel⟩,
   ⟨sA, by decide +kernel⟩,
   ⟨stRa, 7, 200000, stRa.runs.getD 0 run1, ((stRa.runs.getD 0 run1).stride.getD ⟨false,0,0,0,0,0,false⟩), by decide +kernel⟩,
   ⟨(stopped 1), 7, 2050, by decide +kernel⟩,
   ⟨{ sA with demand := [(1, 100000)], seq := { sA.seq with active := some tb0 } }, tb0, by decide +kernel⟩,
   ⟨sP, by decide +kernel⟩,
   ⟨sA, by decide +kernel⟩,
   ⟨sP, by decide +kernel⟩⟩

theorem witness_windows_open_end_and_hand_over :
    (∃ (s : State) (win : Nat) (core : Nat) (tb : SchedTable) (r : Row) (w : Window), ((Instr.windowStart win core).wf) ∧ (s.seq.active = some tb) ∧ (s.row
      = some r) ∧ (((tb.rowWins r).find? fun x => Nat.beq x.1 win) = some (win, w)) ∧ (w.cocoon < 64) ∧ (tb.hasCore w.coreSet core) ∧ (s.seq.realign =
      none) ∧ (s.fld Reg.SEQ.STATE.STATE ≠ 5) ∧ (s.coreDisabled core = false) ∧ ((s.seq.openWins.any fun x => Nat.beq x.win win && Nat.beq x.core core
      && Nat.beq x.beat s.seq.beat) = false)) ∧
    (∃ (s : State) (win : Nat) (core : Nat) (tb : SchedTable) (r : Row) (w : Window), ((Instr.windowStart win core).wf) ∧ (s.sound) ∧ (s.seq.active = some
      tb) ∧ (s.row = some r) ∧ (((tb.rowWins r).find? fun x => Nat.beq x.1 win) = some (win, w)) ∧ (w.cocoon < 64) ∧ (tb.hasCore w.coreSet core) ∧
      (s.seq.realign = none) ∧ (s.fld Reg.SEQ.STATE.STATE ≠ 5) ∧ (s.coreDisabled core = false) ∧ ((s.seq.openWins.any fun x => Nat.beq x.win win &&
      Nat.beq x.core core && Nat.beq x.beat s.seq.beat) = false) ∧ (((s.runOn core).all fun x => x.stride.isNone)) ∧ (Assoc.find core s.seq.lastOwner
      ≠ some w.cocoon)) ∧
    (∃ (s : State) (win : Nat) (core : Nat) (tb : SchedTable) (r : Row) (w : Window), ((Instr.windowStart win core).wf) ∧ (s.seq.active = some tb) ∧ (s.row
      = some r) ∧ (((tb.rowWins r).find? fun x => Nat.beq x.1 win) = some (win, w)) ∧ (w.cocoon < 64) ∧ (tb.hasCore w.coreSet core) ∧ (s.seq.realign =
      none) ∧ (s.fld Reg.SEQ.STATE.STATE ≠ 5) ∧ (s.coreDisabled core = false) ∧ ((s.seq.openWins.any fun x => Nat.beq x.win win && Nat.beq x.core core
      && Nat.beq x.beat s.seq.beat) = false) ∧ (((s.runOn core).any fun x => x.stride.isSome && !Nat.beq x.cocoon w.cocoon && s.working core &&
      (Nat.beq x.cocoon 0 || !s.sealed w.cocoon)))) ∧
    (∃ (s : State) (win : Nat) (core : Nat) (tb : SchedTable) (r : Row), ((Instr.windowStart win core).wf) ∧ (s.seq.active = some tb) ∧ (s.row = some r) ∧
      ((((tb.rowWins r).find? fun x => Nat.beq x.1 win).all fun x => !tb.hasCore x.2.coreSet core || (s.seq.openWins.any fun o => Nat.beq o.win win &&
      Nat.beq o.core core && Nat.beq o.beat s.seq.beat) || s.seq.realign.isSome || Nat.beq (s.fld Reg.SEQ.STATE.STATE) 5 || s.coreDisabled core))) ∧
    (∃ (s : State) (win : Nat) (core : Nat), ((Instr.windowStart win core).wf) ∧ (s.row = none)) ∧
    (∃ (s : State) (win : Nat) (core : Nat) (w : OpenWin), ((Instr.windowEnd win core).wf) ∧ (s.fld Reg.SEQ.STATE.STATE ≠ 5) ∧ ((s.seq.openWins.find? fun x
      => Nat.beq x.win win && Nat.beq x.core core && !x.ended) = some w)) ∧
    (∃ (s : State) (win : Nat) (core : Nat), ((Instr.windowEnd win core).wf) ∧ ((s.fld Reg.SEQ.STATE.STATE = 5 ∨ (s.seq.openWins.find? fun x => Nat.beq
      x.win win && Nat.beq x.core core && !x.ended) = none))) ∧
    (∃ (s : State) (core : Nat) (w : OpenWin), ((Instr.handoverEnd core).wf) ∧ (s.coreState core = 1) ∧ ((s.seq.openWins.find? fun x => Nat.beq x.core core
      && !x.waiting && !x.ended) = some w)) ∧
    (∃ (s : State) (core : Nat), ((Instr.handoverEnd core).wf) ∧ ((s.coreState core ≠ 1 ∨ (s.seq.openWins.find? fun x => Nat.beq x.core core && !x.waiting
      && !x.ended) = none))) :=
  ⟨⟨sA, 0, 7, tb1, ⟨0, 1, 1, 0, 0, 0, 0, 0, 0, false, false⟩, ⟨3, 0, 10, 50000⟩, by decide +kernel⟩,
   ⟨sA, 0, 7, tb1, ⟨0, 1, 1, 0, 0, 0, 0, 0, 0, false, false⟩, ⟨3, 0, 10, 50000⟩, by decide +kernel⟩,
   ⟨sLate, 0, 7, tb1, ⟨0, 1, 1, 0, 0, 0, 0, 0, 0, false, false⟩, ⟨3, 0, 10, 50000⟩, by decide +kernel⟩,
   ⟨sA, 0, 6, tb1, ⟨0, 1, 1, 0, 0, 0, 0, 0, 0, false, false⟩, by decide +kernel⟩,
   ⟨sP, 0, 7, by decide +kernel⟩,
   ⟨sW, 0, 7, (sW.seq.openWins.getD 0 ⟨0, 0, 0, 0, 0, 0, 0, 0, false, false, 0⟩), by decide +kernel⟩,
   ⟨sA, 0, 7, by decide +kernel⟩,
   ⟨sW, 7, (sW.seq.openWins.getD 0 ⟨0, 0, 0, 0, 0, 0, 0, 0, false, false, 0⟩), by decide +kernel⟩,
   ⟨sA, 7, by decide +kernel⟩⟩

theorem witness_work_entries_and_strides :
    (∃ (s : State) (work : Nat) (tb : SchedTable) (r : Row) (w : Work), ((Instr.workEntryStart work).wf) ∧ (s.seq.active = some tb) ∧ (s.row = some r) ∧
      (((tb.rowWorks r).find? fun x => Nat.beq x.1 work) = some (work, w)) ∧ (s.seq.realign = none) ∧ (s.fld Reg.SEQ.STATE.STATE ≠ 5)) ∧
    (∃ (s : State) (work : Nat) (tb : SchedTable) (r : Row) (w : Work) (z : Nat) (p : Nat) (g : Program), ((Instr.workEntryStart work).wf) ∧ (s.seq.active
      = some tb) ∧ (s.row = some r) ∧ (((tb.rowWorks r).find? fun x => Nat.beq x.1 work) = some (work, w)) ∧ (s.seq.realign = none) ∧ (s.fld
      Reg.SEQ.STATE.STATE ≠ 5) ∧ ((w.kind = 1 ∨ w.kind = 3)) ∧ (s.mayRun w.cocoon) ∧ (s.program w.cocoon w.handle = some (z, p, g))) ∧
    (∃ (s : State) (work : Nat) (tb : SchedTable) (r : Row) (w : Work) (i : ChryImage), ((Instr.workEntryStart work).wf) ∧ (s.seq.active = some tb) ∧
      (s.row = some r) ∧ (((tb.rowWorks r).find? fun x => Nat.beq x.1 work) = some (work, w)) ∧ (s.seq.realign = none) ∧ (s.fld Reg.SEQ.STATE.STATE ≠
      5) ∧ (w.kind = 4) ∧ (w.cocoon < 64) ∧ (i.slot < 4) ∧ (((s.cocoon w.cocoon).images.find? fun x => Nat.beq x.handle w.handle) = some i) ∧ (s.fld
      (Reg.COCOON.CHRY_STAT.STATE w.cocoon i.slot) = 2)) ∧
    (∃ (s : State) (work : Nat), ((Instr.workEntryStart work).wf) ∧ ((s.row = none ∨ s.seq.realign.isSome ∨ s.fld Reg.SEQ.STATE.STATE = 5))) ∧
    (∃ (s : State) (run : Nat) (now : Nat) (r : Run) (p : Program) (e : StrideEntry), ((Instr.strideStart run now).wf) ∧ (s.run run = some r) ∧
      (s.runProgram r = some p) ∧ (p.strides[r.entry]? = some e) ∧ (r.stride = none) ∧ (r.fault = none) ∧ (r.ending = none) ∧ (r.suspended = false) ∧
      (r.needLaunch = false) ∧ ((r.cores.all fun n => Nat.blt n 2048)) ∧ (r.cores.Nodup) ∧ (s.mayRun r.cocoon) ∧ (s.heldThrough p r.cocoon r.cores) ∧
      ((r.cores.all fun n => (s.advanceTo now).mayStart r.cocoon n (s.advanceTo now).now e.b)) ∧ (e.go < 256) ∧ ((r.cores.all fun n => (s.sramHits
      (tokenAddr n e.go) 2 2).isEmpty && Nat.ble (s.rd (tokenAddr n e.go) 2 + 1) 65535))) ∧
    (∃ (s : State) (run : Nat) (now : Nat) (r : Run) (p : Program) (e : StrideEntry) (n : Nat), ((Instr.strideStart run now).wf) ∧ (s.run run = some r) ∧
      (s.runProgram r = some p) ∧ (p.strides[r.entry]? = some e) ∧ (r.stride = none) ∧ (r.fault = none) ∧ (r.ending = none) ∧ (r.suspended = false) ∧
      (r.needLaunch = false) ∧ (r.cores = [n]) ∧ (n < 2048) ∧ (s.mayRun r.cocoon) ∧ (s.heldThrough p r.cocoon r.cores) ∧ ((s.advanceTo now).mayStart
      r.cocoon n (s.advanceTo now).now e.b) ∧ (e.go < 256) ∧ (s.sramHits (tokenAddr n e.go) 2 2 = []) ∧ (s.rd (tokenAddr n e.go) 2 = 65535)) ∧
    (∃ (s : State) (run : Nat) (now : Nat) (r : Run) (p : Program) (e : StrideEntry), ((Instr.strideStart run now).wf) ∧ (s.run run = some r) ∧
      (s.runProgram r = some p) ∧ (p.strides[r.entry]? = some e) ∧ ((r.stride.isSome ∨ r.fault.isSome ∨ r.ending.isSome ∨ r.suspended ∨ r.needLaunch ∨
      s.mayRun r.cocoon = false ∨ s.heldThrough p r.cocoon r.cores = false ∨ (r.cores.any fun n => !(s.advanceTo now).mayStart r.cocoon n (s.advanceTo
      now).now e.b)))) ∧
    (∃ (s : State) (run : Nat) (now : Nat), ((Instr.strideStart run now).wf) ∧ (s.run run = none)) ∧
    (∃ (s : State) (run : Nat) (now : Nat) (r : Run) (p : Program) (x : StrideRun) (e : StrideEntry) (n : Nat) (m : Nat) (ps : Assoc Nat),
      ((Instr.strideEnd run now).wf) ∧ (s.run run = some r) ∧ (r.stride = some x) ∧ (s.runProgram r = some p) ∧ (p.strides[x.entry]? = some e) ∧
      (x.launch = false) ∧ (r.cores = [n]) ∧ (n < 2048) ∧ ((s.core n).faulted = false) ∧ (e.doneCount ≤ s.rd (tokenAddr n e.done) 2) ∧ ((s.core
      n).idle) ∧ (r.cmd = none) ∧ (r.fault = none) ∧ (r.ending = none) ∧ ((s.seq.openWins.any fun w => Nat.beq w.core n && w.waiting) = false) ∧ ((∀ y
      ∈ s.runs, y.id = run → y.cmd = none)) ∧ (nextEntry p.strides r.maxLen x.entry r.passes = some (m, ps))) ∧
    (∃ (s : State) (run : Nat) (now : Nat) (r : Run) (p : Program) (x : StrideRun) (e : StrideEntry) (n : Nat), ((Instr.strideEnd run now).wf) ∧ (s.run run
      = some r) ∧ (r.stride = some x) ∧ (s.runProgram r = some p) ∧ (p.strides[x.entry]? = some e) ∧ (x.launch = false) ∧ (r.cores = [n]) ∧ (n < 2048)
      ∧ ((s.core n).faulted = false) ∧ (e.doneCount ≤ s.rd (tokenAddr n e.done) 2) ∧ ((s.core n).idle) ∧ (nextEntry p.strides r.maxLen x.entry
      r.passes = none)) ∧
    (∃ (s : State) (run : Nat) (now : Nat) (r : Run) (p : Program) (x : StrideRun) (e : StrideEntry) (m : Nat) (ps : Assoc Nat), ((Instr.strideEnd run
      now).wf) ∧ (s.run run = some r) ∧ (r.stride = some x) ∧ (s.runProgram r = some p) ∧ (p.strides[x.entry]? = some e) ∧ (x.launch = false) ∧
      (r.cores.Nodup) ∧ ((r.cores.all fun n => Nat.blt n 2048 && !(s.core n).faulted && (s.core n).idle && Nat.ble e.doneCount (s.rd (tokenAddr n
      e.done) 2) && !(s.seq.openWins.any fun w => Nat.beq w.core n && w.waiting))) ∧ ((r.cocoon = 0 ∨ (s.seq.openWins.all fun w => Nat.ble
      (s.advanceTo now).now w.stop))) ∧ (s.seq.charges = []) ∧ (e.done < 256) ∧ ((r.cmd.all fun c => !(fieldAt c.bytes 1 1).testBit 1)) ∧ (r.fault =
      none) ∧ (r.ending = none) ∧ (nextEntry p.strides r.maxLen x.entry r.passes = some (m, ps))) ∧
    (∃ (s : State) (run : Nat) (now : Nat) (r : Run) (p : Program) (x : StrideRun) (e : StrideEntry) (n : Nat), ((Instr.strideEnd run now).wf) ∧ (s.run run
      = some r) ∧ (r.stride = some x) ∧ (s.runProgram r = some p) ∧ (p.strides[x.entry]? = some e) ∧ (x.launch = false) ∧ (r.cores = [n]) ∧ ((s.core
      n).faulted) ∧ ((s.core n).idle) ∧ (r.fault.isSome)) ∧
    (∃ (s : State) (run : Nat) (now : Nat) (r : Run) (p : Program) (x : StrideRun) (e : StrideEntry), ((Instr.strideEnd run now).wf) ∧ (s.run run = some r)
      ∧ (r.stride = some x) ∧ (s.runProgram r = some p) ∧ (p.strides[x.entry]? = some e) ∧ ((x.launch ∨ (r.cores.any fun n => !(s.core n).idle ||
      !(s.core n).faulted && Nat.blt (s.rd (tokenAddr n e.done) 2) e.doneCount)))) ∧
    (∃ (s : State) (run : Nat) (now : Nat), ((Instr.strideEnd run now).wf) ∧ (s.run run = none)) :=
  ⟨⟨sA, 0, tb1, ⟨0, 1, 1, 0, 0, 0, 0, 0, 0, false, false⟩, ⟨3, 2, 0, 10, 0, 0⟩, by decide +kernel⟩,
   ⟨(wkS 1).1, 0, (wkS 1).2.1, ⟨0, 1, 1, 0, 0, 0, 0, 0, 0, false, false⟩, (wkS 1).2.2, 0, 0, prog1, by decide +kernel⟩,
   ⟨(wkR 2), 0, (wkS 4).2.1, ⟨0, 1, 1, 0, 0, 0, 0, 0, 0, false, false⟩, (wkS 4).2.2, imR 2, by decide +kernel⟩,
   ⟨sP, 0, by decide +kernel⟩,
   ⟨sS, 4, 2000, run1, prog1, se 100, by decide +kernel⟩,
   ⟨(sS.wr (tokenAddr 7 (se 100).go) 2 65535), 4, 2000, run1, prog1, se 100, 7, by decide +kernel⟩,
   ⟨sS, 4, 500, run1, prog1, se 100, by decide +kernel⟩,
   ⟨sS, 5, 2000, by decide +kernel⟩,
   ⟨(stopped 0), 4, 2300, xr 0, prog1, (xr 0).stride.getD ⟨false,0,0,0,0,0,false⟩, se 100, 7, 0, [(0,1)], by decide +kernel⟩,
   ⟨(stopped 1), 4, 2300, xr 1, prog1, (xr 1).stride.getD ⟨false,0,0,0,0,0,false⟩, se 100, 7, by decide +kernel⟩,
   ⟨(stopped 0), 4, 2300, xr 0, prog1, (xr 0).stride.getD ⟨false,0,0,0,0,0,false⟩, se 100, 0, [(0,1)], by decide +kernel⟩,
   ⟨stF, 4, 2300, stF.runs.getD 0 run1, prog1, (xr 0).stride.getD ⟨false,0,0,0,0,0,false⟩, se 100, 7, by decide +kernel⟩,
   ⟨((stopped 0).wr (tokenAddr 7 1) 2 1), 4, 2300, xr 0, prog1, (xr 0).stride.getD ⟨false,0,0,0,0,0,false⟩, se 100, by decide +kernel⟩,
   ⟨(stopped 0), 5, 2300, by decide +kernel⟩⟩

theorem witness_chrysalis_saves_and_restores :
    (∃ (s : State) (core : Nat) (d : Drain), ((Instr.chrysalisSaveStart core).wf) ∧ ((s.seq.drains.find? fun x => Nat.beq x.core core) = some d) ∧
      (d.started = false) ∧ ((s.savingImage d.cocoon core).isSome) ∧ (s.strideOn core = false) ∧ ((s.core core).copies = []) ∧ ((s.core core).remotes
      = []) ∧ ((s.posts.any fun p => Nat.beq p.src core || Nat.beq p.dst core) = false)) ∧
    (∃ (s : State) (core : Nat), ((Instr.chrysalisSaveStart core).wf) ∧ (((s.seq.drains.find? fun x => Nat.beq x.core core).all fun d => d.started ||
      (s.savingImage d.cocoon core).isNone || s.strideOn core || !(s.core core).copies.isEmpty || !(s.core core).remotes.isEmpty || (s.posts.any fun p
      => Nat.beq p.src core || Nat.beq p.dst core)))) ∧
    (∃ (s : State) (core : Nat) (d : Drain) (i : ChryImage), ((Instr.drainTimeout core).wf) ∧ ((s.seq.drains.find? fun x => Nat.beq x.core core) = some d)
      ∧ (d.started = false) ∧ (s.strideOn core = false) ∧ (((s.core core).copies ≠ [] ∨ (s.core core).remotes ≠ [] ∨ (s.posts.any fun p => Nat.beq
      p.src core || Nat.beq p.dst core))) ∧ (s.savingImage d.cocoon core = some i) ∧ (d.cocoon < 64) ∧ (i.slot < 4)) ∧
    (∃ (s : State) (core : Nat), ((Instr.drainTimeout core).wf) ∧ (((s.seq.drains.find? fun x => Nat.beq x.core core).all fun d => d.started || s.strideOn
      core))) ∧
    (∃ (s : State) (core : Nat) (d : Drain) (i : ChryImage), ((Instr.chrysalisSaveDone core).wf) ∧ (s.sound) ∧ ((s.seq.drains.find? fun x => Nat.beq x.core
      core) = some d) ∧ (d.started) ∧ (d.saved = false) ∧ (s.savingImage d.cocoon core = some i) ∧ (d.cocoon < 64) ∧ (i.slot < 4) ∧ (s.coreDisabled
      core = false) ∧ (recordAddr (s.imageBase d.cocoon i.slot) (i.saved.findIdx fun e => Nat.beq e.src core) + 0x250000 ≤ 0x004000000000) ∧
      (i.entries.length ≤ 4096)) ∧
    (∃ (s : State) (core : Nat), ((Instr.chrysalisSaveDone core).wf) ∧ (((s.seq.drains.find? fun x => Nat.beq x.core core).all fun d => !d.started ||
      d.saved || (s.savingImage d.cocoon core).isNone))) ∧
    (∃ (s : State) (cocoon : Nat) (slot : Nat) (group : Nat) (i : ChryImage) (e : ChryEntry), ((Instr.restoreGroupDone cocoon slot group).wf) ∧ (s.sound) ∧
      (s.image cocoon slot = some i) ∧ (s.fld (Reg.COCOON.CHRY_STAT.STATE cocoon slot) = 3) ∧ (i.entries = [e]) ∧ (e.kept = false) ∧ (e.group = group)
      ∧ (e.absorbed = false) ∧ (e.run = none) ∧ (i.loaded = []) ∧ (i.nowCore e < 2048) ∧ (s.coreDisabled (i.nowCore e) = false) ∧ (s.imageBase cocoon
      slot + 0x1000 ≤ 0x004000000000)) ∧
    (∃ (s : State) (cocoon : Nat) (slot : Nat) (group : Nat) (i : ChryImage) (e : ChryEntry) (r : Run), ((Instr.restoreGroupDone cocoon slot group).wf) ∧
      (s.image cocoon slot = some i) ∧ (s.fld (Reg.COCOON.CHRY_STAT.STATE cocoon slot) = 3) ∧ (i.entries = [e]) ∧ (e.kept = false) ∧ (e.group = group)
      ∧ (e.absorbed = false) ∧ (e.run = some r.id) ∧ (i.loaded = []) ∧ (s.runs = [r]) ∧ (r.cores = [e.src + 4096]) ∧ (r.ending = none) ∧ (r.fault =
      none)) ∧
    (∃ (s : State) (cocoon : Nat) (slot : Nat) (group : Nat) (i : ChryImage) (e : ChryEntry), ((Instr.restoreGroupDone cocoon slot group).wf) ∧ (s.image
      cocoon slot = some i) ∧ (s.fld (Reg.COCOON.CHRY_STAT.STATE cocoon slot) = 3) ∧ (i.entries = [e]) ∧ (e.kept = false) ∧ (e.group = group) ∧
      (e.absorbed) ∧ (e.run = none) ∧ (i.loaded = []) ∧ (i.nowCore e < 2048) ∧ (s.runs = [])) ∧
    (∃ (s : State) (cocoon : Nat) (slot : Nat) (group : Nat), ((Instr.restoreGroupDone cocoon slot group).wf) ∧ (((s.image cocoon slot).all fun i =>
      !Nat.beq (s.fld (Reg.COCOON.CHRY_STAT.STATE cocoon slot)) 3 || !(i.left.any fun g => Nat.beq g.1 group)))) :=
  ⟨⟨(sC 1 false), 7, ⟨7, 3, false, false⟩, by decide +kernel⟩,
   ⟨sD, 7, by decide +kernel⟩,
   ⟨sD, 7, ⟨7, 3, false, false⟩, im 1, by decide +kernel⟩,
   ⟨sA, 7, by decide +kernel⟩,
   ⟨(sC 1 true), 7, ⟨7, 3, true, false⟩, (im 1), by decide +kernel⟩,
   ⟨sA, 7, by decide +kernel⟩,
   ⟨(sC 3 true), 3, 1, 0xFFFF, im 3, ⟨7, false, false, none, 0xFFFF, 0⟩, by decide +kernel⟩,
   ⟨(sCr false (some 4)), 3, 1, 0xFFFF, imC false (some 4), ⟨7, false, false, some 4, 0xFFFF, 0⟩, { run0 4 3 7 with cores := [7 + 4096], suspended :=
      true }, by decide +kernel⟩,
   ⟨(sCr true none), 3, 1, 0xFFFF, imC true none, ⟨7, false, true, none, 0xFFFF, 0⟩, by decide +kernel⟩,
   ⟨(sCr true none), 3, 1, 5, by decide +kernel⟩⟩

end W04

namespace W05

def win0 (n c : Nat) : OpenWin := ⟨0, n, c, 0, 0, 1000, 1000000, 0, false, false, 0⟩
def q256 (b : List Byte) : State :=
  let s := ((sE.setFld (Reg.COCOON.STATE.STATE 1) 1).setFld (Reg.FN.FN_STATUS.STATE 256) 1).setFld Reg.STAIDO.STATE.STATE 2
  let s := ((s.setFld2 (Reg.FN.CQ_BASE_LO.BASE 256 0) (Reg.FN.CQ_BASE_HI.BASE 256 0) (hostBase + 0x3000)).setFld (Reg.FN.CQ_CFG.SIZE_LOG2 256 0) 4).setFld (Reg.FN.CQ_COAL.COUNT 256 0) 1
  let s := s.setRing 256 0 ⟨0, 17, 5, 1, none, 0, []⟩
  let s := (((s.setFld (Reg.MEM.GROUP.VALID 0) 1).setFld (Reg.MEM.GROUP.CHANNELS 0) 3).setFld (Reg.MEM_CH.STATE.STATE 0) 2).setFld (Reg.MEM_CH.STATE.STATE 1) 2
  let s := ((s.setFld (Reg.COCOON.EXT_COUNT.COUNT 1) 1).setFld (Reg.COCOON.EXT_BASE.BASE 1 0) 0).setFld (Reg.COCOON.EXT_LEN.LEN 1 0) 0x100
  let s := s.setFld (Reg.COCOON.CTX_BASE.BASE 1) 1
  let s := s.setFld (Reg.SILK.DEVICE_ID.ID) 7
  s.setQueue 256 3 ⟨0, false, false, [b, [1,2]], []⟩
def pad (b : List Byte) : List Byte := b ++ List.replicate (64 - b.length) 0
def bar : List Byte := pad [8,1,0,0,1,2,3,4]
def sqS : State := ((q256 bar).setFld (Reg.FN.SQ_CFG.ENABLE 256 3) 1).setFld (Reg.FN.SQ_CFG.SIZE_LOG2 256 3) 4
def sqR : State := (sqS.setQueue 256 3 ⟨9, false, true, [bar], []⟩).setFn 256 { (sqS.setQueue 256 3 ⟨9, false, true, [bar], []⟩).fn 256 with reads := [⟨4, 0, 64, .sqEntry 3⟩] }
def ci : CoreImage := ⟨0x40, 0x40, 64, 0, 0, 0x100⟩
def pg : Program := { gen := 1, base := 0x20000, len := 0x10000, groupCores := 1, way0 := 2, ways := 1, continuous := false, images := [ci], rankMap := [0], strides := [⟨1000,0,1,1,0,0,0⟩], bP := 1000, bL := 1000, closing := false }
def sl0 : Slot := ⟨4096, 0, 0, 0x20000, 0x20000, 1, [(5, pg)]⟩
def inv : List Byte := pad ([1,0,0,0,9,9,9,9] ++ leBytes 4 0x10205 ++ leBytes 2 1 ++ leBytes 2 7 ++ leBytes 8 0x100)
def withP (s : State) : State := s.setCocoon 1 { s.cocoon 1 with slots := [(2, sl0)], dispatched := 6 }
def tbD : SchedTable := ⟨0, 2, 10000, 0, (List.range 160).map fun _ => ⟨0, 1, 1, 0, 0, 0, 0, 0, 0, false, false⟩, [BitVec.ofNat 2048 (2^5 + 2^7)], [⟨1, 0, 10, 50000⟩], [⟨1, 2, 0, 0, 0x100, 0⟩], [], [List.replicate 4096 1], []⟩
def invS : State :=
  let s := withP (q256 inv)
  let s := (s.wr 0x100 2 3).wrBytes (0x10000 + 64*3) (leBytes 4 (1+32) ++ leBytes 4 100 ++ leBytes 8 5 ++ leBytes 8 0 ++ leBytes 8 77)
  { s with seq := { s.seq with active := some tbD, openWork := [0], openWins := [{win0 7 1 with stop := 10000000}] } }
def unl : List Byte := pad ([3,0,0,0,9,9,9,9] ++ leBytes 4 0x10205)
def unx : List Byte := pad ([3,0,0,0,9,9,9,9] ++ leBytes 4 0x10206)
def ldh (a n : Nat) : List Byte := pad ([2,0,0,0,9,9,9,9] ++ [2,6] ++ leBytes 6 0 ++ leBytes 8 a ++ leBytes 4 n)
def unW : State := { withP (q256 unl) with waits := [⟨3, 1, ⟨256, 3, unl, 0⟩, .unload 0x10205⟩, ⟨4, 1, ⟨256, 3, unl, 0⟩, .unload 0x10206⟩] }
def imgLen : Nat := 45376
def byteCells (a : Nat) (b : List Byte) : List (Nat × Byte) := (b.zipIdx).map fun x => (a + x.2, x.1)
def imgCells : List (Nat × Byte) :=
  byteCells 0x40000 (leBytes 4 0x454D5047 ++ leBytes 2 1 ++ leBytes 2 1 ++ [1,2,1,0] ++ leBytes 2 1 ++ leBytes 2 0 ++ leBytes 4 2455 ++ leBytes 4 imgLen) ++
  byteCells 0x4001C (leBytes 4 0 ++ leBytes 4 0x40 ++ leBytes 4 1 ++ leBytes 4 45248 ++ leBytes 4 1 ++ leBytes 4 45312 ++ leBytes 4 1 ++ leBytes 4 45312 ++ leBytes 4 0 ++
    leBytes 4 0x1000 ++ leBytes 4 64 ++ leBytes 8 0 ++ leBytes 4 0x2000) ++
  byteCells (0x40000 + 45312) (leBytes 4 1000 ++ [0,1] ++ leBytes 2 1)
/-- Memory with the image at 0x40000, its CRC word `c`. -/
def crcMem (c : Nat) : Memory := { cells := (0x40018, BitVec.ofNat 8 c) :: (0x40019, BitVec.ofNat 8 (c / 256)) :: (0x4001A, BitVec.ofNat 8 (c / 65536)) :: (0x4001B, BitVec.ofNat 8 (c / 16777216)) :: imgCells, undef := [] }
def imgCrc : Nat := imageCrc ((crcMem 0).read 0x40000 imgLen) 0x18
def image : List Byte := (crcMem imgCrc).read 0x40000 imgLen
theorem read_length (m : Memory) (a n : Nat) : (m.read a n).length = n := by
  induction n generalizing a with
  | zero => rfl
  | succ n ih => rw [Memory.read, List.length_cons, ih]
theorem read_add (m : Memory) (a p q : Nat) : m.read a (p + q) = m.read a p ++ m.read (a + p) q := by
  induction p generalizing a with
  | zero => simp [Memory.read]
  | succ p ih => rw [Nat.add_right_comm, Memory.read, Memory.read, ih, List.cons_append, Nat.add_right_comm a 1 p, Nat.add_assoc]
theorem read_congr (m m' : Memory) (n : Nat) : ∀ a, (∀ x, a ≤ x → x < a + n → m.readByte x = m'.readByte x) → m.read a n = m'.read a n := by
  induction n with
  | zero => intro a _; rfl
  | succ n ih =>
    intro a h
    rw [Memory.read, Memory.read, h a (Nat.le_refl _) (by omega), ih (a + 1) fun x h1 h2 => h x (by omega) (by omega)]
theorem crcMem_outside (c d x : Nat) (h : x < 0x40018 ∨ 0x4001C ≤ x) : (crcMem c).readByte x = (crcMem d).readByte x := by
  have h1 : ¬ 0x40018 = x := by omega
  have h2 : ¬ 0x40019 = x := by omega
  have h3 : ¬ 0x4001A = x := by omega
  have h4 : ¬ 0x4001B = x := by omega
  simp only [crcMem, Memory.readByte, Memory.unlisted, Assoc.find, if_neg h1, if_neg h2, if_neg h3, if_neg h4]
theorem image_split (c : Nat) : (crcMem c).read 0x40000 imgLen =
    (crcMem 0).read 0x40000 24 ++ ((crcMem c).read 0x40018 4 ++ (crcMem 0).read 0x4001C 45348) := by
  have e : imgLen = 24 + (4 + 45348) := rfl
  rw [e, read_add, read_add]
  rw [read_congr (crcMem c) (crcMem 0) 24 0x40000 fun x _ h2 => crcMem_outside c 0 x (by omega)]
  rw [read_congr (crcMem c) (crcMem 0) 45348 (0x40000 + 24 + 4) fun x h1 _ => crcMem_outside c 0 x (by omega)]
theorem image_crc (c : Nat) : imageCrc ((crcMem c).read 0x40000 imgLen) 0x18 = imgCrc := by
  have len (d : Nat) : ((crcMem d).read 0x40018 4).length = 4 := read_length _ _ _
  have l24 : ((crcMem 0).read 0x40000 24).length = 24 := read_length _ _ _
  simp only [imgCrc, imageCrc, image_split c, image_split 0]
  simp [List.drop_append, l24, len, List.drop_eq_nil_of_le]
theorem imageCrc_lt (l : List Byte) (off : Nat) : imageCrc l off < 2 ^ 32 := BitVec.isLt _
theorem image_field (c : Nat) (lt : c < 2 ^ 32) : fieldAt ((crcMem c).read 0x40000 imgLen) 0x18 4 = c := by
  have l24 : ((crcMem 0).read 0x40000 24).length = 24 := read_length _ _ _
  have four : (crcMem c).read 0x40018 4 = [BitVec.ofNat 8 c, BitVec.ofNat 8 (c / 256), BitVec.ofNat 8 (c / 65536), BitVec.ofNat 8 (c / 16777216)] := by
    simp [Memory.read, Memory.readByte, crcMem, Assoc.find]
  rw [image_split, four, fieldAt, slice, List.drop_append, l24, List.drop_eq_nil_of_le (Nat.le_of_eq l24)]
  simp [leNat]
  omega
theorem image_checked : imageReason image (parseProgram image 0 0) = none := by
  have e : imageCrc (image.take (parseProgram image 0 0).len) 0x18 = imgCrc := by
    rw [show (parseProgram image 0 0).len = imgLen from by decide +kernel, List.take_of_length_le (Nat.le_of_eq (by rw [image, read_length]))]
    exact image_crc imgCrc
  have f : Nat.beq (fieldAt image 0x18 4) (imageCrc (image.take (parseProgram image 0 0).len) 0x18) = true := by
    rw [e, image, image_field imgCrc (imageCrc_lt _ _)]; exact Nat.beq_refl _
  have g : image.length = imgLen := read_length _ _ _
  unfold imageReason
  simp only [f, g]
  decide +kernel
def ldc : List Byte := pad ([2,0,0,0,9,9,9,9] ++ [2,6] ++ leBytes 6 0 ++ leBytes 8 0x40000 ++ leBytes 4 imgLen)
def ldS : State := { withP (q256 ldc) with mem := crcMem imgCrc }
theorem ldS_read : ldS.readFor (ldS.fnCocoon 256) (fieldAt ldc 16 8) (fieldAt ldc 24 4) = some image := by
  rw [State.readFor, if_pos (by decide +kernel), show fieldAt ldc 16 8 = 0x40000 from by decide +kernel, show fieldAt ldc 24 4 = imgLen from by decide +kernel]
  rfl
def ssc : List Byte := pad ([4,0,0,0,9,9,9,9, 3] ++ leBytes 3 0 ++ leBytes 4 77 ++ leBytes 8 0x10000 ++ leBytes 8 0x10000 ++ leBytes 8 0x30000 ++ leBytes 4 0x1000)
def coc : List Byte := pad ([5,0,0,0,9,9,9,9] ++ leBytes 2 9 ++ [2, 0] ++ leBytes 4 10 ++ leBytes 8 0x30000 ++ leBytes 24 5)
def ccc : List Byte := pad ([6,0,0,0,9,9,9,9] ++ leBytes 2 9)
def ccW : State := { ((withP (q256 ccc)).wr (0x10000 + 64*9) 1 33) with waits := [⟨3, 1, ⟨256, 3, unl, 0⟩, .ctxClose 9⟩, ⟨4, 1, ⟨256, 3, unl, 0⟩, .unload 0x10206⟩] }
def cpc : List Byte := pad ([7,0,0,0,9,9,9,9] ++ leBytes 8 0x1000 ++ leBytes 8 0x1040 ++ leBytes 4 128)
def cph : List Byte := pad ([7,0,0,0,9,9,9,9] ++ leBytes 8 hostBase ++ leBytes 8 0x1040 ++ leBytes 4 128)
def crc : List Byte := pad ([9,0,0,0,9,9,9,9] ++ leBytes 2 7 ++ leBytes 2 1)
def crS : State := let s := ((invS.setQueue 256 3 ⟨0, false, false, [crc, [1,2]], []⟩).setFld (coreOwnerFld 7) 1).setFld (coreStateFld 7) 3; { s.wr (pcAddr 7) 4 9 with cores := [(7, {Core.fresh with faulted := true, nextId := 4}), (9, Core.fresh)] }
def att : List Byte := pad ([10,0,0,0,9,9,9,9] ++ List.replicate 32 3 ++ leBytes 8 0x2000 ++ leBytes 4 8192)
def atS : State := { q256 att with boot := { sE.boot with log := [List.replicate 64 1, List.replicate 64 2] } }
def rr : Run := { (run0 11 1 7) with slot := 2, prog := 5, staged := false, needLaunch := true, cmd := none, ctxs := [] }
def stS : State := { ((invS.wrBytes 0x20040 (List.replicate 200 5)).wrBytes (0x20040+45000) (List.replicate 152 6)) with runs := [rr] }
def pgB : Program := { pg with ways := 0 }
def stB : State := let s := q256 bar; { s.setCocoon 1 { s.cocoon 1 with slots := [(2, { sl0 with programs := [(5, pgB)] })] } with runs := [{ rr with cmd := some ⟨256, 3, bar, 0⟩ }] }
def rr1 : Run := { rr with staged := true }
def laS : State := { (invS.wrBytes (spBase 7) [1,2,3]) with runs := [rr1], cores := [(7, {Core.fresh with nextId := 4}), (9, Core.fresh)] }
def rr2 : Run := { rr1 with stride := some ⟨true, 0xFFFF, 0, 1000, 1000, 0, false⟩, strides := 1, beats := 1, lastBeat := some 0 }
def ldnS : State := { laS with runs := [rr2] }

theorem witness_queue_entries_and_barriers :
    (∃ (s : State) (fn : Nat) (queue : Nat) (b : List Byte), ((Instr.sqEntryRead fn queue (.data b)).wf) ∧ (s.sqOn fn queue) ∧ ((s.queue fn queue).reading)
      ∧ (64 ≤ b.length)) ∧
    (∃ (s : State) (fn : Nat) (queue : Nat), ((Instr.sqEntryRead fn queue .error).wf) ∧ (s.sqOn fn queue) ∧ ((s.queue fn queue).reading)) ∧
    (∃ (s : State) (fn : Nat) (queue : Nat) (b : List Byte), ((Instr.sqEntryRead fn queue (.data b)).wf) ∧ (s.sqOn fn queue) ∧ ((s.queue fn queue).reading)
      ∧ (b.length < 64)) ∧
    (∃ (s : State) (fn : Nat) (queue : Nat) (d : HostData), ((Instr.sqEntryRead fn queue d).wf) ∧ ((s.sqOn fn queue = false ∨ (s.queue fn queue).reading =
      false))) ∧
    (∃ (s : State) (fn : Nat) (queue : Nat) (b : List Byte) (rest : List (List Byte)), ((Instr.barrier fn queue).wf) ∧ (s.heads fn queue 8 b rest)) ∧
    (∃ (s : State) (queue : Nat) (b : List Byte) (rest : List (List Byte)), ((Instr.barrier 256 queue).wf) ∧ (s.heads 256 queue 8 b rest) ∧ (s.mgmtReady
      queue)) ∧
    (∃ (s : State) (fn : Nat) (queue : Nat), ((Instr.invoke fn queue).wf) ∧ (((s.queue fn queue).cmds = [] ∨ s.canTake fn queue = false ∨ s.itsTurn fn
      queue = false ∨ ((s.queue fn queue).cmds.head?.any fun b => !cmdBad b && !Nat.beq (fieldAt b 0 1) 1)))) ∧
    (∃ (s : State) (fn : Nat) (queue : Nat), ((Instr.loadProgram fn queue).wf) ∧ (((s.queue fn queue).cmds = [] ∨ s.canTake fn queue = false ∨ s.itsTurn fn
      queue = false ∨ ((s.queue fn queue).cmds.head?.any fun b => !cmdBad b && !Nat.beq (fieldAt b 0 1) 2)))) ∧
    (∃ (s : State) (fn : Nat) (queue : Nat), ((Instr.unloadProgram fn queue).wf) ∧ (((s.queue fn queue).cmds = [] ∨ s.canTake fn queue = false ∨ s.itsTurn
      fn queue = false ∨ ((s.queue fn queue).cmds.head?.any fun b => !cmdBad b && !Nat.beq (fieldAt b 0 1) 3)))) ∧
    (∃ (s : State) (fn : Nat) (queue : Nat), ((Instr.slotSet fn queue).wf) ∧ (((s.queue fn queue).cmds = [] ∨ s.canTake fn queue = false ∨ s.itsTurn fn
      queue = false ∨ ((s.queue fn queue).cmds.head?.any fun b => !cmdBad b && !Nat.beq (fieldAt b 0 1) 4)))) ∧
    (∃ (s : State) (fn : Nat) (queue : Nat), ((Instr.contextOpen fn queue).wf) ∧ (((s.queue fn queue).cmds = [] ∨ s.canTake fn queue = false ∨ s.itsTurn fn
      queue = false ∨ ((s.queue fn queue).cmds.head?.any fun b => !cmdBad b && !Nat.beq (fieldAt b 0 1) 5)))) ∧
    (∃ (s : State) (fn : Nat) (queue : Nat), ((Instr.contextClose fn queue).wf) ∧ (((s.queue fn queue).cmds = [] ∨ s.canTake fn queue = false ∨ s.itsTurn
      fn queue = false ∨ ((s.queue fn queue).cmds.head?.any fun b => !cmdBad b && !Nat.beq (fieldAt b 0 1) 6)))) ∧
    (∃ (s : State) (fn : Nat) (queue : Nat), ((Instr.copy fn queue).wf) ∧ (((s.queue fn queue).cmds = [] ∨ s.canTake fn queue = false ∨ s.itsTurn fn queue
      = false ∨ ((s.queue fn queue).cmds.head?.any fun b => !cmdBad b && !Nat.beq (fieldAt b 0 1) 7)))) ∧
    (∃ (s : State) (fn : Nat) (queue : Nat), ((Instr.barrier fn queue).wf) ∧ (((s.queue fn queue).cmds = [] ∨ s.canTake fn queue = false ∨ s.itsTurn fn
      queue = false ∨ ((s.queue fn queue).cmds.head?.any fun b => !cmdBad b && !Nat.beq (fieldAt b 0 1) 8)))) ∧
    (∃ (s : State) (fn : Nat) (queue : Nat), ((Instr.coreReset fn queue).wf) ∧ (((s.queue fn queue).cmds = [] ∨ s.canTake fn queue = false ∨ s.itsTurn fn
      queue = false ∨ ((s.queue fn queue).cmds.head?.any fun b => !cmdBad b && !Nat.beq (fieldAt b 0 1) 9)))) ∧
    (∃ (s : State) (fn : Nat) (queue : Nat), ((Instr.attest fn queue).wf) ∧ (((s.queue fn queue).cmds = [] ∨ s.canTake fn queue = false ∨ s.itsTurn fn
      queue = false ∨ ((s.queue fn queue).cmds.head?.any fun b => !cmdBad b && !Nat.beq (fieldAt b 0 1) 10)))) ∧
    (∃ (s : State) (fn : Nat) (queue : Nat) (b : List Byte) (rest : List (List Byte)), ((Instr.invoke fn queue).wf) ∧ ((s.queue fn queue).cmds = b :: rest)
      ∧ (s.canTake fn queue) ∧ (s.itsTurn fn queue) ∧ (cmdBad b)) ∧
    (∃ (s : State) (fn : Nat) (queue : Nat) (b : List Byte) (rest : List (List Byte)), ((Instr.loadProgram fn queue).wf) ∧ ((s.queue fn queue).cmds = b ::
      rest) ∧ (s.canTake fn queue) ∧ (s.itsTurn fn queue) ∧ (cmdBad b)) ∧
    (∃ (s : State) (fn : Nat) (queue : Nat) (b : List Byte) (rest : List (List Byte)), ((Instr.unloadProgram fn queue).wf) ∧ ((s.queue fn queue).cmds = b
      :: rest) ∧ (s.canTake fn queue) ∧ (s.itsTurn fn queue) ∧ (cmdBad b)) ∧
    (∃ (s : State) (fn : Nat) (queue : Nat) (b : List Byte) (rest : List (List Byte)), ((Instr.slotSet fn queue).wf) ∧ ((s.queue fn queue).cmds = b ::
      rest) ∧ (s.canTake fn queue) ∧ (s.itsTurn fn queue) ∧ (cmdBad b)) ∧
    (∃ (s : State) (fn : Nat) (queue : Nat) (b : List Byte) (rest : List (List Byte)), ((Instr.contextOpen fn queue).wf) ∧ ((s.queue fn queue).cmds = b ::
      rest) ∧ (s.canTake fn queue) ∧ (s.itsTurn fn queue) ∧ (cmdBad b)) ∧
    (∃ (s : State) (fn : Nat) (queue : Nat) (b : List Byte) (rest : List (List Byte)), ((Instr.contextClose fn queue).wf) ∧ ((s.queue fn queue).cmds = b ::
      rest) ∧ (s.canTake fn queue) ∧ (s.itsTurn fn queue) ∧ (cmdBad b)) ∧
    (∃ (s : State) (fn : Nat) (queue : Nat) (b : List Byte) (rest : List (List Byte)), ((Instr.copy fn queue).wf) ∧ ((s.queue fn queue).cmds = b :: rest) ∧
      (s.canTake fn queue) ∧ (s.itsTurn fn queue) ∧ (cmdBad b)) ∧
    (∃ (s : State) (fn : Nat) (queue : Nat) (b : List Byte) (rest : List (List Byte)), ((Instr.barrier fn queue).wf) ∧ ((s.queue fn queue).cmds = b ::
      rest) ∧ (s.canTake fn queue) ∧ (s.itsTurn fn queue) ∧ (cmdBad b)) ∧
    (∃ (s : State) (fn : Nat) (queue : Nat) (b : List Byte) (rest : List (List Byte)), ((Instr.coreReset fn queue).wf) ∧ ((s.queue fn queue).cmds = b ::
      rest) ∧ (s.canTake fn queue) ∧ (s.itsTurn fn queue) ∧ (cmdBad b)) ∧
    (∃ (s : State) (fn : Nat) (queue : Nat) (b : List Byte) (rest : List (List Byte)), ((Instr.attest fn queue).wf) ∧ ((s.queue fn queue).cmds = b :: rest)
      ∧ (s.canTake fn queue) ∧ (s.itsTurn fn queue) ∧ (cmdBad b)) :=
  ⟨⟨sqR, 256, 3, (List.replicate 64 7), by decide +kernel⟩,
   ⟨sqR, 256, 3, by decide +kernel⟩,
   ⟨sqR, 256, 3, (List.replicate 16 7), by decide +kernel⟩,
   ⟨sqS, 256, 3, .error, by decide +kernel⟩,
   ⟨(q256 bar), 256, 3, bar, [[1,2]], by decide +kernel⟩,
   ⟨(q256 bar), 3, bar, [[1,2]], by decide +kernel⟩,
   ⟨(q256 bar), 256, 3, by decide +kernel⟩,
   ⟨sE, 256, 3, by decide +kernel⟩,
   ⟨sE, 256, 3, by decide +kernel⟩,
   ⟨sE, 256, 3, by decide +kernel⟩,
   ⟨sE, 256, 3, by decide +kernel⟩,
   ⟨sE, 256, 3, by decide +kernel⟩,
   ⟨sE, 256, 3, by decide +kernel⟩,
   ⟨sE, 256, 3, by decide +kernel⟩,
   ⟨sE, 256, 3, by decide +kernel⟩,
   ⟨(q256 bar), 256, 3, by decide +kernel⟩,
   ⟨(q256 (pad [1,8])), 256, 3, pad [1,8], [[1,2]], by decide +kernel⟩,
   ⟨(withP (q256 (pad [2,8]))), 256, 3, (pad [2,8]), [[1,2]], by decide +kernel⟩,
   ⟨(withP (q256 (pad [3,8]))), 256, 3, (pad [3,8]), [[1,2]], by decide +kernel⟩,
   ⟨(withP (q256 (pad [4,8]))), 256, 3, (pad [4,8]), [[1,2]], by decide +kernel⟩,
   ⟨(withP (q256 (pad [5,8]))), 256, 3, (pad [5,8]), [[1,2]], by decide +kernel⟩,
   ⟨(withP (q256 (pad [6,8]))), 256, 3, (pad [6,8]), [[1,2]], by decide +kernel⟩,
   ⟨(withP (q256 (pad [7,8]))), 256, 3, (pad [7,8]), [[1,2]], by decide +kernel⟩,
   ⟨(withP (q256 (pad [8,8]))), 256, 3, (pad [8,8]), [[1,2]], by decide +kernel⟩,
   ⟨(withP (q256 (pad [9,8]))), 256, 3, (pad [9,8]), [[1,2]], by decide +kernel⟩,
   ⟨(withP (q256 (pad [11]))), 256, 3, (pad [11]), [[1,2]], by decide +kernel⟩⟩

theorem witness_invocations_claim_their_group :
    (∃ (s : State) (fn : Nat) (queue : Nat) (b : List Byte) (rest : List (List Byte)) (z : Nat) (p : Nat) (g : Program) (xs : List Nat) (grp : List Nat),
      ((Instr.invoke fn queue).wf) ∧ (s.heads fn queue 1 b rest) ∧ (s.checkInvoke (s.fnCocoon fn) b = .ready z p g xs) ∧ (s.freeGroup (s.fnCocoon fn)
      fn g = some grp)) ∧
    (∃ (s : State) (fn : Nat) (queue : Nat) (b : List Byte) (rest : List (List Byte)) (x : Nat), ((Instr.invoke fn queue).wf) ∧ (s.heads fn queue 1 b rest)
      ∧ (s.checkInvoke (s.fnCocoon fn) b = .refused x)) :=
  ⟨⟨invS, 256, 3, inv, [[1,2]], 2, 5, pg, [3], [7], by decide +kernel⟩,
   ⟨(withP (q256 (inv.set 8 6))), 256, 3, (inv.set 8 6), [[1,2]], 0x0360, by decide +kernel⟩⟩

theorem witness_programs_slots_and_contexts :
    (∃ (s : State) (fn : Nat) (queue : Nat) (b : List Byte) (rest : List (List Byte)) (i : List Byte) (g : Program) (sl : Slot) (base : Nat),
      ((Instr.loadProgram fn queue).wf) ∧ (s.sram = []) ∧ (s.poison = []) ∧ (s.heads fn queue 2 b rest) ∧ (fieldAt b 24 4 ≠ 0) ∧ (hostRange (fieldAt b
      16 8) (fieldAt b 24 4) = false) ∧ (s.readFor (s.fnCocoon fn) (fieldAt b 16 8) (fieldAt b 24 4) = some i) ∧ (parseProgram i 0 0 = g) ∧
      (imageReason i g = none) ∧ (fieldAt b 8 1 ≤ 15) ∧ (fieldAt b 9 1 ≤ 7) ∧ (s.progBusy (s.fnCocoon fn) (fieldAt b 8 1) (fieldAt b 9 1) = false) ∧
      (Assoc.find (fieldAt b 8 1) (s.cocoon (s.fnCocoon fn)).slots = some sl) ∧ (sl.place (fieldAt b 9 1) g.len = some base) ∧ (stageListReason i g =
      none) ∧ ((s.fnCocoon fn = 0 ∨ (s.seq.active.any fun x => Nat.blt x.guard g.bP) = false)) ∧ (base + g.len ≤ 0x004000000000) ∧ ((granules base
      g.len).all s.served)) ∧
    (∃ (s : State) (fn : Nat) (queue : Nat) (b : List Byte) (rest : List (List Byte)) (i : List Byte) (x : Nat), ((Instr.loadProgram fn queue).wf) ∧
      (s.sram = []) ∧ (s.poison = []) ∧ (s.heads fn queue 2 b rest) ∧ (fieldAt b 24 4 ≠ 0) ∧ (hostRange (fieldAt b 16 8) (fieldAt b 24 4) = false) ∧
      (s.readFor (s.fnCocoon fn) (fieldAt b 16 8) (fieldAt b 24 4) = some i) ∧
      ((imageReason i (parseProgram i 0 0)).or (if 15 < fieldAt b 8 1 ∨ 7 < fieldAt b 9 1 then some 0x0165 else if s.progBusy (s.fnCocoon fn) (fieldAt b 8 1) (fieldAt b 9 1) then some 0x0461 else match (Assoc.find (fieldAt b 8 1) (s.cocoon (s.fnCocoon fn)).slots).bind fun sl => sl.place (fieldAt b 9 1) (parseProgram i 0 0).len with | none => some 0x0561 | some _ => (stageListReason i (parseProgram i 0 0)).or (if s.fnCocoon fn ≠ 0 ∧ (s.seq.active.any fun y => Nat.blt y.guard (parseProgram i 0 0).bP) then some 0x0660 else none)) = some x)) ∧
    (∃ (s : State) (fn : Nat) (queue : Nat) (b : List Byte) (rest : List (List Byte)), ((Instr.loadProgram fn queue).wf) ∧ (s.heads fn queue 2 b rest) ∧
      (fieldAt b 24 4 = 0)) ∧
    (∃ (s : State) (queue : Nat) (b : List Byte) (rest : List (List Byte)), ((Instr.loadProgram 256 queue).wf) ∧ (s.heads 256 queue 2 b rest) ∧ (fieldAt b
      24 4 ≠ 0) ∧ (hostRange (fieldAt b 16 8) (fieldAt b 24 4))) ∧
    (∃ (s : State) (fn : Nat) (queue : Nat) (b : List Byte) (rest : List (List Byte)), ((Instr.unloadProgram fn queue).wf) ∧ (s.heads fn queue 3 b rest) ∧
      (s.program (s.fnCocoon fn) (fieldAt b 8 4) = none)) ∧
    (∃ (s : State) (fn : Nat) (queue : Nat) (b : List Byte) (rest : List (List Byte)) (z : Nat) (p : Nat) (g : Program), ((Instr.unloadProgram fn
      queue).wf) ∧ (s.heads fn queue 3 b rest) ∧ (s.program (s.fnCocoon fn) (fieldAt b 8 4) = some (z, p, g))) ∧
    (∃ (s : State) (cocoon : Nat) (handle : Nat) (z : Nat) (p : Nat) (g : Program), ((Instr.unloadProgramComplete cocoon handle).wf) ∧ ((s.waits.any fun w
      => Nat.beq w.cocoon cocoon && w.wait == .unload handle)) ∧ ((∀ w ∈ s.waits, w.cmd.fn < 258)) ∧ (s.program cocoon handle = some (z, p, g)) ∧
      (s.progBusy cocoon z p = false)) ∧
    (∃ (s : State) (cocoon : Nat) (handle : Nat), ((Instr.unloadProgramComplete cocoon handle).wf) ∧ (((s.waits.any fun w => Nat.beq w.cocoon cocoon &&
      w.wait == .unload handle) = false ∨ (s.program cocoon handle).any fun x => s.progBusy cocoon x.1 x.2.1))) ∧
    (∃ (s : State) (fn : Nat) (queue : Nat) (b : List Byte) (rest : List (List Byte)), ((Instr.slotSet fn queue).wf) ∧ (s.heads fn queue 4 b rest) ∧
      (fieldAt b 8 1 ≤ 15) ∧ (fieldAt b 24 8 % 65536 = 0) ∧ ((fieldAt b 24 8 = 0 ∨ fieldAt b 16 8 % 65536 = 0 ∧ s.region (fieldAt b 16 8) = .gddr ∧
      s.inExtent (s.fnCocoon fn) (fieldAt b 16 8) (fieldAt b 24 8) ∧ ((s.cocoon (s.fnCocoon fn)).segments.all fun x => Nat.beq x.1 (fieldAt b 8 1 + 1)
      || !x.2.valid || Nat.ble (x.2.base + x.2.len) (fieldAt b 16 8) || Nat.ble (fieldAt b 16 8 + fieldAt b 24 8) x.2.base))) ∧ ((fieldAt b 40 4 = 0 ∨
      s.region (fieldAt b 32 8) = .gddr ∧ s.inExtent (s.fnCocoon fn) (fieldAt b 32 8) (fieldAt b 40 4))) ∧ (((Assoc.find (fieldAt b 8 1) (s.cocoon
      (s.fnCocoon fn)).slots).all fun x => x.programs.isEmpty))) ∧
    (∃ (s : State) (fn : Nat) (queue : Nat) (b : List Byte) (rest : List (List Byte)) (x : Nat), ((Instr.slotSet fn queue).wf) ∧ (s.heads fn queue 4 b
      rest) ∧ ((if fieldAt b 24 8 % 65536 ≠ 0 then some 0x0166 else if 0 < fieldAt b 24 8 ∧ fieldAt b 16 8 % 65536 ≠ 0 then some 0x0166 else if 15 <
      fieldAt b 8 1 then some 0x0165 else if (Assoc.find (fieldAt b 8 1) (s.cocoon (s.fnCocoon fn)).slots).any fun y => !y.programs.isEmpty then some
      0x0460 else if 0 < fieldAt b 24 8 ∧ s.inExtent (s.fnCocoon fn) (fieldAt b 16 8) (fieldAt b 24 8) = false then some 0x0362 else none) = some x)) ∧
    (∃ (s : State) (fn : Nat) (queue : Nat) (b : List Byte) (rest : List (List Byte)) (sl : Slot), ((Instr.contextOpen fn queue).wf) ∧ (s.heads fn queue 5
      b rest) ∧ (fieldAt b 12 4 ≠ 0) ∧ (fieldAt b 12 4 ≤ 4194304) ∧ (fieldAt b 10 1 ≤ 15) ∧ (Assoc.find (fieldAt b 10 1) (s.cocoon (s.fnCocoon
      fn)).slots = some sl) ∧ ((s.rd (s.ctxAddr (s.fnCocoon fn) (fieldAt b 8 2)) 1).testBit 0 = false) ∧ ((sl.ctxBytes = 0 ∨ s.region (fieldAt b 16 8)
      = .gddr ∧ s.inExtent (s.fnCocoon fn) (fieldAt b 16 8) ((fieldAt b 12 4 * sl.ctxBytes + 4095) / 4096 * 4096)))) ∧
    (∃ (s : State) (fn : Nat) (queue : Nat) (b : List Byte) (rest : List (List Byte)) (x : Nat), ((Instr.contextOpen fn queue).wf) ∧ (s.heads fn queue 5 b
      rest) ∧ ((if fieldAt b 12 4 = 0 ∨ 4194304 < fieldAt b 12 4 then some 0x0166 else if 15 < fieldAt b 10 1 then some 0x0165 else if (s.rd
      (s.ctxAddr (s.fnCocoon fn) (fieldAt b 8 2)) 1).testBit 0 then some 0x0462 else none) = some x)) ∧
    (∃ (s : State) (fn : Nat) (queue : Nat) (b : List Byte) (rest : List (List Byte)), ((Instr.contextClose fn queue).wf) ∧ (s.heads fn queue 6 b rest) ∧
      ((s.rd (s.ctxAddr (s.fnCocoon fn) (fieldAt b 8 2)) 1).testBit 0 = false)) ∧
    (∃ (s : State) (fn : Nat) (queue : Nat) (b : List Byte) (rest : List (List Byte)), ((Instr.contextClose fn queue).wf) ∧ (s.heads fn queue 6 b rest) ∧
      ((s.rd (s.ctxAddr (s.fnCocoon fn) (fieldAt b 8 2)) 1).testBit 0)) ∧
    (∃ (s : State) (cocoon : Nat) (ctx : Nat), ((Instr.contextCloseComplete cocoon ctx).wf) ∧ ((s.waits.any fun w => Nat.beq w.cocoon cocoon && w.wait ==
      .ctxClose ctx)) ∧ ((∀ w ∈ s.waits, w.cmd.fn < 258)) ∧ (s.ctxBusy cocoon ctx = false)) ∧
    (∃ (s : State) (cocoon : Nat) (ctx : Nat), ((Instr.contextCloseComplete cocoon ctx).wf) ∧ (((s.waits.any fun w => Nat.beq w.cocoon cocoon && w.wait ==
      .ctxClose ctx) = false ∨ s.ctxBusy cocoon ctx))) :=
  ⟨⟨ldS, 256, 3, ldc, [[1, 2]], image, parseProgram image 0 0, sl0, 0x30000, by decide +kernel, by decide +kernel, by decide +kernel, by decide +kernel,
      by decide +kernel, by decide +kernel, ldS_read, rfl, image_checked, by decide +kernel, by decide +kernel, by decide +kernel, by decide +kernel,
      by decide +kernel, by decide +kernel, by decide +kernel, by decide +kernel, by decide +kernel⟩,
   ⟨(withP (q256 (ldh 0x40000 512))), 256, 3, ldh 0x40000 512, [[1,2]], List.replicate 512 0, 0x0260, by decide +kernel⟩,
   ⟨(withP (q256 (ldh 0x40000 0))), 256, 3, ldh 0x40000 0, [[1,2]], by decide +kernel⟩,
   ⟨(withP (q256 (ldh hostBase 128))), 3, ldh hostBase 128, [[1,2]], by decide +kernel⟩,
   ⟨(withP (q256 unx)), 256, 3, unx, [[1,2]], by decide +kernel⟩,
   ⟨(withP (q256 unl)), 256, 3, unl, [[1,2]], 2, 5, pg, by decide +kernel⟩,
   ⟨unW, 1, 0x10205, 2, 5, pg, by decide +kernel⟩,
   ⟨(withP (q256 unl)), 1, 0x10205, by decide +kernel⟩,
   ⟨(withP (q256 ssc)), 256, 3, ssc, [[1,2]], by decide +kernel⟩,
   ⟨(withP (q256 (ssc.set 8 16))), 256, 3, ssc.set 8 16, [[1,2]], 0x0165, by decide +kernel⟩,
   ⟨(withP (q256 coc)), 256, 3, coc, [[1,2]], sl0, by decide +kernel⟩,
   ⟨(withP (q256 (coc.set 10 16))), 256, 3, coc.set 10 16, [[1,2]], 0x0165, by decide +kernel⟩,
   ⟨(withP (q256 ccc)), 256, 3, ccc, [[1,2]], by decide +kernel⟩,
   ⟨((withP (q256 ccc)).wr (0x10000 + 64*9) 1 33), 256, 3, ccc, [[1,2]], by decide +kernel⟩,
   ⟨ccW, 1, 9, by decide +kernel⟩,
   ⟨(withP (q256 ccc)), 1, 9, by decide +kernel⟩⟩

theorem witness_copy_core_reset_and_attest :
    (∃ (s : State) (fn : Nat) (queue : Nat) (b : List Byte) (rest : List (List Byte)), ((Instr.copy fn queue).wf) ∧ (s.sram = []) ∧ (s.poison = []) ∧
      (s.heads fn queue 7 b rest) ∧ (64 ≤ fieldAt b 24 4) ∧ (fieldAt b 24 4 ≤ 16777216) ∧ (fieldAt b 24 4 % 64 = 0) ∧ (fieldAt b 8 8 % 64 = 0) ∧
      (fieldAt b 16 8 % 64 = 0) ∧ (s.copyReaches (s.fnCocoon fn) fn (fieldAt b 8 8) (fieldAt b 24 4)) ∧ (s.copyWrites (s.fnCocoon fn) fn (fieldAt b 16
      8) (fieldAt b 24 4)) ∧ (fieldAt b 8 8 + fieldAt b 24 4 ≤ hostBase) ∧ (fieldAt b 16 8 + fieldAt b 24 4 ≤ hostBase) ∧ (s.bad (fieldAt b 8 8)
      (fieldAt b 24 4) = false) ∧ ((0x004000000000 ≤ fieldAt b 16 8 ∨ (granules (fieldAt b 16 8) (fieldAt b 24 4)).all s.served))) ∧
    (∃ (s : State) (fn : Nat) (queue : Nat) (b : List Byte) (rest : List (List Byte)) (x : Nat), ((Instr.copy fn queue).wf) ∧ (s.heads fn queue 7 b rest) ∧
      ((if fieldAt b 24 4 < 64 ∨ 16777216 < fieldAt b 24 4 ∨ fieldAt b 24 4 % 64 ≠ 0 ∨ fieldAt b 8 8 % 64 ≠ 0 ∨ fieldAt b 16 8 % 64 ≠ 0 then some
      0x0166 else if s.copyReaches (s.fnCocoon fn) fn (fieldAt b 8 8) (fieldAt b 24 4) = false ∨ s.copyWrites (s.fnCocoon fn) fn (fieldAt b 16 8)
      (fieldAt b 24 4) = false then some 0x0362 else none) = some x)) ∧
    (∃ (s : State) (queue : Nat) (b : List Byte) (rest : List (List Byte)), ((Instr.copy 256 queue).wf) ∧ (s.heads 256 queue 7 b rest) ∧ (64 ≤ fieldAt b 24
      4) ∧ (fieldAt b 24 4 ≤ 16777216) ∧ (fieldAt b 24 4 % 64 = 0) ∧ (fieldAt b 8 8 % 64 = 0) ∧ (fieldAt b 16 8 % 64 = 0) ∧ (hostRange (fieldAt b 8 8)
      (fieldAt b 24 4)) ∧ (s.copyWrites (s.fnCocoon 256) 256 (fieldAt b 16 8) (fieldAt b 24 4))) ∧
    (∃ (s : State) (fn : Nat) (queue : Nat) (b : List Byte) (rest : List (List Byte)), ((Instr.coreReset fn queue).wf) ∧ (s.heads fn queue 9 b rest) ∧
      ((fieldAt b 10 2 = 0 ∨ ((List.range (fieldAt b 10 2)).map (fun i => fieldAt b 8 2 + i)).any fun n => Nat.ble 2048 n || !s.heldInRow (s.fnCocoon
      fn) n || !Nat.beq (s.fld (coreOwnerFld n)) (s.fnCocoon fn) || !Nat.beq (s.coreState n) 3))) ∧
    (∃ (s : State) (fn : Nat) (queue : Nat) (b : List Byte) (rest : List (List Byte)), ((Instr.attest fn queue).wf) ∧ (s.heads fn queue 10 b rest) ∧
      (fieldAt b 48 4 < 4096 + 64 * s.boot.log.length)) ∧
    (∃ (s : State) (fn : Nat) (queue : Nat) (b : List Byte) (rest : List (List Byte)), ((Instr.coreReset fn queue).wf) ∧ (s.heads fn queue 9 b rest) ∧
      (fieldAt b 10 2 ≠ 0) ∧ ((∀ n ∈ (List.range (fieldAt b 10 2)).map (fun i => fieldAt b 8 2 + i), n < 2048 ∧ s.heldInRow (s.fnCocoon fn) n ∧ s.fld
      (coreOwnerFld n) = s.fnCocoon fn ∧ s.coreState n = 3 ∧ s.coreDisabled n = false))) ∧
    (∃ (s : State) (fn : Nat) (queue : Nat) (b : List Byte) (rest : List (List Byte)), ((Instr.attest fn queue).wf) ∧ (s.poison = []) ∧ (s.heads fn queue
      10 b rest) ∧ (4096 + 64 * s.boot.log.length ≤ fieldAt b 48 4) ∧ (s.region (fieldAt b 40 8) = .gddr) ∧ (s.inExtent (s.fnCocoon fn) (fieldAt b 40
      8) (4096 + s.boot.log.flatten.length)) ∧ ((granules (fieldAt b 40 8) (4096 + s.boot.log.flatten.length)).all s.served)) :=
  ⟨⟨((q256 cpc).wrBytes 0x1000 (List.replicate 64 9)), 256, 3, cpc, [[1,2]], by decide +kernel⟩,
   ⟨(q256 (cpc.set 8 1)), 256, 3, cpc.set 8 1, [[1,2]], 0x0166, by decide +kernel⟩,
   ⟨(q256 cph), 3, cph, [[1,2]], by decide +kernel⟩,
   ⟨(q256 crc), 256, 3, crc, [[1,2]], by decide +kernel⟩,
   ⟨{ atS with boot := { sE.boot with log := List.replicate 65 [] } }, 256, 3, att, [[1,2]], by decide +kernel⟩,
   ⟨crS, 256, 3, crc, [[1,2]], by decide +kernel⟩,
   ⟨atS, 256, 3, att, [[1,2]], by decide +kernel⟩⟩

theorem witness_images_stage_and_launch :
    (∃ (s : State) (run : Nat) (r : Run) (p : Program), ((Instr.imageStagingDone run).wf) ∧ (s.sound) ∧ (p.images ≠ []) ∧ (s.run run = some r) ∧
      (s.runProgram r = some p) ∧ (r.staged = false) ∧ (r.suspended = false) ∧ (s.mayRun r.cocoon) ∧ (s.bad p.base p.len = false) ∧ (s.stagingReason r
      p = none) ∧ (p.way0 + p.ways ≤ 16) ∧ ((p.images.all fun i => Nat.ble (p.base + i.off + i.bytes) 0x004000000000)) ∧ ((∀ n ∈ r.cores, n < 2048)) ∧
      ((p.rankMap.all fun i => Nat.blt i p.images.length))) ∧
    (∃ (s : State) (run : Nat) (r : Run) (p : Program) (x : Nat), ((Instr.imageStagingDone run).wf) ∧ (s.run run = some r) ∧ (s.runProgram r = some p) ∧
      (r.staged = false) ∧ (r.suspended = false) ∧ (s.mayRun r.cocoon) ∧ (s.bad p.base p.len = false) ∧ (s.stagingReason r p = some x) ∧ (r.stride =
      none) ∧ (r.ending = none)) ∧
    (∃ (s : State) (run : Nat), ((Instr.imageStagingDone run).wf) ∧ (((s.run run).all fun r => (s.runProgram r).all fun p => r.staged || r.suspended ||
      !s.mayRun r.cocoon || s.bad p.base p.len))) ∧
    (∃ (s : State) (run : Nat) (now : Nat) (r : Run) (p : Program), ((Instr.launch run now).wf) ∧ (s.run run = some r) ∧ (s.runProgram r = some p) ∧
      ((r.needLaunch = false ∨ r.staged = false ∨ r.stride.isSome ∨ r.fault.isSome ∨ r.ending.isSome ∨ r.suspended ∨ s.mayRun r.cocoon = false ∨
      s.heldThrough p r.cocoon r.cores = false ∨ (r.cores.any fun n => !(s.advanceTo now).mayStart r.cocoon n (s.advanceTo now).now p.bL)))) ∧
    (∃ (s : State) (run : Nat), ((Instr.launchDone run).wf) ∧ (((s.run run).all fun r => r.stride.all fun x => !x.launch))) ∧
    (∃ (s : State) (run : Nat) (now : Nat) (r : Run) (p : Program) (n : Nat), ((Instr.launch run now).wf) ∧ (s.run run = some r) ∧ (s.runProgram r = some
      p) ∧ (r.needLaunch) ∧ (r.staged) ∧ (r.stride = none) ∧ (r.fault = none) ∧ (r.ending = none) ∧ (r.suspended = false) ∧ (s.mayRun r.cocoon) ∧
      (r.cores = [n]) ∧ (n < 2048) ∧ (s.heldThrough p r.cocoon r.cores) ∧ ((s.advanceTo now).mayStart r.cocoon n (s.advanceTo now).now p.bL)) ∧
    (∃ (s : State) (run : Nat) (r : Run) (x : StrideRun) (p : Program) (n : Nat) (i : CoreImage) (g : Nat × List Nat), ((Instr.launchDone run).wf) ∧
      (s.sound) ∧ (s.run run = some r) ∧ (r.stride = some x) ∧ (s.runProgram r = some p) ∧ (x.launch) ∧ (r.cores = [n]) ∧ (n < 2048) ∧ (r.cocoon < 64)
      ∧ (r.cmd = none) ∧ (r.fault = none) ∧ (r.ending = none) ∧ ((s.core n).faulted = false) ∧ ((∀ w, s.winOn r.cocoon n = some w → s.now ≤ w.stop)) ∧
      (s.seq.charges = []) ∧ ((s.seq.openWins.any fun w => Nat.beq w.core n && w.waiting) = false) ∧ (p.images[p.rankMap.getD 0 0]? = some i) ∧
      (r.clusters p = [g]) ∧ (p.stagedAt (clusterOf n) g.2 (p.rankMap.getD 0 0) + i.bytes ≤ 0x004300000000) ∧ (0x004120000000 ≤ p.stagedAt (clusterOf
      n) g.2 (p.rankMap.getD 0 0)) ∧ (s.bad (p.stagedAt (clusterOf n) g.2 (p.rankMap.getD 0 0)) i.bytes = false) ∧ (i.preloadOff + i.preloadLen ≤
      0x200000) ∧ (i.argsOff + 64 ≤ 0x200000) ∧ (i.preloadOff + i.preloadLen ≤ i.argsOff)) :=
  ⟨⟨stS, 11, rr, pg, by decide +kernel⟩,
   ⟨stB, 11, { rr with cmd := some ⟨256, 3, bar, 0⟩ }, pgB, 0x0562, by decide +kernel⟩,
   ⟨{ stB with runs := [{ rr with staged := true }] }, 11, by decide +kernel⟩,
   ⟨stB, 11, 1001, { rr with cmd := some ⟨256, 3, bar, 0⟩ }, pgB, by decide +kernel⟩,
   ⟨stB, 11, by decide +kernel⟩,
   ⟨laS, 11, 1001, rr1, pg, 7, by decide +kernel⟩,
   ⟨ldnS, 11, rr2, (⟨true, 0xFFFF, 0, 1000, 1000, 0, false⟩), pg, 7, ci, (0, [0]), by decide +kernel⟩⟩

end W05

namespace W06

def setB (l : List Byte) (off : Nat) (b : List Byte) : List Byte := l.take off ++ b ++ l.drop (off + b.length)
def cellE (lte : Bool) : List Byte := setB (setB (setB (List.replicate 128 0) 0 [if lte then 1 else 2, 0] ) 2 (leBytes 2 24 ++ [4,2,2,0])) 12 [8,0,0,0]
  |> fun l => setB (setB (setB l 16 (leBytes 2 10)) 18 (leBytes 2 5)) 24 (leBytes 4 4 ++ leBytes 4 128)
def rimg (lte : Bool) : List Byte := setB (setB (List.replicate 64 0) 6 (leBytes 2 1)) 0x20 (leBytes 8 0x20000) ++ cellE lte
def rS (lte : Bool) : State :=
  let s := ((sE.setFld Reg.RADIO.STATUS.RSTATE 1).setFld Reg.STAIDO.STATE.STATE 2).setFld (Reg.FN.FN_STATUS.STATE 257) 1
  let s := (((s.setFld (Reg.MEM.GROUP.VALID 0) 1).setFld (Reg.MEM.GROUP.CHANNELS 0) 3).setFld (Reg.MEM_CH.STATE.STATE 0) 2).setFld (Reg.MEM_CH.STATE.STATE 1) 2
  let s := ((s.setFld (Reg.COCOON.EXT_COUNT.COUNT 0) 1).setFld (Reg.COCOON.EXT_BASE.BASE 0 0) 0).setFld (Reg.COCOON.EXT_LEN.LEN 0 0) 0x100
  let s := ((s.setFld Reg.RADIO.ERR_RING_HI.ADDR 0).setFld Reg.RADIO.ERR_RING_LO.ADDR 0x8000).setFld Reg.RADIO.ERR_RING_LEN.ENTRIES 256
  let s := s.setFlds [(Reg.RADIO_ENG.DEC_UP_LO.UP, 0xFFFFFFFF), (Reg.RADIO_ENG.DEC_UP_HI.UP, 0xFFFF), (Reg.RADIO_ENG.FFT_UP.UP, 255), (Reg.RADIO_ENG.ENC_UP.UP, 0xFFFF)]
  { s with radio := { s.radio with image := rimg lte, cells := [(0, 1)], pools := [(0, 0x20000)] }, time := { s.time with t := 65536 * 100000000000, res := 65536 * 100000000001 } }
def nrB (sfn slot : Nat) : List Byte := leBytes 2 sfn ++ leBytes 2 slot
def ltB (sfn sf : Nat) : List Byte := leBytes 2 (sfn * 16 + sf)
def rq (lte : Bool) (id : Nat) : FapiEntry := ⟨7, 0, id, 4, if lte then ltB 784 5 else nrB 784 5, false, false, 100000000000⟩
def inS (lte : Bool) (id : Nat) : State := { rS lte with radio := { (rS lte).radio with inbox := [rq lte id, rq lte 0x99] } }
def ee (lte : Bool) : List Byte := cellE lte
def rqL (lte : Bool) (id : Nat) : FapiEntry := { rq lte id with bell := if lte then 100004900000 else 100002400000 }
def laS (lte : Bool) (id : Nat) : State := { rS lte with radio := { (rS lte).radio with inbox := [rqL lte id] }, time := { (rS lte).time with t := 65536 * 100005400000 } }
def rqO : FapiEntry := { rq false 0x80 with body := nrB 5 5 }
def ouS : State := { rS false with radio := { (rS false).radio with inbox := [rqO] } }
def fbS : State := { rS false with radio := {(rS false).radio with cells := [(0,2)], fallbackAt := [(0, 5)]} }
def fbI : State := { fbS.setFld Reg.RADIO.STATUS.RSTATE 2 with radio := { fbS.radio with inbox := [rq false 0x84] } }
def iS (lte : Bool) : State :=
  let s := (((rS lte).setFld (Reg.FN.CQ_CFG.ENABLE 257 3) 1).setFld (Reg.FN.CQ_CFG.SIZE_LOG2 257 3) 4).setFld (Reg.FN.RBODY_LEN.LEN 257 3) 0xFFFFFFFF
  let s := (s.setFld2 (Reg.FN.CQ_BASE_LO.BASE 257 3) (Reg.FN.CQ_BASE_HI.BASE 257 3) (hostBase + 0x10000)).setFld2 (Reg.FN.RBODY_BASE_LO.BASE 257 3) (Reg.FN.RBODY_BASE_HI.BASE 257 3) (hostBase + 0x20000)
  let s := s.setFn 257 { s.fn 257 with tt := [⟨0, 0x100000000, 0x900000, true⟩] }
  s.setRing 257 3 ⟨0, 17, 5, 0, none, 70, []⟩
def ii : SlotRef := ⟨0, 784, 0⟩
/-- A ring that places the longest body past its start places every body there. -/
theorem places_any {s : State} {c : Instr} {i : SlotRef} {r off v size p : Nat} (len : Fin (2 ^ 31))
    (h : s.placesBody c i (2 ^ 31) r off v size p) (ho : off ≠ 0) (hb : (s.ring 257 r).bodies = []) : s.placesBody c i len.val r off v size p := by
  obtain ⟨h1, h2, h3, h4, h5, h6, h7, h8, h9, h10, h11, h12, h13⟩ := h
  have l := len.isLt
  refine ⟨h1, h2, h3, ?_, h5, h6, h7, h8, h9, h10, h11, h12, by omega⟩
  simp only [State.bodyPlace, hb, List.any_nil, Bool.false_eq_true, or_false] at h4 ⊢
  split at h4
  · cases h4
  · rename_i n
    split at h4
    · cases h4; exact absurd rfl ho
    · rename_i m
      cases h4
      rw [if_neg (by omega), if_neg (by omega)]
def iH (lte : Bool) : State := { iS lte with radio := {(iS lte).radio with hits := [⟨0,784,0,3,4,5⟩, ⟨0,784,1,3,4,5⟩]} }
def iL : State := (iS true).decodeLte 0 ((iS true).refStart ii)
def iD : State := (iS false).decodeLte 0 ((iS false).refStart ii)
def iF (lte : Bool) : State := { iH lte with radio := { (iH lte).radio with cells := [(0, 2)] } }
def pu (nd : Bool) : PuschPdu := ⟨9, 3, nd, 0, 24, 1, 2, 2, 0, 2, 4, 4, 3, 2, 2, 0, 0⟩
def pS (nd : Bool) : State :=
  let s := rS false
  { s with radio := { s.radio with reqs := [⟨0x81, 0, s.refStart ii, true, [.pusch (pu nd)], []⟩] } }
def hB : HarqBuf := ⟨0, 9, 3, 2, 5⟩
def hS (nd : Bool) : State := let s := pS nd; { s.wrBytes (s.harqAddr 0 2) [0x70, 0x90, 5] with radio := { s.radio with harq := [hB, ⟨0, 9, 4, 1, 3⟩] } }
def nfS : State := let s := rS false; { s with radio := { s.radio with nf := [(0, ⟨1, 1⟩), (1, ⟨2, 1⟩)], reqs := [⟨0x81, 0, s.refStart ii, true, [.prach ⟨1, 0, 24⟩], []⟩] } }
def ccS : State := { (rS false).setFld (ctrlEnable 0x080) 0 with radio := { (rS false).radio with checking := some (0x1000, List.replicate 64 0, true) } }
def okImg : List Byte :=
  let la := 64; let dm := la + 1024
  let len := dm + 8 * 80
  let h (crc : Nat) := leBytes 4 0x52434C31 ++ leBytes 2 1 ++ leBytes 2 0 ++ leBytes 4 len ++ leBytes 4 crc ++ leBytes 4 dm ++ leBytes 2 80 ++ leBytes 2 1 ++ leBytes 4 la ++ leBytes 4 0 ++ leBytes 8 0x20000 ++ leBytes 8 64 ++ leBytes 8 0x30000 ++ leBytes 8 0x40000
  let z := fun crc => h crc ++ List.replicate (len - 64) 0
  z 3033207893
def ckS : State := { (rS false).setFld (ctrlEnable 0x080) 0 with radio := { (rS false).radio with checking := some (0x1000, okImg, true), taken := [(Reg.RADIO.CELL_TBL_LO.ADDR_LO.key, 0x1000)] } }
theorem okImg_crc : imageCrc (okImg.take (fieldAt okImg 8 4)) 0x0C = 3033207893 := by rw [imageCrc_eq]; decide +kernel
theorem ckS_fits : ckS.cellReason 0x1000 okImg = none := by
  unfold State.cellReason
  simp only [okImg_crc]
  decide +kernel

theorem witness_radio_requests_kept_late_or_outside :
    (∃ (s : State) (q : FapiEntry) (rest : List FapiEntry) (e : List Byte) (x : Nat) (sfn : Nat) (slot : Nat), (s.radio.inbox = q :: rest) ∧ (q.id = 0x80)
      ∧ (s.lteCell q.cell = false) ∧ (s.reading 257 (RdWhy.ofFapi q.num) = false) ∧ (q.failed = false) ∧ (s.radioOn) ∧ (s.linkUp) ∧ (bodySlot false
      q.body = (sfn, slot)) ∧ (s.cellFor q.cell sfn slot q.bell = some (e, x)) ∧ (cellIsLte e = false) ∧ (q.bell < (x / s.L - 2) * s.L) ∧ ((0x80 =
      idTx ∨ s.slotReqs q.cell x 0x80 true = []))) ∧
    (∃ (s : State) (q : FapiEntry) (rest : List FapiEntry) (e : List Byte) (x : Nat) (sfn : Nat) (slot : Nat), (s.radio.inbox = q :: rest) ∧ (q.id = 0x81)
      ∧ (s.lteCell q.cell = false) ∧ (s.reading 257 (RdWhy.ofFapi q.num) = false) ∧ (q.failed = false) ∧ (s.radioOn) ∧ (s.linkUp) ∧ (bodySlot false
      q.body = (sfn, slot)) ∧ (s.cellFor q.cell sfn slot q.bell = some (e, x)) ∧ (cellIsLte e = false) ∧ (q.bell < (x / s.L - 2) * s.L) ∧ ((0x81 =
      idTx ∨ s.slotReqs q.cell x 0x81 true = []))) ∧
    (∃ (s : State) (q : FapiEntry) (rest : List FapiEntry) (e : List Byte) (x : Nat) (sfn : Nat) (slot : Nat), (s.radio.inbox = q :: rest) ∧ (q.id = 0x83)
      ∧ (s.lteCell q.cell = false) ∧ (s.reading 257 (RdWhy.ofFapi q.num) = false) ∧ (q.failed = false) ∧ (s.radioOn) ∧ (s.linkUp) ∧ (bodySlot false
      q.body = (sfn, slot)) ∧ (s.cellFor q.cell sfn slot q.bell = some (e, x)) ∧ (cellIsLte e = false) ∧ (q.bell < (x / s.L - 2) * s.L) ∧ ((0x83 =
      idTx ∨ s.slotReqs q.cell x 0x83 true = []))) ∧
    (∃ (s : State) (q : FapiEntry) (rest : List FapiEntry) (e : List Byte) (x : Nat) (sfn : Nat) (slot : Nat), (s.radio.inbox = q :: rest) ∧ (q.id = 0x84)
      ∧ (s.lteCell q.cell = false) ∧ (s.reading 257 (RdWhy.ofFapi q.num) = false) ∧ (q.failed = false) ∧ (s.radioOn) ∧ (s.linkUp) ∧ (bodySlot false
      q.body = (sfn, slot)) ∧ (s.cellFor q.cell sfn slot q.bell = some (e, x)) ∧ (cellIsLte e = false) ∧ (q.bell < (x / s.L - 2) * s.L) ∧ ((0x84 =
      idTx ∨ s.slotReqs q.cell x 0x84 true = []))) ∧
    (∃ (s : State) (q : FapiEntry) (rest : List FapiEntry) (e : List Byte) (x : Nat) (sfn : Nat) (slot : Nat), (s.radio.inbox = q :: rest) ∧ (q.id = 0x80)
      ∧ (s.lteCell q.cell = true) ∧ (s.reading 257 (RdWhy.ofFapi q.num) = false) ∧ (q.failed = false) ∧ (s.radioOn) ∧ (s.linkUp) ∧ (bodySlot true
      q.body = (sfn, slot)) ∧ (s.cellFor q.cell sfn slot q.bell = some (e, x)) ∧ (cellIsLte e = true) ∧ (q.bell < (x / s.L - 2) * s.L) ∧ ((0x80 = idTx
      ∨ s.slotReqs q.cell x 0x80 true = []))) ∧
    (∃ (s : State) (q : FapiEntry) (rest : List FapiEntry) (e : List Byte) (x : Nat) (sfn : Nat) (slot : Nat), (s.radio.inbox = q :: rest) ∧ (q.id = 0x81)
      ∧ (s.lteCell q.cell = true) ∧ (s.reading 257 (RdWhy.ofFapi q.num) = false) ∧ (q.failed = false) ∧ (s.radioOn) ∧ (s.linkUp) ∧ (bodySlot true
      q.body = (sfn, slot)) ∧ (s.cellFor q.cell sfn slot q.bell = some (e, x)) ∧ (cellIsLte e = true) ∧ (q.bell < (x / s.L - 2) * s.L) ∧ ((0x81 = idTx
      ∨ s.slotReqs q.cell x 0x81 true = []))) ∧
    (∃ (s : State) (q : FapiEntry) (rest : List FapiEntry) (e : List Byte) (x : Nat) (sfn : Nat) (slot : Nat), (s.radio.inbox = q :: rest) ∧ (q.id = 0x83)
      ∧ (s.lteCell q.cell = true) ∧ (s.reading 257 (RdWhy.ofFapi q.num) = false) ∧ (q.failed = false) ∧ (s.radioOn) ∧ (s.linkUp) ∧ (bodySlot true
      q.body = (sfn, slot)) ∧ (s.cellFor q.cell sfn slot q.bell = some (e, x)) ∧ (cellIsLte e = true) ∧ (q.bell < (x / s.L - 2) * s.L) ∧ ((0x83 = idTx
      ∨ s.slotReqs q.cell x 0x83 true = []))) ∧
    (∃ (s : State) (q : FapiEntry) (rest : List FapiEntry) (e : List Byte) (x : Nat) (sfn : Nat) (slot : Nat), (s.radio.inbox = q :: rest) ∧ (q.id = 0x84)
      ∧ (s.lteCell q.cell = true) ∧ (s.reading 257 (RdWhy.ofFapi q.num) = false) ∧ (q.failed = false) ∧ (s.radioOn) ∧ (s.linkUp) ∧ (bodySlot true
      q.body = (sfn, slot)) ∧ (s.cellFor q.cell sfn slot q.bell = some (e, x)) ∧ (cellIsLte e = true) ∧ (q.bell < (x / s.L - 2) * s.L) ∧ ((0x84 = idTx
      ∨ s.slotReqs q.cell x 0x84 true = []))) ∧
    (∃ (s : State), (s.radio.inbox.head?.all fun q => !Nat.beq q.id 0x80 || s.lteCell q.cell != false || s.reading 257 (RdWhy.ofFapi q.num))) ∧
    (∃ (s : State), (s.radio.inbox.head?.all fun q => !Nat.beq q.id 0x81 || s.lteCell q.cell != false || s.reading 257 (RdWhy.ofFapi q.num))) ∧
    (∃ (s : State), (s.radio.inbox.head?.all fun q => !Nat.beq q.id 0x83 || s.lteCell q.cell != false || s.reading 257 (RdWhy.ofFapi q.num))) ∧
    (∃ (s : State), (s.radio.inbox.head?.all fun q => !Nat.beq q.id 0x84 || s.lteCell q.cell != false || s.reading 257 (RdWhy.ofFapi q.num))) ∧
    (∃ (s : State), (s.radio.inbox.head?.all fun q => !Nat.beq q.id 0x80 || s.lteCell q.cell != true || s.reading 257 (RdWhy.ofFapi q.num))) ∧
    (∃ (s : State), (s.radio.inbox.head?.all fun q => !Nat.beq q.id 0x81 || s.lteCell q.cell != true || s.reading 257 (RdWhy.ofFapi q.num))) ∧
    (∃ (s : State), (s.radio.inbox.head?.all fun q => !Nat.beq q.id 0x83 || s.lteCell q.cell != true || s.reading 257 (RdWhy.ofFapi q.num))) ∧
    (∃ (s : State), (s.radio.inbox.head?.all fun q => !Nat.beq q.id 0x84 || s.lteCell q.cell != true || s.reading 257 (RdWhy.ofFapi q.num))) ∧
    (∃ (s : State) (q : FapiEntry) (rest : List FapiEntry) (sfn : Nat) (slot : Nat), (s.radio.inbox = q :: rest) ∧ (q.id = 0x80) ∧ (s.lteCell q.cell =
      false) ∧ (s.reading 257 (RdWhy.ofFapi q.num) = false) ∧ (bodySlot false q.body = (sfn, slot))) ∧
    (∃ (s : State) (q : FapiEntry) (rest : List FapiEntry) (sfn : Nat) (slot : Nat), (s.radio.inbox = q :: rest) ∧ (q.id = 0x81) ∧ (s.lteCell q.cell =
      false) ∧ (s.reading 257 (RdWhy.ofFapi q.num) = false) ∧ (bodySlot false q.body = (sfn, slot))) ∧
    (∃ (s : State) (q : FapiEntry) (rest : List FapiEntry) (sfn : Nat) (slot : Nat), (s.radio.inbox = q :: rest) ∧ (q.id = 0x83) ∧ (s.lteCell q.cell =
      false) ∧ (s.reading 257 (RdWhy.ofFapi q.num) = false) ∧ (bodySlot false q.body = (sfn, slot))) ∧
    (∃ (s : State) (q : FapiEntry) (rest : List FapiEntry) (sfn : Nat) (slot : Nat), (s.radio.inbox = q :: rest) ∧ (q.id = 0x84) ∧ (s.lteCell q.cell =
      false) ∧ (s.reading 257 (RdWhy.ofFapi q.num) = false) ∧ (bodySlot false q.body = (sfn, slot))) ∧
    (∃ (s : State) (q : FapiEntry) (rest : List FapiEntry) (sfn : Nat) (slot : Nat), (s.radio.inbox = q :: rest) ∧ (q.id = 0x80) ∧ (s.lteCell q.cell =
      true) ∧ (s.reading 257 (RdWhy.ofFapi q.num) = false) ∧ (bodySlot true q.body = (sfn, slot))) ∧
    (∃ (s : State) (q : FapiEntry) (rest : List FapiEntry) (sfn : Nat) (slot : Nat), (s.radio.inbox = q :: rest) ∧ (q.id = 0x81) ∧ (s.lteCell q.cell =
      true) ∧ (s.reading 257 (RdWhy.ofFapi q.num) = false) ∧ (bodySlot true q.body = (sfn, slot))) ∧
    (∃ (s : State) (q : FapiEntry) (rest : List FapiEntry) (sfn : Nat) (slot : Nat), (s.radio.inbox = q :: rest) ∧ (q.id = 0x83) ∧ (s.lteCell q.cell =
      true) ∧ (s.reading 257 (RdWhy.ofFapi q.num) = false) ∧ (bodySlot true q.body = (sfn, slot))) ∧
    (∃ (s : State) (q : FapiEntry) (rest : List FapiEntry) (sfn : Nat) (slot : Nat), (s.radio.inbox = q :: rest) ∧ (q.id = 0x84) ∧ (s.lteCell q.cell =
      true) ∧ (s.reading 257 (RdWhy.ofFapi q.num) = false) ∧ (bodySlot true q.body = (sfn, slot))) ∧
    (∃ (s : State) (q : FapiEntry) (rest : List FapiEntry) (sfn : Nat) (slot : Nat) (a : Nat), (s.radio.inbox = q :: rest) ∧ (q.id = 0x80) ∧ (s.lteCell
      q.cell = false) ∧ (s.reading 257 (RdWhy.ofFapi q.num) = false) ∧ (q.failed = false) ∧ (s.radioOn) ∧ (s.linkUp) ∧ (bodySlot false q.body = (sfn,
      slot)) ∧ (s.cellFor q.cell sfn slot q.bell = none) ∧ (s.poison = []) ∧ (s.poisonB = []) ∧ (a = s.fld2 Reg.RADIO.ERR_RING_LO.ADDR
      Reg.RADIO.ERR_RING_HI.ADDR + 16 * (s.radio.errCount % max 1 (s.fld Reg.RADIO.ERR_RING_LEN.ENTRIES))) ∧ (s.region a = .gddr) ∧ (s.inExtent 0 a
      16) ∧ (s.meetsCtx 0 a 16 = false) ∧ ((granules a 16).all s.served)) ∧
    (∃ (s : State) (q : FapiEntry) (rest : List FapiEntry) (e : List Byte) (x : Nat) (sfn : Nat) (slot : Nat), (s.radio.inbox = q :: rest) ∧ (q.id = 0x84)
      ∧ (s.lteCell q.cell = false) ∧ (s.reading 257 (RdWhy.ofFapi q.num) = false) ∧ (q.failed = false) ∧ (s.radioOn) ∧ (s.linkUp) ∧ (bodySlot false
      q.body = (sfn, slot)) ∧ (s.cellFor q.cell sfn slot q.bell = some (e, x)) ∧ (cellIsLte e = false) ∧ (q.bell < (x / s.L - 2) * s.L) ∧ ((Assoc.find
      q.cell s.radio.cells = some 2 ∨ Assoc.find q.cell s.radio.cells = some 3))) :=
  ⟨⟨(inS false 0x80), rq false 0x80, [rq false 0x99], ee false, 100002500000, 784, 5, by decide +kernel⟩,
   ⟨(inS false 0x81), rq false 0x81, [rq false 0x99], ee false, 100002500000, 784, 5, by decide +kernel⟩,
   ⟨(inS false 0x83), rq false 0x83, [rq false 0x99], ee false, 100002500000, 784, 5, by decide +kernel⟩,
   ⟨(inS false 0x84), rq false 0x84, [rq false 0x99], ee false, 100002500000, 784, 5, by decide +kernel⟩,
   ⟨(inS true 0x80), rq true 0x80, [rq true 0x99], ee true, 100005000000, 784, 5, by decide +kernel⟩,
   ⟨(inS true 0x81), rq true 0x81, [rq true 0x99], ee true, 100005000000, 784, 5, by decide +kernel⟩,
   ⟨(inS true 0x83), rq true 0x83, [rq true 0x99], ee true, 100005000000, 784, 5, by decide +kernel⟩,
   ⟨(inS true 0x84), rq true 0x84, [rq true 0x99], ee true, 100005000000, 784, 5, by decide +kernel⟩,
   ⟨(inS true 0x80), by decide +kernel⟩,
   ⟨(inS true 0x81), by decide +kernel⟩,
   ⟨(inS true 0x83), by decide +kernel⟩,
   ⟨(inS true 0x84), by decide +kernel⟩,
   ⟨(inS false 0x80), by decide +kernel⟩,
   ⟨(inS false 0x81), by decide +kernel⟩,
   ⟨(inS false 0x83), by decide +kernel⟩,
   ⟨(inS false 0x84), by decide +kernel⟩,
   ⟨(laS false 0x80), rqL false 0x80, [], 784, 5, by decide +kernel⟩,
   ⟨(laS false 0x81), rqL false 0x81, [], 784, 5, by decide +kernel⟩,
   ⟨(laS false 0x83), rqL false 0x83, [], 784, 5, by decide +kernel⟩,
   ⟨(laS false 0x84), rqL false 0x84, [], 784, 5, by decide +kernel⟩,
   ⟨(laS true 0x80), rqL true 0x80, [], 784, 5, by decide +kernel⟩,
   ⟨(laS true 0x81), rqL true 0x81, [], 784, 5, by decide +kernel⟩,
   ⟨(laS true 0x83), rqL true 0x83, [], 784, 5, by decide +kernel⟩,
   ⟨(laS true 0x84), rqL true 0x84, [], 784, 5, by decide +kernel⟩,
   ⟨(ouS.setFld (Reg.COCOON.CTX_BASE.BASE 0) 0x80), rqO, [], 5, 5, 0x8000, by decide +kernel⟩,
   ⟨fbI, rq false 0x84, [], ee false, 100002500000, 784, 5, by decide +kernel⟩⟩

theorem witness_radio_indications_reach_the_host :
    (∃ (s : State) (i : SlotRef) (r : Nat) (off : Nat) (v : Nat) (size : Nat) (p : Nat), (s.lteCell i.cell = false) ∧ (s.placesBody (Instr.rxDataIndication
      i) i (Config.fapiLen 0x85 i.cell [] (s.passedData i.cell (s.refStart i))).val r off v size p)) ∧
    (∃ (s : State) (i : SlotRef) (r : Nat) (off : Nat) (v : Nat) (size : Nat) (p : Nat) (u : State), (s.decodeLte i.cell (s.refStart i) = u) ∧
      (u.drawn.placesBody (Instr.crcIndication i) i (Config.fapiLen 0x86 i.cell ((u.puschs i.cell (s.refStart i)).flatMap fun x => [(x.rnti : Int), if
      u.tbPass i.cell (s.refStart i) x then 1 else 0, u.reportPower i.cell (s.refStart i) x.rnti, u.reportSinr i.cell (u.sinrOf i.cell (s.refStart i)
      x.prb0 x.prbs)]) []).val r off v size p)) ∧
    (∃ (s : State) (i : SlotRef) (r : Nat) (off : Nat) (v : Nat) (size : Nat) (p : Nat), (s.lteCell i.cell = false) ∧ (s.countEngine.placesBody
      (Instr.uciIndication i) i (Config.fapiLen 0x87 i.cell (s.uciReports i [0, 1, 2, 3, 4] true) []).val r off v size p)) ∧
    (∃ (s : State) (i : SlotRef) (r : Nat) (off : Nat) (v : Nat) (size : Nat) (p : Nat),
      s.placesBody (Instr.srsIndication i) i (Config.fapiLen (if s.lteCell i.cell then 0x89 else 0x88) i.cell ((s.ulPdus i.cell (s.refStart i)).flatMap fun x => match x with | .srs _ _ body => Config.srsReport (s.slotSamples i.cell (s.refStart i)) body | _ => []) []).val r off v size p) ∧
    (∃ (s : State) (i : SlotRef) (r : Nat) (off : Nat) (v : Nat) (size : Nat) (p : Nat),
      (({ s with radio := { s.radio with hits := s.radio.hits.filter fun x => !(Nat.beq x.cell i.cell && Nat.beq x.sfn i.sfn && Nat.beq x.slot i.slot) } }) : State).placesBody (Instr.rachIndication i) i (Config.fapiLen (if s.lteCell i.cell then 0x88 else 0x89) i.cell ((s.radio.hits.filter fun x => Nat.beq x.cell i.cell && Nat.beq x.sfn i.sfn && Nat.beq x.slot i.slot).flatMap fun h => [(h.index : Int), h.advance, h.energy]) []).val r off v size p) ∧
    (∃ (s : State) (i : SlotRef) (r : Nat) (off : Nat) (v : Nat) (size : Nat) (p : Nat) (u : State), (s.lteCell i.cell) ∧ (s.decodeLte i.cell (s.refStart
      i) = u) ∧ (u.placesBody (Instr.rxUlschIndication i) i (Config.fapiLen 0x87 i.cell [] (u.passedData i.cell (u.refStart i))).val r off v size p)) ∧
    (∃ (s : State) (i : SlotRef) (r : Nat) (off : Nat) (v : Nat) (size : Nat) (p : Nat), (s.lteCell i.cell) ∧ (s.countEngine.placesBody
      (Instr.harqIndication i) i (Config.fapiLen 0x85 i.cell (s.uciReports i [1, 2, 4, 5, 6] true) []).val r off v size p)) ∧
    (∃ (s : State) (i : SlotRef) (r : Nat) (off : Nat) (v : Nat) (size : Nat) (p : Nat), (s.lteCell i.cell) ∧ (s.countEngine.placesBody
      (Instr.rxSrIndication i) i (Config.fapiLen 0x8A i.cell (s.uciReports i [0] false) []).val r off v size p)) ∧
    (∃ (s : State) (i : SlotRef) (r : Nat) (off : Nat) (v : Nat) (size : Nat) (p : Nat), (s.lteCell i.cell) ∧ (s.countEngine.placesBody
      (Instr.rxCqiIndication i) i (Config.fapiLen 0x8B i.cell (s.uciReports i [3, 4, 5] true) []).val r off v size p)) ∧
    (∃ (s : State) (i : SlotRef), (s.lteCell i.cell = false) ∧ ((Instr.rxDataIndication i).wf) ∧ (s.uplinkOn i.cell (s.refStart i) = false)) ∧
    (∃ (s : State) (i : SlotRef), ((Instr.crcIndication i).wf) ∧ ((s.decodeLte i.cell (s.refStart i)).drawn.uplinkOn i.cell ((s.decodeLte i.cell
      (s.refStart i)).drawn.refStart i) = false)) ∧
    (∃ (s : State) (i : SlotRef), (s.lteCell i.cell = false) ∧ ((Instr.uciIndication i).wf) ∧ (s.countEngine.uplinkOn i.cell (s.countEngine.refStart i) =
      false)) ∧
    (∃ (s : State) (i : SlotRef), ((Instr.srsIndication i).wf) ∧ (s.uplinkOn i.cell (s.refStart i) = false)) ∧
    (∃ (s : State) (i : SlotRef), ((Instr.rachIndication i).wf) ∧
      ((({ s with radio := { s.radio with hits := s.radio.hits.filter fun x => !(Nat.beq x.cell i.cell && Nat.beq x.sfn i.sfn && Nat.beq x.slot i.slot) } }) : State).uplinkOn i.cell ((({ s with radio := { s.radio with hits := s.radio.hits.filter fun x => !(Nat.beq x.cell i.cell && Nat.beq x.sfn i.sfn && Nat.beq x.slot i.slot) } }) : State).refStart i) = false)) ∧
    (∃ (s : State) (i : SlotRef), (s.lteCell i.cell) ∧ ((Instr.rxUlschIndication i).wf) ∧ ((s.decodeLte i.cell (s.refStart i)).uplinkOn i.cell
      ((s.decodeLte i.cell (s.refStart i)).refStart i) = false)) ∧
    (∃ (s : State) (i : SlotRef), (s.lteCell i.cell) ∧ ((Instr.harqIndication i).wf) ∧ (s.countEngine.uplinkOn i.cell (s.countEngine.refStart i) = false)) ∧
    (∃ (s : State) (i : SlotRef), (s.lteCell i.cell) ∧ ((Instr.rxSrIndication i).wf) ∧ (s.countEngine.uplinkOn i.cell (s.countEngine.refStart i) = false)) ∧
    (∃ (s : State) (i : SlotRef), (s.lteCell i.cell) ∧ ((Instr.rxCqiIndication i).wf) ∧ (s.countEngine.uplinkOn i.cell (s.countEngine.refStart i) = false)) ∧
    (∃ (s : State) (i : SlotRef), s.lteCell i.cell) ∧
    (∃ (s : State) (i : SlotRef), s.lteCell i.cell) ∧
    (∃ (s : State) (i : SlotRef), s.lteCell i.cell = false) ∧
    (∃ (s : State) (i : SlotRef), s.lteCell i.cell = false) ∧
    (∃ (s : State) (i : SlotRef), s.lteCell i.cell = false) ∧
    (∃ (s : State) (i : SlotRef), s.lteCell i.cell = false) ∧
    (∃ (s : State) (i : SlotRef), (s.lteCell i.cell = false) ∧ ((Instr.rxDataIndication i).wf) ∧ (s.uplinkOn i.cell (s.refStart i)) ∧ (((((List.range
      16).filter fun k => s.cqOn 257 k)[i.cell % max 1 ((List.range 16).filter fun k => s.cqOn 257 k).length]?).all fun r => (s.bodyPlace r
      (Config.fapiLen 0x85 i.cell [] (s.passedData i.cell (s.refStart i))).val).isNone || Nat.beq (s.ringRoom 257 r) 0))) ∧
    (∃ (s : State) (i : SlotRef), (s.lteCell i.cell = false) ∧ ((Instr.uciIndication i).wf) ∧ (s.countEngine.uplinkOn i.cell (s.countEngine.refStart i)) ∧
      (((((List.range 16).filter fun k => s.countEngine.cqOn 257 k)[i.cell % max 1 ((List.range 16).filter fun k => s.countEngine.cqOn 257
      k).length]?).all fun r => (s.countEngine.bodyPlace r (Config.fapiLen 0x87 i.cell (s.uciReports i [0, 1, 2, 3, 4] true) []).val).isNone ||
      Nat.beq (s.countEngine.ringRoom 257 r) 0))) ∧
    (∃ (s : State) (i : SlotRef) (u : State), (s.lteCell i.cell) ∧ (s.decodeLte i.cell (s.refStart i) = u) ∧ ((Instr.rxUlschIndication i).wf) ∧ (u.uplinkOn
      i.cell (u.refStart i)) ∧ (((((List.range 16).filter fun k => u.cqOn 257 k)[i.cell % max 1 ((List.range 16).filter fun k => u.cqOn 257
      k).length]?).all fun r => (u.bodyPlace r (Config.fapiLen 0x87 i.cell [] (u.passedData i.cell (u.refStart i))).val).isNone || Nat.beq (u.ringRoom
      257 r) 0))) ∧
    (∃ (s : State) (i : SlotRef), (s.lteCell i.cell) ∧ ((Instr.harqIndication i).wf) ∧ (s.countEngine.uplinkOn i.cell (s.countEngine.refStart i)) ∧
      (((((List.range 16).filter fun k => s.countEngine.cqOn 257 k)[i.cell % max 1 ((List.range 16).filter fun k => s.countEngine.cqOn 257
      k).length]?).all fun r => (s.countEngine.bodyPlace r (Config.fapiLen 0x85 i.cell (s.uciReports i [1, 2, 4, 5, 6] true) []).val).isNone ||
      Nat.beq (s.countEngine.ringRoom 257 r) 0))) ∧
    (∃ (s : State) (i : SlotRef), (s.lteCell i.cell) ∧ ((Instr.rxSrIndication i).wf) ∧ (s.countEngine.uplinkOn i.cell (s.countEngine.refStart i)) ∧
      (((((List.range 16).filter fun k => s.countEngine.cqOn 257 k)[i.cell % max 1 ((List.range 16).filter fun k => s.countEngine.cqOn 257
      k).length]?).all fun r => (s.countEngine.bodyPlace r (Config.fapiLen 0x8A i.cell (s.uciReports i [0] false) []).val).isNone || Nat.beq
      (s.countEngine.ringRoom 257 r) 0))) ∧
    (∃ (s : State) (i : SlotRef), (s.lteCell i.cell) ∧ ((Instr.rxCqiIndication i).wf) ∧ (s.countEngine.uplinkOn i.cell (s.countEngine.refStart i)) ∧
      (((((List.range 16).filter fun k => s.countEngine.cqOn 257 k)[i.cell % max 1 ((List.range 16).filter fun k => s.countEngine.cqOn 257
      k).length]?).all fun r => (s.countEngine.bodyPlace r (Config.fapiLen 0x8B i.cell (s.uciReports i [3, 4, 5] true) []).val).isNone || Nat.beq
      (s.countEngine.ringRoom 257 r) 0))) :=
  ⟨⟨iS false, ii, 3, 128, 0, 0x100000000, 0x900000, by decide +kernel, places_any _ (by decide +kernel) (by decide) (by decide +kernel)⟩,
   ⟨iS false, ii, 3, 128, 0, 0x100000000, 0x900000, iD, rfl, places_any _ (by decide +kernel) (by decide) (by decide +kernel)⟩,
   ⟨iS false, ii, 3, 128, 0, 0x100000000, 0x900000, by decide +kernel, places_any _ (by decide +kernel) (by decide) (by decide +kernel)⟩,
   ⟨iS true, ii, 3, 128, 0, 0x100000000, 0x900000, places_any _ (by decide +kernel) (by decide) (by decide +kernel)⟩,
   ⟨iH false, ii, 3, 128, 0, 0x100000000, 0x900000, places_any _ (by decide +kernel) (by decide) (by decide +kernel)⟩,
   ⟨iS true, ii, 3, 128, 0, 0x100000000, 0x900000, iL, by decide +kernel, rfl, places_any _ (by decide +kernel) (by decide) (by decide +kernel)⟩,
   ⟨iS true, ii, 3, 128, 0, 0x100000000, 0x900000, by decide +kernel, places_any _ (by decide +kernel) (by decide) (by decide +kernel)⟩,
   ⟨iS true, ii, 3, 128, 0, 0x100000000, 0x900000, by decide +kernel, places_any _ (by decide +kernel) (by decide) (by decide +kernel)⟩,
   ⟨iS true, ii, 3, 128, 0, 0x100000000, 0x900000, by decide +kernel, places_any _ (by decide +kernel) (by decide) (by decide +kernel)⟩,
   ⟨(iF false), ii, by decide +kernel⟩,
   ⟨(iF false), ii, by decide +kernel⟩,
   ⟨(iF false), ii, by decide +kernel⟩,
   ⟨(iF false), ii, by decide +kernel⟩,
   ⟨(iF false), ii, by decide +kernel⟩,
   ⟨(iF true), ii, by decide +kernel⟩,
   ⟨(iF true), ii, by decide +kernel⟩,
   ⟨(iF true), ii, by decide +kernel⟩,
   ⟨(iF true), ii, by decide +kernel⟩,
   ⟨(iS true), ii, by decide +kernel⟩,
   ⟨(iS true), ii, by decide +kernel⟩,
   ⟨(iS false), ii, by decide +kernel⟩,
   ⟨(iS false), ii, by decide +kernel⟩,
   ⟨(iS false), ii, by decide +kernel⟩,
   ⟨(iS false), ii, by decide +kernel⟩,
   ⟨(rS false), ii, by decide +kernel⟩,
   ⟨(rS false), ii, by decide +kernel⟩,
   ⟨(rS true), ii, (rS true).decodeLte 0 ((rS true).refStart ii), by decide +kernel⟩,
   ⟨(rS true), ii, by decide +kernel⟩,
   ⟨(rS true), ii, by decide +kernel⟩,
   ⟨(rS true), ii, by decide +kernel⟩⟩

theorem witness_blocks_combine_and_preambles_are_detected :
    (∃ (s : State) (decoder : Nat) (i : SlotRef) (rnti : Nat) (block : Nat) (p : PuschPdu), ((Instr.ldpcDecode decoder i rnti block).wf) ∧ (s.decoderUp
      decoder) ∧ (s.lteCell i.cell = false) ∧ (((s.puschs i.cell (s.refStart i)).find? fun x => Nat.beq x.rnti rnti) = some p) ∧ (block < p.blocks) ∧
      (s.isDecoded i.cell (s.refStart i) rnti block = false)) ∧
    (∃ (s : State) (decoder : Nat) (i : SlotRef) (rnti : Nat) (block : Nat) (p : PuschPdu) (h : HarqBuf) (a : Nat) (n : Nat), ((Instr.ldpcDecode decoder i
      rnti block).wf) ∧ (s.decoderUp decoder) ∧ (s.lteCell i.cell = false) ∧ (((s.puschs i.cell (s.refStart i)).find? fun x => Nat.beq x.rnti rnti) =
      some p) ∧ (block < p.blocks) ∧ (s.isDecoded i.cell (s.refStart i) rnti block = false) ∧ (s.harqOf i.cell rnti p.process = some h) ∧ (s.harqPart
      h p block = (a, n)) ∧ (s.sram = []) ∧ (s.poison = []) ∧ (s.poisonB = []) ∧ (s.bad (s.harqAddr i.cell h.place) (harqBytes (cellEntry
      s.radio.image i.cell)) = false) ∧ (a + n ≤ 0x004000000000) ∧ ((granules a n).all s.served)) ∧
    (∃ (s : State) (decoder : Nat) (i : SlotRef) (rnti : Nat) (block : Nat), ((Instr.ldpcDecode decoder i rnti block).wf) ∧ ((s.decoderUp decoder = false ∨
      s.lteCell i.cell ∨ (((s.puschs i.cell (s.refStart i)).find? fun x => Nat.beq x.rnti rnti).all fun p => Nat.ble p.blocks block || s.isDecoded
      i.cell (s.refStart i) rnti block)))) ∧
    (∃ (s : State) (i : SlotRef), ((Instr.prachDetection i).wf) ∧ (0 < s.fld Reg.RADIO_ENG.FFT_UP.UP) ∧ (((s.occasions i.cell (s.refStart i)).all fun p =>
      (prbGroups p.prb0 p.prbs).all fun g => (Assoc.find (64 * i.cell + g) s.radio.nf).isSome))) ∧
    (∃ (s : State) (i : SlotRef) (p : PrachPdu), ((Instr.prachDetection i).wf) ∧ (0 < s.fld Reg.RADIO_ENG.FFT_UP.UP) ∧ (s.occasions i.cell (s.refStart i) =
      [p]) ∧ (((prbGroups p.prb0 p.prbs).all fun g => (Assoc.find (64 * i.cell + g) s.radio.nf).isSome))) ∧
    (∃ (s : State) (i : SlotRef), ((Instr.prachDetection i).wf) ∧ (s.fld Reg.RADIO_ENG.FFT_UP.UP = 0)) :=
  ⟨⟨(hS false), 40, ii, 9, 1, pu false, by decide +kernel⟩,
   ⟨(hS false), 40, ii, 9, 1, pu false, hB, 0x20104, 4, by decide +kernel⟩,
   ⟨(hS true), 40, ii, 9, 2, by decide +kernel⟩,
   ⟨nfS, ii, by decide +kernel⟩,
   ⟨nfS, ii, ⟨1, 0, 24⟩, by decide +kernel⟩,
   ⟨(nfS.setFld Reg.RADIO_ENG.FFT_UP.UP 0), ii, by decide +kernel⟩⟩

theorem witness_cells_fallback_and_engines :
    (∃ (s : State) (a : Nat) (b : List Byte) (en : Bool), (s.radio.checking = some (a, b, en)) ∧ (s.cellReason a b = none)) ∧
    (∃ (s : State) (a : Nat) (b : List Byte) (en : Bool) (x : Nat), (s.radio.checking = some (a, b, en)) ∧ (s.cellReason a b = some x)) ∧
    (∃ (s : State), s.radio.checking = none) ∧
    (∃ (s : State) (cell : Nat), ((Instr.radioFallback cell).wf) ∧ (s.fld Reg.STAIDO.STATE.STATE = 0) ∧ (Assoc.find cell s.radio.cells = some 1) ∧
      (s.radioOn)) ∧
    (∃ (s : State) (cell : Nat), ((Instr.radioFallback cell).wf) ∧ ((s.fld Reg.STAIDO.STATE.STATE ≠ 0 ∨ Assoc.find cell s.radio.cells ≠ some 1))) ∧
    (∃ (s : State) (l : List (Nat × Nat)), ((s.radio.fallbackAt.filter fun x => Assoc.find x.1 s.radio.cells == some 2 && !s.radio.silentDue.contains x.1)
      = l) ∧ (l ≠ [])) ∧
    (∃ (s : State), (s.radio.fallbackAt.filter fun x => Assoc.find x.1 s.radio.cells == some 2 && !s.radio.silentDue.contains x.1) = []) ∧
    (∃ (_ : State) (cls : Nat) (index : Nat) (f : Fld), ((Instr.engineSelfCheckFail cls index).wf) ∧ (engineFld cls index = some f)) :=
  ⟨⟨ckS, 0x1000, okImg, true, rfl, ckS_fits⟩,
   ⟨ccS, 0x1000, List.replicate 64 0, true, 0x272, by decide +kernel⟩,
   ⟨(rS false), by decide +kernel⟩,
   ⟨((rS false).setFld Reg.STAIDO.STATE.STATE 0), 0, by decide +kernel⟩,
   ⟨(rS false), 0, by decide +kernel⟩,
   ⟨(fbS.setFld Reg.RADIO.STATUS.RSTATE 2), [(0,5)], by decide +kernel⟩,
   ⟨(rS false), by decide +kernel⟩,
   ⟨(rS false), 0, 47, Reg.RADIO_ENG.DEC_UP_HI.UP, by decide +kernel⟩⟩

end W06

namespace W07

def setB (l : List Byte) (off : Nat) (b : List Byte) : List Byte := l.take off ++ b ++ l.drop (off + b.length)
def ent (cir pir cbs pbs w cls lane : Nat) : List Byte := leBytes 4 cir ++ leBytes 4 pir ++ leBytes 4 cbs ++ leBytes 4 pbs ++ leBytes 2 w ++ [BitVec.ofNat 8 cls, BitVec.ofNat 8 (0x80 + lane)] ++ leBytes 12 0
def shpN (sv : Nat) : List Byte := setB (List.replicate 64 0) 6 [4, 2, BitVec.ofNat 8 sv] ++ (List.range 4).flatMap (fun l => ent 0 1000 0 5000 0 0 l) ++ [1, 2].flatMap (fun j => ent 10 100 100 3000 5 0 (j)) ++ (List.range (2 * sv)).flatMap (fun k => ent 5 50 100 2000 5 (k % 2) 0)
def shp : List Byte := shpN 4
def fr (sub svc lim : Nat) : TxFrame := ⟨sub*10+svc, sub, svc, 100, some lim, .bytes [1,2]⟩
def fhS (fs : List TxFrame) : State :=
  let s := ((sE.setFld (ctrlEnable 0x062) 1).setFld (Reg.FH_PORT.PORT_CFG.MODE 1) 2).setFld (Reg.FH_PORT.LINK.UP 1) 6
  let s := (s.setFlds [(Reg.FH_PORT.MAC_LO.MAC 1, 0x12345678), (Reg.FH_PORT.MAC_HI.MAC 1, 0x9ABC), (Reg.FH_PORT.OVERHEAD.BYTES 1, 20)]).setFld Reg.FH.MAX_FRAME.BYTES 9000
  let s := s.setIface 5 { FhIface.fresh with frames := fs, sched := { Scheduler.fresh with image := shp } }
  { s with time := { s.time with t := 65536 * 100, res := 65536 * 80 } }
def ruN (comp : Nat) : List Byte := setB (setB (setB (List.replicate 64 0) 0 [0x80 + 1 + 16, BitVec.ofNat 8 comp, 9, 1, 9]) 6 (leBytes 6 0xABCDEF)) 28 (leBytes 2 4) |> fun l => setB (setB l 32 (leBytes 4 400000 ++ leBytes 4 50000 ++ leBytes 4 300000 ++ leBytes 4 40000)) 48 (leBytes 4 10 ++ leBytes 4 1000)
def ruE : List Byte := ruN 0
def cellE : List Byte := setB (setB (List.replicate 128 0) 0 [2, 0]) 2 (leBytes 2 24 ++ [4,2,2,0])
def rimg : List Byte := setB (List.replicate 64 0) 6 (leBytes 2 1) ++ cellE
def cS (fs : List TxFrame) : State := let s := (fhS fs).setFld Reg.RADIO.STATUS.RSTATE 1; { s with fh := { s.fh with ru := ruE, nextFrame := 9, seqTx := [(6, 255)] }, radio := { s.radio with image := rimg, cells := [(0, 1)], reqs := [⟨0x80, 0, 1000000, true, [.ssb [1,2,3,4]], []⟩] } }
def rxS : State := cS []
def rxF : RxFrame := ⟨100, true, true, rxS.ifMac 5, 0xABCDEF, 0, false, false, false, false, 0, false, false, false, false, [], 0, false, true, 7, 5, 0, 2, 3, 0, 0, []⟩
def rxT (d : Nat) : RxFrame := { rxF with arrival := airTime cellE 1000000 3 + d, prbs := [List.replicate 28 3, BitVec.ofNat 8 12 :: List.replicate 27 100] }
def tS : State :=
  let s := (fhS []).setFld Reg.TIME.PTP_CFG.DOMAIN 0
  let s := (s.setFld (Reg.TIME.ROLE.ROLE 0) (1 * 4^5 + 2 * 4^6 + 3 * 4^7 + 3 * 4^4)).setFld (Reg.FH_PORT.LINK.UP 1) 15
  let s := s.setIface 6 { FhIface.fresh with sched := { Scheduler.fresh with image := shp } }
  let s := s.setIface 7 { FhIface.fresh with sched := { Scheduler.fresh with image := shp } }
  { s with time := { s.time with master := some ⟨⟨0, 7, 9, 6, 0, 0, 0, 0, 3, 37⟩⟩ } }
def msg : PtpMsg := ⟨0, 9, 0, 4, 1000, 20, true⟩
def sy : SyncRec := ⟨9, 4, 0, 5, 99, false⟩
def tS2 : State := { tS with time := { tS.time with sync := some sy } }
def tS3 : State := { tS with time := { tS.time with sync := some {sy with complete := true}, delayReq := some (77, 4) } }
def tSlave : State := tS3.setFld Reg.TIME.STATE.STATE 1
def dr4 : PtpMsg := { msg with requesting := tSlave.portId 5 }
def tS4 : State := { tS with time := { tS.time with master := none, samples := [1,2] } }
def an : AnnounceMsg := ⟨0, 7, 9, 6, 0, 0, 0, 0, 3, 37⟩
def pf (b : TxBody) : TxFrame := ⟨3, 0, 0, 64, none, b⟩
def tX (b : TxBody) : State := tS.setIface 5 { FhIface.fresh with frames := [pf b], sched := { Scheduler.fresh with image := shp } }
def tP : State := sE.setFld Reg.TIME.SERVO_CFG.PHASE_SRC 1
def tE : State := { tS.setFld (Reg.TIME_PORT.CFG.TX_SYNCE 1 2) 1 with time := { tS.time with qlPending := [6, 3] } }
def tC : State := ((tS.setFld (Reg.TIME_CMP.TARGET_LO.T 3) 90).setFld (Reg.TIME_CMP.PERIOD_NS.NS 3) 1000)
def tF : State := { tC.setFld (Reg.TIME_CMP.CTRL.ARM 3) 1 with time := { tC.time with cmp := [(3, 90)] } }
def w0 : Issuer := .core 2
def tL : State := { tF with pages := { tF.pages with latches := [⟨w0, 0x010, 0x114, 7, 0⟩, ⟨w0, 0x042, 0x104, 7, 0⟩] } }
def w9 : Issuer := .fn 9

theorem witness_fronthaul_links_and_egress :
    (∃ (s : State) (i : Nat), ((Instr.interfaceLinkDown i).wf) ∧ (s.ifUp i)) ∧
    (∃ (s : State) (i : Nat), ((Instr.interfaceLinkDown i).wf) ∧ (s.ifUp i = false)) ∧
    (∃ (s : State) (i : Nat), ((Instr.interfaceLinkUp i).wf) ∧ (s.ifExists i)) ∧
    (∃ (s : State) (i : Nat), ((Instr.interfaceLinkUp i).wf) ∧ (s.ifExists i = false)) ∧
    (∃ (s : State) (cell : Nat) (stream : Nat) (bytes : List Byte) (start : Nat) (symbol : Nat) (c : List Byte) (e : List Byte) (i : Nat),
      ((Instr.frameEligible cell stream (.mPlane bytes) start symbol).wf) ∧ (cellEntry s.radio.image cell = c) ∧ (ruEntry s.fh.ru (cellRu c) = e) ∧
      (ruIface e = i) ∧ (s.carries cell stream start symbol c e) ∧ (s.ifUp i)) ∧
    (∃ (s : State) (cell : Nat) (stream : Nat) (plane : Plane) (start : Nat) (symbol : Nat) (c : List Byte) (e : List Byte) (i : Nat) (first : Nat) (last :
      Nat) (q : Nat), ((Instr.frameEligible cell stream plane start symbol).wf) ∧ (cellEntry s.radio.image cell = c) ∧ (ruEntry s.fh.ru (cellRu c) =
      e) ∧ (ruIface e = i) ∧ (s.carries cell stream start symbol c e) ∧ (s.ifUp i) ∧ ((plane = .uDown ∧ first = airTime c start symbol - ruMaxUp e ∧
      last = airTime c start symbol - ruMinUp e ∨ (plane = .cDown ∨ plane = .cUp) ∧ first = airTime c start symbol - ruMaxCp e ∧ last = airTime c
      start symbol - ruMinCp e)) ∧ (Assoc.findD (65536 * cellRu c + (ruEaxc e + stream) % 65536) 0 s.fh.seqTx = q) ∧ (q < 256)) ∧
    (∃ (s : State) (cell : Nat) (stream : Nat) (plane : Plane) (start : Nat) (symbol : Nat) (c : List Byte) (e : List Byte), ((Instr.frameEligible cell
      stream plane start symbol).wf) ∧ (cellEntry s.radio.image cell = c) ∧ (ruEntry s.fh.ru (cellRu c) = e) ∧ (s.carries cell stream start symbol c e
      = false)) ∧
    (∃ (s : State) (cell : Nat) (stream : Nat) (plane : Plane) (start : Nat) (symbol : Nat) (c : List Byte) (e : List Byte), ((Instr.frameEligible cell
      stream plane start symbol).wf) ∧ (cellEntry s.radio.image cell = c) ∧ (ruEntry s.fh.ru (cellRu c) = e) ∧ (s.carries cell stream start symbol c
      e) ∧ (s.ifUp (ruIface e) = false)) ∧
    (∃ (s : State) (i : Nat) (f : TxFrame) (l : Nat), ((Instr.frameStartLimit i f.id).wf) ∧ ((s.iface i).frames = [f]) ∧ (f.limit = some l) ∧ (s.now ≤ l)) ∧
    (∃ (s : State) (i : Nat) (f : TxFrame) (l : Nat), ((Instr.frameStartLimit i f.id).wf) ∧ (((s.iface i).frames.find? fun x => Nat.beq x.id f.id) = some
      f) ∧ (f.limit = some l)) ∧
    (∃ (s : State) (i : Nat) (k : Nat), ((Instr.frameStartLimit i k).wf) ∧ ((((s.iface i).frames.find? fun x => Nat.beq x.id k).all fun f => f.limit ==
      none))) ∧
    (∃ (s : State) (i : Nat) (raw : Nat) (f : TxFrame), ((Instr.frameTransmit i raw).wf) ∧ (s.sendsNext i f)) ∧
    (∃ (s : State) (i : Nat) (raw : Nat), ((Instr.frameTransmit i raw).wf) ∧ (s.ifUp i)) ∧
    (∃ (s : State) (i : Nat) (raw : Nat), ((Instr.frameTransmit i raw).wf) ∧ (s.ifUp i = false)) :=
  ⟨⟨(fhS [fr 0 0 1000, fr 0 1 1000]), 5, by decide +kernel⟩,
   ⟨(fhS []), 7, by decide +kernel⟩,
   ⟨(fhS []), 7, by decide +kernel⟩,
   ⟨(fhS []), 9, by decide +kernel⟩,
   ⟨(cS [fr 0 0 1000]), 0, 2, [5,6,7], 1000000, 3, cellE, ruE, 5, by decide +kernel⟩,
   ⟨(cS [fr 0 0 1000]), 0, 2, .uDown, 1000000, 3, cellE, ruE, 5, (airTime cellE 1000000 3 - 300000), (airTime cellE 1000000 3 - 40000), 255,
      by decide +kernel⟩,
   ⟨(cS [fr 0 0 1000]), 0, 2, .cDown, 1000001, 3, cellE, ruE, by decide +kernel⟩,
   ⟨(linkLost 5 (cS [fr 0 0 1000])), 0, 2, .cDown, 1000000, 3, cellE, ruE, by decide +kernel⟩,
   ⟨(fhS [fr 0 1 1000]), 5, (fr 0 1 1000), 1000, by decide +kernel⟩,
   ⟨(fhS [fr 0 1 1000, fr 0 1 50, {fr 0 0 90 with id := 77}]), 5, (fr 0 1 1000), 1000, by decide +kernel⟩,
   ⟨(fhS [fr 0 1 1000, {fr 0 1 50 with id := 4}]), 5, 99, by decide +kernel⟩,
   ⟨(fhS [fr 0 0 1000]), 5, 7, (fr 0 0 1000), by decide +kernel⟩,
   ⟨(fhS [fr 0 0 1000, fr 0 1 1000, {fr 0 1 50 with id := 44}]), 5, 7, by decide +kernel⟩,
   ⟨(fhS []), 7, 7, by decide +kernel⟩⟩

theorem witness_fronthaul_receives :
    (∃ (s : State) (i : Nat) (f : RxFrame) (r : Nat) (e : List Byte) (x : Nat × List Byte), ((Instr.frameReceive i f).wf) ∧ (s.arrivesWhole i f) ∧
      (s.framed i f) ∧ (s.ecpriOk i f) ∧ (f.ptp = false) ∧ (f.mPlane = false) ∧ (f.msgType = 0) ∧ (s.matchRu i f = some (r, e)) ∧ ((s.cellsIn.filter
      fun x => Nat.beq (cellRu x.2) r).head? = some x) ∧ (airTime x.2 (rxStart f x.2) f.symbol + ruTa4Min e ≤ f.arrival) ∧ (f.arrival ≤ airTime x.2
      (rxStart f x.2) f.symbol + ruTa4Max e)) ∧
    (∃ (s : State) (i : Nat) (f : RxFrame) (r : Nat) (e : List Byte) (x : Nat × List Byte), ((Instr.frameReceive i f).wf) ∧ (s.arrivesWhole i f) ∧
      (s.framed i f) ∧ (s.ecpriOk i f) ∧ (f.ptp = false) ∧ (f.mPlane = false) ∧ (f.msgType = 0) ∧ (s.matchRu i f = some (r, e)) ∧ ((s.cellsIn.filter
      fun x => Nat.beq (cellRu x.2) r).head? = some x) ∧ ((f.arrival < airTime x.2 (rxStart f x.2) f.symbol + ruTa4Min e ∨ airTime x.2 (rxStart f x.2)
      f.symbol + ruTa4Max e < f.arrival))) ∧
    (∃ (s : State) (i : Nat) (f : RxFrame), ((Instr.frameReceive i f).wf) ∧ (s.arrivesWhole i f) ∧ ((f.length < 64 ∨ s.fld Reg.FH.MAX_FRAME.BYTES <
      f.length ∨ f.pause ∨ s.takesDst i f = false ∨ (f.ptp ∧ s.role i = 0) ∨ (f.ptp = false ∧ f.mPlane = false ∧ (f.tagged ≠ s.isSet
      (Reg.FH_PORT.PORT_CFG.VLAN (ifPort i)) ∨ s.transportOk i f = false ∨ f.concat ∨ f.eBit = false ∨ (f.msgType ≠ 5 ∧ (f.msgType ≠ 0 ∨ s.matchRu i f
      = none))))))) ∧
    (∃ (s : State) (i : Nat) (f : RxFrame), ((Instr.frameReceive i f).wf) ∧ (s.ifUp i) ∧ (f.fecOk) ∧ (f.fcsOk = false)) ∧
    (∃ (s : State) (i : Nat) (f : RxFrame), ((Instr.frameReceive i f).wf) ∧ (s.ifUp i) ∧ (f.fecOk = false)) ∧
    (∃ (s : State) (i : Nat) (f : RxFrame), ((Instr.frameReceive i f).wf) ∧ (s.arrivesWhole i f) ∧ (s.framed i f) ∧ (f.ptp = false) ∧ (f.mPlane)) ∧
    (∃ (s : State) (i : Nat) (f : RxFrame), ((Instr.frameReceive i f).wf) ∧ (s.arrivesWhole i f) ∧ (s.framed i f) ∧ (((f.ptp ∧ s.role i ≠ 0) ∨ (f.ptp =
      false ∧ f.mPlane = false ∧ s.ecpriOk i f ∧ f.msgType = 5)))) ∧
    (∃ (s : State) (i : Nat) (f : RxFrame), ((Instr.frameReceive i f).wf) ∧ (s.ifUp i = false)) ∧
    (∃ (s : State) (i : Nat) (id : Nat) (t1 : Nat) (corr : Nat), ((Instr.ecpriDelayRequest i id t1 corr).wf) ∧ (s.ifUp i)) ∧
    (∃ (s : State) (i : Nat) (id : Nat) (t1 : Nat) (corr : Nat), ((Instr.ecpriDelayRequest i id t1 corr).wf) ∧ (s.ifUp i = false)) :=
  ⟨⟨rxS, 5, rxT 500, 0, ruE, (0, cellE), by decide +kernel⟩,
   ⟨rxS, 5, rxT 1001, 0, ruE, (0, cellE), by decide +kernel⟩,
   ⟨rxS, 5, {rxF with eaxc := 8}, by decide +kernel⟩,
   ⟨rxS, 5, {rxF with fcsOk := false}, by decide +kernel⟩,
   ⟨rxS, 5, {rxF with fecOk := false}, by decide +kernel⟩,
   ⟨rxS, 5, {rxF with mPlane := true}, by decide +kernel⟩,
   ⟨rxS, 5, {rxF with msgType := 5}, by decide +kernel⟩,
   ⟨rxS, 4, {rxF with ptp := true, arrival := 300}, by decide +kernel⟩,
   ⟨rxS, 5, 3, 70, 5, by decide +kernel⟩,
   ⟨rxS, 4, 3, 70, 5, by decide +kernel⟩⟩

theorem witness_ptp_messages_and_announce_timeout :
    (∃ (s : State) (i : Nat) (raw : Nat) (m : PtpMsg), ((Instr.sync i raw m).wf) ∧ (s.ifUp i) ∧ (m.domain = s.ptpDomain) ∧ (s.role i = 1) ∧ (s.fromMaster
      m.source)) ∧
    (∃ (s : State) (i : Nat) (m : PtpMsg) (y : SyncRec), ((Instr.followUp i m).wf) ∧ (s.ifUp i) ∧ (m.domain = s.ptpDomain) ∧ (s.role i = 1) ∧ (s.fromMaster
      m.source) ∧ (s.time.sync = some y)) ∧
    (∃ (s : State) (i : Nat) (m : PtpMsg), ((Instr.followUp i m).wf) ∧ (s.ifUp i) ∧ (m.domain = s.ptpDomain) ∧ (s.role i = 1) ∧ (s.fromMaster m.source) ∧
      (s.time.sync = none)) ∧
    (∃ (s : State) (i : Nat) (raw : Nat) (m : PtpMsg), ((Instr.delayReq i raw m).wf) ∧ (s.ifUp i) ∧ (m.domain = s.ptpDomain) ∧ (s.role i = 2)) ∧
    (∃ (s : State) (i : Nat) (raw : Nat) (m : PtpMsg) (k : Nat), ((Instr.delayReq i raw m).wf) ∧ (s.ifUp i) ∧ (m.domain = s.ptpDomain) ∧ (s.role i = 3) ∧
      (s.slaveIface = some k)) ∧
    (∃ (s : State) (i : Nat) (m : PtpMsg) (y : SyncRec) (t3 : Int), ((Instr.delayResp i m).wf) ∧ (s.ifUp i) ∧ (m.domain = s.ptpDomain) ∧ (s.role i = 1) ∧
      (s.fromMaster m.source) ∧ (s.time.sync = some y) ∧ (y.complete) ∧ (y.source = m.source) ∧ (s.time.delayReq = some (t3, m.seqId)) ∧ (m.requesting
      = s.portId i)) ∧
    (∃ (s : State) (i : Nat) (m : PtpMsg), ((Instr.delayResp i m).wf) ∧ (s.ifUp i) ∧ (m.domain = s.ptpDomain) ∧ (s.role i = 1) ∧ (s.fromMaster m.source) ∧
      (((s.time.sync.all fun y => !y.complete || !Nat.beq y.source m.source) ∨ (s.time.delayReq.all fun q => !Nat.beq q.2 m.seqId) ∨ m.requesting ≠
      s.portId i))) ∧
    (∃ (s : State) (i : Nat) (m : AnnounceMsg), ((Instr.announce i m).wf) ∧ (s.ifUp i) ∧ (m.domain = s.ptpDomain) ∧ (s.role i = 1) ∧ ((s.time.master.all
      fun x => Nat.beq x.msg.source m.source || announceBetter m x.msg))) ∧
    (∃ (s : State) (i : Nat) (raw : Nat) (m : PtpMsg), ((Instr.sync i raw m).wf) ∧ ((s.ifUp i = false ∨ s.role i = 0 ∨ m.domain ≠ s.ptpDomain ∨ (Nat.beq
      (s.role i) 1 && s.fromMaster m.source) = false))) ∧
    (∃ (s : State) (i : Nat) (m : PtpMsg), ((Instr.followUp i m).wf) ∧ ((s.ifUp i = false ∨ s.role i = 0 ∨ m.domain ≠ s.ptpDomain ∨ (Nat.beq (s.role i) 1
      && s.fromMaster m.source) = false))) ∧
    (∃ (s : State) (i : Nat) (raw : Nat) (m : PtpMsg), ((Instr.delayReq i raw m).wf) ∧ ((s.ifUp i = false ∨ s.role i = 0 ∨ m.domain ≠ s.ptpDomain ∨
      (Nat.beq (s.role i) 2 || (Nat.beq (s.role i) 3 && s.slaveIface.isSome)) = false))) ∧
    (∃ (s : State) (i : Nat) (m : PtpMsg), ((Instr.delayResp i m).wf) ∧ ((s.ifUp i = false ∨ s.role i = 0 ∨ m.domain ≠ s.ptpDomain ∨ (Nat.beq (s.role i) 1
      && s.fromMaster m.source) = false))) ∧
    (∃ (s : State) (i : Nat) (m : AnnounceMsg), ((Instr.announce i m).wf) ∧ ((s.ifUp i = false ∨ s.role i = 0 ∨ m.domain ≠ s.ptpDomain ∨ (Nat.beq (s.role
      i) 1 && s.time.master.all fun x => Nat.beq x.msg.source m.source || announceBetter m x.msg) = false))) ∧
    (∃ (s : State) (i : Nat), ((Instr.syncTransmit i).wf) ∧ (s.role i = 2)) ∧
    (∃ (s : State) (i : Nat), ((Instr.syncTransmit i).wf) ∧ (s.role i ≠ 2)) ∧
    (∃ (s : State) (i : Nat), (Instr.delayReqTransmit.wf) ∧ (s.slaveIface = some i)) ∧
    (∃ (s : State), (Instr.delayReqTransmit.wf) ∧ (s.slaveIface = none)) ∧
    (∃ (s : State) (i : Nat), ((Instr.announceTransmit i).wf) ∧ (s.role i = 2) ∧ (s.splane i) ∧ (s.ifUp i)) ∧
    (∃ (s : State) (i : Nat), ((Instr.announceTransmit i).wf) ∧ (s.role i = 2) ∧ ((s.splane i = false ∨ s.ifUp i = false))) ∧
    (∃ (s : State) (i : Nat), ((Instr.announceTransmit i).wf) ∧ (s.role i ≠ 2)) ∧
    (∃ (s : State) (i : Nat) (raw : Nat) (f : TxFrame) (n : Nat), ((Instr.frameTransmit i raw).wf) ∧ (s.sendsNext i f) ∧ (f.body = .ownSync n)) ∧
    (∃ (s : State) (i : Nat) (raw : Nat) (f : TxFrame) (n : Nat), ((Instr.frameTransmit i raw).wf) ∧ (s.sendsNext i f) ∧ (f.body = .ownDelayReq n)) ∧
    (∃ (s : State) (i : Nat) (raw : Nat) (f : TxFrame) (b : Bool) (g : Int) (m : PtpMsg), ((Instr.frameTransmit i raw).wf) ∧ (s.sendsNext i f) ∧ (f.body =
      .relay b g m)) ∧
    (∃ (s : State), s.time.master.isSome) ∧
    (∃ (s : State), s.time.master = none) :=
  ⟨⟨tS, 5, (65536 * 300), msg, by decide +kernel⟩,
   ⟨tS2, 5, msg, sy, by decide +kernel⟩,
   ⟨tS, 5, msg, by decide +kernel⟩,
   ⟨tS, 6, (65536 * 300), msg, by decide +kernel⟩,
   ⟨tS, 7, (65536 * 300), msg, 5, by decide +kernel⟩,
   ⟨tSlave, 5, dr4, {sy with complete := true}, 77, by decide +kernel, by decide +kernel, by decide +kernel, by decide +kernel, by decide +kernel,
      by decide +kernel, by decide +kernel, by decide +kernel, by decide +kernel, rfl⟩,
   ⟨(tS3.setFld Reg.TIME.STATE.STATE 1), 5, msg, by decide +kernel⟩,
   ⟨tS4, 5, an, by decide +kernel⟩,
   ⟨tS, 5, 65536 * 300, { msg with source := 2 }, by decide +kernel⟩,
   ⟨tS, 5, { msg with domain := 2 }, by decide +kernel⟩,
   ⟨tS, 5, 65536 * 300, { msg with source := 2 }, by decide +kernel⟩,
   ⟨tS, 5, { msg with source := 2 }, by decide +kernel⟩,
   ⟨tS, 5, { an with source := 2, clockClass := 200 }, by decide +kernel⟩,
   ⟨tS, 6, by decide +kernel⟩,
   ⟨tS, 5, by decide +kernel⟩,
   ⟨tS, 5, by decide +kernel⟩,
   ⟨sE, by decide +kernel⟩,
   ⟨tS, 6, by decide +kernel⟩,
   ⟨(tS.setIface 6 FhIface.fresh), 6, by decide +kernel⟩,
   ⟨tS, 7, by decide +kernel⟩,
   ⟨(tX (.ownSync 4)), 5, 65536*300, (pf (.ownSync 4)), 4, by decide +kernel⟩,
   ⟨(tX (.ownDelayReq 4)), 5, 65536*300, (pf (.ownDelayReq 4)), 4, by decide +kernel⟩,
   ⟨(tX (.relay true 70 msg)), 5, 65536*300, (pf (.relay true 70 msg)), true, 70, msg, by decide +kernel⟩,
   ⟨((tS.setFld Reg.TIME.STATE.STATE 2).setFld Reg.TIME.STATUS.ACQUIRED 1), by decide +kernel⟩,
   ⟨sE, by decide +kernel⟩⟩

theorem witness_pulses_frequency_sources_and_esmc :
    (∃ (s : State), ((s.isSet Reg.TIME.SERVO_CFG.PHASE_SRC = false ∨ s.slaveIface.isSome)) ∧ (2 ≤ s.now) ∧ (s.now < 2 ^ 61)) ∧
    (∃ (s : State), (s.isSet Reg.TIME.SERVO_CFG.PHASE_SRC) ∧ (s.slaveIface = none)) ∧
    (∃ (s : State), (s.isSet Reg.TIME.SERVO_CFG.PHASE_SRC = false ∨ s.slaveIface.isSome)) ∧
    (∃ (s : State), (s.isSet Reg.TIME.SERVO_CFG.PHASE_SRC) ∧ (s.slaveIface = none)) ∧
    (∃ (s : State) (k : Int), ((s.isSet Reg.TIME.PPS_OUT.FORCE ∨ (s.isSet Reg.TIME.PPS_OUT.EN ∧ s.isSet Reg.TIME.STATUS.ACQUIRED))) ∧ (((s.now : Int) -
      toSigned 32 (s.fld Reg.TIME.PPS_OUT_COMP.NS)) / 1000000000 = k) ∧ (s.time.ppsMarked ≠ some k)) ∧
    (∃ (s : State), ((s.isSet Reg.TIME.PPS_OUT.FORCE = false ∧ (s.isSet Reg.TIME.PPS_OUT.EN = false ∨ s.isSet Reg.TIME.STATUS.ACQUIRED = false)) ∨
      s.time.ppsMarked = some (((s.now : Int) - toSigned 32 (s.fld Reg.TIME.PPS_OUT_COMP.NS)) / 1000000000))) ∧
    (∃ (s : State) (ql : Nat) (i : Nat), ((Instr.esmcReceive ql).wf) ∧ (s.slaveIface = some i)) ∧
    (∃ (s : State) (ql : Nat), ((Instr.esmcReceive ql).wf) ∧ (s.slaveIface = none)) ∧
    (∃ (s : State) (i : Nat), ((Instr.esmcInformationPdu i).wf) ∧ (s.txSyncE i)) ∧
    (∃ (s : State) (i : Nat), ((Instr.esmcInformationPdu i).wf) ∧ (s.txSyncE i = false)) ∧
    (∃ (s : State) (i : Nat), ((Instr.esmcEventPdu i).wf) ∧ (s.txSyncE i) ∧ (i ∈ s.time.qlPending)) ∧
    (∃ (s : State) (i : Nat), ((Instr.esmcEventPdu i).wf) ∧ ((s.txSyncE i = false ∨ i ∉ s.time.qlPending))) :=
  ⟨⟨tS, by decide +kernel⟩,
   ⟨tP, by decide +kernel⟩,
   ⟨tS, by decide +kernel⟩,
   ⟨tP, by decide +kernel⟩,
   ⟨(tS.setFld Reg.TIME.PPS_OUT.FORCE 1), 0, by decide +kernel⟩,
   ⟨tS, by decide +kernel⟩,
   ⟨tS, 11, 5, by decide +kernel⟩,
   ⟨sE, 11, by decide +kernel⟩,
   ⟨tE, 6, by decide +kernel⟩,
   ⟨tE, 7, by decide +kernel⟩,
   ⟨tE, 6, by decide +kernel⟩,
   ⟨tE, 7, by decide +kernel⟩⟩

theorem witness_compare_units_and_latched_reads :
    (∃ (s : State) (u : Nat), ((Instr.compareArm u).wf) ∧ (s.isSet (Reg.TIME_CMP.CTRL.ARM u) = false)) ∧
    (∃ (s : State) (u : Nat), ((Instr.compareArm u).wf) ∧ (s.isSet (Reg.TIME_CMP.CTRL.ARM u))) ∧
    (∃ (s : State) (u : Nat) (x : Nat), ((Instr.compareFire u).wf) ∧ (s.isSet (Reg.TIME_CMP.CTRL.ARM u)) ∧ (Assoc.find u s.time.cmp = some x) ∧ ((s.now + 2
      ^ 48 - x % 2 ^ 48) % 2 ^ 48 < 2 ^ 47) ∧ (s.isSet (Reg.TIME_CMP.CTRL.PERIODIC u) = false)) ∧
    (∃ (s : State) (u : Nat) (x : Nat) (d : Nat) (p : Nat), ((Instr.compareFire u).wf) ∧ (s.isSet (Reg.TIME_CMP.CTRL.ARM u)) ∧ (Assoc.find u s.time.cmp =
      some x) ∧ ((s.now + 2 ^ 48 - x % 2 ^ 48) % 2 ^ 48 = d) ∧ (d < 2 ^ 47) ∧ (s.isSet (Reg.TIME_CMP.CTRL.PERIODIC u)) ∧ (s.fld
      (Reg.TIME_CMP.PERIOD_NS.NS u) = p)) ∧
    (∃ (s : State) (u : Nat) (x : Nat), ((Instr.compareFire u).wf) ∧ (Assoc.findD u 0 s.time.cmp = x) ∧ ((s.isSet (Reg.TIME_CMP.CTRL.ARM u) = false ∨ 2 ^
      47 ≤ (s.now + 2 ^ 48 - x % 2 ^ 48) % 2 ^ 48))) ∧
    (∃ (s : State) (who : Issuer), ((Instr.nowFracRead who).wf) ∧ (s.mayReach who 0x040)) ∧
    (∃ (s : State) (who : Issuer) (page : Nat) (off : Nat) (lo : Nat) (ho : Nat) (hi : Nat), ((Instr.latchRead who page off).wf) ∧ (s.mayReach who page) ∧
      (s.latchPair page off = some (lo, ho, hi))) ∧
    (∃ (s : State) (who : Issuer) (page : Nat) (off : Nat), ((Instr.latchRead who page off).wf) ∧ (s.latchPair page off = none)) ∧
    (∃ (s : State) (who : Issuer) (page : Nat) (off : Nat) (lo : Nat) (ho : Nat) (hi : Nat) (l : Latch), ((Instr.latchedHighRead who page off).wf) ∧
      (s.mayReach who page) ∧ (s.latchPair page (off - 4) = some (lo, ho, hi)) ∧ (s.latched who page off = some l)) ∧
    (∃ (s : State) (who : Issuer) (page : Nat) (off : Nat) (lo : Nat) (ho : Nat) (hi : Nat), ((Instr.latchedHighRead who page off).wf) ∧ (s.mayReach who
      page) ∧ (s.latchPair page (off - 4) = some (lo, ho, hi)) ∧ (s.latched who page off = none)) ∧
    (∃ (s : State) (who : Issuer) (page : Nat) (off : Nat), ((Instr.latchedHighRead who page off).wf) ∧ (s.latchPair page (off - 4) = none)) ∧
    (∃ (s : State) (who : Issuer), ((Instr.lfcLoRead who).wf) ∧ (s.mayReach who 0x042)) ∧
    (∃ (s : State) (who : Issuer) (l : Latch), ((Instr.lfcHiRead who).wf) ∧ (s.mayReach who 0x042) ∧ (s.latched who 0x042 0x104 = some l)) ∧
    (∃ (s : State) (who : Issuer), ((Instr.lfcHiRead who).wf) ∧ (s.mayReach who 0x042) ∧ (s.latched who 0x042 0x104 = none)) ∧
    (∃ (s : State) (who : Issuer) (w : Word), ((Instr.lfcOffsetWrite who w).wf) ∧ (s.mayReach who 0x042) ∧ (s.fld Reg.RADIO.STATUS.RSTATE = 0)) ∧
    (∃ (s : State) (who : Issuer) (w : Word), ((Instr.lfcOffsetWrite who w).wf) ∧ (s.mayReach who 0x042) ∧ (s.fld Reg.RADIO.STATUS.RSTATE ≠ 0)) ∧
    (∃ (s : State) (who : Issuer), ((Instr.nowFracRead who).wf) ∧ (s.mayReach who 0x040 = false)) ∧
    (∃ (s : State) (who : Issuer) (page : Nat) (off : Nat), ((s.latchPair page off).isSome) ∧ ((Instr.latchRead who page off).wf) ∧ (s.mayReach who page =
      false)) ∧
    (∃ (s : State) (who : Issuer) (page : Nat) (off : Nat), ((s.latchPair page (off - 4)).isSome) ∧ ((Instr.latchedHighRead who page off).wf) ∧ (s.mayReach
      who page = false)) ∧
    (∃ (s : State) (who : Issuer), ((Instr.lfcLoRead who).wf) ∧ (s.mayReach who 0x042 = false)) ∧
    (∃ (s : State) (who : Issuer), ((Instr.lfcHiRead who).wf) ∧ (s.mayReach who 0x042 = false)) ∧
    (∃ (s : State) (who : Issuer) (w : Word), ((Instr.lfcOffsetWrite who w).wf) ∧ (s.mayReach who 0x042 = false)) :=
  ⟨⟨tC, 3, by decide +kernel⟩,
   ⟨tF, 3, by decide +kernel⟩,
   ⟨tF, 3, 90, by decide +kernel⟩,
   ⟨(tF.setFld (Reg.TIME_CMP.CTRL.PERIODIC 3) 1), 3, 90, 10, 1000, by decide +kernel⟩,
   ⟨{ tF with time := { tF.time with cmp := [(3, 190)] } }, 3, 190, by decide +kernel⟩,
   ⟨tF, w0, by decide +kernel⟩,
   ⟨tF, w0, 0x010, 0x110, 0, 0x114, 0, by decide +kernel⟩,
   ⟨tF, w0, 0x010, 0x118, by decide +kernel⟩,
   ⟨tL, w0, 0x010, 0x114, 0, 0x114, 0, ⟨w0, 0x010, 0x114, 7, 0⟩, by decide +kernel⟩,
   ⟨tF, w0, 0x010, 0x114, 0, 0x114, 0, by decide +kernel⟩,
   ⟨tF, w0, 0x010, 0x118, by decide +kernel⟩,
   ⟨tL, w0, by decide +kernel⟩,
   ⟨tL, w0, ⟨w0, 0x042, 0x104, 7, 0⟩, by decide +kernel⟩,
   ⟨tF, w0, by decide +kernel⟩,
   ⟨tL, w0, 99, by decide +kernel⟩,
   ⟨(tL.setFld Reg.RADIO.STATUS.RSTATE 1), w0, 99, by decide +kernel⟩,
   ⟨tF, w9, by decide +kernel⟩,
   ⟨tF, w9, 0x010, 0x110, by decide +kernel⟩,
   ⟨tF, w9, 0x010, 0x114, by decide +kernel⟩,
   ⟨tF, w9, by decide +kernel⟩,
   ⟨tF, w9, by decide +kernel⟩,
   ⟨tF, w9, 99, by decide +kernel⟩⟩

end W07

namespace W08

def memS : State :=
  let s := sE.setFlds [(Reg.MEM.GROUP.VALID 0, 1), (Reg.MEM.GROUP.CHANNELS 0, 3), (Reg.MEM_CH.STATE.STATE 0, 2), (Reg.MEM_CH.STATE.STATE 1, 2)]
  s.setFlds [(Reg.COCOON.EXT_COUNT.COUNT 5, 1), (Reg.COCOON.EXT_BASE.BASE 5 0, 0), (Reg.COCOON.EXT_LEN.LEN 5 0, 0x100), (Reg.COCOON.CTX_BASE.BASE 5, 2), (Reg.COCOON.SEM_BASE.BASE 5, 1)]
def clS : State := ((memS.setFld (ctrlEnable 0x105) 1).setFld (Reg.COCOON.STRIDES.COUNT 5) 9).wrBytes 0x10000 (List.replicate 8 7)
def kw (l : Assoc Word) : List Word := (List.range 16).map fun k => Assoc.findD k (0 : Word) l
def kS : State := (memS.setShd (Reg.COCOON.CFG.KEY_SLOT 5) 9).setCocoon 5 { Cocoon.fresh with keyWords := [(3, 7)] }
def kV : State := { kS.setFld (Reg.COCOON.KEY_STATUS.VALID 5) 1 with keys := [(9, [1,2]), (10, [3])] }
def bS : State := (memS.setFld Reg.STAIDO.STATE.STATE 2).setFld (Reg.COCOON.STATE.STATE 5) 1
def bd : State := match exec (.bind 5 37) bS with | .next t => t | _ => bS
def uS : State :=
  let s := bd.setQueue 37 3 { bd.queue 37 3 with cmds := [List.replicate 64 3] }
  { s with runs := [{ (run0 11 5 7) with cmd := some ⟨37, 3, List.replicate 64 1, 0⟩ }], waits := [⟨3, 5, ⟨37, 3, [], 0⟩, .unload 5⟩, ⟨4, 5, ⟨36, 3, [], 0⟩, .unload 5⟩] }
def tbM : SchedTable := ⟨0, 2, 10000, 0, (List.range 160).map fun _ => ⟨0, 1, 1, 0, 0, 0, 0, 0, 0, true, true⟩, [], [], [], [List.replicate 384 5], [List.replicate 4096 1], []⟩
def gS : State := { memS with seq := { memS.seq with active := some tbM }, gddr := { memS.gddr with owners := List.replicate 24 5 } }
def e0 : LineErr := ⟨0,0,0,0⟩
def e1 : LineErr := ⟨1,0,0,0⟩
def e2 : LineErr := ⟨2,0,0,0⟩
def e3 : LineErr := ⟨3,0,0,0⟩
def eC : LineErr := ⟨0,5,0,0⟩
def l9 : List Byte := List.replicate 64 9
def mrS : State := { (gS.setFld (Reg.MEM.GROUP.CHANNELS 0) 15).setFlds [(Reg.MEM.GROUP.MIRROR 0, 1), (chState 2, 2), (chState 3, 2)] with poison := [0x42], poisonB := [0x41] }
def gQ : State := { gS with gddr := { gS.gddr with owners := List.replicate 24 6 } }
def gQ2 : State := match exec (.gddr7Access 5 0x1040 (.writeLine l9) e0 e0) gQ with | .next t => t | _ => gQ
def rtS : State := { gS.setFlds [(Reg.MEM_CH.TRAIN_STATUS.RETRAIN_DUE 0, 1), (Reg.MEM_CH.TRAIN_STATUS.STEPS 0, 15)] with gddr := { gS.gddr with slot := 4, slotBeat := gS.seq.beat } }
def stS : State := gS.updCtl 0 fun k => { k with dueSince := some 50 }
def rnS : State := (gS.setFld (Reg.MEM_CH.STATE.STATE 5) 4).setFld Reg.MEM.STATUS.DOWN 32
def dsS : State := (memS.setFld (Reg.COCOON.STATE.STATE 5) 3).setCocoon 5 { Cocoon.fresh with fill := [(0, 0x1000000), (1, 0x1000000)] }
def dsS2 : State := ((dsS.setFld (Reg.COCOON.EXT_LEN.LEN 5 0) 1).wrBytes 0x8 [7])

theorem witness_cocoons_come_and_go :
    (∃ (s : State) (cocoon : Nat), ((Instr.cocoonClearDone cocoon).wf) ∧ (s.isSet (ctrlEnable (0x100 + cocoon))) ∧ (s.cocoonState cocoon = 0)) ∧
    (∃ (s : State) (cocoon : Nat), ((Instr.cocoonClearDone cocoon).wf) ∧ ((s.isSet (ctrlEnable (0x100 + cocoon)) = false ∨ s.cocoonState cocoon ≠ 0))) ∧
    (∃ (s : State) (cocoon : Nat), ((Instr.cocoonDestroyFillDone cocoon).wf) ∧ (s.cocoonState cocoon = 3) ∧ (((List.range 24).all fun ch => Nat.beq
      (s.fillLeft cocoon ch) 0))) ∧
    (∃ (s : State) (cocoon : Nat), ((Instr.cocoonDestroyFillDone cocoon).wf) ∧ ((s.cocoonState cocoon ≠ 3 ∨ ((List.range 24).all fun ch => Nat.beq
      (s.fillLeft cocoon ch) 0) = false))) ∧
    (∃ (_ : State) (cluster : Nat) (way : Nat), (Instr.wayClearDone cluster way).wf) :=
  ⟨⟨clS, 5, by decide +kernel⟩,
   ⟨memS, 5, by decide +kernel⟩,
   ⟨dsS2, 5, by decide +kernel⟩,
   ⟨memS, 5, by decide +kernel⟩,
   ⟨{ memS with seq := { memS.seq with clearing := [(3,4),(3,5)] } }, 3, 4, by decide +kernel⟩⟩

theorem witness_keys_functions_and_dirty_pages :
    (∃ (s : State) (cocoon : Nat) (w : List Word), ((Instr.keyLoad cocoon).wf) ∧ (s.isSet (ctrlEnable (0x100 + cocoon)) = false) ∧ (((List.range 16).map
      fun k => Assoc.findD k (0 : Word) (s.cocoon cocoon).keyWords) = w)) ∧
    (∃ (s : State) (cocoon : Nat), ((Instr.keyLoad cocoon).wf) ∧ (s.isSet (ctrlEnable (0x100 + cocoon)))) ∧
    (∃ (s : State) (cocoon : Nat), ((Instr.keyErase cocoon).wf) ∧ (s.isSet (ctrlEnable (0x100 + cocoon)) = false) ∧ (s.isSet (Reg.COCOON.KEY_STATUS.VALID
      cocoon))) ∧
    (∃ (s : State) (cocoon : Nat), ((Instr.keyErase cocoon).wf) ∧ (s.isSet (ctrlEnable (0x100 + cocoon)))) ∧
    (∃ (s : State) (cocoon : Nat), ((Instr.keyErase cocoon).wf) ∧ (s.isSet (ctrlEnable (0x100 + cocoon)) = false) ∧ (s.isSet (Reg.COCOON.KEY_STATUS.VALID
      cocoon) = false)) ∧
    (∃ (_ : State) (cocoon : Nat) (cfg : Word), (Instr.keySlotChange cocoon cfg).wf) ∧
    (∃ (s : State) (cocoon : Nat) (fn : Nat), ((Instr.bind cocoon fn).wf) ∧ (2 ≤ cocoon) ∧ (s.boundTo (fn % 256) = none) ∧ (s.created cocoon)) ∧
    (∃ (s : State) (cocoon : Nat) (fn : Nat), ((Instr.bind cocoon fn).wf) ∧ (2 ≤ cocoon) ∧ (s.bound cocoon (fn % 256))) ∧
    (∃ (s : State) (cocoon : Nat) (fn : Nat), ((Instr.bind cocoon fn).wf) ∧ ((cocoon < 2 ∨ s.bound cocoon (fn % 256) = false)) ∧ ((cocoon < 2 ∨ (s.boundTo
      (fn % 256)).isSome ∨ s.created cocoon = false))) ∧
    (∃ (s : State) (cocoon : Nat) (fn : Nat), ((Instr.unbind cocoon fn).wf) ∧ (s.boundTo (fn % 256) = some cocoon)) ∧
    (∃ (s : State) (cocoon : Nat) (fn : Nat), ((Instr.unbind cocoon fn).wf) ∧ (s.boundTo (fn % 256) = none)) ∧
    (∃ (s : State) (cocoon : Nat) (fn : Nat) (o : Nat), ((Instr.unbind cocoon fn).wf) ∧ (s.boundTo (fn % 256) = some o) ∧ (o ≠ cocoon)) ∧
    (∃ (s : State) (cocoon : Nat), ((Instr.unfence cocoon).wf) ∧ (s.cocoonState cocoon = 2)) ∧
    (∃ (s : State) (cocoon : Nat), ((Instr.unfence cocoon).wf) ∧ (s.cocoonState cocoon ≠ 2)) ∧
    (∃ (_ : State) (fn : Nat), (Instr.dirtyCfgWrite fn true).wf) ∧
    (∃ (_ : State) (fn : Nat), (Instr.dirtyCfgWrite fn false).wf) ∧
    (∃ (s : State) (fn : Nat) (w : Word) (x : Nat × Fld), (x ∈ [(0x804, Reg.FN.DIRTY_MAP_LO.ADDR fn), (0x808, Reg.FN.DIRTY_MAP_HI.ADDR fn), (0x80C,
      Reg.FN.DIRTY_START_LO.ADDR fn), (0x810, Reg.FN.DIRTY_START_HI.ADDR fn), (0x814, Reg.FN.DIRTY_PAGES.PAGES fn)]) ∧ ((Instr.dirtyLogConfigWrite fn
      x.1 w).wf) ∧ (s.isSet (Reg.FN.DIRTY_CFG.EN fn) = false)) ∧
    (∃ (s : State) (fn : Nat) (off : Nat) (w : Word), ((Instr.dirtyLogConfigWrite fn off w).wf) ∧ (s.isSet (Reg.FN.DIRTY_CFG.EN fn)) ∧ (off ∈ [0x804,
      0x808, 0x80C, 0x810, 0x814])) ∧
    (∃ (_ : State) (fn : Nat) (off : Nat) (w : Word), ((Instr.dirtyLogConfigWrite fn off w).wf) ∧ (off ∉ [0x804, 0x808, 0x80C, 0x810, 0x814])) ∧
    (∃ (s : State) (fn : Nat), ((Instr.dirtyLogDrained fn).wf) ∧ (s.isSet (Reg.FN.DIRTY_CFG.EN fn) = false)) ∧
    (∃ (s : State) (fn : Nat), ((Instr.dirtyLogDrained fn).wf) ∧ (s.isSet (Reg.FN.DIRTY_CFG.EN fn))) :=
  ⟨⟨kS, 5, kw [(3, 7)], by decide +kernel⟩,
   ⟨(kS.setFld (ctrlEnable 0x105) 1), 5, by decide +kernel⟩,
   ⟨kV, 5, by decide +kernel⟩,
   ⟨(kS.setFld (ctrlEnable 0x105) 1), 5, by decide +kernel⟩,
   ⟨kS, 5, by decide +kernel⟩,
   ⟨kV, 5, 0x00010A03, by decide +kernel⟩,
   ⟨bS, 5, 37, by decide +kernel⟩,
   ⟨bd, 5, 37, by decide +kernel⟩,
   ⟨bd, 1, 37, by decide +kernel⟩,
   ⟨uS, 5, 37, by decide +kernel⟩,
   ⟨bS, 5, 37, by decide +kernel⟩,
   ⟨bd, 6, 37, 5, by decide +kernel⟩,
   ⟨{ (bS.setFld (Reg.COCOON.STATE.STATE 5) 2) with runs := [{ (run0 11 5 7) with suspended := true }, { (run0 12 5 8000) with suspended := true }, {
      (run0 13 6 7) with suspended := true }] }, 5, by decide +kernel⟩,
   ⟨bS, 5, by decide +kernel⟩,
   ⟨bS, 37, by decide +kernel⟩,
   ⟨(bS.setFld (Reg.FN.DIRTY_CFG.EN 37) 1), 37, by decide +kernel⟩,
   ⟨bS, 37, 0xFFFFFFFF, (0x814, Reg.FN.DIRTY_PAGES.PAGES 37), by decide +kernel⟩,
   ⟨(bS.setFld (Reg.FN.DIRTY_CFG.EN 37) 1), 37, 0x814, 3, by decide +kernel⟩,
   ⟨bS, 37, 0x818, 3, by decide +kernel⟩,
   ⟨(bS.setFld (Reg.FN.DIRTY_STATUS.ACTIVE 37) 1), 37, by decide +kernel⟩,
   ⟨(bS.setFld (Reg.FN.DIRTY_CFG.EN 37) 1), 37, by decide +kernel⟩⟩

theorem witness_gddr7_lines :
    (∃ (s : State) (cocoon : Nat) (addr : Nat) (b : List Byte) (errA : LineErr) (errB : LineErr) (ch : Nat), ((Instr.gddr7Access cocoon addr (.writeLine b)
      errA errB).wf) ∧ (s.inTurn cocoon addr ch none) ∧ (s.takesAccess ch errA)) ∧
    (∃ (s : State) (cocoon : Nat) (addr : Nat) (b : List Byte) (errA : LineErr) (errB : LineErr) (ch : Nat) (m : Nat), ((Instr.gddr7Access cocoon addr
      (.writeLine b) errA errB).wf) ∧ (s.inTurn cocoon addr ch (some m)) ∧ (ch ≠ m) ∧ (m < 24) ∧ ((s.takesAccess ch errA ∧ s.takesAccess m errB ∨
      s.takesAccess ch errA ∧ s.channelUp m = false ∨ s.channelUp ch = false ∧ s.takesAccess m errB))) ∧
    (∃ (s : State) (cocoon : Nat) (addr : Nat) (b : List Byte) (errA : LineErr) (errB : LineErr) (ch : Nat), ((Instr.gddr7Access cocoon addr (.writeLine b)
      errA errB).wf) ∧ (s.inTurn cocoon addr ch none) ∧ ((s.channelUp ch = false ∨ 5 ≤ errA.crcFails))) ∧
    (∃ (s : State) (cocoon : Nat) (addr : Nat) (errA : LineErr) (errB : LineErr) (ch : Nat), ((Instr.gddr7Access cocoon addr .read errA errB).wf) ∧
      (s.inTurn cocoon addr ch none) ∧ (s.takesAccess ch errA) ∧ (errA.symbols ≤ 1) ∧ (s.poison.contains (addr / 64) = false)) ∧
    (∃ (s : State) (cocoon : Nat) (addr : Nat) (errA : LineErr) (errB : LineErr) (ch : Nat), ((Instr.gddr7Access cocoon addr .read errA errB).wf) ∧
      (s.inTurn cocoon addr ch none) ∧ (s.takesAccess ch errA) ∧ ((errA.symbols = 2 ∨ s.poison.contains (addr / 64)))) ∧
    (∃ (s : State) (cocoon : Nat) (addr : Nat) (errA : LineErr) (errB : LineErr) (ch : Nat), ((Instr.gddr7Access cocoon addr .read errA errB).wf) ∧
      (s.inTurn cocoon addr ch none) ∧ (s.takesAccess ch errA) ∧ (3 ≤ errA.symbols) ∧ (s.poison.contains (addr / 64) = false)) ∧
    (∃ (s : State) (cocoon : Nat) (addr : Nat) (errA : LineErr) (errB : LineErr) (ch : Nat), ((Instr.gddr7Access cocoon addr .read errA errB).wf) ∧
      (s.inTurn cocoon addr ch none) ∧ ((s.channelUp ch = false ∨ 5 ≤ errA.crcFails))) ∧
    (∃ (s : State) (cocoon : Nat) (addr : Nat) (errA : LineErr) (errB : LineErr) (ch : Nat) (m : Nat), ((Instr.gddr7Access cocoon addr .read errA errB).wf)
      ∧ (s.inTurn cocoon addr ch (some m)) ∧ (ch ≠ m) ∧ (m < 24) ∧ ((s.channelUp ch = false ∨ 5 ≤ errA.crcFails ∨ errA.symbols = 2 ∨ s.poison.contains
      (addr / 64))) ∧ (s.takesAccess m errB) ∧ (errB.symbols ≤ 1) ∧ (s.poisonB.contains (addr / 64) = false)) ∧
    (∃ (s : State) (cocoon : Nat) (addr : Nat) (errA : LineErr) (errB : LineErr) (ch : Nat) (m : Nat), ((Instr.gddr7Access cocoon addr .read errA errB).wf)
      ∧ (s.inTurn cocoon addr ch (some m)) ∧ (ch ≠ m) ∧ (m < 24) ∧ ((s.channelUp ch = false ∨ 5 ≤ errA.crcFails ∨ errA.symbols = 2 ∨ s.poison.contains
      (addr / 64))) ∧ ((s.channelUp m = false ∨ 5 ≤ errB.crcFails ∨ errB.symbols = 2 ∨ s.poisonB.contains (addr / 64)))) ∧
    (∃ (s : State) (cocoon : Nat) (addr : Nat) (off : Nat) (b : List Byte) (errA : LineErr) (errB : LineErr) (ch : Nat), ((Instr.gddr7Access cocoon addr
      (.writePart off b) errA errB).wf) ∧ (s.inTurn cocoon addr ch none) ∧ (s.takesAccess ch errA) ∧ (errA.symbols ≤ 1) ∧ (s.poison.contains (addr /
      64) = false)) ∧
    (∃ (s : State) (cocoon : Nat) (addr : Nat) (off : Nat) (b : List Byte) (errA : LineErr) (errB : LineErr) (ch : Nat), ((Instr.gddr7Access cocoon addr
      (.writePart off b) errA errB).wf) ∧ (s.inTurn cocoon addr ch none) ∧ ((s.channelUp ch = false ∨ 5 ≤ errA.crcFails ∨ errA.symbols = 2 ∨
      s.poison.contains (addr / 64)))) ∧
    (∃ (s : State) (cocoon : Nat) (addr : Nat) (op : LineOp) (errA : LineErr) (errB : LineErr) (ch : Nat) (m : Option Nat), ((Instr.gddr7Access cocoon addr
      op errA errB).wf) ∧ (s.channelOf addr = some (ch, m)) ∧ (ch < 24) ∧ (s.inExtent cocoon (addr / 64 * 64) 64) ∧ (s.hasSlot cocoon ch) ∧ (s.slotNow
      ch ≠ cocoon)) ∧
    (∃ (s : State) (cocoon : Nat) (addr : Nat) (op : LineOp) (errA : LineErr) (errB : LineErr) (ch : Nat) (m : Option Nat), ((Instr.gddr7Access cocoon addr
      op errA errB).wf) ∧ (s.channelOf addr = some (ch, m)) ∧ (ch < 24) ∧ ((s.inExtent cocoon (addr / 64 * 64) 64 = false ∨ s.hasSlot cocoon ch =
      false))) ∧
    (∃ (s : State) (cocoon : Nat) (addr : Nat) (op : LineOp) (errA : LineErr) (errB : LineErr), ((Instr.gddr7Access cocoon addr op errA errB).wf) ∧
      (s.channelOf addr = none)) ∧
    (∃ (_ : State) (slot : Nat), ((Instr.tdmSlotBoundary slot).wf) ∧ (slot < 16)) ∧
    (∃ (_ : State) (channel : Nat) (bank : Nat), (Instr.gddr7Refresh channel bank).wf) :=
  ⟨⟨{ gS with poison := [0x41, 0x42] }, 5, 0x1040, l9, ⟨0,2,1,1⟩, e0, 1, by decide +kernel⟩,
   ⟨mrS, 5, 0x1040, l9, e1, e0, 1, 3, by decide +kernel⟩,
   ⟨gS, 5, 0x1040, l9, eC, e0, 1, by decide +kernel⟩,
   ⟨gS, 5, 0x1040, e1, e0, 1, by decide +kernel⟩,
   ⟨gS, 5, 0x1040, e2, e0, 1, by decide +kernel⟩,
   ⟨gS, 5, 0x1040, e3, e0, 1, by decide +kernel⟩,
   ⟨gS, 5, 0x1040, eC, e0, 1, by decide +kernel⟩,
   ⟨{ mrS with poison := [0x41], poisonB := [] }, 5, 0x1040, e0, e1, 1, 3, by decide +kernel⟩,
   ⟨mrS, 5, 0x1040, eC, e1, 1, 3, by decide +kernel⟩,
   ⟨gS, 5, 0x1040, 60, [1,2,3], e1, e1, 1, by decide +kernel⟩,
   ⟨gS, 5, 0x1040, 60, [1,2,3], e2, e1, 1, by decide +kernel⟩,
   ⟨gQ, 5, 0x1040, .read, e0, e0, 1, none, by decide +kernel⟩,
   ⟨gQ, 6, 0x1040, .read, e0, e0, 1, none, by decide +kernel⟩,
   ⟨gQ, 6, 0x100000001040, .read, e0, e0, by decide +kernel⟩,
   ⟨gQ2, 3, by decide +kernel⟩,
   ⟨gQ2, 3, 15, by decide +kernel⟩⟩

theorem witness_gddr7_training_and_scrub :
    (∃ (s : State) (channel : Nat) (temp : Int) (retries : Nat), ((Instr.retrainDue channel temp retries).wf) ∧ (s.fld (chState channel) = 2)) ∧
    (∃ (s : State) (channel : Nat) (temp : Int) (retries : Nat), ((Instr.retrainDue channel temp retries).wf) ∧ (s.fld (chState channel) ≠ 2)) ∧
    (∃ (s : State) (channel : Nat), ((Instr.retrainStep channel true).wf) ∧ (s.mayStep channel)) ∧
    (∃ (s : State) (channel : Nat), ((Instr.retrainStep channel false).wf) ∧ (s.mayStep channel)) ∧
    (∃ (s : State) (channel : Nat) (ok : Bool), ((Instr.retrainStep channel ok).wf) ∧ (s.mayStep channel = false)) ∧
    (∃ (s : State) (channel : Nat) (x : Nat), ((Instr.retrainStarved channel).wf) ∧ ((s.ctl channel).dueSince = some x)) ∧
    (∃ (s : State) (channel : Nat), ((Instr.retrainStarved channel).wf) ∧ ((s.ctl channel).dueSince = none)) ∧
    (∃ (s : State) (channel : Nat) (group : Nat) (errs : List LineErr) (written : Bool), ((Instr.patrolScrub channel group errs written).wf) ∧ (s.channelUp
      channel) ∧ ((s.ctl channel).scrub = group) ∧ (errs.all (fun e => Nat.ble e.symbols 2 && Nat.blt e.crcFails 5)) ∧ (s.poison = []) ∧ (s.poisonB =
      [])) ∧
    (∃ (s : State) (channel : Nat) (group : Nat) (errs : List LineErr) (written : Bool), ((Instr.patrolScrub channel group errs written).wf) ∧
      ((s.channelUp channel = false ∨ (s.ctl channel).scrub ≠ group))) ∧
    (∃ (s : State) (channel : Nat), ((Instr.retrainNow channel).wf) ∧ ((s.liveExtents channel = false ∨ (s.partner channel).any fun o => Nat.beq (s.fld
      (chState o)) 2)) ∧ ((s.fld (chState channel) = 4 ∨ s.fld (chState channel) = 2))) ∧
    (∃ (s : State) (channel : Nat), ((Instr.retrainNow channel).wf) ∧ (s.liveExtents channel) ∧ (((s.partner channel).any fun o => Nat.beq (s.fld (chState
      o)) 2) = false)) ∧
    (∃ (s : State) (channel : Nat), ((Instr.retrainNow channel).wf) ∧ ((s.liveExtents channel = false ∨ (s.partner channel).any fun o => Nat.beq (s.fld
      (chState o)) 2)) ∧ (s.fld (chState channel) ≠ 4) ∧ (s.fld (chState channel) ≠ 2)) ∧
    (∃ (s : State) (channel : Nat), ((Instr.retrainNowDone channel true).wf) ∧ ((s.ctl channel).training)) ∧
    (∃ (s : State) (channel : Nat), ((Instr.retrainNowDone channel false).wf) ∧ ((s.ctl channel).training)) ∧
    (∃ (s : State) (channel : Nat) (ok : Bool), ((Instr.retrainNowDone channel ok).wf) ∧ ((s.ctl channel).training = false)) :=
  ⟨⟨gS, 1, 40, 1001, by decide +kernel⟩,
   ⟨gS, 5, 40, 1001, by decide +kernel⟩,
   ⟨rtS, 0, by decide +kernel⟩,
   ⟨rtS, 0, by decide +kernel⟩,
   ⟨gS, 0, true, by decide +kernel⟩,
   ⟨stS, 0, 50, by decide +kernel⟩,
   ⟨gS, 0, by decide +kernel⟩,
   ⟨gS, 0, 0, List.replicate 8 e0, false, by decide +kernel⟩,
   ⟨gS, 0, 1, List.replicate 8 e0, false, by decide +kernel⟩,
   ⟨rnS, 5, by decide +kernel⟩,
   ⟨(gS.setFld (Reg.COCOON.STATE.STATE 5) 1), 1, by decide +kernel⟩,
   ⟨gS, 7, by decide +kernel⟩,
   ⟨((rnS.updCtl 5 fun k => { k with training := true }).setFld (chState 5) 1), 5, by decide +kernel⟩,
   ⟨((mrS.updCtl 1 fun k => { k with training := true }).setFld (chState 1) 1), 1, by decide +kernel⟩,
   ⟨mrS, 1, true, by decide +kernel⟩⟩

end W08

namespace W09

def lkS (st : Nat) : State := sE.setFlds [(Reg.SILK_LINK.STATE.STATE 33, st), (Reg.SILK_LINK.LAMBDA.RX 33, 5), (Reg.SILK_LINK.LAMBDA.TX 33, 6), (Reg.SILK_LINK.RATE.GBPS 33, 800), (Reg.SILK_LINK.CFG.EN 33, 1), (Reg.SILK_LINK.CFG.SPARE_FIBRE 33, 1), (Reg.SILK.DEVICE_ID.ID, 7)]
def lk2 (bad : List Nat) : State := (lkS 2).setSilkLink 33 { SilkLink.fresh with badRx := bad }
def hdr : PktHeader := ⟨0, 9, 4, 1, 0, false, true, false, 0⟩
def fl : Flit := ⟨5, 0, 4, false, true, 1, 3, 0, 0, 0, hdr, []⟩
def lf : State := (lkS 2).setSilkLink 33 { SilkLink.fresh with retry := ⟨7, 4, 5, 0⟩, quotaUsed := [(0, 3)] }
def setB (l : List Byte) (off : Nat) (b : List Byte) : List Byte := l.take off ++ b ++ l.drop (off + b.length)
def fabq : List Byte :=
  let h := leBytes 16 0 ++ leBytes 4 64 ++ leBytes 4 0 ++ leBytes 4 64 ++ leBytes 4 0 ++ leBytes 4 64 ++ leBytes 4 1 ++ leBytes 4 320 ++ leBytes 4 0 ++ leBytes 4 320 ++ leBytes 4 1 ++ leBytes 4 2368 ++ leBytes 4 64
  setB (h ++ List.replicate 256 0 ++ setB (List.replicate 2048 0) 128 ([0,0,2,0] ++ List.replicate 12 0 ++ leBytes 4 1 ++ leBytes 4 2 ++ leBytes 4 300 ++ leBytes 4 300)) (320 + 96) (leBytes 2 100 ++ leBytes 6 0 ++ leBytes 8 1) ++ (List.range 64).flatMap fun c => setB (List.replicate 1024 0) 0 (if c = 5 then leBytes 4 (2^31 + 3*65536 + 9) else [])
def ltS : State := { lkS 2 with silk := { (lkS 2).silk with fabric := fabq } }
def lfq (lv : Int × Int × Nat) : State := ltS.setSilkLink 33 { SilkLink.fresh with retry := ⟨7, 4, 5, 0⟩, police := [(4, lv)] }
def fl4 : Flit := { fl with share := 4 }
def pol (s : State) (link : Nat) (f : Flit) := police (slice (s.shareEntry link f.share) 16 16) (Assoc.find f.share (s.silkLink link).police)
  (counted 256 Config.silkOverhead) (s.mono / 8)
theorem pol_eq (s : State) (link : Nat) (f : Flit) : police (slice (s.shareEntry link f.share) 16 16)
    (Assoc.find f.share (s.silkLink link).police) (counted 256 Config.silkOverhead) (s.mono / 8) = ((pol s link f).1, (pol s link f).2) := rfl
def rqS : State := let s := fireS' 7 5; { s with silk := { s.silk with fabric := fabq } } where
  fireS' (n c : Nat) : State := let s := (((sE.setFld Reg.SILK.DEVICE_ID.ID 7).setFld (coreStateFld n) 2).setFld (coreOwnerFld n) c).setFld (Reg.COCOON.CTX_BASE.BASE c) 2; { s with seq := { s.seq with openWins := [⟨0, n, c, 0, 0, 1000, 1000000, 0, false, false, 0⟩] } }.wrBytes (spBase n + 64) [250, 1, 2, 3]
def rq (op : Nat) : RemoteReq := ⟨9, 3, 77, op, spBase 7 + 64, 4, [10, 0, 0, 0], []⟩
def rqP : State := { rqS with sram := [((spBase 7 + 64) / 8, 2)] }
def ro : RemoteOp := ⟨77, 3, [0, 0], 1, 0, 4, 9, 5, 2, 0x100, 0x108, 5000, [], []⟩
def cp : CopyOp := ⟨79, 3, [0, 0], 9 * 2^48, 0, 4, 0xFFFF, 0, 0, 0, 0, false, [], false, 5000⟩
def roS : State := rqS.setCore 7 { rqS.core 7 with remotes := [ro], copies := [cp] }
def sgS : State := sE.setFlds [(Reg.SILK.SEG_SEL.COCOON, 5), (Reg.SILK.SEG_SEL.INDEX, 17), (Reg.SILK.SEG_BASE.BASE, 3), (Reg.SILK.SEG_LEN.LEN, 2), (Reg.COCOON.STATE.STATE 5, 1), (Reg.COCOON.EXT_COUNT.COUNT 5, 1), (Reg.COCOON.EXT_BASE.BASE 5 0, 0), (Reg.COCOON.EXT_LEN.LEN 5 0, 0x100)]

theorem witness_silk_links_and_flits :
    (∃ (s : State) (link : Nat) (rx : Bool) (lambda : Nat), ((Instr.wavelengthFail link rx lambda).wf) ∧ ([2, 3, 4].contains (s.linkState link)) ∧ (lambda
      ∈ s.carriers link rx) ∧ (lambda ∉ (s.silkLink link).bad rx) ∧ (s.spares link rx ≠ [])) ∧
    (∃ (s : State) (link : Nat) (rx : Bool) (lambda : Nat) (o : Nat), ((Instr.wavelengthFail link rx lambda).wf) ∧ ([2, 3, 4].contains (s.linkState link))
      ∧ (lambda ∈ s.carriers link rx) ∧ ((s.carriers link rx).filter (fun x => !Nat.beq x lambda) = [o]) ∧ (lambda ∉ (s.silkLink link).bad rx) ∧ (o ∉
      (s.silkLink link).bad rx) ∧ (s.spares link rx = [])) ∧
    (∃ (s : State) (link : Nat) (rx : Bool) (lambda : Nat), ((Instr.wavelengthFail link rx lambda).wf) ∧ ([2, 3, 4].contains (s.linkState link)) ∧ (lambda
      ∈ s.carriers link rx) ∧ (lambda ∉ (s.silkLink link).bad rx) ∧ (s.spares link rx = []) ∧ (((s.carriers link rx).all fun x => Nat.beq x lambda ||
      ((s.silkLink link).bad rx).contains x))) ∧
    (∃ (s : State) (link : Nat) (rx : Bool) (lambda : Nat), ((Instr.wavelengthFail link rx lambda).wf) ∧ (([2, 3, 4].contains (s.linkState link) = false ∨
      lambda ∉ s.carriers link rx ∨ lambda ∈ (s.silkLink link).bad rx))) ∧
    (∃ (s : State) (link : Nat) (rx : Bool) (w : Nat) (v : Nat), ((Instr.spareSwitchDone link rx).wf) ∧ (((s.carriers link rx).filter fun x => ((s.silkLink
      link).bad rx).contains x).head? = some w) ∧ ((s.spares link rx).head? = some v)) ∧
    (∃ (s : State) (link : Nat) (rx : Bool), ((Instr.spareSwitchDone link rx).wf) ∧ ((((s.carriers link rx).filter fun x => ((s.silkLink link).bad
      rx).contains x) = [] ∨ s.spares link rx = []))) ∧
    (∃ (s : State) (link : Nat) (k : Nat), ((Instr.opticalEngineFail link).wf) ∧ ([1, 2, 3, 4].contains (s.linkState link)) ∧ ((s.silkLink link).switching
      = false) ∧ (s.isSet (Reg.SILK_LINK.CFG.SPARE_FIBRE link)) ∧ ((s.freePairs link).head? = some k)) ∧
    (∃ (s : State) (link : Nat), ((Instr.opticalEngineFail link).wf) ∧ ([1, 2, 3, 4].contains (s.linkState link)) ∧ ((s.silkLink link).switching = false) ∧
      ((s.isSet (Reg.SILK_LINK.CFG.SPARE_FIBRE link) = false ∨ s.freePairs link = []))) ∧
    (∃ (s : State) (link : Nat), ((Instr.opticalEngineFail link).wf) ∧ (([1, 2, 3, 4].contains (s.linkState link) = false ∨ (s.silkLink link).switching))) ∧
    (∃ (s : State) (link : Nat), ((Instr.spareFibreSwitchDone link).wf) ∧ ((s.silkLink link).switching)) ∧
    (∃ (s : State) (link : Nat), ((Instr.spareFibreSwitchDone link).wf) ∧ ((s.silkLink link).switching = false)) ∧
    (∃ (s : State) (link : Nat) (nb : Nat) (far : Nat) (rtt : Nat), ((Instr.linkTrainingDone link true nb far rtt).wf) ∧ (s.linkState link = 1) ∧ (rtt ≤
      100000)) ∧
    (∃ (s : State) (link : Nat) (ok : Bool) (nb : Nat) (far : Nat) (rtt : Nat), ((Instr.linkTrainingDone link ok nb far rtt).wf) ∧ (s.linkState link = 1) ∧
      ((ok = false ∨ 100000 < rtt))) ∧
    (∃ (s : State) (link : Nat) (ok : Bool) (nb : Nat) (far : Nat) (rtt : Nat), ((Instr.linkTrainingDone link ok nb far rtt).wf) ∧ (s.linkState link ≠ 1)) ∧
    (∃ (s : State) (link : Nat), ((Instr.linkDown link).wf) ∧ ([1, 2, 3, 4].contains (s.linkState link))) ∧
    (∃ (s : State) (link : Nat), ((Instr.linkDown link).wf) ∧ ([1, 2, 3, 4].contains (s.linkState link) = false)) ∧
    (∃ (s : State) (link : Nat) (f : Flit), ((Instr.flitReceive link true true f).wf) ∧ (s.linkMoves link) ∧ (f.seq = (s.silkLink link).retry.rxSeq)) ∧
    (∃ (s : State) (link : Nat) (f : Flit), ((Instr.flitReceive link true true f).wf) ∧ (s.linkMoves link) ∧ (f.seq ≠ (s.silkLink link).retry.rxSeq)) ∧
    (∃ (s : State) (link : Nat) (f : Flit), ((Instr.flitReceive link true true f).wf) ∧ (s.linkMoves link) ∧ (f.nak) ∧ ((s.silkLink link).retry.released
      f.ack = 0) ∧ (7 ≤ (s.silkLink link).retry.naks)) ∧
    (∃ (s : State) (link : Nat) (fecOk : Bool) (f : Flit), ((Instr.flitReceive link fecOk false f).wf) ∧ (s.linkMoves link)) ∧
    (∃ (s : State) (link : Nat) (f : Flit) (c : Colour) (lv : Int × Int × Nat), ((Instr.flitReceive link true true f).wf) ∧ (s.linkMoves link) ∧ (f.seq =
      (s.silkLink link).retry.rxSeq) ∧ ((f.kind = 1 ∨ f.kind = 2)) ∧ (sharePolice (s.shareEntry link f.share)) ∧ (police (slice (s.shareEntry link
      f.share) 16 16) (Assoc.find f.share (s.silkLink link).police) (counted 256 Config.silkOverhead) (s.mono / 8) = (c, lv))) ∧
    (∃ (s : State) (link : Nat) (fecOk : Bool) (crcOk : Bool) (f : Flit), ((Instr.flitReceive link fecOk crcOk f).wf) ∧ (s.linkMoves link = false)) ∧
    (∃ (s : State) (link : Nat) (service : Nat) (share : Nat), ((Instr.flitTransmit link service share).wf) ∧ (s.carriesService link service share) ∧
      (s.positionFor link service share) ∧ ((2 ≤ service ∨ s.reserveFree link (2 * service) = false ∧ s.reserveFree link (2 * service + 1) = false)) ∧
      (s.quotaFree link share)) ∧
    (∃ (s : State) (link : Nat) (service : Nat) (share : Nat), ((Instr.flitTransmit link service share).wf) ∧ (s.carriesService link service share) ∧
      (s.positionFor link service share) ∧ (service < 2) ∧ (s.reserveFree link (2 * service)) ∧ (s.reserveFree link (2 * service + 1))) ∧
    (∃ (s : State) (link : Nat) (service : Nat) (share : Nat), ((Instr.flitTransmit link service share).wf) ∧ (s.carriesService link service share) ∧
      ((s.positionFor link service share = false ∨ (s.quotaFree link share = false ∧ (2 ≤ service ∨ s.reserveFree link (2 * service) = false ∧
      s.reserveFree link (2 * service + 1) = false))))) ∧
    (∃ (s : State) (link : Nat) (service : Nat) (share : Nat), ((Instr.flitTransmit link service share).wf) ∧ (s.carriesService link service share = false)) :=
  ⟨⟨(lkS 2), 33, true, 2, by decide +kernel⟩,
   ⟨(lk2 [1]), 33, true, 2, 0, by decide +kernel⟩,
   ⟨(lk2 [0, 1]), 33, true, 2, by decide +kernel⟩,
   ⟨(lkS 2), 33, true, 1, by decide +kernel⟩,
   ⟨(lk2 [2]), 33, true, 2, 1, by decide +kernel⟩,
   ⟨(lkS 2), 33, true, by decide +kernel⟩,
   ⟨(lkS 2), 33, 0, by decide +kernel⟩,
   ⟨((lkS 2).setFld (Reg.SILK_LINK.CFG.SPARE_FIBRE 33) 0), 33, by decide +kernel⟩,
   ⟨(lkS 0), 33, by decide +kernel⟩,
   ⟨((lkS 2).setSilkLink 33 { SilkLink.fresh with switching := true, retry := ⟨5,3,0,0⟩ }), 33, by decide +kernel⟩,
   ⟨(lkS 2), 33, by decide +kernel⟩,
   ⟨(lkS 1), 33, 9, 5, 100000, by decide +kernel⟩,
   ⟨(lkS 1), 33, true, 9, 5, 100001, by decide +kernel⟩,
   ⟨(lkS 2), 33, false, 9, 5, 100, by decide +kernel⟩,
   ⟨(lkS 3), 33, by decide +kernel⟩,
   ⟨(lkS 5), 33, by decide +kernel⟩,
   ⟨lf, 33, fl, by decide +kernel⟩,
   ⟨lf, 33, { fl with seq := 6, ack := 5 }, by decide +kernel⟩,
   ⟨(lf.setSilkLink 33 { SilkLink.fresh with retry := ⟨7, 4, 5, 7⟩ }), 33, { fl with ack := 3, nak := true }, by decide +kernel⟩,
   ⟨lf, 33, true, fl, by decide +kernel⟩,
   ⟨(lfq (0, 0, 0)), 33, fl4, (pol (lfq (0, 0, 0)) 33 fl4).1, (pol (lfq (0, 0, 0)) 33 fl4).2, by decide +kernel, by decide +kernel, by decide +kernel,
      by decide +kernel, by decide +kernel, pol_eq _ _ _⟩,
   ⟨(lkS 1), 33, true, true, fl, by decide +kernel⟩,
   ⟨ltS, 33, 3, 3, by decide +kernel⟩,
   ⟨ltS, 33, 1, 3, by decide +kernel⟩,
   ⟨ltS, 33, 3, 4, by decide +kernel⟩,
   ⟨ltS, 33, 4, 3, by decide +kernel⟩⟩

theorem witness_remote_operations_and_segments :
    (∃ (s : State) (r : RemoteReq) (c : Nat), ((Instr.remoteRequestArrival r).wf) ∧ (r.op = 0x01) ∧ (s.target r.src r.share r.addr r.size = some c) ∧
      (s.targetSlots c r.addr r.size)) ∧
    (∃ (s : State) (r : RemoteReq) (c : Nat), ((Instr.remoteRequestArrival r).wf) ∧ (opAtomic r.op) ∧ (s.targetWrite r.src r.share r.addr r.size = some c)
      ∧ (s.targetSlots c r.addr r.size) ∧ (s.bad r.addr r.size = false)) ∧
    (∃ (s : State) (r : RemoteReq) (c : Nat), ((Instr.remoteRequestArrival r).wf) ∧ (opAtomic r.op) ∧ (s.targetWrite r.src r.share r.addr r.size = some c)
      ∧ (s.targetSlots c r.addr r.size) ∧ (s.bad r.addr r.size)) ∧
    (∃ (s : State) (r : RemoteReq) (c : Nat), ((Instr.remoteRequestArrival r).wf) ∧ (r.op = 0x02) ∧ (s.targetWrite r.src r.share r.addr r.size = some c) ∧
      (s.targetSlots c r.addr r.size) ∧ (r.size ≤ r.data.length)) ∧
    (∃ (s : State) (r : RemoteReq) (c : Nat), ((Instr.remoteRequestArrival r).wf) ∧ (r.op = 0) ∧ (s.targetWrite r.src r.share r.addr r.size = some c) ∧
      (s.targetSlots c r.addr r.size) ∧ (r.size ≤ r.data.length) ∧ (fieldAt r.compare 0 2 = 0xFFFF)) ∧
    (∃ (s : State) (r : RemoteReq) (c : Nat) (n : Nat) (k : Nat), ((Instr.remoteRequestArrival r).wf) ∧ (r.op = 0) ∧ (s.targetWrite r.src r.share r.addr
      r.size = some c) ∧ (s.targetSlots c r.addr r.size) ∧ (r.size ≤ r.data.length) ∧ (fieldAt r.compare 0 2 = n) ∧ (n < 2048) ∧ (s.holdsCore c n) ∧
      ([1, 5, 6].contains (s.coreState n) = false) ∧ (fieldAt r.compare 2 1 % 128 = k) ∧ (s.sramHits (counterAddr n k) 4 2 = []) ∧ (s.rd (counterAddr
      n k) 2 + fieldAt r.compare 3 1 ≤ 65535)) ∧
    (∃ (s : State) (r : RemoteReq) (c : Nat), ((Instr.remoteRequestArrival r).wf) ∧ (r.op = 0) ∧ (s.targetWrite r.src r.share r.addr r.size = some c) ∧
      (s.targetSlots c r.addr r.size) ∧ (fieldAt r.compare 0 2 ≠ 0xFFFF) ∧ ((s.holdsCore c (fieldAt r.compare 0 2) = false ∨ [1, 5, 6].contains
      (s.coreState (fieldAt r.compare 0 2))))) ∧
    (∃ (s : State) (r : RemoteReq), ((Instr.remoteRequestArrival r).wf) ∧ (([0, 1, 2].contains r.op ∨ opAtomic r.op)) ∧ (((if r.op = 1 then s.target r.src
      r.share r.addr r.size else s.targetWrite r.src r.share r.addr r.size).all fun c => !s.targetSlots c r.addr r.size))) ∧
    (∃ (_ : State) (r : RemoteReq), ((Instr.remoteRequestArrival r).wf) ∧ ([0, 1, 2].contains r.op = false) ∧ (opAtomic r.op = false)) ∧
    (∃ (s : State) (src : Nat) (share : Nat) (tag : Nat) (addr : Nat) (len : Nat) (segment : Nat) (dst : Nat) (c : Nat), ((Instr.getRequest src share tag
      addr len segment dst).wf) ∧ (s.target src share addr len = some c) ∧ (s.targetSlots c addr len) ∧ ((segment = 0 ∨ (s.segmentAt c segment addr
      len).isSome)) ∧ (s.bad addr len = false) ∧ (deviceOf dst ≠ s.deviceId)) ∧
    (∃ (s : State) (src : Nat) (share : Nat) (tag : Nat) (addr : Nat) (len : Nat) (segment : Nat) (dst : Nat) (c : Nat) (o : Nat), ((Instr.getRequest src
      share tag addr len segment dst).wf) ∧ (s.target src share addr len = some c) ∧ (s.targetSlots c addr len) ∧ ((segment = 0 ∨ (s.segmentAt c
      segment addr len).isSome)) ∧ (s.bad addr len = false) ∧ (deviceOf dst = s.deviceId) ∧ (s.targetWrite src share (localOf dst) len = some o) ∧
      (s.bad (localOf dst) len = false)) ∧
    (∃ (s : State) (src : Nat) (share : Nat) (tag : Nat) (addr : Nat) (len : Nat) (segment : Nat) (dst : Nat), ((Instr.getRequest src share tag addr len
      segment dst).wf) ∧ (((s.target src share addr len).all fun c => !s.targetSlots c addr len || (!Nat.beq segment 0 && (s.segmentAt c segment addr
      len).isNone)))) ∧
    (∃ (s : State) (src : Nat) (share : Nat) (tag : Nat) (addr : Nat) (len : Nat) (segment : Nat) (dst : Nat) (c : Nat), ((Instr.getRequest src share tag
      addr len segment dst).wf) ∧ (s.target src share addr len = some c) ∧ (s.targetSlots c addr len) ∧ ((segment = 0 ∨ (s.segmentAt c segment addr
      len).isSome)) ∧ ((s.bad addr len ∨ (deviceOf dst = s.deviceId ∧ s.targetWrite src share (localOf dst) len = none)))) ∧
    (∃ (s : State) (core : Nat) (tag : Nat) (r : RemoteResp) (x : RemoteOp), ((Instr.remoteResponseArrival core tag r).wf) ∧ (s.replays core = false) ∧
      (((s.core core).remotes.find? fun y => Nat.beq y.tag tag) = some x) ∧ (x.dst ≠ s.deviceId) ∧ (r.err = none) ∧ (x.posts.all (fun w => !w.testBit
      31)) ∧ (x.local_ + x.size ≤ 0x200000) ∧ (x.status + 4 ≤ 0x200000) ∧ (x.local_ + x.size ≤ x.status ∨ x.status + 4 ≤ x.local_) ∧ (s.rd
      (counterAddr core x.ctr) 2 + x.inc ≤ 65535) ∧ (s.sramHits (counterAddr core x.ctr) 4 2 = []) ∧ (x.size ≤ r.data.length)) ∧
    (∃ (s : State) (core : Nat) (tag : Nat) (r : RemoteResp) (x : RemoteOp) (k : Nat), ((Instr.remoteResponseArrival core tag r).wf) ∧ (((s.core
      core).remotes.find? fun y => Nat.beq y.tag tag) = some x) ∧ (x.dst ≠ s.deviceId) ∧ (r.err = some k) ∧ (k < 256)) ∧
    (∃ (s : State) (core : Nat) (tag : Nat) (r : RemoteResp) (x : CopyOp), ((Instr.remoteResponseArrival core tag r).wf) ∧ (((s.core core).remotes.any fun
      y => Nat.beq y.tag tag && !Nat.beq y.dst s.deviceId) = false) ∧ (((s.core core).copies.find? fun y => Nat.beq y.id tag) = some x) ∧ (r.err =
      none)) ∧
    (∃ (s : State) (core : Nat) (tag : Nat) (r : RemoteResp) (x : CopyOp) (k : Nat), ((Instr.remoteResponseArrival core tag r).wf) ∧ (((s.core
      core).remotes.any fun y => Nat.beq y.tag tag && !Nat.beq y.dst s.deviceId) = false) ∧ (((s.core core).copies.find? fun y => Nat.beq y.id tag) =
      some x) ∧ (r.err = some k)) ∧
    (∃ (s : State) (core : Nat) (tag : Nat) (r : RemoteResp), ((Instr.remoteResponseArrival core tag r).wf) ∧ (((s.core core).remotes.any fun y => Nat.beq
      y.tag tag && !Nat.beq y.dst s.deviceId) = false) ∧ (((s.core core).copies.any fun y => Nat.beq y.id tag) = false)) ∧
    (∃ (s : State) (core : Nat) (tag : Nat) (x : RemoteOp), ((Instr.deadTargetTimeout core tag).wf) ∧ (((s.core core).remotes.find? fun y => Nat.beq y.tag
      tag) = some x) ∧ (x.dst ≠ s.deviceId)) ∧
    (∃ (s : State) (core : Nat) (tag : Nat) (x : CopyOp), ((Instr.deadTargetTimeout core tag).wf) ∧ (((s.core core).remotes.any fun y => Nat.beq y.tag tag)
      = false) ∧ (((s.core core).copies.find? fun y => Nat.beq y.id tag) = some x) ∧ ((deviceOf x.src ≠ s.deviceId ∨ deviceOf x.dst ≠ s.deviceId))) ∧
    (∃ (s : State) (core : Nat) (tag : Nat), ((Instr.deadTargetTimeout core tag).wf) ∧ ((((s.core core).remotes.find? fun y => Nat.beq y.tag tag).all fun x
      => Nat.beq x.dst s.deviceId)) ∧ (((s.core core).remotes.any (fun y => Nat.beq y.tag tag) ∨ (((s.core core).copies.find? fun y => Nat.beq y.id
      tag).all fun x => Nat.beq (deviceOf x.src) s.deviceId && Nat.beq (deviceOf x.dst) s.deviceId)))) ∧
    (∃ (s : State), s.segmentReason = none) ∧
    (∃ (s : State) (c : Nat) (i : Nat) (base : Nat) (len : Nat), (s.fld Reg.SILK.SEG_SEL.COCOON = c) ∧ (s.fld Reg.SILK.SEG_SEL.INDEX = i) ∧ (s.fld
      Reg.SILK.SEG_BASE.BASE * 65536 = base) ∧ (s.fld Reg.SILK.SEG_LEN.LEN * 65536 = len) ∧ ((i < 17 ∨ len = 0 ∨ s.cocoonState c = 0 ∨ s.inExtent c
      base len = false ∨ (s.cocoon c).segments.any fun x => !Nat.beq x.1 i && x.2.valid && Nat.blt base (x.2.base + x.2.len) && Nat.blt x.2.base (base
      + len)))) ∧
    (∃ (s : State), 17 ≤ s.fld Reg.SILK.SEG_SEL.INDEX) ∧
    (∃ (s : State), s.fld Reg.SILK.SEG_SEL.INDEX < 17) :=
  ⟨⟨rqS, rq 1, 5, by decide +kernel⟩,
   ⟨rqS, rq 0x10, 5, by decide +kernel⟩,
   ⟨rqP, rq 0x10, 5, by decide +kernel⟩,
   ⟨rqS, rq 2, 5, by decide +kernel⟩,
   ⟨rqS, { rq 0 with compare := [255, 255, 0, 0, 1] }, 5, by decide +kernel⟩,
   ⟨rqS, { rq 0 with compare := [7, 0, 3, 2, 1] }, 5, 7, 3, by decide +kernel⟩,
   ⟨rqS, { rq 0 with compare := [8, 0, 3, 2, 1] }, 5, by decide +kernel⟩,
   ⟨rqS, {rq 2 with addr := 0x00F000000000}, by decide +kernel⟩,
   ⟨rqS, rq 5, by decide +kernel⟩,
   ⟨rqS, 9, 3, 77, spBase 7 + 64, 4, 0, 9 * 2^48, 5, by decide +kernel⟩,
   ⟨rqS, 9, 3, 77, spBase 7 + 64, 4, 0, 7 * 2^48 + spBase 7 + 66, 5, 5, by decide +kernel⟩,
   ⟨rqS, 9, 3, 77, spBase 7 + 64, 4, 2, 9 * 2^48, by decide +kernel⟩,
   ⟨rqP, 9, 3, 77, spBase 7 + 64, 4, 0, 9 * 2^48, 5, by decide +kernel⟩,
   ⟨roS, 7, 77, ⟨[1,2,3,4], false, none⟩, ro, by decide +kernel⟩,
   ⟨roS, 7, 77, ⟨[], false, some 3⟩, ro, 3, by decide +kernel⟩,
   ⟨roS, 7, 79, ⟨[1,2,3,4], true, none⟩, cp, by decide +kernel⟩,
   ⟨roS, 7, 79, ⟨[], true, some 2⟩, cp, 2, by decide +kernel⟩,
   ⟨roS, 7, 78, ⟨[1,2,3,4], false, none⟩, by decide +kernel⟩,
   ⟨roS, 7, 77, ro, by decide +kernel⟩,
   ⟨roS, 7, 79, cp, by decide +kernel⟩,
   ⟨roS, 7, 80, by decide +kernel⟩,
   ⟨sgS, by decide +kernel⟩,
   ⟨(sgS.setFld Reg.SILK.SEG_SEL.INDEX 16), 5, 16, 0x30000, 0x20000, by decide +kernel⟩,
   ⟨sgS.setSegment 5 17 ⟨true, 1, 2, 3⟩, by decide +kernel⟩,
   ⟨(sgS.setFld Reg.SILK.SEG_SEL.INDEX 16), by decide +kernel⟩⟩

end W09

namespace W10

def entB (id : Nat) (l : List Nat) : List Byte := leBytes 2 id ++ leBytes 2 l.length ++ (l.flatMap fun x => leBytes 2 x) ++ List.replicate (128 - 2 * l.length) 0
def mapB (mgr q : Nat) (es : List (Nat × List Nat)) : List Byte := List.replicate 6 0 ++ leBytes 2 es.length ++ leBytes 1 mgr ++ leBytes 1 q ++ List.replicate (0x140 - 10) 0 ++ es.flatMap fun e => entB e.1 e.2
def pS (mode : Nat) (m : List Byte) : State := let s := sE.setFlds [(Reg.SILK.DEVICE_ID.ID, 7), (Reg.POD.CFG.MODE, mode), (Reg.SILK_LINK.STATE.STATE 33, 2), (Reg.SILK_LINK.NEIGHBOUR.ID 33, 9)]; { s with pod := { s.pod with map := m } }
def m2 := mapB 2 2 [(5, [7]), (7, [5, 9]), (9, [7])]
def pSus (x v : Nat) : State := let s := pS 0 m2; { s with pod := { s.pod with link := [(x, v)] } }
def pEx : State := let s := pS 0 m2; { s with pod := { s.pod with expelled := [9] } }
def pSp : State := let s := pS 0 m2; { s with pod := { s.pod with spent := [1000] } }
def vr : VoteRec := ⟨9, 1, 1, 5, 100, List.replicate 64 3⟩
def vS : State := ((pS 1 m2).setFlds [(Reg.POD.VOTE_LO.ADDR, 0), (Reg.POD.VOTE_HI.ADDR, 0), (Reg.MEM.GROUP.VALID 0, 1), (Reg.MEM.GROUP.CHANNELS 0, 3), (Reg.MEM_CH.STATE.STATE 0, 2), (Reg.MEM_CH.STATE.STATE 1, 2),(Reg.COCOON.STATE.STATE 1, 1), (Reg.COCOON.EXT_COUNT.COUNT 1, 1), (Reg.COCOON.EXT_BASE.BASE 1 0, 0), (Reg.COCOON.EXT_LEN.LEN 1 0, 0x100)]).wrBytes 0 (voteSigned vr ++ vr.sig)
def m3 := mapB 2 1 [(5, [7]), (7, [5, 9]), (9, [7])]
def qS : State := sE.setFlds [(Reg.SILK.DEVICE_ID.ID, 7), (Reg.FN.FN_STATUS.STATE 3, 1), (Reg.FN.FN_STATUS.COCOON 3, 5)]
def pg (c : Course) : State := let s := qS; s.setCocoon 5 { s.cocoon 5 with prog := ⟨c, 0, 0, 1, 2, 3, 4⟩ }
def tg : SigTag := ⟨1, 2, 3, 0⟩
def lsS : State := (sE.setFlds [(Reg.LSTEP.CFG.EN 2, 1), (Reg.LSTEP.CFG.COCOON 2, 5), (Reg.LSTEP.STATUS.STATE 2, 1)]).setPair 2 ⟨[], [⟨tg, 4, 77, 9⟩], [], false⟩
def pd (f : PodUnit → PodUnit) (s : State) : State := { s with pod := f s.pod }
def pH : State := pd (fun p => {p with held := [9]}) pSp
def ra (s : State) : Nat := s.fld2 Reg.POD.VOTE_LO.ADDR Reg.POD.VOTE_HI.ADDR
def hl (s : State) (v : VoteRec) : List VoteRec := if s.pod.records.any (fun r => Nat.beq r.target v.target && Nat.beq r.verdict v.verdict && Nat.beq r.seq v.seq && Nat.beq r.manager v.manager) then s.pod.records else s.pod.records ++ [v]
def agr (s : State) (v : VoteRec) : List VoteRec := (hl s v).filter fun r => Nat.beq r.target v.target && Nat.beq r.verdict v.verdict && Nat.beq r.seq v.seq

theorem witness_pod_heartbeats_and_verdicts :
    (∃ (s : State) (link : Nat), ((Instr.heartbeatTransmit link).wf) ∧ ([2, 3, 4].contains (s.linkState link))) ∧
    (∃ (s : State) (link : Nat), ((Instr.heartbeatTransmit link).wf) ∧ ([2, 3, 4].contains (s.linkState link) = false)) ∧
    (∃ (s : State) (link : Nat) (n : Nat) (self : Nat) (q : Nat) (beat : Nat) (st : Nat), ((Instr.heartbeat link n self q beat st).wf) ∧ ([2, 3,
      4].contains (s.linkState link)) ∧ (s.isNeighbour n)) ∧
    (∃ (s : State) (link : Nat) (n : Nat) (self : Nat) (q : Nat) (beat : Nat) (st : Nat), ((Instr.heartbeat link n self q beat st).wf) ∧ (([2, 3,
      4].contains (s.linkState link) = false ∨ s.isNeighbour n = false))) ∧
    (∃ (s : State) (n : Nat), ((Instr.heartbeatMissing n).wf) ∧ (s.isNeighbour n)) ∧
    (∃ (s : State) (n : Nat), ((Instr.heartbeatMissing n).wf) ∧ (s.isNeighbour n = false)) ∧
    (∃ (s : State) (x : Nat) (yes : Bool), ((Instr.voteSend x).wf) ∧ (s.podHardware) ∧ (s.isNeighbour x) ∧ (s.suspect x) ∧ (x ∉ s.pod.expelled) ∧ (x ≠
      s.deviceId) ∧ (Nat.ble (s.health x) (s.fld Reg.POD.CFG.EXPEL_THR) = yes) ∧ (s.voteDest x ≠ some s.deviceId)) ∧
    (∃ (s : State) (x : Nat) (yes : Bool), ((Instr.voteSend x).wf) ∧ (s.podHardware) ∧ (s.isNeighbour x) ∧ (s.suspect x) ∧ (x ∉ s.pod.expelled) ∧ (x ≠
      s.deviceId) ∧ (Nat.ble (s.health x) (s.fld Reg.POD.CFG.EXPEL_THR) = yes) ∧ (s.voteDest x = some s.deviceId)) ∧
    (∃ (s : State) (x : Nat), ((Instr.voteSend x).wf) ∧ ((s.podHardware = false ∨ s.isNeighbour x = false ∨ s.suspect x = false ∨ x ∈ s.pod.expelled ∨ x =
      s.deviceId))) ∧
    (∃ (s : State) (voter : Nat) (x : Nat) (yes : Bool), ((Instr.voteReceive voter x yes).wf) ∧ (s.counts voter x) ∧ ((s.counting voter x yes).majority x)
      ∧ (s.inWindow.length < s.fld Reg.POD.CFG.BUDGET_E)) ∧
    (∃ (s : State) (voter : Nat) (x : Nat) (yes : Bool), ((Instr.voteReceive voter x yes).wf) ∧ (s.counts voter x) ∧ ((s.counting voter x yes).majority x)
      ∧ (s.fld Reg.POD.CFG.BUDGET_E ≤ s.inWindow.length) ∧ (x ∉ s.pod.held)) ∧
    (∃ (s : State) (voter : Nat) (x : Nat) (yes : Bool), ((Instr.voteReceive voter x yes).wf) ∧ (s.counts voter x) ∧ (((s.counting voter x yes).majority x
      = false ∨ (s.fld Reg.POD.CFG.BUDGET_E ≤ s.inWindow.length ∧ x ∈ s.pod.held)))) ∧
    (∃ (s : State) (voter : Nat) (x : Nat) (yes : Bool), ((Instr.voteReceive voter x yes).wf) ∧ (¬s.counts voter x)) ∧
    (∃ (s : State) (x : Nat) (y : Nat), ((Instr.voteRedirect x).wf) ∧ (Assoc.find x s.pod.yesSince = some y)) ∧
    (∃ (s : State) (x : Nat), ((Instr.voteRedirect x).wf) ∧ (Assoc.find x s.pod.yesSince = none)) ∧
    (∃ (s : State) (x : Nat) (voters : List Nat), ((Instr.expel x voters).wf) ∧ (s.podHardware) ∧ (x ∉ s.pod.expelled)) ∧
    (∃ (s : State) (x : Nat) (voters : List Nat), ((Instr.expel x voters).wf) ∧ ((s.podHardware = false ∨ x ∈ s.pod.expelled))) ∧
    (∃ (s : State) (x : Nat), ((Instr.hold x).wf) ∧ (s.podHardware) ∧ (x ∉ s.pod.expelled) ∧ (x ∉ s.pod.held)) ∧
    (∃ (s : State) (x : Nat), ((Instr.hold x).wf) ∧ ((s.podHardware = false ∨ x ∈ s.pod.expelled ∨ x ∈ s.pod.held))) ∧
    (∃ (s : State) (x : Nat), ((Instr.readmitMessage x).wf) ∧ (s.podHardware)) ∧
    (∃ (s : State) (x : Nat), ((Instr.readmitMessage x).wf) ∧ (s.podHardware = false)) ∧
    (∃ (s : State) (x : Nat) (u : State), (s.pod.spent.getLast? = some x) ∧ (s.advanceTo (x + s.fld Reg.POD.WINDOW.S * 1000000000) = u) ∧ (s.pod.held = [])) ∧
    (∃ (s : State) (x : Nat) (y : Nat) (u : State), (s.pod.spent.getLast? = some x) ∧ (s.advanceTo (x + s.fld Reg.POD.WINDOW.S * 1000000000) = u) ∧
      (s.pod.held = [y]) ∧ (y ∉ s.pod.expelled)) ∧
    (∃ (s : State), s.pod.spent = []) :=
  ⟨⟨(pS 0 m2), 33, by decide +kernel⟩,
   ⟨(pS 0 m2), 34, by decide +kernel⟩,
   ⟨(pS 0 m2), 33, 9, 200, 3, 77, 0, by decide +kernel⟩,
   ⟨(pS 0 m2), 34, 9, 200, 3, 77, 0, by decide +kernel⟩,
   ⟨(pS 0 m2), 9, by decide +kernel⟩,
   ⟨(pS 0 m2), 8, by decide +kernel⟩,
   ⟨(pSus 9 0), 9, true, by decide +kernel⟩,
   ⟨(pd (fun p => {p with moved := [(9,1)]}) (pSus 9 0)), 9, true, by decide +kernel⟩,
   ⟨(pS 0 m2), 9, by decide +kernel⟩,
   ⟨(pS 0 m2), 7, 9, true, by decide +kernel⟩,
   ⟨((pS 0 m2).setFld Reg.POD.CFG.BUDGET_E 0), 7, 9, true, by decide +kernel⟩,
   ⟨(pS 0 m2), 7, 9, false, by decide +kernel⟩,
   ⟨(pS 0 m2), 5, 9, true, by decide +kernel⟩,
   ⟨(pd (fun p => {p with yesSince := [(9,500)]}) (pS 0 m2)), 9, 500, by decide +kernel⟩,
   ⟨(pS 0 m2), 9, by decide +kernel⟩,
   ⟨(pS 0 m2), 9, [1], by decide +kernel⟩,
   ⟨pEx, 9, [1], by decide +kernel⟩,
   ⟨(pS 0 m2), 9, by decide +kernel⟩,
   ⟨pEx, 9, by decide +kernel⟩,
   ⟨pEx, 9, by decide +kernel⟩,
   ⟨(pS 1 m2), 9, by decide +kernel⟩,
   ⟨pSp, 1000, (pSp.advanceTo (1000 + pSp.fld Reg.POD.WINDOW.S * 1000000000)), by decide +kernel⟩,
   ⟨pH, 1000, 9, (pH.advanceTo (1000 + pSp.fld Reg.POD.WINDOW.S * 1000000000)), by decide +kernel⟩,
   ⟨(pS 0 m2), by decide +kernel⟩⟩

theorem witness_pod_records_and_quarantine :
    (∃ (s : State) (v : VoteRec) (a : Nat) (ok : Bool) (late : Bool) (held : List VoteRec) (agree : List VoteRec), (s.fld2 Reg.POD.VOTE_LO.ADDR
      Reg.POD.VOTE_HI.ADDR = a) ∧ (parseVote (s.rdBytes a 128) = v) ∧ (s.podHardware = false) ∧ (s.inRegion 1 a 128) ∧ (ok ∈ [true, false]) ∧
      ((Nat.blt v.notAfter (s.now / 1000000000) || (Assoc.find v.target s.pod.applied).any fun q => Nat.ble v.seq q) = late) ∧ ((if s.pod.records.any
      (fun r => Nat.beq r.target v.target && Nat.beq r.verdict v.verdict && Nat.beq r.seq v.seq && Nat.beq r.manager v.manager) then s.pod.records
      else s.pod.records ++ [v]) = held) ∧ (held.filter (fun r => Nat.beq r.target v.target && Nat.beq r.verdict v.verdict && Nat.beq r.seq v.seq) =
      agree)) ∧
    (∃ (s : State), (s.podHardware ∨ s.inRegion 1 (s.fld2 Reg.POD.VOTE_LO.ADDR Reg.POD.VOTE_HI.ADDR) 128 = false)) ∧
    (∃ (s : State) (v : VoteRec), ((Instr.voteRecordsFlood [v]).wf) ∧ (s.podHardware = false) ∧ (v.manager < podManagers s.pod.map) ∧ (s.now / 1000000000 ≤
      v.notAfter) ∧ (Assoc.find v.target s.pod.applied = none) ∧ (v.verdict = 1) ∧ (podQuorum s.pod.map = 1)) ∧
    (∃ (s : State) (v : VoteRec), ((Instr.voteRecordsFlood [v]).wf) ∧ (s.podHardware = false) ∧ ((podManagers s.pod.map ≤ v.manager ∨ v.notAfter < s.now /
      1000000000 ∨ (Assoc.find v.target s.pod.applied).any (fun q => Nat.ble v.seq q)))) ∧
    (∃ (_ : State) (v : VoteRec) (l : List VoteRec), (Instr.voteRecordsFlood (v :: l)).wf) ∧
    (∃ (s : State) (l : List VoteRec), ((Instr.voteRecordsFlood l).wf) ∧ ((s.podHardware ∨ l = []))) ∧
    (∃ (s : State) (x : Nat) (k : Nat), (s.fld Reg.POD.HSEL.DEVICE = x) ∧ (s.podHardware) ∧ (x ∈ s.pod.expelled) ∧ (s.podLive.head? = some k)) ∧
    (∃ (s : State), s.fld Reg.POD.HSEL.DEVICE ∉ s.pod.expelled) ∧
    (∃ (s : State), (s.fld Reg.POD.HSEL.DEVICE ∈ s.pod.expelled) ∧ ((s.podHardware = false ∨ s.podLive = []))) ∧
    (∃ (s : State) (fn : Nat) (device : Nat) (c : Nat), ((Instr.quarantine fn device).wf) ∧ (s.tenantBound fn) ∧ (s.fnCocoon fn = c) ∧ (device ∉ (s.cocoon
      c).quar) ∧ ((s.cocoon c).quar.length < 16)) ∧
    (∃ (s : State) (fn : Nat) (device : Nat), ((Instr.quarantine fn device).wf) ∧ (s.tenantBound fn) ∧ (device ∉ (s.cocoon (s.fnCocoon fn)).quar) ∧ (16 ≤
      (s.cocoon (s.fnCocoon fn)).quar.length)) ∧
    (∃ (s : State) (fn : Nat) (device : Nat), ((Instr.quarantine fn device).wf) ∧ ((s.tenantBound fn = false ∨ device ∈ (s.cocoon (s.fnCocoon fn)).quar))) ∧
    (∃ (s : State) (fn : Nat) (device : Nat), ((Instr.quarantineClear fn device).wf) ∧ (s.tenantBound fn)) ∧
    (∃ (s : State) (fn : Nat) (device : Nat), ((Instr.quarantineClear fn device).wf) ∧ (s.tenantBound fn = false)) :=
  ⟨⟨vS, vr, (ra vS), true, false, (hl vS vr), (agr vS vr), by decide +kernel⟩,
   ⟨(pS 0 m2), by decide +kernel⟩,
   ⟨(pS 1 m3), vr, by decide +kernel⟩,
   ⟨(pS 1 m3), {vr with manager := 2}, by decide +kernel⟩,
   ⟨(pS 1 m3), vr, [vr], by decide +kernel⟩,
   ⟨(pS 0 m3), [vr], by decide +kernel⟩,
   ⟨(pEx.setFld Reg.POD.HSEL.DEVICE 9), 9, 5, by decide +kernel⟩,
   ⟨(pS 0 m3), by decide +kernel⟩,
   ⟨((pd (fun p => {p with expelled := [9]}) (pS 1 m2)).setFld Reg.POD.HSEL.DEVICE 9), by decide +kernel⟩,
   ⟨qS, 3, 9, 5, by decide +kernel⟩,
   ⟨(let s := qS; s.setCocoon 5 { s.cocoon 5 with quar := List.range 16 }), 3, 99, by decide +kernel⟩,
   ⟨(let s := qS; s.setCocoon 5 { s.cocoon 5 with quar := [9] }), 3, 9, by decide +kernel⟩,
   ⟨(let s := qS; s.setCocoon 5 { s.cocoon 5 with quar := [9, 10] }), 3, 9, by decide +kernel⟩,
   ⟨qS, 4, 9, by decide +kernel⟩⟩

theorem witness_progress_marks_and_signatures :
    (∃ (s : State) (fn : Nat) (a : Nat) (f : Nat) (u : Nat) (o : Nat) (l : Nat) (p : Nat), ((Instr.resume fn).wf) ∧ (s.tenantBound fn) ∧ ((s.cocoon
      (s.fnCocoon fn)).prog = ⟨.none, a, f, u, o, l, p⟩)) ∧
    (∃ (s : State) (fn : Nat) (a : Nat) (f : Nat) (u : Nat) (o : Nat) (l : Nat) (p : Nat), ((Instr.resume fn).wf) ∧ (s.tenantBound fn) ∧ ((s.cocoon
      (s.fnCocoon fn)).prog = ⟨.rolledBack, a, f, u, o, l, p⟩)) ∧
    (∃ (s : State) (fn : Nat) (a : Nat) (f : Nat) (u : Nat) (o : Nat) (l : Nat) (p : Nat), ((Instr.resume fn).wf) ∧ (s.tenantBound fn) ∧ ((s.cocoon
      (s.fnCocoon fn)).prog = ⟨.running, a, f, u, o, l, p⟩)) ∧
    (∃ (s : State) (fn : Nat) (a : Nat) (f : Nat) (u : Nat) (o : Nat) (l : Nat) (p : Nat), ((Instr.resume fn).wf) ∧ (s.tenantBound fn) ∧ ((s.cocoon
      (s.fnCocoon fn)).prog = ⟨.checkpoint, a, f, u, o, l, p⟩)) ∧
    (∃ (s : State) (fn : Nat) (a : Nat) (f : Nat) (u : Nat) (o : Nat) (l : Nat) (p : Nat), ((Instr.ckptStart fn).wf) ∧ (s.tenantBound fn) ∧ ((s.cocoon
      (s.fnCocoon fn)).prog = ⟨.running, a, f, u, o, l, p⟩)) ∧
    (∃ (s : State) (fn : Nat) (k : Course) (a : Nat) (f : Nat) (u : Nat) (o : Nat) (l : Nat) (p : Nat), (k ∈ [Course.none, .checkpoint, .rolledBack]) ∧
      ((Instr.ckptStart fn).wf) ∧ (s.tenantBound fn) ∧ ((s.cocoon (s.fnCocoon fn)).prog = ⟨k, a, f, u, o, l, p⟩)) ∧
    (∃ (s : State) (fn : Nat) (a : Nat) (f : Nat) (u : Nat) (o : Nat) (l : Nat) (p : Nat), ((Instr.ckptDone fn).wf) ∧ (s.tenantBound fn) ∧ ((s.cocoon
      (s.fnCocoon fn)).prog = ⟨.checkpoint, a, f, u, o, l, p⟩)) ∧
    (∃ (s : State) (fn : Nat) (k : Course) (a : Nat) (f : Nat) (u : Nat) (o : Nat) (l : Nat) (p : Nat), (k ∈ [Course.none, .running, .rolledBack]) ∧
      ((Instr.ckptDone fn).wf) ∧ (s.tenantBound fn) ∧ ((s.cocoon (s.fnCocoon fn)).prog = ⟨k, a, f, u, o, l, p⟩)) ∧
    (∃ (s : State) (fn : Nat) (k : Course) (a : Nat) (f : Nat) (u : Nat) (o : Nat) (l : Nat) (p : Nat), (k ∈ [Course.running, .checkpoint]) ∧
      ((Instr.rollback fn).wf) ∧ (s.tenantBound fn) ∧ ((s.cocoon (s.fnCocoon fn)).prog = ⟨k, a, f, u, o, l, p⟩)) ∧
    (∃ (s : State) (fn : Nat) (a : Nat) (f : Nat) (u : Nat) (o : Nat) (l : Nat) (p : Nat), ((Instr.rollback fn).wf) ∧ (s.tenantBound fn) ∧ ((s.cocoon
      (s.fnCocoon fn)).prog = ⟨.rolledBack, a, f, u, o, l, p⟩)) ∧
    (∃ (s : State) (fn : Nat) (a : Nat) (f : Nat) (u : Nat) (o : Nat) (l : Nat) (p : Nat), ((Instr.rollback fn).wf) ∧ (s.tenantBound fn) ∧ ((s.cocoon
      (s.fnCocoon fn)).prog = ⟨.none, a, f, u, o, l, p⟩)) ∧
    (∃ (s : State) (fn : Nat) (c : Instr), (c ∈ [Instr.resume fn, .ckptStart fn, .ckptDone fn, .rollback fn]) ∧ (c.wf) ∧ (s.tenantBound fn = false)) ∧
    (∃ (s : State) (pair : Nat) (r : SigRec) (x : SigRec), ((Instr.signatureReceive pair [r]).wf) ∧ (s.comparing pair) ∧ (((s.pair pair).own.find? fun y =>
      y.tag == r.tag) = some x)) ∧
    (∃ (s : State) (pair : Nat) (r : SigRec), ((Instr.signatureReceive pair [r]).wf) ∧ (s.comparing pair) ∧ (((s.pair pair).own.find? fun y => y.tag ==
      r.tag) = none) ∧ ((s.pair pair).own.length + (s.pair pair).theirs.length < 4096)) ∧
    (∃ (s : State) (pair : Nat) (r : SigRec), ((Instr.signatureReceive pair [r]).wf) ∧ (s.comparing pair) ∧ (((s.pair pair).own.find? fun y => y.tag ==
      r.tag) = none) ∧ (4096 ≤ (s.pair pair).own.length + (s.pair pair).theirs.length)) ∧
    (∃ (_ : State) (pair : Nat) (r : SigRec) (l : List SigRec), (Instr.signatureReceive pair (r :: l)).wf) ∧
    (∃ (s : State) (pair : Nat) (l : List SigRec), ((Instr.signatureReceive pair l).wf) ∧ ((s.comparing pair = false ∨ l = []))) ∧
    (∃ (s : State) (pair : Nat) (x : SigRec), ((Instr.signatureTimeout pair x.tag).wf) ∧ (s.comparing pair) ∧ (((s.pair pair).own.find? fun y => y.tag ==
      x.tag) = some x)) ∧
    (∃ (s : State) (pair : Nat) (x : SigRec), ((Instr.signatureTimeout pair x.tag).wf) ∧ (s.comparing pair) ∧ (((s.pair pair).own.find? fun y => y.tag ==
      x.tag) = none) ∧ (((s.pair pair).theirs.find? fun y => y.tag == x.tag) = some x)) ∧
    (∃ (s : State) (pair : Nat) (tag : SigTag), ((Instr.signatureTimeout pair tag).wf) ∧ ((s.comparing pair = false ∨ ((s.pair pair).own ++ (s.pair
      pair).theirs).all fun y => y.tag != tag))) :=
  ⟨⟨(pg .none), 3, 0, 0, 1, 2, 3, 4, by decide +kernel⟩,
   ⟨(pg .rolledBack), 3, 0, 0, 1, 2, 3, 4, by decide +kernel⟩,
   ⟨(pg .running), 3, 0, 0, 1, 2, 3, 4, by decide +kernel⟩,
   ⟨(pg .checkpoint), 3, 0, 0, 1, 2, 3, 4, by decide +kernel⟩,
   ⟨(pg .running), 3, 0, 0, 1, 2, 3, 4, by decide +kernel⟩,
   ⟨(pg .none), 3, .none, 0, 0, 1, 2, 3, 4, by decide +kernel⟩,
   ⟨(pg .checkpoint), 3, 0, 0, 1, 2, 3, 4, by decide +kernel⟩,
   ⟨(pg .none), 3, .none, 0, 0, 1, 2, 3, 4, by decide +kernel⟩,
   ⟨(pg .running), 3, .running, 0, 0, 1, 2, 3, 4, by decide +kernel⟩,
   ⟨(pg .rolledBack), 3, 0, 0, 1, 2, 3, 4, by decide +kernel⟩,
   ⟨(pg .none), 3, 0, 0, 1, 2, 3, 4, by decide +kernel⟩,
   ⟨qS, 4, (.resume 4), by decide +kernel⟩,
   ⟨lsS, 2, ⟨tg, 8, 77, 9⟩, ⟨tg, 4, 77, 9⟩, by decide +kernel⟩,
   ⟨lsS, 2, ⟨{tg with entry := 9}, 8, 78, 9⟩, by decide +kernel⟩,
   ⟨(lsS.setPair 2 ⟨[], List.replicate 4096 ⟨tg, 4, 77, 9⟩, [], false⟩), 2, ⟨{tg with entry := 9}, 8, 78, 9⟩, by decide +kernel⟩,
   ⟨lsS, 2, ⟨tg, 8, 77, 9⟩, [⟨tg, 8, 77, 9⟩], by decide +kernel⟩,
   ⟨lsS, 1, [⟨tg, 8, 77, 9⟩], by decide +kernel⟩,
   ⟨lsS, 2, ⟨tg, 4, 77, 9⟩, by decide +kernel⟩,
   ⟨(lsS.setPair 2 ⟨[], [], [⟨tg, 4, 77, 9⟩], false⟩), 2, ⟨tg, 4, 77, 9⟩, by decide +kernel⟩,
   ⟨lsS, 2, {tg with entry := 9}, by decide +kernel⟩⟩

end W10

namespace W11

def aS : State := (sE.setFlds [(Reg.STAIDO.STATE.STATE, 2), (Reg.STAIDO.LANES.UP, 15), (Reg.STAIDO.RATE.GBPS, 1600), (Reg.FN.FN_STATUS.STATE 256, 1), (Reg.FN.FN_STATUS.STATE 37, 1), (Reg.FN.FN_STATUS.COCOON 37, 5), (Reg.COCOON.STATE.STATE 5, 1)])
def fS : State := aS.setFlds [(Reg.FN.SQ_CFG.ENABLE 37 3, 1), (Reg.FN.SQ_CFG.SIZE_LOG2 37 3, 4), (Reg.FN.SQ_CFG.RING 37 3, 2), (Reg.FN.CQ_CFG.ENABLE 37 2, 1), (Reg.FN.CQ_CFG.SIZE_LOG2 37 2, 4),
  (Reg.FN.FN_CFG.SV_BASE 37, 100), (Reg.FN.FN_CFG.SV_COUNT 37, 64), (Reg.FN.CQ_COAL.TIME_US 37 2, 5), (Reg.FN.CQ_COAL.VEC 37 2, 33), (Reg.FN.SQ_BASE_LO.BASE 37 4, 0x10000), (Reg.FN.CQ_BASE_LO.BASE 37 3, 0x20000), (Reg.FN.CQ_COAL.VEC 37 3, 7)]
def mS : State := aS.setFlds [(Reg.FN.SQ_CFG.ENABLE 256 3, 1), (Reg.FN.SQ_CFG.SIZE_LOG2 256 3, 4), (Reg.FN.SQ_CFG.RING 256 3, 2), (Reg.FN.CQ_CFG.ENABLE 256 2, 1), (Reg.FN.CQ_CFG.SIZE_LOG2 256 2, 4), (Reg.FN.SQ_BASE_HI.BASE 256 3, 0x8000), (Reg.FN.SQ_BASE_LO.BASE 256 3, 0)]
def dS : State := { (fS.setFld Reg.STAIDO.STATE.STATE 4).setQueue 37 3 ⟨1, false, false, [List.replicate 64 3], []⟩ with runs := [{ (run0 11 5 7) with cmd := some ⟨37, 3, List.replicate 64 1, 0⟩ }], waits := [⟨3, 5, ⟨37, 3, [], 0⟩, .unload 5⟩] }
def tS : State := (dS.setFlds [(Reg.STAIDO.STATE.STATE, 1), (Reg.FN.FN_STATUS.STATE 37, 3)])
def oS : State := { tS.setFn 37 { FnState.fresh with reads := [⟨9, 0x1000, 64, .other⟩] } with staido := { tS.staido with owed := true } }.setCore 7 { Core.fresh with copies := [⟨1, 2, [0, 0], hostBase, 0, 64, 0, 0, 0, 0, 0, false, [], false, 0⟩, ⟨2, 2, [0, 0], 0, 0, 64, 0, 0, 0, 0, 0, false, [], false, 0⟩] }
def half1 : State := aS.setFlds [(Reg.STAIDO.STATE.STATE, 3), (Reg.STAIDO.LANES.UP, 3), (Reg.STAIDO.RATE.GBPS, 800)]
def offS : State := aS.setFld Reg.STAIDO.STATE.STATE 0
def ms1 : State := mS.setFn 256 { mS.fn 256 with tt := [⟨0, 0, 0, true⟩] }
def bs (s : State) (fn q : Nat) : Nat := s.fld2 (Reg.FN.SQ_BASE_LO.BASE fn q) (Reg.FN.SQ_BASE_HI.BASE fn q)
def qr : State := fS.setFn 37 { FnState.fresh with queues := [(3, ⟨1, false, true, [], []⟩)], reads := [⟨9, 0x1000, 64, .sqEntry 3⟩] }
def rd1 (fn : Nat) (w : RdWhy) (len : Nat) : State := fS.setFn fn { FnState.fresh with reads := [⟨9, 0x1000, len, w⟩] }
def cp1 : State := (rd1 37 (.copyData 7 2 4) 8).setCore 7 { Core.fresh with copies := [⟨1, 2, [0, 0], hostBase, 0, 64, 0, 0, 0, 0, 0, false, [], false, 0⟩, ⟨2, 2, [0, 0], 0, 0, 64, 0, 0, 0, 0, 0, false, [1,2,3,4], false, 0⟩] }
def rop : RemoteOp := ⟨5, 2, [], opLoad, hostBase, 8, 0, 3, 1, 64, 128, 0, [], []⟩
def op1 : State := (rd1 37 (.opData 7 5) 8).setCore 7 { Core.fresh with remotes := [rop] }
def op2 : State := { op1 with sram := [] }
def fe : FapiEntry := ⟨4, 0, idDl, 8, [], true, false, 0⟩
def fa1 : State := let s := rd1 257 (.fapi 4 0) 8; { s with radio := { s.radio with inbox := [fe] } }
def oR : State := { oS with cores := [(7, { Core.fresh with remotes := [rop] })] }

theorem witness_staido_lanes_and_halves :
    (∃ (s : State) (h : Nat), ((Instr.halfDown h).wf) ∧ (s.linkUp) ∧ (s.halfUp h) ∧ (s.halfUp (1 - h))) ∧
    (∃ (s : State) (h : Nat), ((Instr.halfDown h).wf) ∧ (s.linkUp) ∧ (s.halfUp h) ∧ (s.halfUp (1 - h) = false)) ∧
    (∃ (s : State) (h : Nat), ((Instr.halfDown h).wf) ∧ ((s.linkUp = false ∨ s.halfUp h = false))) ∧
    (∃ (s : State) (h : Nat), ((Instr.halfRejoin h).wf) ∧ (s.linkUp) ∧ (s.halfUp h = false)) ∧
    (∃ (s : State) (h : Nat), ((Instr.halfRejoin h).wf) ∧ ((s.linkUp = false ∨ s.halfUp h))) ∧
    (∃ (s : State) (lane : Nat) (seq : Nat) (ack : Nat), ((Instr.staidoFlitReceive lane true true seq ack false).wf) ∧ (s.linkUp) ∧ (s.halfUp (lane / 2))) ∧
    (∃ (s : State) (lane : Nat) (seq : Nat) (k : Nat) (nak : Bool), ((Instr.staidoFlitReceive lane true true seq (((s.lane lane).txSeq + 65536 - k) %
      65536) nak).wf) ∧ (s.linkUp) ∧ (s.halfUp (lane / 2)) ∧ ((s.lane lane).txSeq < 65536) ∧ (k ≤ (s.lane lane).unacked) ∧ ((s.lane lane).unacked <
      65536) ∧ ((nak → (s.lane lane).naks < 7))) ∧
    (∃ (s : State) (lane : Nat) (seq : Nat), ((Instr.staidoFlitReceive lane true true seq (((s.lane lane).txSeq + 65536 - (s.lane lane).unacked) % 65536)
      true).wf) ∧ (s.linkUp) ∧ (s.halfUp (lane / 2)) ∧ ((s.lane lane).txSeq < 65536) ∧ ((s.lane lane).unacked < 65536) ∧ (7 ≤ (s.lane lane).naks)) ∧
    (∃ (s : State) (lane : Nat) (crcOk : Bool) (seq : Nat) (ack : Nat) (nak : Bool), ((Instr.staidoFlitReceive lane false crcOk seq ack nak).wf) ∧
      (s.linkUp) ∧ (s.halfUp (lane / 2))) ∧
    (∃ (s : State) (lane : Nat) (seq : Nat) (ack : Nat) (nak : Bool), ((Instr.staidoFlitReceive lane true false seq ack nak).wf) ∧ (s.linkUp) ∧ (s.halfUp
      (lane / 2))) ∧
    (∃ (s : State) (lane : Nat) (fecOk : Bool) (crcOk : Bool) (seq : Nat) (ack : Nat) (nak : Bool), ((Instr.staidoFlitReceive lane fecOk crcOk seq ack
      nak).wf) ∧ ((s.linkUp = false ∨ s.halfUp (lane / 2) = false))) :=
  ⟨⟨(aS.setLane 1 ⟨9, 4, 5, 0⟩), 0, by decide +kernel⟩,
   ⟨half1, 0, by decide +kernel⟩,
   ⟨offS, 0, by decide +kernel⟩,
   ⟨half1, 1, by decide +kernel⟩,
   ⟨aS, 0, by decide +kernel⟩,
   ⟨(aS.setLane 3 ⟨9, 4, 65535, 0⟩), 3, 65535, 7, by decide +kernel⟩,
   ⟨(aS.setLane 3 ⟨9, 4, 65535, 0⟩), 3, 65535, 2, false, by decide +kernel⟩,
   ⟨(aS.setLane 3 ⟨9, 4, 65535, 7⟩), 3, 65535, by decide +kernel⟩,
   ⟨aS, 3, true, 1, 2, true, by decide +kernel⟩,
   ⟨aS, 3, 1, 2, true, by decide +kernel⟩,
   ⟨half1, 3, true, true, 1, 2, true, by decide +kernel⟩⟩

theorem witness_doorbells_rings_vectors_and_queues :
    (∃ (s : State) (fn : Nat) (q : Nat) (tail : Nat), ((Instr.sqTailDoorbell fn (8 * q) 4 tail).wf) ∧ (s.serves fn) ∧ (q < queuesOf fn) ∧ (s.sqOn fn q) ∧
      (tail % 65536 < 2 ^ s.fld (Reg.FN.SQ_CFG.SIZE_LOG2 fn q))) ∧
    (∃ (s : State) (fn : Nat) (q : Nat) (tail : Nat) (a : Nat) (pa : Nat) (v : Nat) (size : Nat) (p : Nat), ((Instr.sqTailDoorbell fn (8 * q) 4 tail).wf) ∧
      (s.serves fn) ∧ (q < queuesOf fn) ∧ (s.sqOn fn q) ∧ (tail % 65536 < 2 ^ s.fld (Reg.FN.SQ_CFG.SIZE_LOG2 fn q)) ∧ ((s.queue fn q).halted = false)
      ∧ ((s.queue fn q).reading = false) ∧ (s.fld (Reg.FN.SQ_HEAD.HEAD fn q) ≠ tail % 65536) ∧ (0 < s.ringFree fn (s.fld (Reg.FN.SQ_CFG.RING fn q))) ∧
      (s.fld (Reg.FN.FN_STATUS.STATE fn) = 1) ∧ (s.fld Reg.STAIDO.STATE.STATE ≠ 4) ∧ ((s.fn fn).reads.length < 64) ∧ (s.fld2 (Reg.FN.SQ_BASE_LO.BASE
      fn q) (Reg.FN.SQ_BASE_HI.BASE fn q) + s.fld (Reg.FN.SQ_HEAD.HEAD fn q) % 2 ^ s.fld (Reg.FN.SQ_CFG.SIZE_LOG2 fn q) * entryBytes fn = a) ∧ ((s.fn
      fn).tt = [⟨v, size, p, true⟩]) ∧ ((fn = 256 ∧ pa = a - hostBase ∨ fn ≠ 256 ∧ hostBase + v ≤ a ∧ a < hostBase + v + size ∧ pa = p + (a - hostBase
      - v)))) ∧
    (∃ (s : State) (fn : Nat) (q : Nat) (tail : Nat), ((Instr.sqTailDoorbell fn (8 * q) 4 tail).wf) ∧ (s.serves fn) ∧ (q < queuesOf fn) ∧ (s.sqOn fn q) ∧
      (tail % 65536 < 2 ^ s.fld (Reg.FN.SQ_CFG.SIZE_LOG2 fn q)) ∧ (((s.queue fn q).halted ∨ (s.queue fn q).reading ∨ s.fld (Reg.FN.SQ_HEAD.HEAD fn q)
      = tail % 65536 ∨ s.ringFree fn (s.fld (Reg.FN.SQ_CFG.RING fn q)) = 0 ∨ s.fld (Reg.FN.FN_STATUS.STATE fn) ≠ 1 ∨ s.fld Reg.STAIDO.STATE.STATE = 4
      ∨ 64 ≤ (s.fn fn).reads.length))) ∧
    (∃ (s : State) (fn : Nat) (q : Nat) (tail : Nat), ((Instr.sqTailDoorbell fn (8 * q) 4 tail).wf) ∧ (s.serves fn) ∧ (q < queuesOf fn) ∧ (s.sqOn fn q) ∧
      (2 ^ s.fld (Reg.FN.SQ_CFG.SIZE_LOG2 fn q) ≤ tail % 65536)) ∧
    (∃ (s : State) (fn : Nat) (off : Nat) (size : Nat) (tail : Nat), ((Instr.sqTailDoorbell fn off size tail).wf) ∧ (s.serves fn) ∧ ((size ≠ 4 ∨ off % 8 ≠
      0 ∨ queuesOf fn ≤ off / 8 ∨ s.sqOn fn (off / 8) = false))) ∧
    (∃ (s : State) (fn : Nat) (off : Nat) (size : Nat) (tail : Nat), ((Instr.sqTailDoorbell fn off size tail).wf) ∧ (s.serves fn = false)) ∧
    (∃ (s : State) (fn : Nat) (tag : Nat) (d : HostData) (q : Nat) (x : MemRd), ((Instr.memRdCompletion fn tag d).wf) ∧ (s.linkUp) ∧ (((s.fn fn).reads.take
      64).find? (fun x => Nat.beq x.tag tag) = some x) ∧ (x.why = .sqEntry q)) ∧
    (∃ (s : State) (fn : Nat) (q : Nat) (tag : Nat) (a : Nat) (b : List Byte), ((Instr.memRdCompletion fn tag (.data b)).wf) ∧ (fn ≠ 257) ∧ (s.serves fn) ∧
      (s.sqOn fn q) ∧ ((s.queue fn q).reading) ∧ ((s.fn fn).reads = [⟨tag, a, 64, .sqEntry q⟩])) ∧
    (∃ (s : State) (fn : Nat) (tag : Nat) (d : HostData) (a : Nat) (len : Nat), ((Instr.memRdCompletion fn tag d).wf) ∧ (s.linkUp) ∧ ((s.fn fn).reads =
      [⟨tag, a, len, .other⟩])) ∧
    (∃ (s : State) (fn : Nat) (tag : Nat) (b : List Byte) (a : Nat) (len : Nat) (core : Nat) (id : Nat) (off : Nat), ((Instr.memRdCompletion fn tag (.data
      b)).wf) ∧ (s.linkUp) ∧ ((s.fn fn).reads = [⟨tag, a, len, .copyData core id off⟩])) ∧
    (∃ (s : State) (fn : Nat) (tag : Nat) (a : Nat) (len : Nat) (core : Nat) (id : Nat) (off : Nat) (c : CopyOp), ((Instr.memRdCompletion fn tag
      .error).wf) ∧ (s.linkUp) ∧ ((s.fn fn).reads = [⟨tag, a, len, .copyData core id off⟩]) ∧ (((s.core core).copies.find? fun c => Nat.beq c.id id) =
      some c)) ∧
    (∃ (s : State) (fn : Nat) (tag : Nat) (a : Nat) (len : Nat) (core : Nat) (x : RemoteOp), ((Instr.memRdCompletion fn tag .error).wf) ∧ (s.linkUp) ∧
      ((s.fn fn).reads = [⟨tag, a, len, .opData core x.tag⟩]) ∧ (((s.core core).remotes.find? fun r => Nat.beq r.tag x.tag) = some x)) ∧
    (∃ (s : State) (fn : Nat) (tag : Nat) (b : List Byte) (a : Nat) (len : Nat) (core : Nat) (x : RemoteOp), ((Instr.memRdCompletion fn tag (.data b)).wf)
      ∧ (s.linkUp) ∧ ((s.fn fn).reads = [⟨tag, a, len, .opData core x.tag⟩]) ∧ (((s.core core).remotes.find? fun r => Nat.beq r.tag x.tag) = some x) ∧
      (x.op = opLoad) ∧ (s.sram = []) ∧ (x.posts = []) ∧ (x.size = len) ∧ (x.local_ + x.size ≤ 0x200000) ∧ (x.status + 4 ≤ 0x200000) ∧ ((x.local_ +
      x.size ≤ x.status ∨ x.status + 4 ≤ x.local_)) ∧ (core < 2048)) ∧
    (∃ (s : State) (tag : Nat) (d : HostData) (a : Nat) (len : Nat) (num : Nat) (off : Nat) (e : FapiEntry), ((Instr.memRdCompletion 257 tag d).wf) ∧
      (s.linkUp) ∧ ((s.fn 257).reads = [⟨tag, a, len, .fapi num off⟩]) ∧ (s.radio.inbox = [e]) ∧ (e.num = num)) ∧
    (∃ (s : State) (fn : Nat) (tag : Nat) (d : HostData), ((Instr.memRdCompletion fn tag d).wf) ∧ ((s.linkUp = false ∨ (((s.fn fn).reads.take 64).any fun x
      => Nat.beq x.tag tag) = false))) ∧
    (∃ (s : State) (fn : Nat) (r : Nat) (d : Nat), ((Instr.cqHeadDoorbell fn (0x800 + 8 * r) 4 (((s.ring fn r).released + d) % 2 ^ s.fld
      (Reg.FN.CQ_CFG.SIZE_LOG2 fn r))).wf) ∧ (s.serves fn) ∧ (r < queuesOf fn) ∧ (s.cqOn fn r) ∧ (s.fld (Reg.FN.CQ_CFG.SIZE_LOG2 fn r) ≤ 16) ∧ (d < 2
      ^ s.fld (Reg.FN.CQ_CFG.SIZE_LOG2 fn r)) ∧ ((s.ring fn r).released + d ≤ (s.ring fn r).written)) ∧
    (∃ (s : State) (fn : Nat) (off : Nat) (size : Nat) (head : Nat), ((Instr.cqHeadDoorbell fn off size head).wf) ∧ (s.serves fn) ∧ ((size ≠ 4 ∨ off <
      0x800 ∨ (off - 0x800) % 8 ≠ 0 ∨ queuesOf fn ≤ (off - 0x800) / 8 ∨ s.cqOn fn ((off - 0x800) / 8) = false ∨ 2 ^ s.fld (Reg.FN.CQ_CFG.SIZE_LOG2 fn
      ((off - 0x800) / 8)) ≤ head % 65536 ∨ (s.ring fn ((off - 0x800) / 8)).written < (s.ring fn ((off - 0x800) / 8)).released + s.releases fn ((off -
      0x800) / 8) (head % 65536)))) ∧
    (∃ (s : State) (fn : Nat) (off : Nat) (size : Nat) (head : Nat), ((Instr.cqHeadDoorbell fn off size head).wf) ∧ (s.serves fn = false)) ∧
    (∃ (s : State) (fn : Nat) (r : Nat) (x : Nat) (v : Nat), ((Instr.coalesceTimeout fn r).wf) ∧ (s.linkUp) ∧ ((s.ring fn r).countFrom = some x) ∧ (s.fld
      (Reg.FN.CQ_COAL.TIME_US fn r) ≠ 0) ∧ (s.fld (Reg.FN.CQ_COAL.VEC fn r) = v) ∧ ((s.fld (Reg.FN.SV_MASK.MASK fn (v / 32))).testBit (v % 32) =
      false)) ∧
    (∃ (s : State) (fn : Nat) (r : Nat) (x : Nat) (v : Nat), ((Instr.coalesceTimeout fn r).wf) ∧ ((s.ring fn r).countFrom = some x) ∧ (s.fld
      (Reg.FN.CQ_COAL.TIME_US fn r) ≠ 0) ∧ (s.fld (Reg.FN.CQ_COAL.VEC fn r) = v) ∧ (v < 256) ∧ ((s.fld (Reg.FN.SV_MASK.MASK fn (v / 32))).testBit (v %
      32))) ∧
    (∃ (s : State) (fn : Nat) (r : Nat), ((Instr.coalesceTimeout fn r).wf) ∧ (((s.ring fn r).countFrom = none ∨ s.fld (Reg.FN.CQ_COAL.TIME_US fn r) = 0))) ∧
    (∃ (s : State) (fn : Nat) (i : Nat) (w : Word), ((Instr.svMaskWrite fn i w).wf) ∧ (s.serves fn)) ∧
    (∃ (s : State) (fn : Nat) (i : Nat) (w : Word), ((Instr.svMaskWrite fn i w).wf) ∧ (s.serves fn = false)) ∧
    (∃ (_ : State) (fn : Nat), ((Instr.inval fn).wf) ∧ (fn ≠ 256)) ∧
    (∃ (s : State) (fn : Nat), ((Instr.invalDone fn).wf) ∧ ((s.fn fn).inval = [])) ∧
    (∃ (s : State) (fn : Nat), ((Instr.invalDone fn).wf) ∧ ((s.fn fn).inval ≠ [])) ∧
    (∃ (s : State) (who : Issuer) (fn : Nat), ((Instr.functionClear who fn).wf) ∧ (s.mayReach who (fnPage fn)) ∧ (s.fld (Reg.FN.FN_STATUS.STATE fn) = 2) ∧
      (((List.range (queuesOf fn)).all fun q => !s.sqOn fn q))) ∧
    (∃ (s : State) (who : Issuer) (fn : Nat), ((Instr.functionClear who fn).wf) ∧ (s.mayReach who (fnPage fn)) ∧ ((s.fld (Reg.FN.FN_STATUS.STATE fn) ≠ 2 ∨
      ((List.range (queuesOf fn)).any fun q => s.sqOn fn q)))) ∧
    (∃ (s : State) (who : Issuer) (fn : Nat), ((Instr.functionClear who fn).wf) ∧ (s.mayReach who (fnPage fn) = false)) ∧
    (∃ (s : State) (fn : Nat) (q : Nat) (w : Word), ((Instr.sqEnable fn q w).wf) ∧ (s.serves fn) ∧ (q < queuesOf fn) ∧ (s.sqOn fn q = false) ∧ (4 ≤ bitsOf
      w.toNat 0 4) ∧ (bitsOf w.toNat 0 4 ≤ 12) ∧ (s.fld (Reg.FN.SQ_BASE_LO.BASE fn q) % 4096 = 0) ∧ (bitsOf w.toNat 8 6 < queuesOf fn) ∧ (s.cqOn fn
      (bitsOf w.toNat 8 6)) ∧ (s.fld (Reg.FN.FN_STATUS.STATE fn) = 1)) ∧
    (∃ (s : State) (fn : Nat) (q : Nat) (w : Word) (size : Bool) (off : Bool) (ring : Bool), ((Instr.sqEnable fn q w).wf) ∧ (s.serves fn) ∧ (q < queuesOf
      fn) ∧ (s.sqOn fn q = false) ∧ ((Nat.blt (bitsOf w.toNat 0 4) 4 || Nat.blt 12 (bitsOf w.toNat 0 4)) = size) ∧ (!Nat.beq (s.fld
      (Reg.FN.SQ_BASE_LO.BASE fn q) % 4096) 0 = off) ∧ ((Nat.ble (queuesOf fn) (bitsOf w.toNat 8 6) || !s.cqOn fn (bitsOf w.toNat 8 6)) = ring) ∧
      ((size ∨ off ∨ ring ∨ s.fld (Reg.FN.FN_STATUS.STATE fn) ≠ 1))) ∧
    (∃ (s : State) (fn : Nat) (q : Nat) (w : Word), ((Instr.sqEnable fn q w).wf) ∧ ((s.serves fn = false ∨ queuesOf fn ≤ q ∨ s.sqOn fn q))) ∧
    (∃ (s : State) (fn : Nat) (q : Nat) (w : Word), ((Instr.sqDisable fn q w).wf) ∧ (s.serves fn) ∧ (q < queuesOf fn) ∧ (w.toNat.testBit 16 = false) ∧
      (s.sqOn fn q)) ∧
    (∃ (s : State) (fn : Nat) (q : Nat) (w : Word), ((Instr.sqDisable fn q w).wf) ∧ (s.serves fn) ∧ (q < queuesOf fn) ∧ (w.toNat.testBit 16 = false) ∧
      (s.sqOn fn q = false)) ∧
    (∃ (s : State) (fn : Nat) (q : Nat) (w : Word), ((Instr.sqDisable fn q w).wf) ∧ ((s.serves fn = false ∨ queuesOf fn ≤ q ∨ w.toNat.testBit 16))) ∧
    (∃ (s : State) (fn : Nat) (r : Nat) (w : Word), ((Instr.cqEnable fn r w).wf) ∧ (s.serves fn) ∧ (r < queuesOf fn) ∧ (s.cqOn fn r = false) ∧ (4 ≤ bitsOf
      w.toNat 0 5) ∧ (bitsOf w.toNat 0 5 ≤ 16) ∧ (s.fld (Reg.FN.CQ_COAL.COUNT fn r) ≠ 0) ∧ (s.fld (Reg.FN.CQ_COAL.VEC fn r) < s.fld
      (Reg.FN.FN_CFG.SV_COUNT fn)) ∧ (s.fld (Reg.FN.CQ_BASE_LO.BASE fn r) % 4096 = 0) ∧ ((fn = 257 → 65536 ≤ s.fld (Reg.FN.RBODY_LEN.LEN fn r) ∧ s.fld
      (Reg.FN.RBODY_BASE_LO.BASE fn r) % 64 = 0)) ∧ (s.fld (Reg.FN.FN_STATUS.STATE fn) = 1)) ∧
    (∃ (s : State) (fn : Nat) (r : Nat) (w : Word) (value : Bool) (off : Bool), ((Instr.cqEnable fn r w).wf) ∧ (s.serves fn) ∧ (r < queuesOf fn) ∧ (s.cqOn
      fn r = false) ∧ ((Nat.blt (bitsOf w.toNat 0 5) 4 || Nat.blt 16 (bitsOf w.toNat 0 5) || Nat.beq (s.fld (Reg.FN.CQ_COAL.COUNT fn r)) 0 || Nat.ble
      (s.fld (Reg.FN.FN_CFG.SV_COUNT fn)) (s.fld (Reg.FN.CQ_COAL.VEC fn r)) || (Nat.beq fn 257 && Nat.blt (s.fld (Reg.FN.RBODY_LEN.LEN fn r)) 65536))
      = value) ∧ ((!Nat.beq (s.fld (Reg.FN.CQ_BASE_LO.BASE fn r) % 4096) 0 || (Nat.beq fn 257 && !Nat.beq (s.fld (Reg.FN.RBODY_BASE_LO.BASE fn r) %
      64) 0)) = off) ∧ ((value ∨ off ∨ s.fld (Reg.FN.FN_STATUS.STATE fn) ≠ 1))) ∧
    (∃ (s : State) (fn : Nat) (r : Nat) (w : Word), ((Instr.cqEnable fn r w).wf) ∧ ((s.serves fn = false ∨ queuesOf fn ≤ r ∨ s.cqOn fn r))) ∧
    (∃ (s : State) (fn : Nat) (r : Nat) (w : Word), ((Instr.cqDisable fn r w).wf) ∧ (s.serves fn) ∧ (r < queuesOf fn) ∧ (w.toNat.testBit 16 = false) ∧
      (s.cqOn fn r) ∧ (((List.range (queuesOf fn)).all fun q => !s.sqOn fn q || !Nat.beq (s.fld (Reg.FN.SQ_CFG.RING fn q)) r))) ∧
    (∃ (s : State) (fn : Nat) (r : Nat) (q : Nat) (w : Word), ((Instr.cqDisable fn r w).wf) ∧ (s.serves fn) ∧ (r < queuesOf fn) ∧ (w.toNat.testBit 16 =
      false) ∧ (s.cqOn fn r) ∧ (q < queuesOf fn) ∧ (s.sqOn fn q) ∧ (s.fld (Reg.FN.SQ_CFG.RING fn q) = r)) ∧
    (∃ (s : State) (fn : Nat) (r : Nat) (w : Word), ((Instr.cqDisable fn r w).wf) ∧ (s.serves fn) ∧ (r < queuesOf fn) ∧ (w.toNat.testBit 16 = false) ∧
      (s.cqOn fn r = false)) ∧
    (∃ (s : State) (fn : Nat) (r : Nat) (w : Word), ((Instr.cqDisable fn r w).wf) ∧ ((s.serves fn = false ∨ queuesOf fn ≤ r ∨ w.toNat.testBit 16))) :=
  ⟨⟨fS, 37, 3, 5, by decide +kernel⟩,
   ⟨ms1, 256, 3, 5, (bs ms1 256 3), (bs ms1 256 3 - hostBase), 0, 0, 0, by decide +kernel⟩,
   ⟨(fS.setFld (Reg.FN.FN_STATUS.STATE 37) 2), 37, 3, 5, by decide +kernel⟩,
   ⟨fS, 37, 3, 16, by decide +kernel⟩,
   ⟨fS, 37, 32, 4, 3, by decide +kernel⟩,
   ⟨offS, 37, 24, 4, 3, by decide +kernel⟩,
   ⟨qr, 37, 9, .error, 3, ⟨9, 0x1000, 64, .sqEntry 3⟩, by decide +kernel⟩,
   ⟨qr, 37, 3, 9, 0x1000, (List.replicate 64 7), by decide +kernel⟩,
   ⟨(rd1 37 .other 8), 37, 9, .error, 0x1000, 8, by decide +kernel⟩,
   ⟨cp1, 37, 9, [1,2,3,4,5,6,7,8], 0x1000, 8, 7, 2, 4, by decide +kernel⟩,
   ⟨cp1, 37, 9, 0x1000, 8, 7, 2, 4, ⟨2, 2, [0, 0], 0, 0, 64, 0, 0, 0, 0, 0, false, [1,2,3,4], false, 0⟩, by decide +kernel⟩,
   ⟨op2, 37, 9, 0x1000, 8, 7, rop, by decide +kernel⟩,
   ⟨op2, 37, 9, [1,2,3,4,5,6,7,8], 0x1000, 8, 7, rop, by decide +kernel⟩,
   ⟨fa1, 9, .error, 0x1000, 8, 4, 0, fe, by decide +kernel⟩,
   ⟨fa1, 257, 8, .error, by decide +kernel⟩,
   ⟨(fS.setRing 37 2 { CplRing.fresh with written := 19, released := 13 }), 37, 2, 4, by decide +kernel⟩,
   ⟨(fS.setRing 37 2 { CplRing.fresh with written := 19, released := 13 }), 37, 0x810, 4, 4, by decide +kernel⟩,
   ⟨offS, 37, 0x810, 4, 4, by decide +kernel⟩,
   ⟨((fS.setRing 37 2 { CplRing.fresh with written := 9, released := 3, pendingCount := 2, countFrom := some 700 }).setFld (Reg.FN.SV_MASK.MASK 37 1) 0),
      37, 2, 700, 33, by decide +kernel⟩,
   ⟨((fS.setRing 37 2 { CplRing.fresh with written := 9, released := 3, pendingCount := 2, countFrom := some 700 }).setFld (Reg.FN.SV_MASK.MASK 37 1) 2),
      37, 2, 700, 33, by decide +kernel⟩,
   ⟨fS, 37, 2, by decide +kernel⟩,
   ⟨fS.setFlds [(Reg.FN.SV_PEND.PEND 37 1, 0xC0000005)], 37, 1, 0x80000004, by decide +kernel⟩,
   ⟨offS, 37, 1, 0, by decide +kernel⟩,
   ⟨(fS.setFn 37 { FnState.fresh with tt := [⟨0, 4096, 0, true⟩], reads := [⟨9, 0x1000, 64, .other⟩] }), 37, by decide +kernel⟩,
   ⟨fS, 37, by decide +kernel⟩,
   ⟨(fS.setFn 37 { FnState.fresh with inval := [3] }), 37, by decide +kernel⟩,
   ⟨aS.setFld (Reg.FN.FN_STATUS.STATE 37) 2, .fn 256, 37, by decide +kernel⟩,
   ⟨aS, .fn 256, 37, by decide +kernel⟩,
   ⟨fS, .fn 38, 37, by decide +kernel⟩,
   ⟨fS, 37, 4, 0x10205, by decide +kernel⟩,
   ⟨fS, 37, 4, 0x10203, true, false, false, by decide +kernel⟩,
   ⟨fS, 37, 3, 0x10205, by decide +kernel⟩,
   ⟨fS, 37, 3, 0x205, by decide +kernel⟩,
   ⟨fS, 37, 4, 0x205, by decide +kernel⟩,
   ⟨fS, 37, 3, 0x10205, by decide +kernel⟩,
   ⟨(fS.setFld (Reg.FN.CQ_COAL.COUNT 37 3) 1), 37, 3, 0x30005, by decide +kernel⟩,
   ⟨fS, 37, 3, 0x30003, true, false, by decide +kernel⟩,
   ⟨fS, 37, 2, 0x30005, by decide +kernel⟩,
   ⟨(fS.setFld (Reg.FN.SQ_CFG.ENABLE 37 3) 0), 37, 2, 0, by decide +kernel⟩,
   ⟨fS, 37, 2, 3, 0, by decide +kernel⟩,
   ⟨fS, 37, 3, 0x20007, by decide +kernel⟩,
   ⟨fS, 37, 2, 0x10000, by decide +kernel⟩⟩

theorem witness_detach_removal_and_attach :
    (∃ (s : State), (s.fld Reg.STAIDO.STATE.STATE = 2 ∨ s.fld Reg.STAIDO.STATE.STATE = 3)) ∧
    (∃ (s : State), (s.fld Reg.STAIDO.STATE.STATE ≠ 2) ∧ (s.fld Reg.STAIDO.STATE.STATE ≠ 3)) ∧
    (∃ (s : State), s.fld Reg.STAIDO.STATE.STATE = 4) ∧
    (∃ (s : State), s.fld Reg.STAIDO.STATE.STATE ≠ 4) ∧
    (∃ (s : State), (s.fld Reg.STAIDO.LANES.UP = 0) ∧ (s.linkUp)) ∧
    (∃ (s : State), (s.fld Reg.STAIDO.LANES.UP ≠ 0 ∨ s.linkUp = false)) ∧
    (∃ (s : State), s.linkUp) ∧
    (∃ (s : State), s.linkUp = false) ∧
    (∃ (s : State), (s.staido.owed) ∧ (s.hostRemotes = [])) ∧
    (∃ (s : State) (core : Nat) (x : RemoteOp), (s.staido.owed) ∧ (s.hostRemotes = [(core, x)])) ∧
    (∃ (s : State), s.staido.owed = false) ∧
    (∃ (s : State), (s.fld Reg.STAIDO.STATE.STATE ≤ 1) ∧ (1 ≤ s.fld Reg.BOOT.STATE.INSTAR)) ∧
    (∃ (s : State), (2 ≤ s.fld Reg.STAIDO.STATE.STATE ∨ s.fld Reg.BOOT.STATE.INSTAR = 0)) :=
  ⟨⟨fS, by decide +kernel⟩,
   ⟨fS.setFld Reg.STAIDO.STATE.STATE 4, by decide +kernel⟩,
   ⟨dS, by decide +kernel⟩,
   ⟨fS, by decide +kernel⟩,
   ⟨(dS.setFlds [(Reg.STAIDO.STATE.STATE, 2), (Reg.STAIDO.LANES.UP, 0)]), by decide +kernel⟩,
   ⟨fS, by decide +kernel⟩,
   ⟨dS, by decide +kernel⟩,
   ⟨offS, by decide +kernel⟩,
   ⟨oS, by decide +kernel⟩,
   ⟨oR, 7, rop, by decide +kernel⟩,
   ⟨dS, by decide +kernel⟩,
   ⟨tS, by decide +kernel⟩,
   ⟨fS, by decide +kernel⟩⟩

end W11

namespace W12

def st (n : Nat) : State := sE.setFlds [(Reg.BOOT.STATE.INSTAR, n), (Reg.STAIDO.STATE.STATE, 2), (Reg.STAIDO.LANES.UP, 15)]
def crS : State := { (sE.wrBytes 0x800010 [1,2,3]) with bbox := { sE.bbox with region := some 0x800000 } }
def offB : State := { sE with boot := { sE.boot with powered := false, railsOn := 0 } }
def withB (f : BootUnit → BootUnit) (s : State) : State := { s with boot := f s.boot }
def s0 : State := (st 0).setFld Reg.STAIDO.STATE.STATE 0
def ld (n : Nat) : State := (st 0).setFlds [(Reg.BOOT.BUNDLE_LEN.BYTES, n), (Reg.BOOT.BUNDLE_LO.ADDR, 0x3010), (Reg.BOOT.BUNDLE_HI.ADDR, 2)]
def bl (r : List MemRd) : State := withB (fun b => { b with loading := some [5] }) ((st 0).setFn 256 { FnState.fresh with reads := r })
def rtS : State := sE.setFlds ((Reg.RESET.RETEST.CORE, 70) :: (List.range 64).map fun j => (physFld 1 j, j))
def tbR : SchedTable := ⟨0, 2, 10000, 0, [⟨0, 1, 1, 0, 0, 0, 0, 0, 0, true, true⟩], [1 <<< 70], [⟨5, 0, 0, 1⟩], [], [], [], []⟩
def busy (s : State) : State := s.setFld Reg.RESET.STATUS.BUSY 1
def jb (j : ResetJob) (s : State) : State := { s.setFld Reg.RESET.STATUS.BUSY 1 with boot := { s.boot with job := some j, lost := [70, 71] } }
def cells3 : List (Nat × Nat) := [(1, 1), (1, 2), (1, 3)]
def diag : List (Nat × Nat) := [(1,1),(2,2),(3,3),(4,4),(5,5)]
def tgS (n : Nat) : State := ({ sE with posts := [] }.setFld Reg.RESET.TARGET.INDEX n).setFld (Reg.COCOON.STATE.STATE 5) 1
def jc : State := jb (.core 7) ((tgS 5).wrBytes (spBase 7 + 5) [1,2,3])
def jg : State := let s := jb (.cluster 7) ((tgS 5).wrBytes (csBase 7 + 5) [1,2,3]); { s with runs := [run0 3 5 57] }.setCore 58 { Core.fresh with copies := [⟨2, 2, [0, 0], 0, 0, 64, 0, 0, 0, 0, 0, false, [], false, 0⟩] }

theorem witness_resets_rails_and_bundle_load :
    (∃ (s : State), s.boot.powered) ∧
    (∃ (s : State), s.boot.powered = false) ∧
    (∃ (s : State) (_ : Bool), s.boot.railsOn = 0) ∧
    (∃ (s : State) (_ : Bool), s.boot.railsOn ≠ 0) ∧
    (∃ (s : State), (s.inInstar 0) ∧ (s.staido.present) ∧ (s.fld Reg.STAIDO.STATE.STATE ≤ 1)) ∧
    (∃ (s : State), (s.inInstar 0 = false ∨ s.staido.present = false ∨ 2 ≤ s.fld Reg.STAIDO.STATE.STATE)) ∧
    (∃ (s : State), (s.inInstar 0) ∧ (s.linkUp) ∧ (s.boot.loading = none) ∧ (s.fld Reg.BOOT.BUNDLE_LEN.BYTES ≠ 0)) ∧
    (∃ (s : State), (s.inInstar 0) ∧ (s.linkUp) ∧ (s.boot.loading = none) ∧ (s.fld Reg.BOOT.BUNDLE_LEN.BYTES ≠ 0) ∧ ((s.fn 256).reads = []) ∧ (s.fld
      Reg.BOOT.BUNDLE_LEN.BYTES ≤ 4096) ∧ (s.fld2 Reg.BOOT.BUNDLE_LO.ADDR Reg.BOOT.BUNDLE_HI.ADDR % 4096 = 0)) ∧
    (∃ (s : State), (s.inInstar 0) ∧ (s.linkUp) ∧ (s.boot.loading = none) ∧ (s.fld Reg.BOOT.BUNDLE_LEN.BYTES = 0)) ∧
    (∃ (s : State), (s.inInstar 0 = false ∨ s.linkUp = false ∨ s.boot.loading.isSome)) ∧
    (∃ (s : State) (tag : Nat) (a : Nat) (len : Nat) (b : List Byte) (l : List Byte) (off : Nat), ((Instr.memRdCompletion 256 tag (.data b)).wf) ∧
      (s.linkUp) ∧ (s.boot.loading = some l) ∧ ((s.fn 256).reads = [⟨tag, a, len, .bundle off⟩])) ∧
    (∃ (s : State) (tag : Nat) (a : Nat) (len : Nat) (b : List Byte) (l : List Byte) (off : Nat) (y : MemRd), ((Instr.memRdCompletion 256 tag (.data
      b)).wf) ∧ (s.linkUp) ∧ (s.boot.loading = some l) ∧ ((s.fn 256).reads = [⟨tag, a, len, .bundle off⟩, y]) ∧ (y.tag ≠ tag) ∧ (y.why.ofBundle)) ∧
    (∃ (s : State) (tag : Nat) (a : Nat) (len : Nat) (l : List Byte) (off : Nat) (rest : List MemRd), ((Instr.memRdCompletion 256 tag .error).wf) ∧
      (s.linkUp) ∧ (s.boot.loading = some l) ∧ ((s.fn 256).reads = ⟨tag, a, len, .bundle off⟩ :: rest)) :=
  ⟨⟨crS, by decide +kernel⟩,
   ⟨offB, by decide +kernel⟩,
   ⟨offB, true, by decide +kernel⟩,
   ⟨(withB (fun b => { b with railsOn := 5 }) sE), true, by decide +kernel⟩,
   ⟨s0, by decide +kernel⟩,
   ⟨(st 1), by decide +kernel⟩,
   ⟨(ld 400000), by decide +kernel⟩,
   ⟨((ld 4096).setFld Reg.BOOT.BUNDLE_LO.ADDR 0x3000), by decide +kernel⟩,
   ⟨(ld 0), by decide +kernel⟩,
   ⟨(st 1), by decide +kernel⟩,
   ⟨(bl [⟨7, 0x3000, 16, .bundle 1⟩]), 7, 0x3000, 16, (List.replicate 16 3), [5], 1, by decide +kernel⟩,
   ⟨(bl [⟨7, 0x3000, 16, .bundle 1⟩, ⟨8, 0x3000, 16, .bundle 17⟩]), 7, 0x3000, 16, (List.replicate 16 3), [5], 1, ⟨8, 0x3000, 16, .bundle 17⟩,
      by decide +kernel⟩,
   ⟨(bl [⟨7, 0x3000, 16, .bundle 1⟩, ⟨8, 0x3000, 16, .bundle 17⟩]), 7, 0x3000, 16, [5], 1, [⟨8, 0x3000, 16, .bundle 17⟩], by decide +kernel⟩⟩

theorem witness_bundle_verification :
    (∃ (s : State), s.inInstar 1) ∧
    (∃ (s : State), s.inInstar 1 = false) :=
  ⟨⟨(st 1), by decide +kernel⟩,
   ⟨(st 2), by decide +kernel⟩⟩

theorem witness_bring_up_and_emergence :
    (∃ (s : State), (s.inInstar 2) ∧ (s.fused = [])) ∧
    (∃ (s : State) (d : Nat) (p : Nat), ((Instr.dieBringUpDone .ok [.position d p]).wf) ∧ (p < 64) ∧ (s.inInstar 2) ∧ (s.fused = [])) ∧
    (∃ (s : State) (d : Nat) (p : Nat) (r : Nat) (c : Nat), ((Instr.dieBringUpDone .ok [.arrayCell d p r c]).wf) ∧ (p < 64) ∧ (s.inInstar 2) ∧ (s.fused =
      [])) ∧
    (∃ (s : State) (found : List Defect), ((Instr.dieBringUpDone .ok found).wf) ∧ (s.inInstar 2)) ∧
    (∃ (s : State) (r : BringUp) (found : List Defect), ((Instr.dieBringUpDone r found).wf) ∧ (s.inInstar 2) ∧ (r ≠ .ok)) ∧
    (∃ (s : State) (r : BringUp) (found : List Defect), ((Instr.dieBringUpDone r found).wf) ∧ (s.inInstar 2 = false)) ∧
    (∃ (s : State) (m : MemTraining), ((Instr.memoryTrainingDone m).wf) ∧ (s.inInstar 3)) ∧
    (∃ (s : State) (m : MemTraining), ((Instr.memoryTrainingDone m).wf) ∧ (s.inInstar 3 = false)) ∧
    (∃ (s : State), s.inInstar 4) ∧
    (∃ (s : State), (s.inInstar 4) ∧ (s.isSet (ctrlEnable 0x100) = false) ∧ (s.isSet (ctrlEnable 0x101) = false)) ∧
    (∃ (s : State), s.inInstar 4 = false) :=
  ⟨⟨(st 2), by decide +kernel⟩,
   ⟨(st 2), 4, 33, by decide +kernel⟩,
   ⟨(st 2), 4, 33, 5, 9, by decide +kernel⟩,
   ⟨(st 2), [], by decide +kernel⟩,
   ⟨(st 2), .edgeFailed, [], by decide +kernel⟩,
   ⟨(st 3), .ok, [], by decide +kernel⟩,
   ⟨(st 3), ⟨[2], true, false⟩, by decide +kernel⟩,
   ⟨(st 2), ⟨[2], true, false⟩, by decide +kernel⟩,
   ⟨(st 4), by decide +kernel⟩,
   ⟨(st 4), by decide +kernel⟩,
   ⟨(st 3), by decide +kernel⟩⟩

theorem witness_retests_and_resets :
    (∃ (s : State) (n : Nat) (d : Nat) (p : Nat), (s.fld Reg.RESET.RETEST.CORE = n) ∧ (s.retestTarget n = some (d, p)) ∧ ((n < 2048 → s.tablesHold n =
      false)) ∧ (s.isSet Reg.RESET.STATUS.BUSY = false) ∧ (((2048 ≤ n ∨ s.coreDisabled n) → s.fused.contains (Defect.position d p) = false))) ∧
    (∃ (s : State) (n : Nat), (s.fld Reg.RESET.RETEST.CORE = n) ∧ ((s.retestTarget n = none ∨ (n < 2048 ∧ s.tablesHold n) ∨ s.isSet Reg.RESET.STATUS.BUSY ∨
      ((2048 ≤ n ∨ s.coreDisabled n) ∧ (s.retestTarget n).any fun x => s.fused.contains (Defect.position x.1 x.2))))) ∧
    (∃ (s : State) (n : Nat), (s.boot.job = some (.retest n)) ∧ (n < 2048) ∧ (s.coreDisabled n = false)) ∧
    (∃ (s : State) (n : Nat) (d : Nat) (p : Nat) (cells : List (Nat × Nat)) (fix : List Defect), ((Instr.retestDone true cells).wf) ∧ (s.boot.job = some
      (.retest n)) ∧ (s.retestTarget n = some (d, p)) ∧ (s.arrayRepairs d p cells = some fix) ∧ ((2048 ≤ n ∨ s.coreDisabled n ∨ fix ≠ [])) ∧ (d < 32)) ∧
    (∃ (s : State) (n : Nat) (cells : List (Nat × Nat)) (pass : Bool), ((Instr.retestDone pass cells).wf) ∧ (s.boot.job = some (.retest n)) ∧ (n < 2048) ∧
      (s.coreDisabled n = false) ∧ (s.boot.defects = []) ∧ (s.fld (physFld (n / 64) (n % 64)) < 64) ∧ (s.sparesUsed (n / 64) = []) ∧ ((pass = false ∨
      coverOf cells 2 2 = none))) ∧
    (∃ (s : State) (n : Nat) (d : Nat) (p : Nat) (cells : List (Nat × Nat)) (pass : Bool), ((Instr.retestDone pass cells).wf) ∧ (s.boot.job = some (.retest
      n)) ∧ (s.retestTarget n = some (d, p)) ∧ ((pass = false ∨ s.arrayRepairs d p cells = none))) ∧
    (∃ (s : State) (n : Nat) (pass : Bool) (cells : List (Nat × Nat)), ((Instr.retestDone pass cells).wf) ∧ (s.boot.job = some (.retest n)) ∧
      (s.retestTarget n = none)) ∧
    (∃ (s : State) (pass : Bool) (cells : List (Nat × Nat)), ((Instr.retestDone pass cells).wf) ∧
      ((s.boot.job.all fun j => match j with | .retest _ => false | _ => true))) ∧
    (∃ (s : State), (s.fld Reg.RESET.TARGET.INDEX < 2048) ∧ (s.isSet Reg.RESET.STATUS.BUSY = false)) ∧
    (∃ (s : State), (s.fld Reg.RESET.TARGET.INDEX < 256) ∧ ((s.seq.active.any fun t => t.radioIn (s.fld Reg.RESET.TARGET.INDEX)) = false) ∧
      ((s.seq.armed.any fun t => t.radioIn (s.fld Reg.RESET.TARGET.INDEX)) = false) ∧ (s.isSet Reg.RESET.STATUS.BUSY = false)) ∧
    (∃ (s : State), (s.fld Reg.RESET.TARGET.INDEX < 64) ∧ (2 ≤ s.fld Reg.RESET.TARGET.INDEX) ∧ (s.cocoonState (s.fld Reg.RESET.TARGET.INDEX) ≠ 0) ∧
      (s.isSet Reg.RESET.STATUS.BUSY = false)) ∧
    (∃ (s : State), (s.isSet Reg.RESET.STATUS.BUSY = false) ∧ (s.fatal = none)) ∧
    (∃ (s : State), (2048 ≤ s.fld Reg.RESET.TARGET.INDEX ∨ s.isSet Reg.RESET.STATUS.BUSY)) ∧
    (∃ (s : State) (g : Nat) (held : Bool), (s.fld Reg.RESET.TARGET.INDEX = g) ∧ ((s.seq.active.any (fun t => t.radioIn g) || s.seq.armed.any fun t =>
      t.radioIn g) = held) ∧ ((256 ≤ g ∨ held ∨ s.isSet Reg.RESET.STATUS.BUSY))) ∧
    (∃ (s : State) (c : Nat), (s.fld Reg.RESET.TARGET.INDEX = c) ∧ ((64 ≤ c ∨ c < 2 ∨ s.cocoonState c = 0 ∨ s.isSet Reg.RESET.STATUS.BUSY))) ∧
    (∃ (s : State), s.isSet Reg.RESET.STATUS.BUSY) ∧
    (∃ (s : State) (c : Nat), (s.isSet Reg.RESET.STATUS.BUSY = false) ∧ (s.fatal = some c)) ∧
    (∃ (s : State) (n : Nat), (s.boot.job = some (.core n)) ∧ (n < 2048) ∧ (s.sound)) ∧
    (∃ (s : State) (g : Nat), (s.boot.job = some (.cluster g)) ∧ (g < 256) ∧ (s.sound) ∧ (s.absorbable)) ∧
    (∃ (s : State) (c : Nat), (s.boot.job = some (.cocoon c)) ∧ (2 ≤ c) ∧ (c < 64) ∧ (s.cocoonState c = 1) ∧ (s.absorbable)) ∧
    (∃ (s : State), (s.boot.job = none ∨ s.boot.job = some .device ∨ s.boot.job.any fun j => match j with | .retest _ => true | _ => false)) :=
  ⟨⟨rtS, 70, 1, 6, by decide +kernel⟩,
   ⟨{ rtS with seq := { rtS.seq with armed := some tbR } }, 70, by decide +kernel⟩,
   ⟨(jb (.retest 70) rtS), 70, by decide +kernel⟩,
   ⟨(jb (.retest 70) rtS), 70, 1, 6, cells3, [.arrayRow 1 6 1 0], by decide +kernel⟩,
   ⟨(jb (.retest 70) rtS), 70, [], false, by decide +kernel⟩,
   ⟨(jb (.retest 70) rtS), 70, 1, 6, diag, true, by decide +kernel⟩,
   ⟨(jb (.retest 0xF050) rtS), 0xF050, true, [], by decide +kernel⟩,
   ⟨rtS, true, [], by decide +kernel⟩,
   ⟨(tgS 70), by decide +kernel⟩,
   ⟨(tgS 70), by decide +kernel⟩,
   ⟨{ tgS 5 with runs := [run0 3 5 9] }, by decide +kernel⟩,
   ⟨(tgS 5), by decide +kernel⟩,
   ⟨(tgS 2048), by decide +kernel⟩,
   ⟨(tgS 256), 256, false, by decide +kernel⟩,
   ⟨(tgS 64), 64, by decide +kernel⟩,
   ⟨(busy (tgS 5)), by decide +kernel⟩,
   ⟨{ tgS 5 with fatal := some 3 }, 3, by decide +kernel⟩,
   ⟨jc, 7, by decide +kernel⟩,
   ⟨jg, 7, by decide +kernel⟩,
   ⟨{ jb (.cocoon 5) (tgS 5) with runs := [run0 3 5 9], waits := [⟨3, 5, ⟨37, 3, [], 0⟩, .unload 5⟩] }, 5, by decide +kernel⟩,
   ⟨rtS, by decide +kernel⟩⟩

end W12

namespace W13

def rd36 (f : Nat → RailReading) : List RailReading := (List.range 36).map f
def rs (i : Nat) : Nat := sE.railSetting i
theorem no_rail_bad {s : State} {l : List RailReading} (h : s.power.railOut = []) (f : (l.all fun r => !r.faulted) = true) :
    (l.zipIdx.all fun x => !s.railBad x.2 x.1) = true := by
  simp only [List.all_eq_true, Bool.not_eq_true'] at f ⊢
  intro x hx
  simp [State.railBad, h, Assoc.find, f x.1 (List.fst_mem_of_mem_zipIdx hx)]
def lz (low : List Nat) (since : List (Nat × Nat)) : State := { (sE.setFld Reg.PWR.LASER_THR.DBM 65000).advanceTo 30000000 with power := { sE.power with laserSince := since } }.setFlds (low.map fun i => (Reg.PWR.LASER.LOW i, 1))
def dbm : List Int := [0,-30000,0,-30000,0,-30000,0,-30000]
def tmp (f : Nat → Int) : List Int := (List.range 40).map f
def pkS : State := (sE.advanceTo 50000000).setFlds ([(Reg.PWR.LIMIT.LIMIT_W, 600), (Reg.PWR.LIMIT.HYST_W, 50), (Reg.PWR.PKG_POWER.W, 6100)] ++ (List.range 32).map fun d => (Reg.DIE.OPPOINT.CUR d, 1))
def pw (f : PowerUnit → PowerUnit) (s : State) : State := { s with power := f s.power }
def flat : State := pkS.setFlds ((List.range 32).map fun d => (Reg.DIE.OPPOINT.CUR d, 0))
def tbP : SchedTable := ⟨0, 2, 10000, 0, [⟨0, 2, 1, 0, 0, 0, 0, 0, 0, true, true⟩], [1 <<< 70, 1 <<< 71], [⟨0, 0, 0, 1⟩, ⟨2, 1, 0, 1⟩], [], [], [], []⟩
def pinS : State := { flat with seq := { flat.seq with active := some tbP } }.refreshPower
def th (deg : Nat) (e : List (Nat × ThermLevel)) : State := pw (fun p => { p with thermal := e }) (pkS.setFlds [(Reg.PWR.THERM.THROTTLE_C, 95), (Reg.DIE.TEMP.DEGC 3, deg)])
def tp (deg : Nat) (h : List Nat) : State := pw (fun p => { p with thermHolds := h }) (pinS.setFlds [(Reg.PWR.THERM.THROTTLE_C, 95), (Reg.DIE.TEMP.DEGC 1, deg)])
def fl1 : Flush := ⟨4, 0, [(3, [⟨1, 3, 2, 5, 6, 7⟩])], [(3, 1)], 5, 6⟩
def flS : State := { sE with fatal := some 4, bbox := { sE.bbox with flush := some fl1 } }
def armS : State := sE.setFld Reg.BBOX.STATUS.ARMED 1
def snS : State := { sE.setFlds [(Reg.BBOX.STATUS.FLUSHING, 1), (Reg.BBOX.BASE_LO.ADDR, 0x800000)] with bbox := { sE.bbox with snapshot := some ⟨0, 1, [(3, [⟨1, 3, 2, 5, 6, 7⟩])], [(3, 1)], 5, 6⟩ } }

theorem witness_power_samples_and_thermal_levels :
    (∃ (s : State) (l : List RailReading), ((Instr.railSample l).wf) ∧ ((l.zipIdx.all fun x => !s.railBad x.2 x.1))) ∧
    (∃ (s : State) (l : List RailReading) (i : Nat) (r : RailReading), ((Instr.railSample l).wf) ∧ (l[i]? = some r) ∧ (s.railBad i r)) ∧
    (∃ (_ : State) (l : List Int), (Instr.laserSample l).wf) ∧
    (∃ (s : State) (l : List Int), ((Instr.temperatureSample l).wf) ∧ ((l.zipIdx.all fun x => decide (x.1 < 1760) || s.power.tripped.contains x.2))) ∧
    (∃ (s : State) (l : List Int) (d : Nat), ((Instr.temperatureSample l).wf) ∧ (d < 40) ∧ (1760 ≤ l.getD d 0) ∧ (d ∉ s.power.tripped)) ∧
    (∃ (s : State), ((s.overMean ∨ s.overPeak)) ∧ (((List.range 32).any s.canLower))) ∧
    (∃ (s : State) (k : Nat), ((s.overMean ∨ s.overPeak)) ∧ (((List.range 32).any s.canLower) = false) ∧ (s.heldSteps = k) ∧ (k < 4) ∧ (s.canHold k)) ∧
    (∃ (s : State) (k : Nat), ((s.overMean ∨ s.overPeak)) ∧ (((List.range 32).any s.canLower) = false) ∧ (s.heldSteps = k) ∧ ((4 ≤ k ∨ s.canHold k =
      false))) ∧
    (∃ (s : State), (s.overMean = false) ∧ (s.overPeak = false) ∧ ((s.coolLong = false ∨ (s.power.lastUndo.any fun x => Nat.blt s.mono (x + 1000000))))) ∧
    (∃ (s : State) (x : PkgStep) (r : List PkgStep), (s.power.steps = x :: r) ∧ (s.overMean = false) ∧ (s.overPeak = false) ∧ (s.coolLong) ∧
      (s.power.lastUndo.all (fun x => Nat.ble (x + 1000000) s.mono))) ∧
    (∃ (s : State), (s.power.steps = []) ∧ (s.overMean = false) ∧ (s.overPeak = false) ∧ (s.coolLong) ∧ (s.power.lastUndo.all (fun x => Nat.ble (x +
      1000000) s.mono))) ∧
    (∃ (s : State) (d : Nat) (e : ThermLevel), (d < 32) ∧ (s.pinned d = false) ∧ (d ∉ s.power.thermHolds) ∧ ((Assoc.find d s.power.thermal).getD ⟨2, false,
      0, none⟩ = e) ∧ ((s.throttle16 < s.dieTemp d ∨ e.falling ∧ s.throttle16 - 80 ≤ s.dieTemp d))) ∧
    (∃ (s : State) (d : Nat) (e : ThermLevel), (d < 32) ∧ (s.pinned d = false) ∧ (d ∉ s.power.thermHolds) ∧ ((Assoc.find d s.power.thermal).getD ⟨2, false,
      0, none⟩ = e) ∧ (s.dieTemp d ≤ s.throttle16) ∧ ((e.falling = false ∨ s.dieTemp d < s.throttle16 - 80))) ∧
    (∃ (s : State) (d : Nat), (d < 32) ∧ ((s.pinned d ∨ d ∈ s.power.thermHolds))) ∧
    (∃ (s : State) (d : Nat), (32 ≤ d) ∧ (d < 40) ∧ (s.throttle16 < s.dieTemp d)) :=
  ⟨⟨sE, (rd36 fun _ => ⟨690, 3, false⟩), by decide +kernel, no_rail_bad (by decide +kernel) (by decide +kernel)⟩,
   ⟨sE, (rd36 fun i => ⟨rs i, 3, i == 4⟩), 4, ⟨rs 4, 3, true⟩, by decide +kernel⟩,
   ⟨(lz [] [(1, 5), (3, 29999999), (4, 7)]), dbm, by decide +kernel⟩,
   ⟨sE, (tmp fun (i : Nat) => (i : Int) - 5), by decide +kernel⟩,
   ⟨sE, (tmp fun i => if i = 35 then 1800 else 3), 35, by decide +kernel⟩,
   ⟨pkS, by decide +kernel⟩,
   ⟨pinS, 0, by decide +kernel⟩,
   ⟨flat, 0, by decide +kernel⟩,
   ⟨(pkS.setFld Reg.PWR.PKG_POWER.W 5900), by decide +kernel⟩,
   ⟨(pw (fun p => { p with steps := [.lowered 3 0], lowSince := some 1000 }) (pkS.setFld Reg.PWR.PKG_POWER.W 5000)), (.lowered 3 0), [],
      by decide +kernel⟩,
   ⟨(pw (fun p => { p with lowSince := some 1000 }) (pkS.setFld Reg.PWR.PKG_POWER.W 5000)), by decide +kernel⟩,
   ⟨(th 1600 []), 3, ⟨2, false, 0, none⟩, by decide +kernel⟩,
   ⟨(th 1450 []), 3, ⟨2, false, 0, none⟩, by decide +kernel⟩,
   ⟨(tp 1600 []), 1, by decide +kernel⟩,
   ⟨(pkS.setFlds [(Reg.PWR.THERM.THROTTLE_C, 95), (Reg.PWR.TEMP.DEGC 3, 1600)]), 35, by decide +kernel⟩⟩

theorem witness_black_box_flush_and_snapshot :
    (∃ (s : State) (f : Flush), (s.bbox.flush = some f) ∧ (s.isSet Reg.BBOX.STATUS.ARMED = false)) ∧
    (∃ (s : State) (f : Flush), (s.bbox.flush = some f) ∧ (s.isSet Reg.BBOX.STATUS.ARMED)) ∧
    (∃ (s : State), s.bbox.flush = none) ∧
    (∃ (s : State), (s.isSet Reg.BBOX.STATUS.FLUSHING = false) ∧ (s.isSet Reg.BBOX.STATUS.ARMED)) ∧
    (∃ (s : State), s.isSet Reg.BBOX.STATUS.FLUSHING) ∧
    (∃ (s : State), (s.isSet Reg.BBOX.STATUS.FLUSHING = false) ∧ (s.isSet Reg.BBOX.STATUS.ARMED = false)) ∧
    (∃ (s : State) (f : Flush), (s.bbox.snapshot = some f) ∧ (s.sound) ∧ (f.slot < 2)) ∧
    (∃ (s : State), s.bbox.snapshot = none) :=
  ⟨⟨flS, fl1, by decide +kernel⟩,
   ⟨(flS.setFld Reg.BBOX.STATUS.ARMED 1), fl1, by decide +kernel⟩,
   ⟨sE, by decide +kernel⟩,
   ⟨armS, by decide +kernel⟩,
   ⟨(sE.setFld Reg.BBOX.STATUS.FLUSHING 1), by decide +kernel⟩,
   ⟨sE, by decide +kernel⟩,
   ⟨snS, ⟨0, 1, [(3, [⟨1, 3, 2, 5, 6, 7⟩])], [(3, 1)], 5, 6⟩, by decide +kernel⟩,
   ⟨sE, by decide +kernel⟩⟩

end W13

namespace W14

def offS : State := sE.setFlds [(ctrlEnable 0x010, 0), (ctrlEnable 0x080, 0)]
def ceS : State := [(Reg.COCOON.CFG.ENC 5, 0), (Reg.COCOON.EXT_COUNT.COUNT 5, 1), (Reg.COCOON.EXT_BASE.BASE 5 0, 0), (Reg.COCOON.EXT_LEN.LEN 5 0, 0x100), (Reg.COCOON.SEM_BASE.BASE 5, 1), (Reg.COCOON.CTX_BASE.BASE 5, 2)].foldl (fun s x => s.setShd x.1 x.2) (sE.setFlds [(Reg.MEM.GROUP.VALID 0, 1), (Reg.MEM.GROUP.CHANNELS 0, 3), (Reg.MEM_CH.STATE.STATE 0, 2), (Reg.MEM_CH.STATE.STATE 1, 2)])
def raS : State := let s := sE.setFlds [(ctrlEnable 0x080, 1), (Reg.RADIO.STATUS.RSTATE, 2)]; { s with radio := { s.radio with cells := [(0, 1)] }, demand := [] }
def onS : State := sE.setFld (ctrlEnable 0x010) 1
def ruS : State := (sE.setShd Reg.FH.RU_TBL_LO.ADDR_LO 0).setShd Reg.FH.RU_TBL_HI.ADDR_HI 0
def faS : State := (sE.setShd Reg.SILK.FAB_ADDR_LO.ADDR 0).setShd Reg.SILK.FAB_ADDR_HI.ADDR 0
def rn (p : Nat) : PageRun := (pageRun p).getD ⟨0,0,.staido,false,false,false,0⟩
def lnS : State := sE.setFlds [(Reg.MEM.GROUP.VALID 0, 1), (Reg.MEM.GROUP.CHANNELS 0, 3), (Reg.MEM_CH.STATE.STATE 0, 2), (Reg.MEM_CH.STATE.STATE 1, 2)]
def encS : State := lnS.setFlds [(Reg.COCOON.EXT_COUNT.COUNT 5, 1), (Reg.COCOON.EXT_BASE.BASE 5 0, 0), (Reg.COCOON.EXT_LEN.LEN 5 0, 0x100), (Reg.COCOON.STATE.STATE 5, 1), (Reg.COCOON.CFG.ENC 5, 1)]

theorem witness_register_reads_writes_and_test_port :
    (∃ (s : State) (who : Issuer) (page : Nat) (off : Nat), ((Instr.regRd who page off).wf) ∧ (s.mayReach who page) ∧ (off % 4 = 0) ∧ (s.readCommand who
      page off = none) ∧ (latchedNow page off = false)) ∧
    (∃ (s : State) (who : Issuer) (page : Nat) (off : Nat), ((Instr.regRd who page off).wf) ∧ (s.mayReach who page) ∧ (latchedNow page off)) ∧
    (∃ (s : State) (who : Issuer) (page : Nat) (off : Nat) (c : Instr), ((Instr.regRd who page off).wf) ∧ (off % 4 = 0) ∧ (s.readCommand who page off =
      some c)) ∧
    (∃ (s : State) (who : Issuer) (page : Nat) (k : Nat), ((Instr.regRd who page (4 * k)).wf) ∧ (s.mayReach who page = false)) ∧
    (∃ (_ : State) (n : Nat) (page : Nat) (off : Nat), ((Instr.regRd (.core n) page off).wf) ∧ (off % 4 ≠ 0)) ∧
    (∃ (s : State) (f : Nat) (page : Nat) (off : Nat), ((Instr.regRd (.fn f) page off).wf) ∧ (s.mayReach (.fn f) page) ∧ (off % 4 ≠ 0)) ∧
    (∃ (s : State) (who : Issuer) (page : Nat) (off : Nat) (w : Word), ((Instr.regWr who page off w).wf) ∧ (s.mayReach who page) ∧ (off % 4 = 0) ∧
      (plainWord page off) ∧ ((page = 0x010 → s.seqHalted = false))) ∧
    (∃ (s : State) (who : Issuer) (page : Nat) (off : Nat) (w : Word) (fn : Nat), ((Instr.regWr who page off w).wf) ∧ (s.mayReach who page) ∧ (off % 4 = 0)
      ∧ (pageFn page = some fn) ∧ (s.plainFnWord fn off)) ∧
    (∃ (s : State) (who : Issuer) (page : Nat) (off : Nat) (w : Word) (c : Instr), ((Instr.regWr who page off w).wf) ∧ (s.mayReach who page) ∧ (off % 4 =
      0) ∧ (writeCommand who page off w = some c)) ∧
    (∃ (s : State) (who : Issuer) (page : Nat) (off : Nat) (w : Word) (fn : Nat), ((Instr.regWr who page off w).wf) ∧ (s.mayReach who page) ∧ (off % 4 = 0)
      ∧ (pageFn page = some fn) ∧ (s.queueLocked fn off) ∧ (off % 16 ≠ 8)) ∧
    (∃ (s : State) (who : Issuer) (fn : Nat) (w : Word) (clash : Bool), ((Instr.regWr who (fnPage fn) 0x100 w).wf) ∧ (fn < 258) ∧ (s.mayReach who (fnPage
      fn)) ∧ (managesPages who) ∧ (((List.range 258).any fun g => !Nat.beq g fn && Nat.blt (s.fld (Reg.FN.FN_CFG.SV_BASE g)) (bitsOf w.toNat 0 12 +
      bitsOf w.toNat 12 9) && Nat.blt (bitsOf w.toNat 0 12) (s.fld (Reg.FN.FN_CFG.SV_BASE g) + s.fld (Reg.FN.FN_CFG.SV_COUNT g))) = clash)) ∧
    (∃ (s : State) (f : Nat) (w : Word), ((Instr.regWr (.fn f) (fnPage f) 0x100 w).wf) ∧ (f < 256) ∧ (s.mayReach (.fn f) (fnPage f))) ∧
    (∃ (s : State) (who : Issuer) (i : Nat) (w : Word), ((Instr.regWr who 0x004 (0x120 + 4 * i) w).wf) ∧ (i < 2) ∧ (s.mayReach who 0x004)) ∧
    (∃ (s : State) (who : Issuer) (u : Nat) (w : Word), ((Instr.regWr who 0x041 (0x108 + 16 * u) w).wf) ∧ (u < 16) ∧ (s.mayReach who 0x041)) ∧
    (∃ (s : State) (who : Issuer) (u : Nat) (k : Nat) (w : Word), ((Instr.regWr who 0x041 (0x100 + 16 * u + k) w).wf) ∧ (u < 16) ∧ (k ∈ [0, 4, 12]) ∧
      (s.mayReach who 0x041)) ∧
    (∃ (s : State) (who : Issuer) (w : Word), ((Instr.regWr who 0x040 0x180 w).wf) ∧ (s.mayReach who 0x040)) ∧
    (∃ (s : State) (who : Issuer) (c : Nat) (i : Nat) (w : Word), ((Instr.regWr who (0x100 + c) (0x170 + 4 * i) w).wf) ∧ (c < 64) ∧ (i < 16) ∧ (s.mayReach
      who (0x100 + c))) ∧
    (∃ (s : State) (who : Issuer) (w : Word), ((Instr.regWr who 0x240 0x108 w).wf) ∧ (s.mayReach who 0x240)) ∧
    (∃ (s : State) (who : Issuer) (page : Nat) (off : Nat) (w : Word), ((Instr.regWr who page off w).wf) ∧ (s.mayReach who page) ∧ (off % 4 = 0) ∧
      ((wordFlds page off = [] ∧ 0x100 ≤ off ∨ pageRun page = none))) ∧
    (∃ (s : State) (who : Issuer) (page : Nat) (k : Nat) (w : Word), ((Instr.regWr who page (4 * k) w).wf) ∧ (s.mayReach who page = false)) ∧
    (∃ (_ : State) (n : Nat) (page : Nat) (off : Nat) (w : Word), ((Instr.regWr (.core n) page off w).wf) ∧ (off % 4 ≠ 0)) ∧
    (∃ (s : State) (f : Nat) (page : Nat) (off : Nat) (w : Word), ((Instr.regWr (.fn f) page off w).wf) ∧ (s.mayReach (.fn f) page) ∧ (off % 4 ≠ 0)) ∧
    (∃ (s : State) (who : Issuer) (off : Nat) (w : Word), ((Instr.regWr who 0x010 off w).wf) ∧ (s.mayReach who 0x010) ∧ (off % 4 = 0) ∧ (s.seqHalted) ∧
      ((off = 0x010 ∨ 0x100 ≤ off))) ∧
    (∃ (s : State) (page : Nat) (off : Nat), ((Instr.testPortAccess (.readPage page off)).wf) ∧ (s.boot.powered) ∧ (s.trst = false)) ∧
    (∃ (s : State) (page : Nat) (off : Nat) (w : Word), ((Instr.testPortAccess (.writePage page off w)).wf) ∧ (s.boot.powered) ∧ (s.trst = false)) ∧
    (∃ (s : State) (d : Nat), ((Instr.testPortAccess (.readRing d)).wf) ∧ (s.boot.powered) ∧ (s.trst = false)) ∧
    (∃ (s : State) (i : Nat) (w : Word), ((Instr.testPortAccess (.readFuse i)).wf) ∧ (s.boot.powered) ∧ (s.trst = false) ∧ (s.boot.fuses.bank[i]? = some w)) ∧
    (∃ (s : State) (i : Nat), ((Instr.testPortAccess (.readFuse i)).wf) ∧ (s.boot.powered) ∧ (s.trst = false) ∧ (s.boot.fuses.bank[i]? = none)) ∧
    (∃ (s : State) (a : Nat), ((Instr.testPortAccess (.readLine a)).wf) ∧ (s.boot.powered) ∧ (s.trst = false) ∧ (s.region (a / 64 * 64) = .gddr) ∧ ((∀ c, c
      < 64 → s.live c = false ∨ s.inExtent c (a / 64 * 64) 64 = false ∨ s.isSet (Reg.COCOON.CFG.ENC c) = false))) ∧
    (∃ (s : State) (a : Nat) (c : Nat), ((Instr.testPortAccess (.readLine a)).wf) ∧ (s.boot.powered) ∧ (s.trst = false) ∧ (s.region (a / 64 * 64) = .gddr)
      ∧ (s.live c) ∧ (s.inExtent c (a / 64 * 64) 64) ∧ ((∀ d, d < c → s.live d = false ∨ s.inExtent d (a / 64 * 64) 64 = false)) ∧ (c < 64) ∧ (s.isSet
      (Reg.COCOON.CFG.ENC c))) ∧
    (∃ (s : State) (a : Nat), ((Instr.testPortAccess (.readLine a)).wf) ∧ (s.boot.powered) ∧ (s.trst = false) ∧ (s.region (a / 64 * 64) ≠ .gddr)) ∧
    (∃ (s : State) (k : Nat), ((Instr.testPortAccess (.readKeySlot k)).wf) ∧ (s.boot.powered) ∧ (s.trst = false)) ∧
    (∃ (s : State), (s.boot.powered) ∧ (s.trst = false) ∧ (s.fatal = none)) ∧
    (∃ (s : State), (s.boot.powered) ∧ (s.trst = false) ∧ (s.fatal.isSome)) ∧
    (∃ (s : State) (a : TestAccess), ((Instr.testPortAccess a).wf) ∧ ((s.boot.powered = false ∨ s.trst))) :=
  ⟨⟨sE, .core 3, 0x010, 0x100, by decide +kernel⟩,
   ⟨sE, .core 3, 0x040, 0x104, by decide +kernel⟩,
   ⟨sE, .core 3, 0x040, 0x100, (.nowFracRead (.core 3)), by decide +kernel⟩,
   ⟨sE, .fn 37, 0x010, 0x40, by decide +kernel⟩,
   ⟨sE, 3, 0x010, 0x101, by decide +kernel⟩,
   ⟨sE, 256, 0x010, 0x102, by decide +kernel⟩,
   ⟨sE, .fn 256, 0x010, 0x100, 0xFFFFFFFF, by decide +kernel⟩,
   ⟨sE, .fn 256, fnPage 37, 0x404, 0xFFFFFFFF, 37, by decide +kernel⟩,
   ⟨sE, .fn 256, 0x001, 0x10C, 1, .bundleLoad, by decide +kernel⟩,
   ⟨(sE.setFld (Reg.FN.SQ_CFG.ENABLE 37 0) 1), .fn 37, fnPage 37, 0x400, 7, 37, by decide +kernel⟩,
   ⟨sE, .fn 256, 37, 0x04003005, false, by decide +kernel⟩,
   ⟨sE, 37, 0x04003005, by decide +kernel⟩,
   ⟨sE, .fn 256, 1, 0x1B, by decide +kernel⟩,
   ⟨sE, .fn 256, 3, 7, by decide +kernel⟩,
   ⟨sE, .fn 256, 3, 12, 999, by decide +kernel⟩,
   ⟨sE, .fn 256, 0x0F0F, by decide +kernel⟩,
   ⟨sE, .fn 256, 5, 15, 77, by decide +kernel⟩,
   ⟨sE, .fn 256, 1001, by decide +kernel⟩,
   ⟨sE, .fn 256, 0x010, 0x3F8, 7, by decide +kernel⟩,
   ⟨sE, .fn 37, 0x010, 0x40, 7, by decide +kernel⟩,
   ⟨sE, 3, 0x010, 0x101, 7, by decide +kernel⟩,
   ⟨sE, 256, 0x010, 0x101, 7, by decide +kernel⟩,
   ⟨(sE.setFld Reg.SEQ.STATE.STATE 5), .fn 256, 0x010, 1, by decide +kernel⟩,
   ⟨sE, 0x010, 0x100, by decide +kernel⟩,
   ⟨sE, 0x010, 0x100, 3, by decide +kernel⟩,
   ⟨sE, 3, by decide +kernel⟩,
   ⟨{ sE with boot := { sE.boot with fuses := { sE.boot.fuses with bank := [7, 8] } } }, 1, 8, by decide +kernel⟩,
   ⟨{ sE with boot := { sE.boot with fuses := { sE.boot.fuses with bank := [7, 8] } } }, 2, by decide +kernel⟩,
   ⟨lnS, 0x1044, by decide +kernel⟩,
   ⟨encS, 0x1044, 5, by decide +kernel⟩,
   ⟨lnS, 0x020000000044, by decide +kernel⟩,
   ⟨sE, 3, by decide +kernel⟩,
   ⟨sE, by decide +kernel⟩,
   ⟨{ sE with fatal := some 3 }, by decide +kernel⟩,
   ⟨{ sE with boot := { sE.boot with powered := false } }, .readKeySlot 3, by decide +kernel⟩⟩

theorem witness_control_and_error_words :
    (∃ (s : State) (page : Nat), ((Instr.enable page).wf) ∧ ((s.mayReach (.core 0) page = false ∨ (pageRun page).any (fun r => r.hasE) = false ∨ s.isSet
      (ctrlEnable page)))) ∧
    (∃ (s : State) (c : Nat), ((Instr.enable (0x100 + c)).wf) ∧ (c < 64) ∧ (s.mayReach (.core 0) (0x100 + c)) ∧ (s.isSet (ctrlEnable (0x100 + c)) = false)
      ∧ (s.checkCocoon c = none)) ∧
    (∃ (s : State) (c : Nat) (x : Nat × Nat), ((Instr.enable (0x100 + c)).wf) ∧ (c < 64) ∧ (s.mayReach (.core 0) (0x100 + c)) ∧ (s.isSet (ctrlEnable (0x100
      + c)) = false) ∧ (s.checkCocoon c = some x)) ∧
    (∃ (s : State) (p : Nat), ((Instr.enable (0x061 + p)).wf) ∧ (p < 16) ∧ (s.mayReach (.core 0) (0x061 + p)) ∧ (s.isSet (ctrlEnable (0x061 + p)) = false)) ∧
    (∃ (s : State), (s.mayReach (.core 0) 0x0A0) ∧ (s.isSet (ctrlEnable 0x0A0) = false)) ∧
    (∃ (s : State), (s.mayReach (.core 0) 0x080) ∧ (s.isSet (ctrlEnable 0x080) = false)) ∧
    (∃ (s : State), (s.mayReach (.core 0) 0x010) ∧ (s.isSet (ctrlEnable 0x010) = false)) ∧
    (∃ (s : State) (page : Nat), ((Instr.disable page).wf) ∧ ((s.mayReach (.core 0) page = false ∨ (pageRun page).any (fun r => r.hasE) = false ∨ s.isSet
      (ctrlEnable page) = false))) ∧
    (∃ (s : State), (s.mayReach (.core 0) 0x080) ∧ (s.isSet (ctrlEnable 0x080))) ∧
    (∃ (s : State), (s.mayReach (.core 0) 0x010) ∧ (s.isSet (ctrlEnable 0x010))) ∧
    (∃ (s : State) (p : Nat), ((Instr.disable (0x061 + p)).wf) ∧ (p < 16) ∧ (s.mayReach (.core 0) (0x061 + p)) ∧ (s.isSet (ctrlEnable (0x061 + p)))) ∧
    (∃ (s : State), (s.mayReach (.core 0) 0x0A0) ∧ (s.isSet (ctrlEnable 0x0A0))) ∧
    (∃ (s : State) (c : Nat), ((Instr.disable (0x100 + c)).wf) ∧ (c < 64) ∧ (s.mayReach (.core 0) (0x100 + c)) ∧ (s.isSet (ctrlEnable (0x100 + c)))) ∧
    (∃ (s : State) (page : Nat), ((Instr.commit page).wf) ∧ ((s.mayReach (.core 0) page = false ∨ (pageRun page).any (fun r => r.hasC) = false))) ∧
    (∃ (s : State) (page : Nat), ((Instr.commit page).wf) ∧ (s.mayReach (.core 0) page) ∧ ((pageRun page).any (fun r => r.hasC && r.hasE)) ∧ (s.isSet
      (ctrlEnable page) = false) ∧ ((page = 0x010 → s.seqHalted = false))) ∧
    (∃ (s : State) (page : Nat), ((Instr.commit page).wf) ∧ (boundaryPages.contains page) ∧ (s.mayReach (.core 0) page) ∧ (((pageRun page).any (fun r =>
      r.hasE) → s.isSet (ctrlEnable page)))) ∧
    (∃ (s : State), (s.mayReach (.core 0) 0x080) ∧ (s.isSet (ctrlEnable 0x080))) ∧
    (∃ (s : State) (a : Nat), (s.mayReach (.core 0) 0x060) ∧ (s.shd2 Reg.FH.RU_TBL_LO.ADDR_LO Reg.FH.RU_TBL_HI.ADDR_HI = a)) ∧
    (∃ (s : State) (p : Nat), ((Instr.commit (0x061 + p)).wf) ∧ (p < 16) ∧ (s.mayReach (.core 0) (0x061 + p)) ∧ (s.isSet (ctrlEnable (0x061 + p)))) ∧
    (∃ (s : State) (a : Nat), (s.mayReach (.core 0) 0x0C0) ∧ (s.shd2 Reg.SILK.FAB_ADDR_LO.ADDR Reg.SILK.FAB_ADDR_HI.ADDR = a)) ∧
    (∃ (s : State), (s.mayReach (.core 0) 0x010) ∧ (s.isSet (ctrlEnable 0x010)) ∧ ([1, 2, 3, 5].contains (s.fld Reg.SEQ.STATE.STATE) = false)) ∧
    (∃ (s : State) (page : Nat), ((Instr.blockReset page).wf) ∧ (([0x008, 0x010, 0x041, 0x060].contains page ∨ 0x048 ≤ page ∧ page < 0x058 ∨ 0x061 ≤ page ∧
      page ≤ 0x070)) ∧ (s.mayReach (.core 0) page) ∧ (s.isSet (ctrlEnable page) = false) ∧ ((page = 0x010 → s.seqHalted = false))) ∧
    (∃ (s : State) (page : Nat), ((Instr.blockReset page).wf) ∧ ((page = 0x009 ∨ page = 0x080 ∧ s.isSet (ctrlEnable 0x080) = false)) ∧ (s.mayReach (.core
      0) page)) ∧
    (∃ (s : State), (s.mayReach (.core 0) 0x040) ∧ (s.timeBusy = false)) ∧
    (∃ (s : State), (s.mayReach (.core 0) 0x040) ∧ (s.timeBusy)) ∧
    (∃ (s : State) (l : Nat), ((Instr.blockReset (0x0C0 + l)).wf) ∧ (l < 64) ∧ (s.mayReach (.core 0) (0x0C0 + l))) ∧
    (∃ (s : State) (page : Nat), ((Instr.blockReset page).wf) ∧ (([0x010, 0x080].contains page ∨ 0x061 ≤ page ∧ page ≤ 0x070)) ∧ (s.mayReach (.core 0)
      page) ∧ (s.isSet (ctrlEnable page)) ∧ ((page = 0x010 → s.seqHalted = false))) ∧
    (∃ (s : State) (page : Nat), ((Instr.blockReset page).wf) ∧ ((s.mayReach (.core 0) page = false ∨ (pageRun page).any (fun r => r.hasB) = false ∨ page =
      0x010 ∧ s.seqHalted))) ∧
    (∃ (s : State) (page : Nat) (w : Word), ((Instr.errWrite page w).wf) ∧ ((pageRun page).isSome) ∧ (s.mayReach (.core 0) page)) ∧
    (∃ (s : State) (page : Nat) (w : Word), ((Instr.errWrite page w).wf) ∧ ((pageRun page = none ∨ s.mayReach (.core 0) page = false))) ∧
    (∃ (s : State) (who : Issuer) (page : Nat) (w : Word), ((Instr.regWr who page 0x020 w).wf) ∧ ((pageRun page).isSome) ∧ (s.mayReach who page) ∧
      (s.mayReach (.core 0) page)) ∧
    (∃ (s : State) (who : Issuer) (page : Nat) (w : Word) (r : PageRun) (change : Bool) (c : Bool) (b : Bool), ((Instr.regWr who page 0x010 w).wf) ∧
      (pageRun page = some r) ∧ (s.mayReach who page) ∧ (s.mayReach (.core 0) page) ∧ ((page = 0x010 → s.seqHalted = false)) ∧ (ctrlAsks r (s.isSet
      (ctrlEnable page)) w = (change, c, b))) ∧
    (∃ (s : State) (who : Issuer) (page : Nat) (w : Word), ((Instr.regWr who page 0x024 w).wf) ∧ ((pageRun page).isSome) ∧ (s.mayReach who page)) ∧
    (∃ (s : State) (who : Issuer) (page : Nat) (w : Word), ((Instr.regWr who page 0x030 w).wf) ∧ ((pageRun page).isSome) ∧ (s.mayReach who page) ∧
      ((isFnPage page = false ∨ managesPages who))) ∧
    (∃ (s : State) (who : Issuer) (page : Nat) (off : Nat) (w : Word), ((Instr.regWr who page off w).wf) ∧ (s.mayReach who page) ∧ (off % 4 = 0) ∧ (off <
      0x100) ∧ (([0x010, 0x020, 0x024, 0x030].contains off = false ∨ off = 0x030 ∧ isFnPage page ∧ managesPages who = false))) :=
  ⟨⟨sE, 0x004, by decide +kernel⟩,
   ⟨ceS, 5, by decide +kernel⟩,
   ⟨(sE.setShd (Reg.COCOON.EXT_COUNT.COUNT 5) 9), 5, (0x01A0, 0x104), by decide +kernel⟩,
   ⟨offS, 3, by decide +kernel⟩,
   ⟨(sE.setFld (ctrlEnable 0x0A0) 0), by decide +kernel⟩,
   ⟨(offS.setFlds [(Reg.SEQ.STATE.STATE, 4), (Reg.SEQ.BEAT_CFG.FREE_RUN, 0)]), by decide +kernel⟩,
   ⟨offS, by decide +kernel⟩,
   ⟨sE, 0x004, by decide +kernel⟩,
   ⟨raS, by decide +kernel⟩,
   ⟨onS, by decide +kernel⟩,
   ⟨(sE.setFld (ctrlEnable 0x064) 1), 3, by decide +kernel⟩,
   ⟨(sE.setFld (ctrlEnable 0x0A0) 1), by decide +kernel⟩,
   ⟨(sE.setFld (ctrlEnable 0x105) 1), 5, by decide +kernel⟩,
   ⟨sE, 0x3FF, by decide +kernel⟩,
   ⟨offS, 0x010, by decide +kernel⟩,
   ⟨sE, 0x004, by decide +kernel⟩,
   ⟨raS, by decide +kernel⟩,
   ⟨ruS, 0, by decide +kernel⟩,
   ⟨(sE.setFld (ctrlEnable 0x064) 1), 3, by decide +kernel⟩,
   ⟨faS, 0, by decide +kernel⟩,
   ⟨(onS.setFld Reg.SEQ.STATE.STATE 4), by decide +kernel⟩,
   ⟨(offS.setFlds [(Reg.SEQ.BEAT_CFG.LEN, 3), (errWord 0x010, 5), (errMask 0x010, 7)]), 0x010, by decide +kernel⟩,
   ⟨offS, 0x009, by decide +kernel⟩,
   ⟨offS, by decide +kernel⟩,
   ⟨onS, by decide +kernel⟩,
   ⟨sE, 5, by decide +kernel⟩,
   ⟨raS, 0x080, by decide +kernel⟩,
   ⟨(sE.setFld Reg.SEQ.STATE.STATE 5), 0x010, by decide +kernel⟩,
   ⟨(sE.setFlds [(errWord 0x010, 5), (errFirstValid 0x010, 1)]), 0x010, 4, by decide +kernel⟩,
   ⟨sE, 0x250, 5, by decide +kernel⟩,
   ⟨(sE.setFlds [(errWord 0x010, 5), (errFirstValid 0x010, 1)]), .fn 256, 0x010, 4, by decide +kernel⟩,
   ⟨offS, .fn 256, 0x010, 7, (rn 0x010), true, true, true, by decide +kernel⟩,
   ⟨sE, .fn 256, 0x010, 0xFF, by decide +kernel⟩,
   ⟨sE, .fn 256, 0x010, 0x80000123, by decide +kernel⟩,
   ⟨sE, .fn 256, 0x010, 0x000, 7, by decide +kernel⟩⟩

end W14

namespace W15

theorem witness_step_takes_commands_in_order :
    (∃ (s : State) (c : Instr) (rest : List Instr), s.pending = c :: rest) ∧
    (∃ (s : State), s.pending = []) :=
  ⟨⟨{ State.reset with pending := [.referenceLoss] }, .referenceLoss, [], by decide +kernel⟩,
   ⟨State.reset, by decide +kernel⟩⟩

theorem witness_reset_leaves_the_tables_values :
    (∃ (f : Fld) (v : Nat), resetOf f = some v) ∧
    (∃ (a : Nat), 0x004000000000 ≤ a) :=
  ⟨⟨Reg.BOOT.STATE.INSTAR, 0, by decide +kernel⟩,
   ⟨0x004000000000, by decide +kernel⟩⟩

theorem witness_every_step_keeps_memory_canonical :
    ∃ (s : State) (t : State), (s.sound) ∧ (step s = .next t) :=
  ⟨State.reset, (Machine.tick State.reset), ⟨by decide, rfl⟩⟩

theorem witness_commands_leave_the_queue_alone :
    ∃ (c : Instr) (s : State) (t : State), exec c s = .next t :=
  ⟨.crossingResync (.edge 0), State.reset, (resyncDone (.edge 0) State.reset), rfl⟩

theorem witness_counted_length_of_a_frame :
    (∃ (s : State) (p : Nat) (_ : Nat), -32 ≤ s.overhead p) ∧
    (∃ (p : Nat), p < 16) :=
  ⟨⟨State.reset, 0, 64, by decide +kernel⟩,
   ⟨15, by decide +kernel⟩⟩

theorem witness_reserved_words_read_zero :
    (∃ (s : State) (who : Issuer) (page : Nat) (off : Nat), ((Instr.regRd who page off).wf) ∧ (s.mayReach who page) ∧ (off % 4 = 0) ∧ (reservedWord page
      off)) ∧
    (∃ (s : State) (who : Issuer) (page : Nat) (off : Nat) (w : Word), ((Instr.regWr who page off w).wf) ∧ (s.mayReach who page) ∧ (off % 4 = 0) ∧
      (reservedWord page off)) :=
  ⟨⟨sE, .fn 256, 0, 0x208, by decide +kernel⟩,
   ⟨sE, .fn 256, 0x010, 0x3F8, 7, by decide +kernel⟩⟩

end W15

namespace W16

def tbC : SchedTable := ⟨0, 2, 10000, 0, (List.range 160).map fun _ => ⟨0, 1, 1, 0, 0, 0, 0, 0, 0, true, true⟩, [], [], [], [], [], []⟩
def cS (st : Nat) (first : Bool) (beat : Nat) : State := let s := sE.setFlds [(Reg.SEQ.STATE.STATE, st), (ctrlEnable 0x010, 1)]; { s with seq := { s.seq with armed := if st = 1 then none else some tbC, loading := if st = 1 then some [1] else none, first := first, next := 160, beat := beat } }

theorem witness_commit_and_cancel_by_state :
    (∃ (s : State), ([1, 2, 3].contains (s.fld Reg.SEQ.STATE.STATE)) ∧ (s.isSet (ctrlEnable 0x010)) ∧ (s.mayReach (.core 0) 0x010)) ∧
    (∃ (s : State), s.seqHalted) ∧
    (∃ (s : State), s.fld Reg.SEQ.STATE.STATE = 1) ∧
    (∃ (s : State) (tb : SchedTable), (s.fld Reg.SEQ.STATE.STATE = 2) ∧ (s.seq.armed = some tb) ∧ (s.seq.beat < s.seq.next - tb.preempt)) ∧
    (∃ (s : State) (tb : SchedTable), ((s.fld Reg.SEQ.STATE.STATE = 2 ∧ s.seq.next - tb.preempt ≤ s.seq.beat ∨ s.fld Reg.SEQ.STATE.STATE = 3)) ∧
      (s.seq.armed = some tb)) ∧
    (∃ (s : State), [0, 4, 5, 6].contains (s.fld Reg.SEQ.STATE.STATE)) :=
  ⟨⟨(cS 2 true 3), by decide +kernel⟩,
   ⟨(cS 5 true 3), by decide +kernel⟩,
   ⟨(cS 1 true 3), by decide +kernel⟩,
   ⟨(cS 2 true 157), tbC, by decide +kernel⟩,
   ⟨(cS 2 true 158), tbC, by decide +kernel⟩,
   ⟨(cS 4 true 158), by decide +kernel⟩⟩

end W16

end Sys2Proof.Tests
end

section
/-!
The parts of a frame: a frame holds with more parts and pages listed, and what is not listed is as before. A quiet frame is one in which no free
value is drawn either, so that a register field outside its pages reads the same even where nothing has written it (R513).
-/
namespace Sys2Proof.Machine

/-! ### Parts of the state -/

theorem State.hide_hide (s : State) (p : Part) : (s.hide p).hide p = s.hide p := by cases p <;> rfl

theorem State.hide_comm (s : State) (p q : Part) : (s.hide p).hide q = (s.hide q).hide p := by cases p <;> cases q <;> rfl

/-- A part that is hidden later anyway may as well be hidden first. -/
theorem foldl_hide_hide {p : Part} {ps : List Part} (h : p ∈ ps) (s : State) : ps.foldl State.hide (s.hide p) = ps.foldl State.hide s := by
  induction ps generalizing s with
  | nil => cases h
  | cons q qs ih =>
    simp only [List.foldl_cons]
    rcases List.mem_cons.mp h with rfl | h
    · rw [State.hide_hide]
    · rw [State.hide_comm, ih h]

theorem foldl_hide_foldl_hide {ps qs : List Part} (sub : ps ⊆ qs) (s : State) :
    qs.foldl State.hide (ps.foldl State.hide s) = qs.foldl State.hide s := by
  induction ps generalizing s with
  | nil => rfl
  | cons p ps ih =>
    obtain ⟨hp, hps⟩ := List.cons_subset.mp sub
    rw [List.foldl_cons, ih hps, foldl_hide_hide hp]

theorem SameBut.mono {ps qs : List Part} {s t : State} (h : SameBut ps s t) (sub : ps ⊆ qs) : SameBut qs s t := by
  have k := congrArg (qs.foldl State.hide) h
  rwa [foldl_hide_foldl_hide sub, foldl_hide_foldl_hide sub] at k

theorem State.hide_seq {p : Part} (h : p ≠ .seq) (s : State) : (s.hide p).seq = s.seq := by
  cases p with
  | seq => exact absurd rfl h
  | _ => rfl

theorem foldl_hide_seq {ps : List Part} (h : Part.seq ∉ ps) (s : State) : (ps.foldl State.hide s).seq = s.seq := by
  induction ps generalizing s with
  | nil => rfl
  | cons p ps ih =>
    rw [List.foldl_cons, ih (List.not_mem_of_not_mem_cons h), State.hide_seq (List.ne_of_not_mem_cons h).symm]

theorem SameBut.seq_eq {ps : List Part} {s t : State} (h : SameBut ps s t) (hp : Part.seq ∉ ps) : t.seq = s.seq := by
  rw [← foldl_hide_seq hp s, ← foldl_hide_seq hp t, h]

/-! ### Frames -/

theorem Frame.more_parts {ps qs : List Part} {pages : List Nat} {s t : State} (h : Frame ps pages s t) (sub : ps ⊆ qs) : Frame qs pages s t :=
  ⟨h.1.mono (List.cons_subset_cons _ (List.cons_subset_cons _ sub)), h.2⟩

theorem Frame.seq_eq {ps : List Part} {pages : List Nat} {s t : State} (h : Frame ps pages s t) (hp : Part.seq ∉ ps) : t.seq = s.seq :=
  h.1.seq_eq (by simpa using hp)

/-- A frame in which no free value is drawn. -/
def QuietFrame (ps : List Part) (pages : List Nat) (s t : State) : Prop := Frame ps pages s t ∧ t.draws = s.draws

theorem QuietFrame.refl (ps : List Part) (pages : List Nat) (s : State) : QuietFrame ps pages s s := ⟨.refl _ _ _, rfl⟩

theorem QuietFrame.trans {ps : List Part} {pages : List Nat} {s t u : State} (h : QuietFrame ps pages s t) (k : QuietFrame ps pages t u) :
    QuietFrame ps pages s u :=
  ⟨h.1.trans k.1, k.2.trans h.2⟩

theorem QuietFrame.mono {ps qs : List Part} {l m : List Nat} {s t : State} (h : QuietFrame ps l s t) (hp : ps ⊆ qs) (hl : l ⊆ m) :
    QuietFrame qs m s t :=
  ⟨(h.1.more_parts hp).more_pages fun _ => @hl _, h.2⟩

/-- A register field outside the pages of a quiet frame, and on no page on which vectors show, reads as before. -/
theorem QuietFrame.fld_eq {ps : List Part} {pages : List Nat} {s t : State} (h : QuietFrame ps pages s t) {f : Fld} (hf : f.ok)
    (hp : f.page ∉ pages) (hv : vectorPage f.page = false) : t.fld f = s.fld f := by
  have live : Assoc.find f.key t.pages.file.live = Assoc.find f.key s.pages.file.live :=
    h.1.2.1 f.key (by simp [Fld.key_page hf, hp, hv])
  simp [State.fld, State.unwritten, live, h.2]

theorem QuietFrame.foldl {α : Type} {ps : List Part} {pages : List Nat} {f : State → α → State} {l : List α}
    (step : ∀ s, ∀ x ∈ l, QuietFrame ps pages s (f s x)) (s : State) : QuietFrame ps pages s (l.foldl f s) := by
  induction l generalizing s with
  | nil => exact .refl _ _ _
  | cons x l ih =>
    exact (step s x List.mem_cons_self).trans (ih (fun s y hy => step s y (List.mem_cons_of_mem _ hy)) _)

theorem quietFrame_power (s : State) (p : PowerUnit) : QuietFrame [.power] [] s { s with power := p } := ⟨⟨rfl, fun _ _ => rfl, rfl⟩, rfl⟩

theorem quietFrame_seq (s : State) (q : SeqUnit) : QuietFrame [.seq] [] s { s with seq := q } := ⟨⟨rfl, fun _ _ => rfl, rfl⟩, rfl⟩

/-! ### Register fields -/

theorem setFld_quiet {f : Fld} (h : f.ok) (s : State) (v : Nat) : QuietFrame [] [f.page] s (s.setFld f v) := ⟨setFld_frame h s v, rfl⟩

theorem setFlds_quiet {pages : List Nat} {l : List (Fld × Nat)} (h : ∀ x ∈ l, x.1.ok ∧ x.1.page ∈ pages) (s : State) :
    QuietFrame [] pages s (s.setFlds l) := by
  induction l generalizing s with
  | nil => exact .refl _ _ _
  | cons x l ih =>
    obtain ⟨hok, hpage⟩ := h x List.mem_cons_self
    exact ((setFld_quiet hok s x.2).mono (List.Subset.refl _) (by simpa using hpage)).trans (ih (fun y hy => h y (List.mem_cons_of_mem _ hy)) _)

theorem recordOn_quiet (s : State) (die cls page code detail : Nat) : QuietFrame [] [] s (s.recordOn die cls page code detail) :=
  ⟨recordOn_frame _ _ _ _ _ _, recordOn_draws _ _ _ _ _ _⟩

@[simp] theorem enter_draws (s : State) (f : Fld) (v : Nat) : (s.enter f v).draws = s.draws := by
  unfold State.enter
  split <;> simp [State.record]

theorem enter_quiet {f : Fld} (h : f.ok) (s : State) (v : Nat) : QuietFrame [] [f.page] s (s.enter f v) := ⟨enter_frame h s v, enter_draws s f v⟩

theorem enter_fld_other {f g : Fld} (h : g.key ≠ f.key) (s : State) (v : Nat) : (s.enter f v).fld g = s.fld g := by
  unfold State.enter
  split
  · rfl
  · rw [record_fld, State.fld_setFld_other h]

/-! ### Refusals (R498) -/

@[simp] theorem sendSignal_draws (s : State) (fn v : Nat) : (s.sendSignal fn v).draws = s.draws := by
  unfold State.sendSignal State.toHost
  split
  · rfl
  · split <;> rfl

@[simp] theorem raiseOwned_draws (s : State) (v : Nat) : (s.raiseOwned v).draws = s.draws := by
  unfold State.raiseOwned State.raiseIndex
  split
  · split <;> simp
  · rfl

@[simp] theorem setErrQuiet_draws (s : State) (page bit : Nat) : (s.setErrQuiet page bit).draws = s.draws := by
  unfold State.setErrQuiet
  extract_lets e u
  have h : u.draws = s.draws := recordOn_draws _ _ _ _ _ _
  split <;> simp [h]

@[simp] theorem raisePage_draws (s : State) (page : Nat) : (s.raisePage page).draws = s.draws := by
  unfold State.raisePage
  split
  · split
    · exact raiseOwned_draws _ _
    · split
      · rfl
      · extract_lets u
        split <;> simp [u]
  · rfl

theorem raisePage_quiet (s : State) (page : Nat) : QuietFrame [] [] s (s.raisePage page) := ⟨raisePage_frame s page, raisePage_draws s page⟩

/-- Raising a vector changes no field but those of the pages on which vectors show. -/
theorem raisePage_fld (s : State) (page : Nat) {f : Fld} (hf : f.ok) (hv : vectorPage f.page = false) : (s.raisePage page).fld f = s.fld f :=
  (raisePage_quiet s page).fld_eq hf List.not_mem_nil hv

/-- A refusal changes no field of its page but the two of REFUSAL. -/
theorem refuse_fld_other {f : Fld} {page : Nat} (hf : f.ok) (hv : vectorPage f.page = false) (hr : f.key ≠ (refusalReason page).key)
    (ho : f.key ≠ (refusalOffset page).key) (s : State) (reason off : Nat) : (s.refuse page reason off).fld f = s.fld f := by
  unfold State.refuse
  rw [raisePage_fld _ _ hf hv, record_fld, State.fld_setFld_other ho, State.fld_setFld_other hr]

/-- A page on which no vector shows gives the reason of the refusal. -/
theorem refuse_refused {page reason : Nat} (hv : vectorPage page = false) (hr : reason < 65536) (s : State) (off : Nat) :
    Refused (s.refuse page reason off) page reason := by
  have hne : (refusalReason page).key ≠ (refusalOffset page).key := by simp only [Fld.key, refusalReason, refusalOffset]; omega
  unfold Refused State.refuse
  rw [raisePage_fld _ _ (refusalReason_ok page) hv, record_fld, State.fld_setFld_other hne, State.fld_setFld]
  exact Nat.mod_eq_of_lt hr

theorem refuse_seq (s : State) (page reason off : Nat) : (s.refuse page reason off).seq = s.seq :=
  (refuse_frame s page reason off).seq_eq List.not_mem_nil

/-! ### Operating points (R36–R41) -/

theorem raiseDie_quiet (s : State) (d : Nat) : QuietFrame [.power] [] s (s.raiseDie d) := by
  unfold State.raiseDie
  split
  · exact (((recordOn_quiet _ _ _ _ _ _).mono (List.nil_subset _) (List.Subset.refl _)).trans (quietFrame_power _ _)).trans (quietFrame_power _ _)
  · exact .refl _ _ _

theorem raiseTurn_quiet (s : State) : QuietFrame [.power] [] s s.raiseTurn := by
  unfold State.raiseTurn
  split
  · exact .refl _ _ _
  · exact (quietFrame_power _ _).trans (QuietFrame.foldl (fun s d _ => raiseDie_quiet s d) _)

theorem lowerDie_quiet (s : State) {d : Nat} (h : d < 32) : QuietFrame [.power] diePages s (s.lowerDie d) := by
  have hpage : (Reg.DIE.OPPOINT.CUR d).page ∈ diePages := List.mem_map_of_mem (List.mem_range.mpr h)
  have hok : (Reg.DIE.OPPOINT.CUR d).ok := by simp [Fld.ok, Reg.DIE.OPPOINT.CUR]
  unfold State.lowerDie
  simp only
  split
  · exact ((quietFrame_power _ _).mono (List.Subset.refl _) (List.nil_subset _)).trans
      ((setFld_quiet hok _ _).mono (List.nil_subset _) (by simpa using hpage))
  · exact .refl _ _ _

theorem refreshPower_quiet (s : State) : QuietFrame [] (0x004 :: diePages) s s.refreshPower := by
  have die (s : State) : ∀ d ∈ List.range 32, QuietFrame [] (0x004 :: diePages) s
      (s.setFlds [(Reg.DIE.OPPOINT.LIMIT d, s.neighbourLimit d), (Reg.DIE.OPPOINT.PINNED d, if s.pinnedBy d then 1 else 0)]) := by
    intro d hd
    have hpage : 0x300 + 8 * d ∈ diePages := List.mem_map_of_mem hd
    exact setFlds_quiet (by simp [Fld.ok, Reg.DIE.OPPOINT.LIMIT, Reg.DIE.OPPOINT.PINNED, hpage]) s
  unfold State.refreshPower
  exact (QuietFrame.foldl die s).trans
    (setFlds_quiet (by simp [Fld.ok, Reg.PWR.THROTTLE.PKG, Reg.PWR.THROTTLE.THERM, Reg.PWR.THROTTLE.HOLD]) _)

/-- Starting the changes that may start touches the power unit, page PWR and the C-die pages. -/
theorem pumpPower_quiet (s : State) : QuietFrame [.power] (0x004 :: diePages) s s.pumpPower := by
  have lowered (s : State) : QuietFrame [.power] (0x004 :: diePages) s ((List.range 32).foldl (fun s d => s.lowerDie d) s) :=
    .foldl (fun s _ hd => (lowerDie_quiet s (List.mem_range.mp hd)).mono (List.Subset.refl _) (List.subset_cons_self _ _)) s
  have raised (s : State) : QuietFrame [.power] (0x004 :: diePages) s s.raiseTurn :=
    (raiseTurn_quiet s).mono (List.Subset.refl _) (List.nil_subset _)
  have refreshed := (refreshPower_quiet s).mono (List.nil_subset [.power]) (List.Subset.refl _)
  unfold State.pumpPower
  exact ((refreshed.trans (lowered _)).trans (raised _)).trans ((quietFrame_power _ _).mono (List.Subset.refl _) (List.nil_subset _))

theorem pumpPower_seq (s : State) : s.pumpPower.seq = s.seq := (pumpPower_quiet s).1.seq_eq (by simp)

theorem seqPage_not_mem_powerPages : 0x010 ∉ 0x004 :: diePages := by
  simp only [diePages, List.mem_cons, List.mem_map, List.mem_range]
  rintro (h | ⟨d, -, h⟩) <;> omega

/-- The fields of page SEQ are not the power unit's. -/
theorem pumpPower_fld_seqPage (s : State) {f : Fld} (hf : f.ok) (hp : f.page = 0x010) : s.pumpPower.fld f = s.fld f :=
  (pumpPower_quiet s).fld_eq hf (hp ▸ seqPage_not_mem_powerPages) (hp ▸ rfl)

end Sys2Proof.Machine
end

section
/-!
COMMIT and CANCEL of the beat sequencer by the state (R56, R75), and the beat lengths (R43).
-/
namespace Sys2Proof.Machine

/-! ### Beat lengths (R43) -/

/-- The codes of LEN run over one frame length. -/
theorem beatLen_mul_beatsPerFrame {code : Nat} (h : code < 4) : beatLen code * beatsPerFrame code = 10000000 := by
  match code, h with
  | 0, _ | 1, _ | 2, _ | 3, _ => rfl

/-! ### A table given up (R55, R56) -/

theorem seqState_ok : Reg.SEQ.STATE.STATE.ok := by simp [Fld.ok, Reg.SEQ.STATE.STATE]

theorem seqEnable_ok : (ctrlEnable 0x010).ok := by simp [Fld.ok, ctrlEnable]

theorem clearNext_quiet (s : State) : QuietFrame [] [0x010] s s.clearNext :=
  setFlds_quiet (by simp [Fld.ok, Reg.SEQ.NEXT_LO.NEXT, Reg.SEQ.NEXT_HI.NEXT, Reg.SEQ.LIVE.PREEMPT_BEATS]) s

theorem seqRunning_quiet (s : State) : QuietFrame [] [0x010] s s.seqRunning :=
  (enter_quiet seqState_ok s 4).trans (setFld_quiet (by simp [Fld.ok, Reg.SEQ.STATUS.STEP_WAIT]) _ 0)

theorem seqRunning_state (s : State) : s.seqRunning.fld Reg.SEQ.STATE.STATE = 4 := by
  rw [State.seqRunning, State.fld_setFld_other (by decide), enter_fld s (by decide)]

/-- What a table that is given up leaves of the sequencer: no table loads or is armed, and the active one is as it was. -/
theorem tableGone_seq (s : State) : s.tableGone.seq = { s.seq with loading := none, armed := none, first := false } := by
  unfold State.tableGone
  extract_lets first q u
  have hu : u.seq = { s.seq with loading := none, armed := none, first := false } := (clearNext_quiet _).1.seq_eq List.not_mem_nil
  split
  · rw [← hu]
    exact (enter_quiet seqState_ok _ 0).1.seq_eq List.not_mem_nil
  · rw [← hu]
    exact (seqRunning_quiet u).1.seq_eq List.not_mem_nil

/-- A first table leaves the sequencer DISABLED, any other RUNNING. -/
theorem tableGone_state (s : State) : s.tableGone.fld Reg.SEQ.STATE.STATE = if s.seq.first then 0 else 4 := by
  unfold State.tableGone
  extract_lets first q u
  cases hf : s.seq.first with
  | true =>
    simp only [first, hf, if_true]
    exact enter_fld _ (Nat.two_pow_pos _)
  | false =>
    simp only [first, hf, Bool.false_eq_true, if_false]
    exact seqRunning_state u

/-- A first table leaves ENABLE 0. -/
theorem tableGone_enable (s : State) (h : s.seq.first = true) : s.tableGone.isSet (ctrlEnable 0x010) = false := by
  unfold State.tableGone
  simp only [h, if_true]
  rw [State.isSet, enter_fld_other (by decide), State.fld_setFld]
  rfl

theorem tableGone_quiet (s : State) : QuietFrame [.seq] [0x010] s s.tableGone := by
  unfold State.tableGone
  extract_lets first q u
  have commits (v : State) : QuietFrame [.seq] [0x010] v (v.commitOver 0x010) := ⟨⟨rfl, fun _ _ => rfl, rfl⟩, rfl⟩
  have lift {v w : State} (h : QuietFrame [] [0x010] v w) : QuietFrame [.seq] [0x010] v w := h.mono (List.nil_subset _) (List.Subset.refl _)
  have hu : QuietFrame [.seq] [0x010] s u :=
    (((quietFrame_seq s _).mono (List.Subset.refl _) (List.nil_subset _)).trans (commits _)).trans (lift (clearNext_quiet _))
  split
  · exact hu.trans (lift ((setFld_quiet seqEnable_ok u 0).trans (enter_quiet seqState_ok _ 0)))
  · exact hu.trans (lift (seqRunning_quiet u))

/-! ### CANCEL, state by state (R56) -/

theorem cancelStep_loading {s : State} (h : s.fld Reg.SEQ.STATE.STATE = 1) : cancelStep s = s.tableGone := by simp [cancelStep, h]

/-- ARMED with preemption not begun: the armed table is given up, and the power unit no longer counts it. -/
theorem cancelStep_armed {s : State} {tb : SchedTable} (h : s.fld Reg.SEQ.STATE.STATE = 2) (ha : s.seq.armed = some tb)
    (hb : s.seq.beat < s.seq.next - tb.preempt) : cancelStep s = s.tableGone.pumpPower := by
  simp [cancelStep, h, ha, hb]

/-- From the beat at which preemption begins a cancel comes too late. -/
theorem cancelStep_late {s : State} {tb : SchedTable}
    (h : s.fld Reg.SEQ.STATE.STATE = 2 ∧ s.seq.next - tb.preempt ≤ s.seq.beat ∨ s.fld Reg.SEQ.STATE.STATE = 3) (ha : s.seq.armed = some tb) :
    cancelStep s = s.refuse 0x010 0x0402 0x138 := by
  rcases h with ⟨h2, hb⟩ | h3
  · simp [cancelStep, h2, ha, Nat.not_lt.mpr hb]
  · simp [cancelStep, h3, ha]

theorem cancelStep_idle {s : State} (h : [0, 4, 5, 6].contains (s.fld Reg.SEQ.STATE.STATE) = true) : cancelStep s = s := by
  simp only [List.contains_eq_mem, decide_eq_true_eq, List.mem_cons, List.not_mem_nil, or_false] at h
  rcases h with h | h | h | h <;> simp [cancelStep, h]

/-! ### COMMIT of page SEQ (R56, R75) -/

theorem commitPage_seq (s : State) : s.commitPage 0x010 = s.commitSeq := rfl

theorem commitStep_halted {s : State} (h : s.seqHalted = true) : commitStep 0x010 s = s := by
  have hc : s.commitPage 0x010 = s := by rw [commitPage_seq, State.commitSeq, if_pos (Nat.eq_of_beq_eq_true h)]
  rw [commitStep, State.served_, hc, ite_self]

theorem commitStep_busy {s : State} (h : [1, 2, 3].contains (s.fld Reg.SEQ.STATE.STATE) = true) (he : s.isSet (ctrlEnable 0x010) = true)
    (hr : s.mayReach (.core 0) 0x010 = true) : commitStep 0x010 s = s.refuse 0x010 0x0401 0x010 := by
  have h5 : s.fld Reg.SEQ.STATE.STATE ≠ 5 := by
    intro e
    simp [e] at h
  rw [commitStep, State.served_, if_pos hr, commitPage_seq, State.commitSeq, if_neg h5, he, if_neg (by simp), if_pos h]

/-- A refusal on page SEQ shows its reason and leaves the tables and the state as they are. -/
theorem refuse_seqPage {reason : Nat} (h : reason < 65536) (s : State) (off : Nat) :
    Refused (s.refuse 0x010 reason off) 0x010 reason ∧ (s.refuse 0x010 reason off).seq = s.seq ∧
      (s.refuse 0x010 reason off).fld Reg.SEQ.STATE.STATE = s.fld Reg.SEQ.STATE.STATE ∧ Frame [] [0x010] s (s.refuse 0x010 reason off) :=
  ⟨refuse_refused rfl h s off, refuse_seq s _ _ _, refuse_fld_other seqState_ok rfl (by decide) (by decide) s _ _, refuse_frame s _ _ _⟩

/-! ### The obligations -/

theorem completes_cancel {s t : State} {P : State → Prop} (h : cancelStep s = t) (hP : P t) : Completes .cancel s P :=
  ⟨t, congrArg Host.Outcome.next h, hP⟩

theorem completes_commit {s t : State} {page : Nat} {P : State → Prop} (h : commitStep page s = t) (hP : P t) : Completes (.commit page) s P :=
  ⟨t, congrArg Host.Outcome.next h, hP⟩

/-- Settles O56: LEN has two bits, and each of its four values gives its row of the table. -/
theorem beatLengthTable : Obligations.beat_length_table := by
  intro s
  have hlt : s.fld Reg.SEQ.BEAT_CFG.LEN < 4 := fld_lt s Reg.SEQ.BEAT_CFG.LEN
  refine ⟨fun h => ?_, fun h => ?_, fun h => ?_, fun h => ?_, hlt, beatLen_mul_beatsPerFrame hlt⟩ <;>
    simp [State.L, State.F, h, beatLen, beatsPerFrame]

/-- Settles O60: by the state, COMMIT and CANCEL are a refusal, nothing, or the table given up, and what each of these leaves is known. -/
theorem commitAndCancelByState : Obligations.commit_and_cancel_by_state := by
  refine ⟨fun s h he hr => ?_, fun s h => ?_, fun s h => ?_, fun s tb h ha hb => ?_, fun s tb h ha => ?_, fun s h => ?_⟩
  · exact completes_commit (commitStep_busy h he hr) (refuse_seqPage (by decide) s _)
  · exact completes_commit (commitStep_halted h) rfl
  · have hs := tableGone_seq s
    exact completes_cancel (cancelStep_loading h)
      ⟨by rw [hs], by rw [hs], by rw [hs], tableGone_state s, tableGone_enable s, (tableGone_quiet s).1⟩
  · have hs := (pumpPower_seq _).trans (tableGone_seq s)
    have gone := (tableGone_quiet s).mono (qs := [.seq, .power]) (m := 0x004 :: 0x010 :: diePages) (by simp) (by simp)
    have pump := (pumpPower_quiet s.tableGone).mono (qs := [.seq, .power]) (m := 0x004 :: 0x010 :: diePages) (by simp)
      (List.cons_subset_cons _ (List.subset_cons_self _ _))
    refine completes_cancel (cancelStep_armed h ha hb) ⟨by rw [hs], by rw [hs], by rw [hs], ?_, fun hf => ?_, (gone.trans pump).1⟩
    · rw [pumpPower_fld_seqPage _ seqState_ok rfl, tableGone_state]
    · rw [State.isSet, pumpPower_fld_seqPage _ seqEnable_ok rfl]
      exact tableGone_enable s hf
  · exact completes_cancel (cancelStep_late h ha) (refuse_seqPage (by decide) s _)
  · exact completes_cancel (cancelStep_idle h) rfl

end Sys2Proof.Machine
end

section
/-!
The counted length of a frame (R246): OVERHEAD of a port is a signed value of nine bits, and a counted length below 1 is taken as 1.
-/
namespace Sys2Proof.Machine

/-! ### Signed fields -/

/-- The signed reading of `w` bits is below half their span. -/
theorem toSigned_lt (w v : Nat) : toSigned w v < 2 ^ (w - 1) := by
  have span : 2 ^ w ≤ 2 ^ (w - 1) * 2 := by
    rw [← Nat.pow_succ]
    exact Nat.pow_le_pow_right (by decide) (by omega)
  have bits : v % 2 ^ w < 2 ^ w := Nat.mod_lt v (Nat.two_pow_pos w)
  simp only [toSigned]
  split
  case isTrue h => exact_mod_cast h
  case isFalse h =>
    have below : ((v % 2 ^ w : Nat) : Int) < ((2 ^ (w - 1) + 2 ^ w : Nat) : Int) := Int.ofNat_lt.mpr (by omega)
    rw [Int.natCast_add, Int.natCast_pow, Int.natCast_pow] at below
    exact Int.sub_right_lt_of_lt_add below

/-- A value below half the span is read as itself. -/
theorem toSigned_of_lt {w v : Nat} (h : v < 2 ^ (w - 1)) : toSigned w v = v := by
  have whole : v < 2 ^ w := Nat.lt_of_lt_of_le h (Nat.pow_le_pow_right (by decide) (Nat.sub_le w 1))
  simp only [toSigned]
  rw [Nat.mod_eq_of_lt whole, if_pos h]

/-! ### Register fields at reset (R513) -/

/-- After reset a field whose table gives a value reads that value. -/
theorem reset_fld {f : Fld} {v : Nat} (h : resetOf f = some v) : State.reset.fld f = v % 2 ^ f.w := by
  have unwritten : State.reset.unwritten f = v := by rw [State.unwritten, h]
  exact congrArg (· % 2 ^ f.w) unwritten

/-! ### OVERHEAD and the counted length (R246) -/

theorem resetOf_overhead : ∀ p < 16, resetOf (Reg.FH_PORT.OVERHEAD.BYTES p) = some 20 := by decide

theorem overhead_le (s : State) (p : Nat) : s.overhead p ≤ 255 := Int.le_of_lt_add_one (toSigned_lt 9 _)

theorem reset_overhead {p : Nat} (h : p < 16) : State.reset.overhead p = 20 := by
  rw [State.overhead, reset_fld (resetOf_overhead p h)]
  exact toSigned_of_lt (w := 9) (v := 20) (by decide)

/-- A frame counts as its bytes and OVERHEAD, and as 1 where these come to less. -/
theorem counted_eq (len : Nat) (overhead : Int) :
    (counted len overhead : Int) = if (len : Int) + overhead < 1 then 1 else len + overhead := by
  rw [counted]
  split
  case isTrue short => omega
  case isFalse long => omega

/-- Settles O57: nine signed bits end at 255, the count is cut off at 1 from below, and the table of page FH_PORT gives OVERHEAD the value 20. -/
theorem countedLengthOfAFrame : Obligations.counted_length_of_a_frame :=
  ⟨fun s p len _ => ⟨overhead_le s p, counted_eq len (s.overhead p)⟩, fun _ => reset_overhead⟩

end Sys2Proof.Machine
end

section
/-!
A device's self-score (R416): a fatal error alone takes all 255, and otherwise the channels that are DOWN, the links that have FAILED and
SELF.PENALTY are taken off, with a cut at 0.
-/
namespace Sys2Proof.Machine

/-- What a device without a fatal error takes off its self-score (R416). -/
def State.selfPenalty (s : State) : Nat :=
  48 * ((List.range 24).filter fun c => Nat.beq (s.fld (Reg.MEM_CH.STATE.STATE c)) 4).length +
    8 * ((List.range 64).filter fun l => Nat.beq (s.fld (Reg.SILK_LINK.STATE.STATE l)) 5).length + s.fld Reg.POD.SELF.PENALTY

theorem selfScore_of_fatal {s : State} (h : s.fatal.isSome) : s.selfScore = 0 := if_pos h

theorem selfScore_of_not_fatal {s : State} (h : ¬ s.fatal.isSome) : s.selfScore = 255 - s.selfPenalty :=
  (if_neg h).trans (by rw [Nat.sub_sub, Nat.sub_sub, ← Nat.add_assoc, State.selfPenalty])

/-- Settles O58: with a fatal error nothing is left of the 255, and without one the model's subtraction, which stops at 0, is the rule's. -/
theorem selfScoreAndItsPenalties : Obligations.self_score_and_its_penalties := by
  intro s
  by_cases fatal : s.fatal.isSome
  case pos =>
    rw [selfScore_of_fatal fatal, if_pos fatal]
    omega
  case neg =>
    rw [selfScore_of_not_fatal fatal, if_neg fatal, State.selfPenalty]
    omega

end Sys2Proof.Machine
end

section
/-!
Reserved words (R487, R490–R492): no table names them, so that none of the words a read or a write treats apart is one of them. A read answers 0
and a write is passed over.
-/
namespace Sys2Proof.Machine

/-! ### Pages and their runs (R491) -/

/-- The runs of R491 lie apart. -/
theorem pageRuns_apart :
    ∀ a ∈ pageRuns, ∀ b ∈ pageRuns, a = b ∨ a.first + a.count ≤ b.first ∨ b.first + b.count ≤ a.first := by decide

/-- A page lies in the run that spans it. -/
theorem pageRun_of_mem {r : PageRun} {page : Nat} (hr : r ∈ pageRuns) (lo : r.first ≤ page) (hi : page < r.first + r.count) :
    pageRun page = some r := by
  have spans (x : PageRun) : (Nat.ble x.first page && Nat.blt page (x.first + x.count)) = true ↔ x.first ≤ page ∧ page < x.first + x.count := by
    rw [Bool.and_eq_true, Nat.ble_eq, Nat.blt_eq]
  cases found : pageRun page with
  | none => exact absurd ((spans r).mpr ⟨lo, hi⟩) (List.find?_eq_none.mp found r hr)
  | some x =>
    have holds := List.find?_some found
    obtain ⟨xlo, xhi⟩ := (spans x).mp holds
    rcases pageRuns_apart x (List.mem_of_find?_eq_some found) r hr with same | before | after
    · rw [same]
    · omega
    · omega

/-- Two pages of one run with the same table have the same reserved offsets. -/
theorem reservedWord_congr {r : PageRun} {p q : Nat} (hp : pageRun p = some r) (hq : pageRun q = some r) (hp0 : p ≠ 0) (hq0 : q ≠ 0)
    (table : layout r.type (p - r.first) = layout r.type (q - r.first)) (off : Nat) : reservedWord p off = reservedWord q off := by
  simp only [reservedWord, wordFlds, hp, hq, table, if_neg hp0, if_neg hq0]

/-- All tenant function pages have one table (R410). -/
theorem reservedWord_tenantFn {p : Nat} (lo : 0x140 ≤ p) (hi : p ≤ 0x23F) (off : Nat) : reservedWord p off = reservedWord 0x140 off := by
  have run : pageRun p = some ⟨0x140, 256, .tenantFn, false, false, false, 64⟩ := pageRun_of_mem (by decide) lo (Nat.lt_succ_of_le hi)
  exact reservedWord_congr (q := 0x140) run rfl (by omega) (by decide) (by simp only [layout]) off

/-- The pages of a C-die's clusters have one table, but for the die registers of the first (R42, R114). -/
theorem reservedWord_cluster {p : Nat} (lo : 0x300 ≤ p) (hi : p < 0x400) (off : Nat) :
    reservedWord p off = reservedWord 0x300 off ∨ reservedWord p off = reservedWord 0x301 off := by
  have run : pageRun p = some ⟨0x300, 256, .cluster, false, false, false, 8⟩ := pageRun_of_mem (by decide) lo hi
  by_cases first : (p - 0x300) % 8 = 0
  · exact .inl (reservedWord_congr (q := 0x300) run rfl (by omega) (by decide) (by simp [layout, first]) off)
  · exact .inr (reservedWord_congr (q := 0x301) run rfl (by omega) (by decide) (by simp [layout, first]) off)

/-- An offset that the tables of all function pages name is reserved on none of them (R410). -/
theorem reservedWord_fnPage {off : Nat} (tenant : reservedWord 0x140 off = false) (mgmt : reservedWord 0x241 off = false)
    (radio : reservedWord 0x242 off = false) {p : Nat} (hp : isFnPage p = true) : reservedWord p off = false := by
  simp only [isFnPage, Bool.or_eq_true, Bool.and_eq_true, Nat.ble_eq, Nat.beq_eq] at hp
  rcases hp with (⟨lo, hi⟩ | rfl) | rfl
  · rwa [reservedWord_tenantFn lo hi]
  · exact mgmt
  · exact radio

/-- The pages with a function are the tenant function pages, the management function's and the radio function's (R491). -/
theorem pageFn_cases {page fn : Nat} (h : pageFn page = some fn) :
    (0x140 ≤ page ∧ page ≤ 0x23F) ∨ (page = 0x241 ∧ fn = 256) ∨ (page = 0x242 ∧ fn = 257) := by
  by_cases tenant : 0x140 ≤ page ∧ page ≤ 0x23F
  · exact .inl tenant
  rw [pageFn, if_neg tenant] at h
  by_cases mgmt : page = 0x241
  · rw [if_pos mgmt] at h
    exact .inr (.inl ⟨mgmt, (Option.some.inj h).symm⟩)
  rw [if_neg mgmt] at h
  by_cases radio : page = 0x242
  · rw [if_pos radio] at h
    exact .inr (.inr ⟨radio, (Option.some.inj h).symm⟩)
  · rw [if_neg radio] at h
    exact nomatch h

theorem isFnPage_of_pageFn {page fn : Nat} (h : pageFn page = some fn) : isFnPage page = true := by
  simp only [isFnPage, Bool.or_eq_true, Bool.and_eq_true, Nat.ble_eq, Nat.beq_eq]
  rcases pageFn_cases h with tenant | ⟨mgmt, -⟩ | ⟨radio, -⟩
  · exact .inl (.inl tenant)
  · exact .inl (.inr mgmt)
  · exact .inr radio

/-! ### Reserved offsets (R487, R490, R492) -/

/-- A reserved word lies on no page that is implemented, or among the common words, or on page INDEX past its registers, or where the page's table
has no field. -/
theorem reservedWord_cases {page off : Nat} (h : reservedWord page off = true) :
    pageRun page = none ∨ (off = 0x00C ∨ off = 0x01C ∨ 0x034 ≤ off ∧ off < 0x100) ∨
      (page = 0x000 ∧ 0x200 < off ∧ (off < 0x210 ∨ 0x2E8 ≤ off)) ∨ (page ≠ 0x000 ∧ 0x100 ≤ off ∧ wordFlds page off = []) := by
  simp only [reservedWord, Bool.or_eq_true, Bool.and_eq_true, Nat.beq_eq, Nat.ble_eq, Nat.blt_eq, Option.isNone_iff_eq_none] at h
  rcases h with (((missing | h00C) | h01C) | rest) | ⟨above, h⟩
  · exact .inl missing
  · exact .inr (.inl (.inl h00C))
  · exact .inr (.inl (.inr (.inl h01C)))
  · exact .inr (.inl (.inr (.inr rest)))
  · split at h
    case isTrue index =>
      have runs : pageRuns.length = 27 := rfl
      simp only [runs, Bool.not_eq_true', Bool.eq_false_iff, ne_eq, Bool.or_eq_true, Bool.and_eq_true, Nat.ble_eq, Nat.blt_eq] at h
      exact .inr (.inr (.inl ⟨index, by omega⟩))
    case isFalse other => exact .inr (.inr (.inr ⟨other, above, List.isEmpty_iff.mp h⟩))

/-- A word of a table lies at its own offset; repeated, at its base and every stride from there. -/
theorem RegWord.has_iff (r : RegWord) (off : Nat) :
    r.has off = true ↔ (r.count = 1 ∧ off = r.base) ∨
      (r.count ≠ 1 ∧ r.base ≤ off ∧ (off - r.base) % r.stride = 0 ∧ (off - r.base) / r.stride < r.count) := by
  rw [RegWord.has, Bool.and_eq_true, Nat.ble_eq]
  by_cases single : r.count = 1
  · rw [if_pos single, Nat.beq_eq]
    omega
  · rw [if_neg single, Bool.and_eq_true, Nat.beq_eq, Nat.blt_eq]
    exact ⟨fun h => .inr ⟨single, h⟩, fun h => h.elim (fun one => absurd one.1 single) (·.2)⟩

/-- Past its registers page INDEX has no field (R490). -/
theorem wordFlds_index_past {off : Nat} (past : 0x200 < off ∧ (off < 0x210 ∨ 0x2E8 ≤ off)) : wordFlds 0x000 off = [] := by
  have table : wordFlds 0x000 off = (Layout.index.filter fun w => w.has off).flatMap fun w => w.flds := rfl
  have unnamed : ∀ w ∈ Layout.index, ¬ w.has off = true := by
    intro w hw
    rw [RegWord.has_iff]
    simp only [Layout.index, List.mem_cons, List.not_mem_nil, or_false] at hw
    rcases hw with rfl | rfl | rfl | rfl | rfl <;> dsimp only <;> omega
  rw [table, List.filter_eq_nil_iff.mpr unnamed]
  rfl

/-- Above the common words a reserved offset has no field. -/
theorem wordFlds_of_reserved {page off : Nat} (h : reservedWord page off = true) (above : 0x100 ≤ off) : wordFlds page off = [] := by
  rcases reservedWord_cases h with missing | common | ⟨rfl, past⟩ | ⟨-, -, none⟩
  · simp [wordFlds, missing]
  · omega
  · exact wordFlds_index_past past
  · exact none

/-- A reserved word is none of those that a table names. -/
theorem not_of_reserved {p o page off : Nat} (named : reservedWord p o = false) (h : reservedWord page off = true) : ¬ (page = p ∧ off = o) := by
  rintro ⟨rfl, rfl⟩
  exact absurd h (by simp [named])

/-! ### Words that the tables name -/

/-- A latching word is one of page SEQ, of page TIME or of every function page (R489). -/
theorem State.latchPair_cases {s : State} {page off : Nat} (h : (s.latchPair page off).isSome = true) :
    (page = 0x010 ∧ off = 0x110) ∨ (page = 0x040 ∧ off = 0x110) ∨ (page = 0x040 ∧ off = 0x170) ∨
      (isFnPage page = true ∧ off = 0x1A0) ∨ (isFnPage page = true ∧ off = 0x1A8) := by
  refine Decidable.byContradiction fun other => ?_
  simp only [not_or] at other
  obtain ⟨beat, now, pps, fnBeat, fnNow⟩ := other
  rw [State.latchPair, if_neg beat, if_neg now, if_neg pps, if_neg fnBeat, if_neg fnNow] at h
  exact nomatch h

/-- The tables name both words of a latched pair (R489). -/
theorem State.latchPair_named {s : State} {page off : Nat} (h : (s.latchPair page off).isSome = true) :
    reservedWord page off = false ∧ reservedWord page (off + 4) = false := by
  rcases State.latchPair_cases h with ⟨rfl, rfl⟩ | ⟨rfl, rfl⟩ | ⟨rfl, rfl⟩ | ⟨fn, rfl⟩ | ⟨fn, rfl⟩
  · exact ⟨rfl, rfl⟩
  · exact ⟨rfl, rfl⟩
  · exact ⟨rfl, rfl⟩
  · exact ⟨reservedWord_fnPage rfl rfl rfl fn, reservedWord_fnPage rfl rfl rfl fn⟩
  · exact ⟨reservedWord_fnPage rfl rfl rfl fn, reservedWord_fnPage rfl rfl rfl fn⟩

/-- The tables name the totals of a function page (R318, R425). -/
theorem totalOff_named {page fn off : Nat} (word : off % 4 = 0) (hp : pageFn page = some fn) (h : totalOff fn off = true) :
    reservedWord page off = false := by
  have strides : ∀ k < 7, reservedWord 0x140 (0x180 + 4 * k) = false ∧ reservedWord 0x241 (0x180 + 4 * k) = false := by decide
  have progress : ∀ k < 10, reservedWord 0x140 (0x1C0 + 4 * k) = false := by decide
  have page_cases := pageFn_cases hp
  simp only [totalOff, Nat.blt_eq, Bool.or_eq_true, Bool.and_eq_true, Nat.ble_eq, Nat.beq_eq] at h
  rcases h with ⟨⟨above, below⟩, notRadio⟩ | ⟨rfl | ⟨above, below⟩, tenant⟩
  · obtain ⟨k, hk, rfl⟩ : ∃ k < 7, off = 0x180 + 4 * k := ⟨(off - 0x180) / 4, by omega, by omega⟩
    rcases page_cases with ⟨lo, hi⟩ | ⟨rfl, -⟩ | ⟨-, radio⟩
    · rw [reservedWord_tenantFn lo hi]
      exact (strides k hk).1
    · exact (strides k hk).2
    · omega
  · rw [reservedWord_tenantFn (by omega) (by omega)]
    rfl
  · obtain ⟨k, hk, rfl⟩ : ∃ k < 10, off = 0x1C0 + 4 * k := ⟨(off - 0x1C0) / 4, by omega, by omega⟩
    rw [reservedWord_tenantFn (by omega) (by omega)]
    exact progress k hk

/-- The tables name the words of a cluster page that give the ways' owners (R114). -/
theorem wayOwner_named {page off : Nat} (word : off % 4 = 0) (h : 0x300 ≤ page ∧ page < 0x400 ∧ 0x200 ≤ off ∧ off < 0x210) :
    reservedWord page off = false := by
  have ways : ∀ k < 4, reservedWord 0x300 (0x200 + 4 * k) = false ∧ reservedWord 0x301 (0x200 + 4 * k) = false := by decide
  obtain ⟨lo, hi, above, below⟩ := h
  obtain ⟨k, hk, rfl⟩ : ∃ k < 4, off = 0x200 + 4 * k := ⟨(off - 0x200) / 4, by omega, by omega⟩
  rcases reservedWord_cluster lo hi (0x200 + 4 * k) with first | other
  · exact first.trans (ways k hk).1
  · exact other.trans (ways k hk).2

/-- The table names the STATUS words of the lock-step pairs (R437). -/
theorem pairStatus_named {page off : Nat} (h : page = 0x009 ∧ off % 64 = 8 ∧ 0x108 ≤ off ∧ off < 0x200) : reservedWord page off = false := by
  have pairs : ∀ i < 4, reservedWord 0x009 (0x108 + 64 * i) = false := by decide
  obtain ⟨rfl, pair, above, below⟩ := h
  obtain ⟨i, hi, rfl⟩ : ∃ i < 4, off = 0x108 + 64 * i := ⟨(off - 0x108) / 64, by omega, by omega⟩
  exact pairs i hi

/-! ### What a reserved word shows -/

theorem State.commonWord_of_reserved (s : State) (page : Nat) (r : PageRun) {off : Nat}
    (common : off = 0x00C ∨ off = 0x01C ∨ 0x034 ≤ off ∧ off < 0x100) : s.commonWord page off r = 0 := by
  unfold State.commonWord
  split
  case h_11 => rfl
  all_goals omega

theorem State.indexWord_past (s : State) {off : Nat} (past : 0x200 < off ∧ (off < 0x210 ∨ 0x2E8 ≤ off)) : s.indexWord off = 0 := by
  have runs : pageRuns.length = 27 := rfl
  simp only [State.indexWord, runs]
  rw [if_neg (by omega), if_neg (by omega), if_neg (by omega), if_neg (by omega)]

theorem State.tableWord_of_fieldless (s : State) {page off : Nat} (none : wordFlds page off = []) : s.tableWord page off = 0 := by
  rw [State.tableWord, none]
  rfl

theorem State.shownWord_of_missing (s : State) {page : Nat} (off : Nat) (missing : pageRun page = none) : s.shownWord page off = 0 := by
  rw [State.shownWord, missing]

/-- A common word but STATE shows what R492 says. -/
theorem State.shownWord_common (s : State) {page off : Nat} {r : PageRun} (run : pageRun page = some r) (word : off % 4 = 0)
    (common : off < 0x100 ∧ off ≠ 0x014) : s.shownWord page off = s.commonWord page off r := by
  rw [State.shownWord, run]
  exact (if_neg (not_not_intro word)).trans (if_pos common)

/-- Above the common words page INDEX shows what R490 says. -/
theorem State.shownWord_index (s : State) {off : Nat} (word : off % 4 = 0) (above : 0x100 ≤ off) : s.shownWord 0x000 off = s.indexWord off := by
  have run : pageRun 0x000 = some ⟨0x000, 1, .index, false, false, false, 0⟩ := rfl
  rw [State.shownWord, run]
  exact (if_neg (not_not_intro word)).trans ((if_neg (by omega)).trans (if_pos rfl))

/-- On another page a reserved word is none of those that show state held elsewhere, so that it shows the fields of the table: none. -/
theorem State.shownWord_of_fieldless (s : State) {page off : Nat} (h : reservedWord page off = true) (word : off % 4 = 0) (index : page ≠ 0x000)
    (above : 0x100 ≤ off) : s.shownWord page off = 0 := by
  have unnamed : ¬ reservedWord page off = false := by simp [h]
  have not_at {p o : Nat} (named : reservedWord p o = false) : ¬ (page = p ∧ off = o) := not_of_reserved named h
  have table := s.tableWord_of_fieldless (wordFlds_of_reserved h above)
  unfold State.shownWord
  cases pageRun page with
  | none => rfl
  | some r =>
    simp only
    rw [if_neg (not_not_intro word), if_neg (by omega), if_neg index, if_neg (not_at rfl), if_neg (unnamed ∘ wayOwner_named word),
      if_neg (not_at rfl), if_neg (not_at rfl), if_neg (not_at rfl), if_neg (not_at rfl), if_neg (not_at rfl), if_neg (unnamed ∘ pairStatus_named)]
    cases function : pageFn page with
    | none => exact table
    | some fn =>
      have notStatus : off ≠ 0x104 := by
        rintro rfl
        exact unnamed (reservedWord_fnPage rfl rfl rfl (isFnPage_of_pageFn function))
      simp only
      rw [if_neg (unnamed ∘ totalOff_named word function), if_neg (notStatus ·.1), table]

/-- A reserved word shows 0. -/
theorem State.shownWord_of_reserved (s : State) {page off : Nat} (h : reservedWord page off = true) (word : off % 4 = 0) :
    s.shownWord page off = 0 := by
  rcases reservedWord_cases h with missing | common | ⟨rfl, past⟩ | ⟨index, above, -⟩
  · exact s.shownWord_of_missing off missing
  · cases run : pageRun page with
    | none => exact s.shownWord_of_missing off run
    | some r => exact (s.shownWord_common run word (by omega)).trans (s.commonWord_of_reserved page r common)
  · exact (s.shownWord_index word (by omega)).trans (s.indexWord_past past)
  · exact s.shownWord_of_fieldless h word index above

/-! ### Reads and writes -/

theorem State.aligned_of_word (s : State) (who : Issuer) {off : Nat} (word : off % 4 = 0) (k : State → State) : s.aligned who off k = k s := by
  cases who with
  | core n => exact if_pos word
  | fn f => rfl
  | testPort => rfl

theorem State.access_of_mayReach {s : State} {who : Issuer} {page : Nat} (reach : s.mayReach who page = true) (read : Bool) (k : State → State) :
    s.access who page read k = k s := if_pos reach

/-- A read of a reserved word answers 0: it neither latches a word nor reads a latch. -/
theorem regRdStep_of_reserved {s : State} {who : Issuer} {page off : Nat} (reach : s.mayReach who page = true) (word : off % 4 = 0)
    (h : reservedWord page off = true) : regRdStep who page off s = (s.answer who 0).drawn := by
  have unnamed : ¬ reservedWord page off = false := by simp [h]
  have not_at {p o : Nat} (named : reservedWord p o = false) : ¬ (page = p ∧ off = o) := not_of_reserved named h
  have notLow : ¬ (s.latchPair page off).isSome = true := fun low => unnamed (State.latchPair_named low).1
  have notHigh : ¬ (4 ≤ off && (s.latchPair page (off - 4)).isSome) = true := by
    intro high
    obtain ⟨above, low⟩ := Bool.and_eq_true_iff.mp high
    have back : off - 4 + 4 = off := Nat.sub_add_cancel (of_decide_eq_true above)
    exact unnamed (back ▸ (State.latchPair_named low).2)
  have notNow : ¬ (page = 0x040 ∧ (off = 0x104 ∨ off = 0x108 ∨ off = 0x10C)) := by
    rintro ⟨rfl, rfl | rfl | rfl⟩ <;> exact unnamed rfl
  rw [regRdStep, State.aligned_of_word s who word, if_neg (not_at rfl), if_neg (not_at rfl), if_neg (not_at rfl), if_neg notLow, if_neg notHigh,
    if_neg notNow, State.access_of_mayReach reach, s.shownWord_of_reserved h word]

/-- A write of a reserved word is passed over, as a word without a field or as none of the common words that take writes. -/
theorem State.wordWrite_of_reserved (s : State) (who : Issuer) {page off : Nat} (h : reservedWord page off = true) (w : Nat) :
    s.wordWrite who page off w = s := by
  unfold State.wordWrite
  by_cases missing : off % 4 ≠ 0 ∨ (pageRun page).isNone = true
  · rw [if_pos missing]
  rw [if_neg missing]
  by_cases above : 0x100 ≤ off
  · have passed : s.blockWrite who page off w = s := if_pos (List.isEmpty_iff.mpr (wordFlds_of_reserved h above))
    rw [if_pos above, passed, ite_self]
  · have common : off = 0x00C ∨ off = 0x01C ∨ 0x034 ≤ off ∧ off < 0x100 := by
      rcases reservedWord_cases h with none | common | ⟨-, past, -⟩ | ⟨-, past, -⟩
      · exact absurd (.inr (Option.isNone_iff_eq_none.mpr none)) missing
      · exact common
      · omega
      · omega
    rw [if_neg (by omega), if_neg above, if_neg (by omega), if_neg (by omega), if_neg (by omega), if_neg (by omega)]

theorem regWrStep_of_reserved {s : State} {who : Issuer} {page off : Nat} (reach : s.mayReach who page = true) (word : off % 4 = 0)
    (h : reservedWord page off = true) (w : Word) : regWrStep who page off w s = s := by
  rw [regWrStep, State.aligned_of_word s who word, State.access_of_mayReach reach, s.wordWrite_of_reserved who h]

/-- Settles O59: no reserved word is a word that a read or a write treats apart, so that the read's answer of 0 is all that leaves a trace. -/
theorem reservedWordsReadZero : Obligations.reserved_words_read_zero := by
  refine ⟨fun s who page off _ reach word h => ?_, fun s who page off w _ reach word h => ?_⟩
  · exact ⟨_, congrArg Host.Outcome.next (regRdStep_of_reserved reach word h), rfl, ⟨fun _ _ => rfl, rfl⟩, rfl⟩
  · exact ⟨s, congrArg Host.Outcome.next (regWrStep_of_reserved reach word h w), rfl⟩

end Sys2Proof.Machine
end
